-- ==== Sys2Proof/Word.lean ====
section
/-! DEFINITION. The plain data the model is written over: words, bytes, byte strings, and the exact time unit. -/

namespace Sys2Proof

/-- A 32-bit register word. -/
abbrev Word := BitVec 32
/-- One byte. -/
abbrev Byte := BitVec 8
/-- A byte string, first byte first. -/
abbrev Bytes := List Byte

/-- An instant or a length of Device Time in units of 2^-45 ps.  In this unit a picosecond, a 10 ps bin, 2^-48 ns,
2^-16 ns and (b / 125) of any increment are all whole numbers. -/
abbrev Inst := Nat

end Sys2Proof
end

