-- ==== Sys2Proof/Operand.lean ====
section
/-! DEFINITION. The operand records of the commands: what a register write, a descriptor, a received frame, a measured
edge or a link event carries.  They stand beside Syntax.lean, which holds the one inductive Instr. -/

namespace Sys2Proof

/-- A unit that carries the enable word of R74. -/
inductive UnitId where
  | slc (s : Nat)
  | ovn
  | cls
  | peel
  | ke
  | ptp (i : Nat)
  | port (n : Nat)
  | ref (n : Nat)
  | gnss
  | ticCh (n : Nat)
  | ticPair (p : Nat)
  | tout (n : Nat)
  | fout (m : Nat)
  | pke
  | pair
  | ring (n : Nat)
  | hist (h : Nat)
  | sample
  deriving DecidableEq, Repr

/-- What a timed action does at its instant (R31, with the kinds of the owning chapters). -/
inductive Act where
  /-- R446: the masked bits of a BAR0 register take a value. -/
  | regWrite (off mask value : Nat)
  /-- R494: a counter snapshot. -/
  | snapshot
  /-- R499: a histogram window start (true) or end (false) of a monitor. -/
  | histWindow (mon : Nat) (start : Bool)
  /-- R371: the apply of the committed Batch. -/
  | batchApply
  /-- R157, R159: a Starter rotation; `auto` for the automatic ones. -/
  | starterRotate (auto : Bool)
  /-- R132: a gate control list change of a port; the copied list stands with the port. -/
  | gclChange (port : Nat)
  /-- R342: an output event: TOUT output, action code, PULSE width in ns. -/
  | outEvent (out action width : Nat)
  /-- R290: a GNSS capture of `len` ms. -/
  | gnssCapture (len : Nat)
  /-- R425: a lane-swap calibration. -/
  | pairCal
  deriving DecidableEq, Repr

/-- Satellite UTC parameters as one system broadcasts them (R27, R285): the current offset and the announced one, both as
TAI-UTC seconds, and the TAI second from which the announced one applies. -/
structure UtcParams where
  sys : Nat
  taiUtc : Nat
  nextTaiUtc : Nat
  effSec : Nat
  deriving DecidableEq, Repr

/-- How the fetch of a host buffer that a descriptor names went: its bytes, a failed access (DMA_ERR), or not over yet. -/
inductive Fetch where
  | done (bs : Bytes)
  | failed
  | later
  deriving DecidableEq, Repr

/-- A satellite as held data place it (R269): system (0 GPS, 1 Galileo, 2 BeiDou), SVID, elevation in 0.01°. -/
structure SatView where
  sys : Nat
  svid : Nat
  elev : Int
  deriving DecidableEq, Repr

/-- One channel's measurement at an epoch (R272, R279, R288), referred to S: phase-lock indicators in 1/1000, C/N0 in 0.25 dB-Hz,
carrier phase against the loop's prediction in 2^-16 cycle, times of flight in 2^-16 ns, phases in 2^-16 cycle, Doppler in mHz,
elevation and azimuth in 0.01°.  From held navigation data: a decoded ephemeris with health and group delays (`eph`; `fresh` when
decoded in this epoch), the unit vector toward the satellite × 10^9, and the predicted combination of R273 and R274 at the point
`org` (mm ECEF), in ps: range, satellite clock, broadcast group delays and troposphere (log entry 36). -/
structure GnssMeas where
  chan : Nat
  pli1 : Nat
  pli5 : Nat
  cn1 : Nat
  cn5 : Nat
  jump1 : Int
  jump5 : Int
  pr1 : Int
  pr5 : Int
  cp1 : Int
  cp5 : Int
  dop1 : Int
  dop5 : Int
  elev : Int
  azim : Nat
  eph : Bool
  fresh : Bool
  losX : Int
  losY : Int
  losZ : Int
  pred : Int
  orgX : Int
  orgY : Int
  orgZ : Int
  deriving DecidableEq, Repr

end Sys2Proof
end

