-- ==== Sys2Proof/Syntax.lean ====
section
/-! DEFINITION. The commands: one constructor per row of spec/opcode_table.json, in its order.  The operands carry what
comes from outside the block with the event: a host's word, a descriptor's fields, a received frame, a measurement. -/

namespace Sys2Proof

inductive Instr where
  /-- R15. A host write to TB_INCR_LO stages the low fraction word of the increment without changing the increment in
  force. -/
  | tbIncrLoWrite (w : Word)
  /-- R15. A host write to TB_INCR_HI commits the staged low word and the high word together at the first tick edge
  after the write, and only in MANUAL mode. -/
  | tbIncrHiWrite (w : Word)
  /-- R16. A read of TB_NOW_SEC_LO latches all 126 bits of Device Time into the PF0 latch that the other TB_NOW
  registers return. -/
  | tbNowRead
  /-- R22. A write of 1 to TB_LEAP_CTL.commit validates the staged leap table in order and either schedules it for the
  next second boundary or refuses it with the first failing check. -/
  | leapCommit
  /-- R23. A commit written together with TB_LEAP_CTL.force may change the offset in force, subject to the 2 s check,
  and writes a Ledger record and sets stepped. -/
  | leapForceCommit
  /-- R22. At the next second boundary after an accepted commit, the staged leap table replaces the table in force. -/
  | leapTableInForce
  /-- R26. When Device Time reaches an entry's eff_sec, that entry's TAI-UTC offset comes into force and leap_pending
  clears. -/
  | leapOffsetChange
  /-- R14. At 00:00:00 UTC of the last day before the next entry takes effect, leap_pending and leap_dir are set. -/
  | leapPendingStart
  /-- R28. A host write to TB_LEAP_EXPIRY_LO stages the low word of the expiry, and is ignored and counted while
  sealed_only is 1. -/
  | leapExpiryLoWrite (w : Word)
  /-- R28. A host write to TB_LEAP_EXPIRY_HI puts both expiry words in force, and is ignored and counted while
  sealed_only is 1. -/
  | leapExpiryHiWrite (w : Word)
  /-- R25. When Device Time passes a non-zero TB_LEAP_EXPIRY, TB_LEAP_STATUS.stale becomes 1. -/
  | leapTableStale
  /-- R27. Newly decoded satellite UTC parameters are chosen across systems and compared with the leap table in force.
  -/
  | gnssUtcDecode (p : UtcParams)
  /-- R30. A host write to TB_SMEAR_CTL takes effect, or is ignored and counted under TB_SMEAR_DENIED near or inside
  the smear window. -/
  | smearCtlWrite (w : Word)
  /-- R30. A host write to TB_SMEAR_WIN sets the smear window, unless it is out of range or falls in the denied
  period. -/
  | smearWinWrite (w : Word)
  /-- R29. At instant S with smearing enabled, smear_active becomes 1 and the smeared scale begins to depart from UTC.
  -/
  | smearWindowStart
  /-- R29. At S plus W, smear_active becomes 0 and the smeared scale equals UTC. -/
  | smearWindowEnd
  /-- R248. At the scheduled second boundary, Device Time steps by the scheduled amount, sets stepped, writes a Ledger
  record and applies R36 to pending actions. -/
  | deviceTimeStep
  /-- R39. An accepted edge on AXINn is stamped and corrected by AXISn_DELAY, then updates the period model and
  advances the axis state. -/
  | axinEdge (pin : Nat) (rising : Bool) (b : Nat)
  /-- R40. When no edge arrives by (1 + tol) times P after the last edge, a virtual edge is placed and the miss is
  counted. -/
  | axisEdgeTimeout (n : Nat)
  /-- R42. A host write to AXISn_CFG that changes mode, edge or avg_log2 while enabled returns the axis to ACQUIRING.
  -/
  | axisCfgWrite (n : Nat) (w : Word)
  /-- R41. A read of AXISn_CYCLE latches the edge time registers, so that the four values describe one edge. -/
  | axisCycleRead (n : Nat)
  /-- R41. A host write to AXISn_CYCLE_SET gives its cycle number to the next real edge. -/
  | axisCycleSet (n : Nat) (w : Word)
  /-- R44. Within 2 us of the edge that starts cycle c - 1, a pending axis request is converted into a Device Time
  instant and passed on as a timed action. -/
  | axisRequestCommit (n : Nat)
  /-- R59. A host write to TROUGH_POOLn_QUOTA is checked, then refused with a code or put into effect within 1 us,
  trimming DROP_OLDEST pools that exceed the new max. -/
  | poolQuotaWrite (n : Nat) (w : Word)
  /-- R60. A read of TROUGH_POOLn_USED returns the peak since the last read and restarts the peak. -/
  | poolUsedRead (n : Nat)
  /-- R68. A read of SLCn_QUEUE returns the peak depth since the last read and restarts the peak. -/
  | slcQueueRead (s0 : Nat)
  /-- R67. A free lane takes the item at the head of its slice queue and serves it: it folds the client entry, builds
  the answer, books and commits its launch. -/
  | laneTakeItem (slice : Nat)
  /-- R70. A host write to OVN_CTL changes the Oven service enable and per-Oven enables, and setting a cleared Oven
  bit starts its known-answer test. -/
  | ovnCtlWrite (w : Word)
  /-- R171. An Oven's known-answer test ends, and a pass returns the Oven to service. -/
  | ovenKatDone (k : Nat) (pass : Bool)
  /-- R74. Setting en in a unit's enable word starts the unit, or, during a DRAIN or CUT, takes effect once it has
  completed. -/
  | unitEnable (u : UnitId)
  /-- R75. Clearing en with stop = 0 makes a unit accept nothing new, finish its work in flight and flush its pending
  timed actions. -/
  | unitDrain (u : UnitId)
  /-- R75. Clearing en with stop = 1 makes a unit discard its work in flight, complete host-visible items with FLUSHED
  and flush its pending timed actions. -/
  | unitCut (u : UnitId)
  /-- R76. Writing stop = 1 with en = 0 during a DRAIN escalates the DRAIN to a CUT. -/
  | drainToCut (u : UnitId)
  /-- R75. A stopping unit holds no more work, so it sets drained and raises its drained interrupt source. -/
  | unitDrained (u : UnitId)
  /-- R79. A host write to PWR_PD_CTL powers a host-switched domain up or down, or is refused for the domains whose
  units are not stopped. -/
  | powerDomainWrite (w : Word)
  /-- R81. A host-switched domain becomes powered and released from reset, and its units then wait disabled. -/
  | domainReleased (dom : Nat)
  /-- R211. A frame received on a port is checked for length, FCS and code errors, counted, and passed to MAC control
  handling, link-local handling or the classifier. -/
  | portFrameReceive (n b : Nat) (codeErr fcsOk : Bool) (corr uncorr : Nat) (f : Bytes)
  /-- R108. At the end of each 1 us window, the admission meter computes the boundary class and the class quotas for
  the next window. -/
  | admissionWindowEnd
  /-- R224. A frame received on port 16 is checked, stamped and passed to the host, bypassing the classifier. -/
  | mgmtFrameReceive (b : Nat) (codeErr fcsOk : Bool) (f : Bytes)
  /-- R87. The WRITE op of CLS_SA_CMD commits the staged service-address entry as one change, or refuses it with an
  error code. -/
  | saWrite (i : Nat)
  /-- R86. The READ op of CLS_SA_CMD loads a service-address entry into the staging registers. -/
  | saRead (i : Nat)
  /-- R86. The INVALIDATE op of CLS_SA_CMD clears a service-address entry's valid bit. -/
  | saInvalidate (i : Nat)
  /-- R86. A service-address command completes within 1 us, busy clears, and later classifications use the change. -/
  | saCmdComplete
  /-- R116. A booking request for a port receives the first qualifying launch point and a handle, or is refused with
  PAST, TOO_FAR or FULL. -/
  | peelBook (port : Nat) (te tl : Inst) (len gcls : Nat) (mayRp : Bool)
  /-- R117. A requester commits a booked frame by handle with its Trough cells, before T minus g_commit, or the
  booking is voided. -/
  | peelCommit (handle : Nat) (frame : Bytes)
  /-- R117. At T minus g_commit without a commit, the Peel voids the booking and the slot is missed. -/
  | bookingVoid (handle : Nat)
  /-- R119. At T minus 40 ns, a committed frame whose first cell has not reached the transmit stage misses its slot.
  -/
  | peelFetchMiss (handle : Nat)
  /-- R115. At its launch point, a committed frame's message timestamp point crosses the egress reference plane, and
  PEEL_LAUNCHED counts it. -/
  | peelLaunch (handle : Nat)
  /-- R125. When the current tick enters a level-1 or level-2 wheel slot, that slot's bookings move down one level and
  are pinned on reaching level 0. -/
  | wheelSlotCascade (port : Nat)
  /-- R125. The far list releases a booking into its port's wheel between 1 s and 1 s plus 1.31072 ms before its
  instant. -/
  | farListRelease (port : Nat)
  /-- R118. A host write to PEEL_GUARD clamps its fields, and is ignored whole if g_commit would not be below g_lead.
  -/
  | peelGuardWrite (w : Word)
  /-- R128. After the probe measurements, the grid phase and lane offsets are set, EGR_PHASE is written and cal
  becomes READY. -/
  | peelCalDone (port : Nat)
  /-- R129. Every second, 16 further measurements per lane are compared with the phase in force, and a slip discards
  bookings and recalibrates. -/
  | peelCalCheck (port : Nat)
  /-- R315. The TIC probe channel takes one measurement of a requested internal strobe, serving calibration requests
  first and round robin. -/
  | probeMeasurement (strobe : Nat) (ps : Int)
  /-- R134. The WRITE op of PEEL_GCL_CMD stores the staged gate control list entry. -/
  | gclWrite (w : Word)
  /-- R134. The READ op of PEEL_GCL_CMD loads a gate control list entry into PEEL_GCL_LO and PEEL_GCL_HI. -/
  | gclRead (w : Word)
  /-- R132. The REQUEST op of PEEL_GCL_CMD requests a gate list change at AT, copies the staged list, and cancels
  conflicting bookings once accepted. -/
  | gclRequest (w : Word)
  /-- R134. The cancel bit of PEEL_GCL_CMD cancels the pending gate list change named in PEEL_GCL_HANDLE, under R33.
  -/
  | gclCancel (w : Word)
  /-- R132. At the change instant, the new gate control list comes into force and the old list's last cycle is cut. -/
  | gclChange (port : Nat)
  /-- R135. The Peel signals a sleeping port to wake by T minus (wake time + 100 ns) before its next booking. -/
  | peelLpiWake (port : Nat)
  /-- R150. A host OPEN stream event is accepted and bound to a PE4-PE7 thread, or refused with a reason code. -/
  | streamOpen (n sid client tcpPort sa : Nat)
  /-- R150. A host DATA stream event delivers client bytes within the stream window to the TLS and NTS-KE engine. -/
  | streamData (n sid : Nat) (bs : Bytes)
  /-- R151. A host FIN stream event reports that the client has closed its side. -/
  | streamFin (n sid : Nat)
  /-- R151. A host RESET stream event wipes the session at once and is answered with CLOSED. -/
  | streamReset (n sid : Nat)
  /-- R151. When the handshake has not finished within OVN_KE_TIMEOUT.hs of ACCEPT, the stream is reset with TIMEOUT
  and closed. -/
  | keHandshakeTimeout (sid : Nat)
  /-- R151. When the client's records have not arrived within OVN_KE_TIMEOUT.req of the handshake's end, the stream is
  reset with TIMEOUT and closed. -/
  | keRequestTimeout (sid : Nat)
  /-- R151. 1 s after its own FIN, without the host's FIN, the device sends CLOSED and releases the stream. -/
  | keCloseTimer (sid : Nat)
  /-- R170. An Oven finishes an OPEN, SEAL or MINT job and returns its result to the lane or engine. -/
  | ovenJobComplete (id : Nat)
  /-- R171. A lockstep mismatch discards the Oven's job, sets its OVN_FAULT bit, raises OVEN_FAULT and takes the Oven
  out of service. -/
  | ovenMismatch (k : Nat)
  /-- R171. Once per second, each Oven runs its known-answer test in idle cycles, and a failure acts as a mismatch. -/
  | ovenSelfTest (k : Nat) (pass : Bool)
  /-- R157. 60 s before an automatic rotation instant, the device creates the pending generation, writes it to flash
  and offers it to the partner. -/
  | starterPrepare
  /-- R158. At a rotation instant, pending becomes current and the other generations shift, with prior 2 retired. -/
  | starterRotate
  /-- R158. Once the jobs started before the instant have ended, the retired generation is wiped from the Ovens, the
  vault and flash. -/
  | starterWipeRetired
  /-- R159. The ROTATE op of OVN_STARTER_CMD requests an extra rotation at OVN_STARTER_AT, answered under R32 to R34.
  -/
  | starterRotateRequest
  /-- R159. The cancel bit of OVN_STARTER_CMD cancels the named rotation and wipes the pending generation that it
  created. -/
  | starterCancel
  /-- R160. The PURGE op of OVN_STARTER_CMD invalidates every cookie and creates a new current generation, or sets
  denied under policy. -/
  | starterPurge
  /-- R160. A PURGE finishes within 20 ms with the new generation current, the others wiped and purging cleared. -/
  | purgeComplete
  /-- R183. 2,000 ns before each nominal Sync instant, the Sync emitter puts a Sync item into its slice queue as C0.
  -/
  | syncEmit (i port : Nat) (grant : Option Nat)
  /-- R189. PE0-PE3 book and send an Announce on a SERVER port at its interval, with the clock quality fields. -/
  | ptpAnnounceSend (i port : Nat) (grant : Option Nat)
  /-- R182. PE0-PE3 book and send a Delay_Req or Pdelay_Req on a client or P2P port at its interval. -/
  | ptpRequestSend (i port : Nat)
  /-- R186. A unicast negotiation request is granted at the requested interval or denied with duration 0. -/
  | ptpUnicastRequest
  /-- R187. A received CANCEL_UNICAST_TRANSMISSION ends a grant, is acknowledged, and frees the entry when no type
  remains. -/
  | ptpCancelUnicast
  /-- R187. At its expiry, a unicast grant ends and the entry is freed when no type remains granted. -/
  | ptpGrantExpire (g b : Nat)
  /-- R193. When half a client-side grant's duration has passed, the instance renews it with the upstream. -/
  | ptpUnicastRenew (i : Nat)
  /-- R193. A received Announce feeds foreign-master data on a CLIENT port, or is counted and flagged on a SERVER
  port. -/
  | ptpAnnounceReceive
  /-- R182. A received Follow_Up, Delay_Resp or Pdelay_Resp_Follow_Up is used in the offset and delay computation. -/
  | ptpGeneralReceive
  /-- R176. A received Management message is answered for GET, or with NOT_SUPPORTED for SET and COMMAND. -/
  | ptpManagement
  /-- R193. An upstream that sends no Announce for announceReceiptTimeout intervals is removed, and the slot sees loss
  of its reference. -/
  | ptpAnnounceTimeout (i : Nat)
  /-- R194. Under DRAIN, a grant entry is freed 3 s after its cancel when no acknowledgement has arrived. -/
  | ptpCancelAckTimeout (g : Nat)
  /-- R179. Setting en in CLS_PTPi_CFG checks the instance configuration and refuses the enable with an error code on
  failure. -/
  | ptpInstanceEnable (i : Nat)
  /-- R196. A write of the profile field resets CLS_PTPi_RATES to that profile's defaults. -/
  | ptpProfileWrite (i p : Nat)
  /-- R200. A write to PORTn_MODE of port 4g is accepted only when the whole group is stopped, and then retrains the
  group's SerDes. -/
  | portModeWrite (n : Nat) (w : Word)
  /-- R202. Setting en in PORTn_CTL is refused while the port's MAC address is all zeros. -/
  | portEnable (n : Nat)
  /-- R202. A write of 1 to stat_clr clears every counter of the port and both half-range registers in one tick. -/
  | portStatClear (n : Nat)
  /-- R216. A write that sets lpi_en is refused on PMDs without LPI or while SyncE is on. -/
  | portLpiEnable (n : Nat) (on : Bool)
  /-- R217. A write to PORTn_LPI wakes a sleeping port at once and applies the new wake and sleep times. -/
  | portLpiWrite (n : Nat) (w : Word)
  /-- R220. A write to PORTn_SYNCE takes effect within 1 ms, or is refused with cfg_err set. -/
  | portSynceWrite (n : Nat) (w : Word)
  /-- R204. After alignment without faults has held for 1 ms, link_up rises, link_chg and PORT_LINK are raised, and
  calibrations start. -/
  | linkUp (n speed : Nat)
  /-- R204. Loss of alignment or a fault takes link_up low within 2 us, and the port's bookings are discarded as for a
  disabled port. -/
  | linkDown (n : Nat) (aligned lf rf : Bool)
  /-- R209. Ingress calibration sets the phase, writes PORTn_ING_PHASE and sets rx_cal to READY. -/
  | rxCalDone (n : Nat)
  /-- R209. Every second, 16 further receive measurements are compared with the phase in force, and a slip
  recalibrates. -/
  | rxCalCheck (n : Nat)
  /-- R215. A read of PORTn_STATk_LO latches bits [39:32] of the same counter for PORTn_STATk_HI. -/
  | portStatRead (n k : Nat)
  /-- R221. A received ESMC PDU that passes the checks updates the received QL and valid. -/
  | esmcReceive (n : Nat) (f : Bytes)
  /-- R221. After 5 s without a valid ESMC PDU, valid falls and the QL counts as failed. -/
  | esmcRxTimeout (n : Nat)
  /-- R222. Once per second, the port books and sends an ESMC information PDU with the QL chosen by the table. -/
  | esmcInfoSend (n : Nat)
  /-- R222. Within 10 ms of a change of the QL to be sent, the port sends an ESMC event PDU. -/
  | esmcEventSend (n : Nat)
  /-- R228. A raw comparison from a reference arrives, enters the slot's measurement, and updates the DPLL when the
  slot is SELECTED. -/
  | refRawComparison (n : Nat) (x : Int)
  /-- R236. Each second, every slot's measurements are formed and its transitions are evaluated in order, ending with
  the selector. -/
  | refSecondEval
  /-- R240. Within 1 ms of the SELECTED slot leaving SELECTED, the selector runs again. -/
  | selectorRerun
  /-- R238. At the reference's next second boundary, the first ready time reference sets Device Time, sets dt_set and
  restarts Proofing. -/
  | deviceTimeSet
  /-- R227. Setting en in REFn_CFG is refused with BAD_TYPE, BAD_SRC or IN_USE, or enables the slot. -/
  | refEnable (n : Nat)
  /-- R227. Clearing en in REFn_CFG sends the slot to ABSENT at once, reruns the selector if it was SELECTED, and sets
  drained within 1 s. -/
  | refDisable (n : Nat) (cut : Bool)
  /-- R258. A write of 1 to REFn_CFG.requal ends a DRIFT hold at once and sends the slot to PROOFING. -/
  | refRequal (n : Nat)
  /-- R245. A write of 1 to TB_OSC_CTL.reanchor sets the oscillator model anchor from the newest 10 s of TRACK_TIME,
  or holds the request until such a run exists. -/
  | oscReanchor
  /-- R245. The anchor of the oscillator model is set after W seconds of selection, or every 86,400 s while tracking
  without drift. -/
  | oscAnchor
  /-- R261. A read of TB_ERR_EST_LO latches bits [47:32] of the error estimate for TB_ERR_EST_HI. -/
  | tbErrEstRead
  /-- R257. A read of REFn_PHASE_LO latches bits [63:32] of x for REFn_PHASE_HI. -/
  | refPhaseRead (n : Nat)
  /-- R256. Every 2^poll s, PE8-PE9 book and send a mode 3 request to the slot's upstream NTP server. -/
  | ntpPollSend (n : Nat)
  /-- R256. A mode 4 response from the upstream with a matching origin timestamp yields an offset and delay sample for
  the slot. -/
  | ntpUpstreamResponse (n port src sport : Nat) (msg : Bytes) (t4 : Inst)
  /-- R279. At every whole second, the receiver forms its measurements and computes each slot's timing solution,
  T-RAIM and the dual-antenna test. -/
  | gnssEpoch (ms : List GnssMeas) (gal bds : Option Int) (utc : Int)
  /-- R269. Once per second, PE10-PE11 allocate channels to satellites on both antennas and to search. -/
  | gnssChannelAlloc (sky : List SatView)
  /-- R270. A detection above thr in an acquisition pass hands the satellite to a channel, and band 5 follows by hand-
  over. -/
  | gnssAcqDetect (sys svid : Nat) (gb : Bool) (cn0 : Nat)
  /-- R272. A channel with both bands out of lock for 2 s is released. -/
  | gnssChannelRelease (ch : Nat)
  /-- R268. An antenna fault input going low sets the fault bit, raises GNSS_ANT, writes a Ledger record and releases
  that antenna's channels. -/
  | gnssAntFault (gb : Bool)
  /-- R268. Once per second, the rms level and the clip fraction of each stream are measured, and out-of-range values
  set level_alarm. -/
  | gnssLevelCheck (rms clip : List Nat)
  /-- R267. Once per second, a GNSS_SCLK edge is checked against the probe channel and clk_ok is updated. -/
  | gnssClockCheck (err : Int)
  /-- R275. A write of 1 to GNSS_CTL.cal_commit puts every staged delay, offset and position value in force at the
  next epoch. -/
  | gnssCalCommit
  /-- R278. A write of 1 to GNSS_SURVEY.start begins a position survey. -/
  | gnssSurveyStart
  /-- R278. A write of 1 to GNSS_SURVEY.abort ends the survey without a result. -/
  | gnssSurveyAbort
  /-- R289. A write that changes GNSS_CTL.mode between TRACK and SNAPSHOT takes effect at the next epoch. -/
  | gnssModeWrite (mode : Nat)
  /-- R289. In SNAPSHOT mode, a capture is taken at every second that is a multiple of the period, with a coarse-time
  solution when solve is 1. -/
  | gnssSnapPeriodic (res : Option Int)
  /-- R289. When too few ephemerides are fresh, the next capture is replaced by a tracking burst of up to 60 s. -/
  | gnssEphRefresh (sky : List SatView)
  /-- R290. The CAPTURE op of GNSS_SNAP_CTL requests a capture at GNSS_SNAP_AT as a timed action. -/
  | gnssCaptureRequest
  /-- R296. The cancel bit of GNSS_SNAP_CTL cancels the capture named in GNSS_SNAP_HANDLE, under R33. -/
  | gnssCaptureCancel
  /-- R290. At its instant, a host capture records samples from the first sample instant at or after the execution
  tick. -/
  | gnssCaptureExecute
  /-- R290. A capture of len ms ends and is held in P_SNAP for delivery with its header. -/
  | gnssCaptureComplete (samples : Bytes)
  /-- R301. An accepted edge on a TIC channel is stamped with its calibrated code, recorded, and fed to the interval
  pairs. -/
  | ticEdge (n code : Nat)
  /-- R308. A pair open for 2^40 - 1 ticks emits a saturated overflow result. -/
  | ticPairOverflow (p : Nat)
  /-- R322. Setting en in TIC_PAIRp_CFG arms the pair. -/
  | ticPairEnable (p : Nat)
  /-- R312. Setting en in TIC_CHn_CFG is ignored while neither line of the channel holds a valid table. -/
  | ticChannelEnable (n : Nat)
  /-- R311. A write of 1 to TIC_CAL_CTL.start begins a calibration cycle on all channels, and is ignored during a
  running cycle. -/
  | ticCalStart
  /-- R311. While auto is 1, a calibration cycle starts every period seconds or on a temperature change of temp
  degrees. -/
  | ticCalAuto (temp : Int)
  /-- R310. Code-density calibration of a line ends and its table is accepted and swapped in, or refused with GAP,
  RANGE or WIDE. -/
  | ticLineCalDone (n : Nat) (hits : List Nat) (temp : Int)
  /-- R320. A read of TIC_PAIRp_LAST_LO latches the high value bits and the flags of the last result. -/
  | ticPairLastRead (p : Nat)
  /-- R325. A change of OSC_WARM_N is timed for warm-up, or after warm-up a rise sets warm_lost and raises OSC_WARM.
  -/
  | oscWarmChange (high : Bool)
  /-- R325. Once the warm flag and warm_min are met, the timebase leaves WARMUP and the selector's pick is applied. -/
  | warmupEnd
  /-- R333. At the end of each 10 us window, every PLL's count is judged good or bad, and lock is declared or lost. -/
  | pllLockWindow (good : Nat)
  /-- R529. A relock attempt of a fallen-back PLL runs, returning the domain to its PLL or, after the third failure,
  entering FAULT. -/
  | pllRelockAttempt (k : Nat) (ok : Bool)
  /-- R329. At the first coincident 10 MHz edge after relock, Device Time is restored from the raw count, dt_invalid
  clears and the restore counts as a step. -/
  | deviceTimeRestore
  /-- R327. A read of TB_RAW_LO latches bits [63:32] of the raw count into TB_RAW_HI. -/
  | tbRawRead
  /-- R332. A write to TB_TBC.manual enters or leaves MANUAL, and setting it is refused outside NONE or HOLDOVER. -/
  | manualWrite (w : Word)
  /-- R335. At the first second boundary at least 1 ms after enable or relock, a FOUT output starts at its programmed
  phase. -/
  | foutStart (m : Nat)
  /-- R338. At the first second boundary at least 1 ms after enable, a TOUT output starts its function. -/
  | toutStart (n : Nat)
  /-- R336. Once per second, each running output is measured at the ball and corrected, and an error above 500 ps sets
  phase_err. -/
  | outputPhaseCheck (n : Nat) (err : Int)
  /-- R342. The REQUEST op of OUT_EV_CMD requests a timed HIGH, LOW, TOGGLE or PULSE on an EVENT output. -/
  | outEventRequest (w : Word)
  /-- R349. The cancel bit of OUT_EV_CMD cancels the output event named in OUT_EV_HANDLE, under R33. -/
  | outEventCancel (w : Word)
  /-- R342. At its instant, an output event sets the pin level, or has no effect while squelched. -/
  | outEventExecute (n : Nat)
  /-- R343. At the first second boundary at least 10 ms after its last cause cleared, an output's squelch ends. -/
  | squelchEnd (n : Nat)
  /-- R369. The BATCH_STAGE command writes bytes into the Batch staging buffer. -/
  | batchStage (n : Nat) (desc : Bytes) (inp : Option Bytes)
  /-- R370. The BATCH_CHECK command checks the staged Batch in order without committing it. -/
  | batchCheck (n : Nat) (desc : Bytes)
  /-- R371. The BATCH_COMMIT command checks the staged Batch, writes it to the free bank and requests its apply. -/
  | batchCommit (n : Nat) (desc : Bytes) (good : Bool)
  /-- R373. The BATCH_CANCEL command cancels a pending apply and voids its bank. -/
  | batchCancel (n : Nat) (desc : Bytes)
  /-- R372. At the apply instant, the Batch's settings change together after a recheck, and its one-shot items then
  run in order. -/
  | batchApply
  /-- R369. The FW_STAGE command writes image bytes into the inactive firmware bank. -/
  | fwStage (n : Nat) (desc : Bytes) (inp : Option Bytes) (good : Bool)
  /-- R375. The FW_COMMIT command checks the staged image and writes its commit record. -/
  | fwCommit (n : Nat) (desc : Bytes) (good : Bool)
  /-- R376. The FW_CONFIRM command burns anti-rollback fuses up to the running image's svn. -/
  | fwConfirm (n : Nat) (desc : Bytes)
  /-- R376. With auto_confirm set, the device confirms after the running image has served for 86,400 s without a
  reset. -/
  | fwAutoConfirm
  /-- R358. The CLAIM_NONCE command arms a claim nonce while CLAIM_N is low, and otherwise completes with CLAIM. -/
  | claimNonce (n : Nat) (desc : Bytes)
  /-- R358. A rise of CLAIM_N or the passing of 600 s discards the claim nonce and clears claim_armed. -/
  | claimDisarm (level : Option Bool)
  /-- R378. The QUOTE command returns an attestation quote over the host nonce, signed with the DIK. -/
  | quote (n : Nat) (desc : Bytes) (inp : Option Bytes) (ok : Bool)
  /-- R353. The CERT_READ command returns the identity certificate chain. -/
  | certRead (n : Nat) (desc : Bytes) (ok : Bool)
  /-- R368. The TLS_PUBKEY command returns the next TLS public key in DER. -/
  | tlsPubkey (n : Nat) (desc : Bytes) (ok : Bool)
  /-- R446. The FLASH_READ command returns bytes from the host region of the flash. -/
  | flashRead (n : Nat) (desc : Bytes) (ok : Bool)
  /-- R446. The FLASH_WRITE command writes bytes into the host region of the flash. -/
  | flashWrite (n : Nat) (desc : Bytes) (inp : Option Bytes) (good : Bool)
  /-- R446. The FLASH_ERASE command erases 4 KiB of the host region of the flash. -/
  | flashErase (n : Nat) (desc : Bytes) (good : Bool)
  /-- R446. The TIMED_WRITE command requests a masked register change at an instant as a timed action. -/
  | timedWrite (n : Nat) (desc : Bytes)
  /-- R446. At its instant, a timed register change applies its masked bits, or is refused under the access rules. -/
  | timedWriteExecute
  /-- R446. The CANCEL command applies R33 to a handle that TIMED_WRITE or BATCH_COMMIT returned. -/
  | cancel (n : Nat) (desc : Bytes)
  /-- R509. The CT_READ command copies client-table entries into a host buffer. -/
  | ctRead (n : Nat) (desc : Bytes) (ok : Bool)
  /-- R509. The GRANT_READ command copies unicast grant entries into a host buffer. -/
  | grantRead (n : Nat) (desc : Bytes) (ok : Bool)
  /-- R380. A glitch or tamper sensor fires and its reaction of LOG, RESET or ZEROIZE is carried out. -/
  | tamperSensor (k : Nat)
  /-- R377. An access outside its rights or 100 ms without yielding stops the extension thread and raises EXT_FAULT.
  -/
  | extModuleFault
  /-- R389. A PKE job descriptor arrives and is queued, or completes at once with BAD_DESC, DENIED, QUOTA or FLUSHED.
  -/
  | pkeJobSubmit (req n : Nat) (desc image : Bytes)
  /-- R391. A PKE job ends at its fixed time, writes its output and completion, wipes the core and frees it for the
  next start. -/
  | pkeJobEnd (id : Nat) (mismatch : Bool)
  /-- R400. Every 60 s, each idle core runs its known-answer test, and a failure counts as a mismatch. -/
  | pkeCoreSelfTest (k : Nat) (pass : Bool)
  /-- R400. A write to PKE_CORE_EN that sets a core's bit after clearing it runs a known-answer test, and a pass
  returns the core to service. -/
  | pkeCoreEnable (i : Nat) (w : Word)
  /-- R403. Clearing en in PKE_CTL flushes new jobs, and under CUT also the waiting jobs, while running jobs finish.
  -/
  | pkeDisable (cut : Bool)
  /-- R413. The Elvod receive lane reaches block lock and alignment, and the link moves to HELLO and sends HELLO and
  QUOTE. -/
  | pairLinkTrained
  /-- R410. The partner's HELLO frame is received and kept for attestation. -/
  | pairHelloReceive (f : Bytes)
  /-- R414. The partner's QUOTE frame is received, and once both frames are present the link enters ATTESTING and
  checks them. -/
  | pairQuoteReceive (f : Bytes)
  /-- R414. Attestation checks complete, so the pairwise key is derived and the link goes UP, or to REFUSED with
  att_err. -/
  | pairAttestDone
  /-- R416. Every 100 us, an UP member sends an HB frame. -/
  | pairHbSend
  /-- R416. An accepted HB frame updates the partner's reported state. -/
  | pairHbReceive (f : Bytes)
  /-- R417. 300 us without an accepted HB declares heartbeat loss, and the member acts on the fence state. -/
  | pairHbLoss
  /-- R417. A link that has not reached UP within 1 s of en being set triggers the fence outcomes. -/
  | pairUpTimeout
  /-- R417. A change of the detected PAIR_FENCE_I pattern updates fence_in and triggers the fence outcomes. -/
  | fenceChange (pat : Nat)
  /-- R408. When the supervisor has not refreshed ALIVE for 200 us, the fence generator drives low. -/
  | fenceRefreshTimeout
  /-- R420. The gratuitous ARP and unsolicited NA set is repeated 1 s and 2 s after the takeover. -/
  | pairAnnounceRepeat
  /-- R420. A ROLE frame proposes new roles and a change instant. -/
  | pairRoleReceive (f : Bytes)
  /-- R420. At the agreed change instant, both members change role and owned bits in the same tick. -/
  | pairRoleChange
  /-- R421. The RESIGN op of PAIR_CMD makes a serving member send RESIGN frames, take STANDBY and drive DEAD. -/
  | pairResign
  /-- R421. Entry into FAULT_STOP, or dt_invalid held for 1 ms, makes a serving member resign. -/
  | pairAutoResign
  /-- R421. The HANDBACK op of PAIR_CMD moves service to the partner by a ROLE frame, or is refused while the
  partner's time is not valid. -/
  | pairHandback
  /-- R421. A received RESIGN frame is acknowledged, and the member takes over at once. -/
  | pairResignReceive (f : Bytes)
  /-- R422. Clearing en in PAIR_CTL resigns, clears the owned bits, takes the link down and drives the fence DEAD. -/
  | pairDisable (cut : Bool)
  /-- R423. At each millisecond instant offset by the member number, the member launches a TIME frame. -/
  | pairTimeSend (tx : Inst)
  /-- R424. A received TIME frame yields theta and a raw REF31 comparison corrected by alpha. -/
  | pairTimeReceive (t4 : Inst) (f : Bytes)
  /-- R425. The REQUEST op of PAIR_CAL_CMD requests a lane-swap calibration as a timed action, forwarded to member 0
  as a CAL frame when needed. -/
  | pairCalRequest (fr : Option Bytes)
  /-- R430. The cancel bit of PAIR_CAL_CMD cancels the calibration named in PAIR_CAL_HANDLE, under R33. -/
  | pairCalCancel
  /-- R425. On member 0 with auto_cal set, a calibration is requested at each instant with s mod 3,600 = 1,800. -/
  | pairCalAuto
  /-- R425. At A + 1 s, both members swap lane orientation in the same tick and REF31 takes no comparisons. -/
  | pairCalSwap
  /-- R425. At A + 2.01 s, both members return to normal orientation. -/
  | pairCalReturn
  /-- R425. At A + 4 s, alpha is computed and written to PAIR_ASYM, and asym_valid is set. -/
  | pairCalFinish
  /-- R430. A host write to PAIR_ASYM sets alpha and asym_valid. -/
  | pairAsymWrite (w : Word)
  /-- R430. A read of PAIR_OFFSET_LO latches bits [63:32] of x for PAIR_OFFSET_HI. -/
  | pairOffsetRead
  /-- R427. Member 1 loads a pending generation from a STARTER frame, stores it, acknowledges, and schedules the same
  rotation. -/
  | pairStarterReceive (f : Bytes)
  /-- R427. Member 0 carries out a ROTATE, PURGE or CANCEL that reached it from member 1 in a START_CMD frame. -/
  | pairStartCmdReceive (f : Bytes)
  /-- R427. Member 1 without an offered pending generation 50 s before an automatic instant creates one of its own. -/
  | starterPartnerTimeout
  /-- R428. GENCHK exchange at link UP reconciles Starter generations on the highest both members hold. -/
  | pairGenchkReceive (f : Bytes)
  /-- R429. A pair-bound Batch received in BATCH frames is checked and committed to the free bank with its apply
  instant. -/
  | pairBatchReceive (f : Bytes)
  /-- R441. A write to HIFDB_SQ_TAIL hands SQ slots to the device, or halts the ring on a bad value. -/
  | sqDoorbell (n : Nat) (w : Word)
  /-- R461. A write to HIFDB_CQ_HEAD returns CQ slots, and with arm set lowers and re-arms the ring's interrupt. -/
  | cqDoorbell (n : Nat) (w : Word)
  /-- R440. A doorbell write of a bad size or alignment is discarded and counted under HIF_DB_BAD. -/
  | doorbellBadSize
  /-- R451. A FRAME_TX SEND descriptor is read, booked and committed through the Peel, or queued in order for port 16.
  -/
  | frameTxSend (n : Nat) (desc : Bytes) (fr : Fetch)
  /-- R453. A FRAME_RX BUF descriptor posts an empty buffer for host-bound frames. -/
  | frameRxBuf (n len : Nat) (bad : Bool)
  /-- R456. A STREAM RXBUF descriptor posts a buffer that takes the next device event. -/
  | streamRxbuf (n len : Nat) (bad : Bool)
  /-- R458. A BUF descriptor posts an empty buffer on a LEDGER, EVENT or SNAP ring. -/
  | recordBuf (n len : Nat) (bad : Bool)
  /-- R459. A partly filled record buffer completes once the moderation time, or 100 us, has passed after its first
  record. -/
  | bufferTimeout (n : Nat)
  /-- R461. The moderation timer of a ring expires and the ring fires its interrupt source. -/
  | ringModTimer (n : Nat)
  /-- R437. Setting en in HIF_RINGn_CTL resets the ring's indices and phase, or is refused for a second LEDGER ring.
  -/
  | ringEnable (n : Nat)
  /-- R469. Clearing en in HIF_RINGn_CTL drains or cuts the ring, completing outstanding descriptors with FLUSHED. -/
  | ringDisable (n : Nat) (cut : Bool) (unread : List Bytes)
  /-- R467. A write of 1 to HIF_CTL.resume clears paused in every ring. -/
  | ringResume
  /-- R464. PF0 changes D-state or Bus Master Enable, which stops or resumes host memory traffic. -/
  | pf0DStateChange (dst : Nat) (bme pmeEn fnMask aspm : Bool)
  /-- R462. When the last masking condition ends, a held MSI-X message is sent if its source is still pending. -/
  | msixHoldRelease (vec : Nat)
  /-- R466. The device accepts PME_Turn_Off, answers PME_TO_Ack and enters L2/L3 Ready. -/
  | pmeTurnOff
  /-- R467. PCIE_PERST_N going low resets the configuration space while the ring contexts are kept. -/
  | perstAssert
  /-- R467. PCIE_PERST_N rising sets perst_seen and pauses every enabled ring. -/
  | perstRelease (speed width : Nat)
  /-- R467. The PCIe link goes down with PCIE_PERST_N high, and results are held while rings keep their contexts. -/
  | pcieLinkDown
  /-- R467. The link returns to L0 after a down with PCIE_PERST_N high, setting perst_seen and pausing rings. -/
  | pcieLinkReturn (speed width : Nat)
  /-- R470. A PF0 function level reset or hot reset stops every ring without writes and resets HIF and the host
  interrupt targets. -/
  | functionLevelReset
  /-- R470. A function level reset of PF1 resets only PF1's configuration space. -/
  | pf1Flr
  /-- R475. A source line level or edge makes the source pend according to its sense. -/
  | intcSourceEvent (src : Nat) (high : Bool)
  /-- R481. A host read of INTC_TGTt_CLAIM returns the winning source and makes it active, or returns 0x3FF. -/
  | intcClaimRead (t : Nat)
  /-- R481. A host write to INTC_TGTt_EOI completes the named active source, or is ignored and sets bad_eoi. -/
  | intcEoi (t : Nat) (w : Word)
  /-- R476. A host write of 1 to an INTC_SETPw bit makes the source pend until claimed. -/
  | intcSetPending (w : Nat) (v : Word)
  /-- R476. A host write of 1 to an INTC_PENDw bit clears the latched and software pending state. -/
  | intcClearPending (w : Nat) (v : Word)
  /-- R474. A host write to INTC_SRCn_CFG configures a host-side source, or is ignored and counted for an engine-side
  source. -/
  | intcSrcCfgWrite (n : Nat) (w : Word)
  /-- R479. In ROUND_ROBIN mode, an offer not claimed within rr_to moves to the next admitted target. -/
  | intcRrTimeout (src : Nat)
  /-- R482. An engine target accepts an offer, saves its context and claims the most urgent source at the vector
  fetch. -/
  | engineInterruptEntry (k : Nat)
  /-- R484. A handler's return retires with EOI and the exit restores the previous context or tail-chains. -/
  | engineInterruptReturn (k : Nat)
  /-- R491. A read of MON_CNT_LO returns the selected value's low bits and latches its high bits. -/
  | monCntRead
  /-- R494. The NOW op of MON_SNAP_CMD copies all counters into a snapshot bank within 1 us. -/
  | snapshotNow (w : Word)
  /-- R494. The AT op of MON_SNAP_CMD requests a snapshot at MON_SNAP_AT as a timed action. -/
  | snapshotAt (w : Word)
  /-- R511. The cancel bit of MON_SNAP_CMD cancels the snapshot named in MON_SNAP_HANDLE. -/
  | snapshotCancel (w : Word)
  /-- R495. At its instant, a timed snapshot copies counters into the alternate bank and advances MON_SNAP_SEQ. -/
  | snapshotExecute
  /-- R497. A monitor takes a value from its source into a bin and updates count, sum, min and max, or drops it when
  its queue is full. -/
  | histValue (h : Nat) (v : Option Int)
  /-- R498. At a PERIODIC window boundary, the monitor latches its results and starts a new window. -/
  | histWindowEnd (h : Nat)
  /-- R499. The START op of MON_HW_CMD requests a timed window start for a monitor. -/
  | hwStartRequest (w : Word)
  /-- R499. The END op of MON_HW_CMD requests a timed window end for a monitor. -/
  | hwEndRequest (w : Word)
  /-- R511. The cancel bit of MON_HW_CMD cancels the window request named in MON_HW_HANDLE. -/
  | hwCancel (w : Word)
  /-- R499. At its instant, a timed window START or END opens or latches the monitor's window. -/
  | histTimedBoundary (h : Nat)
  /-- R501. After each sampling interval of retired instructions, the sampler records one instruction of a selected
  thread. -/
  | sampleRecord (eng th : Nat) (pc insn : Word) (iclass : Nat) (taken : Bool) (lat stall : Nat)
  /-- R503. Within 50 ms after each second, PE13 writes that second's quality record and its continuation records. -/
  | ledgerWrite (temp : Int)
  /-- R510. A host write to MON_LEDGER_NEXT_LO stages the low word of the next seq to deliver. -/
  | ledgerNextLoWrite (w : Word)
  /-- R508. A host write to MON_LEDGER_NEXT_HI commits the next seq to deliver when no LEDGER ring is enabled and the
  value is in range. -/
  | ledgerNextHiWrite (w : Word)
  /-- R510. A read of MON_LEDGER_SEQ_LO or MON_LEDGER_OLD_LO latches the high word of the seq. -/
  | ledgerSeqRead (old : Bool)
  /-- R382. A read of SEC_BATCH_SEQ_LO or SEC_BATCH_PEND_LO latches the high word of the seq. -/
  | secBatchSeqRead (pend : Bool)
  /-- R521. POR_N low, a brown-out or the loss of VDD_AON resets everything as a cold reset. -/
  | powerOnReset
  /-- R514. A rail below 85 % of nominal for 1 us or more starts a cold reset with cause BROWNOUT. -/
  | brownout
  /-- R515. The rise of POR_N samples the straps and starts boot. -/
  | porRelease (straps : Nat)
  /-- R521. WRST_N falling samples TIME_KEEP and starts a warm or time-keeping reset. -/
  | warmResetPin (keep : Bool)
  /-- R524. The WARM op of GLB_RST with the right key starts a warm reset within 10 us. -/
  | glbRstWarm (w : Word)
  /-- R522. The TIME_KEEP op of GLB_RST with the right key starts a time-keeping reset that keeps Device Time and the
  outputs. -/
  | glbRstTimeKeep (w : Word)
  /-- R526. The PKE op of GLB_RST resets PD_PKE alone, flushing, wiping and relocking within 2 ms. -/
  | glbRstPke (w : Word) (locked : Bool)
  /-- R523. With no refresh within GLB_WDOG.period, the watchdog starts a time-keeping or warm reset with cause
  WATCHDOG. -/
  | watchdogExpire
  /-- R516. A boot stage completes its work and the device enters the next stage, READY or RECOVERY. -/
  | bootStageEnd (ms : Nat)
  /-- R518. A write of GLB_REC_CTL.start in RECOVERY makes the ROM erase bank A. -/
  | recStart
  /-- R518. The recovery erase of bank A ends and GLB_REC_STATUS.result reads READY. -/
  | recEraseDone
  /-- R518. A write to GLB_REC_DATA stores the next image word in bank A. -/
  | recDataWrite (w : Word)
  /-- R518. A write of GLB_REC_CTL.done checks the image and, on success, warm resets into it. -/
  | recDone (good : Bool)
  /-- R531. An HBM PLL loss, an uncorrectable Trough error or a Bench routing parity error enters FAULT_STOP and stops
  serving. -/
  | faultStopEnter (cause : Nat)
  /-- R532. 100 ms after entry into FAULT_STOP with fstop_auto set, the supervisor requests a time-keeping reset. -/
  | fstopAutoReset
  /-- R519. An SMBus Read Word at the device address returns the status word of its command code. -/
  | smbusReadWord (cmd : Nat) (temp : Int)
  /-- R544. A write of 1 to GLB_LOCK.lock puts SET-UP LOCK in force for all later BAR0 writes. -/
  | setupLock
  /-- R8. A BAR0 write to a register without a row of its own applies its fields by access code, counting ignored SEAL
  and RWL writes. -/
  | registerWrite (o : Nat) (w : Word) (full : Bool) (unread : List Bytes)
  /-- R567. Entry into EXTEST holds the device in warm reset for as long as EXTEST lasts. -/
  | tapExtest
  /-- R567. TEST_EN held high holds the device in cold reset. -/
  | testEnHigh
  /-- R11. On every TIME tick the device adds TB_INCR to the Device Time counter, carrying into the seconds field, and
  commits any staged increment. -/
  | timeTick (n : Nat)
  /-- R44. A request at axis position (c, phi) is accepted and held as an axis position, or refused with TOO_FAR, PAST
  or FULL. -/
  | axisRequest (n : Nat) (c phase : BitVec 32) (a : Act)
  /-- R260. A Tamco time message or NMEA ZDA sentence decoded on a TIN input labels a PPS edge, or is rejected and
  counted as a bad label. -/
  | todMessageReceive (tin : Nat) (msg : Bytes)
  /-- R400. A PKE core's known-answer test of up to 400 us ends, and a pass returns the core to service while a
  failure counts as a mismatch. -/
  | pkeKatDone (k : Nat) (pass : Bool)
  /-- R217. An idle port with LPI permitted and no booking within wake plus sleep time enters transmit LPI, setting
  tx_lpi and counting TX_LPI. -/
  | txLpiEntry (n : Nat)
  /-- R218. The link partner's transmit side enters or leaves LPI, changing rx_lpi, counting RX_LPI and suspending the
  ingress periodic check. -/
  | partnerLpiChange (n : Nat) (asleep : Bool)
  /-- R413. Loss of block lock on the Elvod receive lane for 10 us takes the link from UP to TRAINING. -/
  | elvodBlockLockLoss
  /-- R421. A received ACK frame ends the sending of RESIGN frames, or confirms a STARTER or other frame sent to the
  partner. -/
  | pairAckReceive (f : Bytes)
  /-- R421. 1 ms after a resign began, or 10 ms under a DRAIN of PAIR_CTL, with no ACK the member stops waiting and
  proceeds. -/
  | resignAckTimeout
  /-- R193. A GRANT received from the upstream on a client port sets or renews a client-side unicast grant. -/
  | ptpGrantReceive
  /-- R194. A client's acknowledgement of the device's CANCEL_UNICAST_TRANSMISSION under DRAIN frees its grant entry.
  -/
  | ptpCancelAckReceive
  /-- R521. The rise of WRST_N releases a warm or time-keeping reset and starts boot. -/
  | wrstRelease
  /-- R268. An antenna fault input returning high clears its fault bit, so the antenna's channels may be allocated
  again. -/
  | gnssAntFaultEnd (gb : Bool)
  /-- R466. With both functions idle and ASPM L1 enabled, the device enters link state L1 and sets HIF_STATUS.l1. -/
  | aspmL1Entry
  /-- R567. Leaving the EXTEST instruction ends the warm reset that EXTEST held. -/
  | extestExit
  /-- R567. TEST_EN falling releases the cold reset that it held. -/
  | testEnLow
  deriving DecidableEq, Repr

end Sys2Proof
end

