-- ==== Sys2Proof/Machine/Amap.lean ====
section
/-! DEFINITION. Sparse tables: lists of (key, value) pairs in one canonical form (keys strictly rising, no entry equal to
what an unlisted key reads as).  The register bank, the counters, the flash and the other tables of State are of this form. -/

namespace Sys2Proof.Machine

/-- What key `k` reads as: the listed value, else `dflt`. -/
def amGet {α : Type} (dflt : α) : List (Nat × α) → Nat → α
  | [], _ => dflt
  | (k', v) :: t, k => if k = k' then v else amGet dflt t k

/-- List `v` at key `k`, keeping the keys rising. -/
def amIns {α : Type} : List (Nat × α) → Nat → α → List (Nat × α)
  | [], k, v => [(k, v)]
  | (k', v') :: t, k, v =>
    if k < k' then (k, v) :: (k', v') :: t
    else if k = k' then (k, v) :: t
    else (k', v') :: amIns t k v

/-- Drop every entry of key `k`. -/
def amDel {α : Type} (l : List (Nat × α)) (k : Nat) : List (Nat × α) := l.filter fun e => !(e.1 == k)

/-- Write `v` at key `k`: writing what an unlisted key reads as removes the entry. -/
def amSet {α : Type} [DecidableEq α] (dflt : α) (l : List (Nat × α)) (k : Nat) (v : α) : List (Nat × α) :=
  if v = dflt then amDel l k else amIns l k v

/-- The canonical form of a table whose unlisted key `k` reads as `dflt k`. -/
def amWf {α : Type} [DecidableEq α] (dflt : Nat → α) : List (Nat × α) → Bool
  | [] => true
  | [(k, v)] => !(v == dflt k)
  | (k, v) :: (k', v') :: t => !(v == dflt k) && decide (k < k') && amWf dflt ((k', v') :: t)

/-- Add a member to a rising list of numbers without repeats. -/
def setIns : List Nat → Nat → List Nat
  | [], k => [k]
  | k' :: t, k => if k < k' then k :: k' :: t else if k = k' then k' :: t else k' :: setIns t k

/-- Drop a member. -/
def setDel (l : List Nat) (k : Nat) : List Nat := l.filter fun x => !(x == k)

end Sys2Proof.Machine
end

