-- ==== Sys2Proof/Machine/Counters.lean ====
section
/-! DEFINITION. Numbers the spec assigns: event counter indices (R490), port statistics (R214), interrupt sources (R473),
Ledger event codes (R506), timed-action outcome codes (R34), and host-exception reasons (R454). -/

namespace Sys2Proof.Machine

/-! ### Event counters (R490) -/

abbrev K.CLS_DROP_DISABLED : Nat := 0x0
abbrev K.CLS_DROP_BAD_L2 : Nat := 0x1
abbrev K.CLS_DROP_NO_VLAN : Nat := 0x2
abbrev K.CLS_DROP_BAD_IP : Nat := 0x3
abbrev K.CLS_DROP_BAD_SRC : Nat := 0x4
abbrev K.CLS_DROP_NO_SA : Nat := 0x5
abbrev K.CLS_DROP_BAD_UDP : Nat := 0x6
abbrev K.CLS_DROP_BAD_NTP : Nat := 0x7
abbrev K.CLS_DROP_MODE7 : Nat := 0x8
abbrev K.CLS_DROP_BAD_EF : Nat := 0x9
abbrev K.CLS_DROP_NO_SERVICE : Nat := 0xa
abbrev K.CLS_DROP_NOT_READY : Nat := 0xb
abbrev K.CLS_DROP_POLICY : Nat := 0xc
abbrev K.CLS_DROP_HOST_FULL : Nat := 0xd
abbrev K.CLS_DROP_ND_RATE : Nat := 0xe
abbrev K.CLS_DROP_SILENT : Nat := 0xf
abbrev K.CLS_ADDR_CONFLICT : Nat := 0x10
abbrev K.CLS_CT_EVICT : Nat := 0x11
abbrev K.CLS_KOD_SENT : Nat := 0x12
abbrev K.CLS_KOD_SUPPRESSED : Nat := 0x13
abbrev K.CLS_C_OFFERED (c : Nat) : Nat := 0x20 + 8 * c
abbrev K.CLS_C_ADMITTED (c : Nat) : Nat := 0x21 + 8 * c
abbrev K.CLS_C_SHED (c : Nat) : Nat := 0x22 + 8 * c
abbrev K.CLS_C_OVERFLOW (c : Nat) : Nat := 0x23 + 8 * c
abbrev K.CLS_C_SPILLED (c : Nat) : Nat := 0x24 + 8 * c
abbrev K.CLS_C_RETURNED (c : Nat) : Nat := 0x25 + 8 * c
abbrev K.NTS_ANSWERED : Nat := 0x80
abbrev K.NTS_NAK_SENT : Nat := 0x81
abbrev K.NTS_NAK_SUPPRESSED : Nat := 0x82
abbrev K.NTS_DROP_FORMAT : Nat := 0x83
abbrev K.NTS_DROP_AUTH : Nat := 0x84
abbrev K.NTS_DROP_FLUSHED : Nat := 0x85
abbrev K.NTS_COOKIE_UNKNOWN : Nat := 0x86
abbrev K.NTS_COOKIE_BAD : Nat := 0x87
abbrev K.NTS_PH_UNHONORED : Nat := 0x88
abbrev K.NTS_COOKIE_CUR : Nat := 0x89
abbrev K.NTS_COOKIE_PRIOR1 : Nat := 0x8a
abbrev K.NTS_COOKIE_PRIOR2 : Nat := 0x8b
abbrev K.NTS_COOKIE_PARTNER : Nat := 0x8c
abbrev K.NTS_COOKIES_ISSUED : Nat := 0x8d
abbrev K.NTSKE_HANDSHAKES : Nat := 0x8e
abbrev K.NTSKE_FAIL_TLS : Nat := 0x8f
abbrev K.NTSKE_FAIL_PROTO : Nat := 0x90
abbrev K.NTSKE_REFUSED_BUSY : Nat := 0x91
abbrev K.NTSKE_TIMEOUT : Nat := 0x92
abbrev K.NTSKE_BAD_STREAM : Nat := 0x93
abbrev K.PEEL_LAUNCHED (n : Nat) : Nat := 0x100 + 16 * n
abbrev K.PEEL_REPROMISED (n : Nat) : Nat := 0x101 + 16 * n
abbrev K.PEEL_MISS_FETCH (n : Nat) : Nat := 0x102 + 16 * n
abbrev K.PEEL_DROP_MISS (n : Nat) : Nat := 0x103 + 16 * n
abbrev K.PEEL_DROP_NOSLOT (n : Nat) : Nat := 0x104 + 16 * n
abbrev K.PEEL_DROP_DISABLED (n : Nat) : Nat := 0x105 + 16 * n
abbrev K.PEEL_DROP_STEP (n : Nat) : Nat := 0x106 + 16 * n
abbrev K.PEEL_DROP_INVALID (n : Nat) : Nat := 0x107 + 16 * n
abbrev K.PEEL_DROP_CAL (n : Nat) : Nat := 0x108 + 16 * n
abbrev K.PEEL_GATE_CANCEL (n : Nat) : Nat := 0x109 + 16 * n
abbrev K.PTP_SYNC_SENT (i : Nat) : Nat := 0x200 + 16 * i
abbrev K.PTP_SYNC_MISSED (i : Nat) : Nat := 0x201 + 16 * i
abbrev K.PTP_DRESP_SENT (i : Nat) : Nat := 0x202 + 16 * i
abbrev K.PTP_PDRESP_SENT (i : Nat) : Nat := 0x203 + 16 * i
abbrev K.PTP_ANN_SENT (i : Nat) : Nat := 0x204 + 16 * i
abbrev K.PTP_GRANTS (i : Nat) : Nat := 0x205 + 16 * i
abbrev K.PTP_GRANT_DENIED (i : Nat) : Nat := 0x206 + 16 * i
abbrev K.PTP_DROP_NO_INSTANCE (i : Nat) : Nat := 0x207 + 16 * i
abbrev K.PTP_DROP_NO_GRANT (i : Nat) : Nat := 0x208 + 16 * i
abbrev K.PTP_DROP_REQ_RATE (i : Nat) : Nat := 0x209 + 16 * i
abbrev K.PTP_DROP_FLUSHED (i : Nat) : Nat := 0x20a + 16 * i
abbrev K.PTP_FOREIGN_ON_SERVER (i : Nat) : Nat := 0x20b + 16 * i
abbrev K.REF_GLITCH (n : Nat) : Nat := 0x280 + 4 * n
abbrev K.REF_PROOF_RESTART (n : Nat) : Nat := 0x281 + 4 * n
abbrev K.REF_STATE_CHG (n : Nat) : Nat := 0x282 + 4 * n
abbrev K.REF_LOSS (n : Nat) : Nat := 0x283 + 4 * n
abbrev K.GNSS_SLIP : Nat := 0x300
abbrev K.GNSS_RAIM_EXCL : Nat := 0x301
abbrev K.GNSS_CAL_COMMIT : Nat := 0x302
abbrev K.GNSS_SEALED_WRITE : Nat := 0x303
abbrev K.GNSS_MEAS_DROP : Nat := 0x304
abbrev K.TIC_CH_LOST (n : Nat) : Nat := 0x310 + n
abbrev K.TIC_REC_DROP : Nat := 0x318
abbrev K.TIC_PAIR_REOPEN : Nat := 0x319
abbrev K.TIC_PAIR_ABORT : Nat := 0x31a
abbrev K.TIC_BADCODE : Nat := 0x31b
abbrev K.PKE_OK (r : Nat) : Nat := 0x320 + 8 * r
abbrev K.PKE_FAIL (r : Nat) : Nat := 0x321 + 8 * r
abbrev K.PKE_FAULT_JOBS (r : Nat) : Nat := 0x322 + 8 * r
abbrev K.PKE_REFUSED (r : Nat) : Nat := 0x323 + 8 * r
abbrev K.PKE_FLUSHED (r : Nat) : Nat := 0x324 + 8 * r
abbrev K.PAIR_CRC_ERR : Nat := 0x380
abbrev K.PAIR_AUTH_FAIL : Nat := 0x381
abbrev K.PAIR_HB_LOSS : Nat := 0x382
abbrev K.PAIR_TAKEOVER : Nat := 0x383
abbrev K.PAIR_SPLIT_SERVE : Nat := 0x384
abbrev K.PAIR_GEN_CONFLICT : Nat := 0x385
abbrev K.SEC_KEYREC_BAD : Nat := 0x390
abbrev K.SEC_BATCH_REFUSED : Nat := 0x391
abbrev K.SEC_TAMPER_EVENTS : Nat := 0x392
abbrev K.HIF_DB_BAD : Nat := 0x393
abbrev K.HIF_RX_TOO_BIG : Nat := 0x394
abbrev K.HIF_HALT_DISCARD : Nat := 0x395
abbrev K.INTC_SPURIOUS : Nat := 0x396
abbrev K.INTC_BAD_EOI : Nat := 0x397
abbrev K.INTC_HOST_DENIED : Nat := 0x398
abbrev K.BENCH_T0_SAT : Nat := 0x399
abbrev K.REF_SWITCH : Nat := 0x39a
abbrev K.MON_LEDGER_OVW : Nat := 0x39b
abbrev K.MON_LEDGER_LOST : Nat := 0x39c
abbrev K.MON_LEDGER_EVLOST : Nat := 0x39d
abbrev K.MON_SAMPLE_DROP : Nat := 0x39e
abbrev K.TB_LEAP_REFUSED : Nat := 0x39f
abbrev K.TB_SMEAR_DENIED : Nat := 0x3a0
abbrev K.SLC_ITEMS (s : Nat) : Nat := 0x400 + 16 * s
abbrev K.SLC_QSLOTS (s : Nat) : Nat := 0x401 + 16 * s
abbrev K.SLC_SPILL_IN (s : Nat) : Nat := 0x402 + 16 * s
abbrev K.SLC_REPROMISE (s : Nat) : Nat := 0x403 + 16 * s
abbrev K.SLC_BUSY_CYCLES (s : Nat) : Nat := 0x404 + 16 * s
abbrev K.OVN_JOBS (k : Nat) : Nat := 0x500 + 2 * k
abbrev K.OVN_BLOCKS (k : Nat) : Nat := 0x501 + 2 * k
abbrev K.SA_NTP_ANSWERED (a : Nat) : Nat := 0x800 + 8 * a
abbrev K.SA_NTS_ANSWERED (a : Nat) : Nat := 0x801 + 8 * a
abbrev K.SA_KOD_SENT (a : Nat) : Nat := 0x802 + 8 * a
abbrev K.SA_PTP_EVENT (a : Nat) : Nat := 0x803 + 8 * a
abbrev K.SA_ARP_ND (a : Nat) : Nat := 0x804 + 8 * a
abbrev K.SA_HOST (a : Nat) : Nat := 0x805 + 8 * a
abbrev K.SA_SHED (a : Nat) : Nat := 0x806 + 8 * a

/-! ### Port statistics (R214) -/

abbrev P.RX_OCTETS_OK : Nat := 0
abbrev P.RX_OCTETS_ALL : Nat := 1
abbrev P.RX_FRAMES_OK : Nat := 2
abbrev P.RX_UCAST : Nat := 3
abbrev P.RX_VLAN : Nat := 6
abbrev P.RX_64 : Nat := 7
abbrev P.RX_FCS_ERR : Nat := 14
abbrev P.RX_UNDERSIZE : Nat := 15
abbrev P.RX_FRAGMENT : Nat := 16
abbrev P.RX_OVERSIZE : Nat := 17
abbrev P.RX_JABBER : Nat := 18
abbrev P.RX_CODE_ERR : Nat := 19
abbrev P.RX_MAC_CTRL : Nat := 20
abbrev P.RX_L2CTL : Nat := 21
abbrev P.RX_LPI : Nat := 22
abbrev P.RX_FEC_CORR : Nat := 23
abbrev P.RX_FEC_UNCORR : Nat := 24
abbrev P.RX_DROP_NOBUF : Nat := 25
abbrev P.RX_DROP_PORT : Nat := 26
abbrev P.TX_OCTETS : Nat := 27
abbrev P.TX_FRAMES : Nat := 28
abbrev P.TX_UCAST : Nat := 29
abbrev P.TX_64 : Nat := 32
abbrev P.TX_LPI : Nat := 39
abbrev P.TX_ESMC : Nat := 40
abbrev P.LINK_DOWN : Nat := 41

/-! ### Interrupt sources (R473) -/

abbrev S.TB_STATE : Nat := 0x160
abbrev S.TIME_VALID : Nat := 0x161
abbrev S.STEP : Nat := 0x162
abbrev S.HOLDOVER : Nat := 0x163
abbrev S.LEAPDIS : Nat := 0x164
abbrev S.OSC_WARM : Nat := 0x165
abbrev S.PLL_LOSS : Nat := 0x166
abbrev S.REF_STATE : Nat := 0x167
abbrev S.REFDIS : Nat := 0x168
abbrev S.DRIFT : Nat := 0x169
abbrev S.OUT_PHASE : Nat := 0x16a
abbrev S.GNSS_LEVEL : Nat := 0x16b
abbrev S.GNSS_ANT : Nat := 0x16c
abbrev S.GNSS_SURVEY : Nat := 0x16d
abbrev S.GNSS_RAIM : Nat := 0x16e
abbrev S.GNSS_SPOOF : Nat := 0x16f
abbrev S.GNSS_UTC : Nat := 0x170
abbrev S.TROUGH_HWM : Nat := 0x1a0
abbrev S.ADDR_CONFLICT : Nat := 0x1a1
abbrev S.OVEN_FAULT : Nat := 0x1a2
abbrev S.STARTER_FAULT : Nat := 0x1a3
abbrev S.PKE_FAULT : Nat := 0x1a4
abbrev S.PKE_DRAINED : Nat := 0x1a5
abbrev S.OWNER : Nat := 0x1a6
abbrev S.BATCH : Nat := 0x1a7
abbrev S.EXT_FAULT : Nat := 0x1a8
abbrev S.TAMPER : Nat := 0x1a9
abbrev S.PAIR_LINK : Nat := 0x1aa
abbrev S.PAIR_ROLE : Nat := 0x1ab
abbrev S.PAIR_SPLIT : Nat := 0x1ac
abbrev S.HIF_RING_ERR : Nat := 0x1ad
abbrev S.DRN_CLS : Nat := 0x1c0
abbrev S.DRN_PEEL : Nat := 0x1c1
abbrev S.DRN_OVN : Nat := 0x1c2
abbrev S.DRN_KE : Nat := 0x1c3
abbrev S.DRN_GNSS : Nat := 0x1c4
abbrev S.DRN_PAIR : Nat := 0x1c5
abbrev S.DRN_REF : Nat := 0x1c6
abbrev S.DRN_TIC : Nat := 0x1c7
abbrev S.DRN_OUT : Nat := 0x1c8
abbrev S.DRN_MON : Nat := 0x1c9
abbrev S.DRN_SAMPLE : Nat := 0x1ca
abbrev S.DRN_SLC (n : Nat) : Nat := 0x1d0 + n
abbrev S.DRN_PTP (n : Nat) : Nat := 0x1e0 + n
abbrev S.DRN_PORT (n : Nat) : Nat := 0x1e8 + n

/-! ### Ledger event codes (R506) -/

abbrev L.timeSet : Nat := 1
abbrev L.stepSched : Nat := 2
abbrev L.stepDone : Nat := 3
abbrev L.stepRefused : Nat := 4
abbrev L.timeValid : Nat := 5
abbrev L.holdover : Nat := 6
abbrev L.tbState : Nat := 7
abbrev L.restored : Nat := 8
abbrev L.restoreFailed : Nat := 9
abbrev L.warmLost : Nat := 0xA
abbrev L.pllLoss : Nat := 0xB
abbrev L.leapForced : Nat := 0xC
abbrev L.leapDisagree : Nat := 0xD
abbrev L.refState : Nat := 0x10
abbrev L.refdis : Nat := 0x11
abbrev L.drift : Nat := 0x12
abbrev L.antFault : Nat := 0x20
abbrev L.calCommit : Nat := 0x21
abbrev L.survey : Nat := 0x22
abbrev L.integrityFail : Nat := 0x23
abbrev L.spoofFail : Nat := 0x24
abbrev L.snapSolution : Nat := 0x25
abbrev L.egrSlip : Nat := 0x30
abbrev L.ingSlip : Nat := 0x31
abbrev L.addrConflict : Nat := 0x32
abbrev L.outPhase : Nat := 0x33
abbrev L.starterDefer : Nat := 0x40
abbrev L.starterRotate : Nat := 0x41
abbrev L.ovenFault : Nat := 0x42
abbrev L.pkeFault : Nat := 0x43
abbrev L.owner : Nat := 0x50
abbrev L.batch : Nat := 0x51
abbrev L.extFault : Nat := 0x52
abbrev L.tamper : Nat := 0x53
abbrev L.pairLink : Nat := 0x60
abbrev L.pairRole : Nat := 0x61
abbrev L.pairSplit : Nat := 0x62
abbrev L.ringHalt : Nat := 0x70

/-! ### Timed-action outcome codes (R34) -/

abbrev T.ACCEPTED : Nat := 0
abbrev T.DONE : Nat := 1
abbrev T.PAST : Nat := 2
abbrev T.TOO_FAR : Nat := 3
abbrev T.FULL : Nat := 4
abbrev T.CANCELLED : Nat := 5
abbrev T.TOO_LATE : Nat := 6
abbrev T.NO_SUCH : Nat := 7
abbrev T.STEPPED : Nat := 8
abbrev T.MISSED : Nat := 9
abbrev T.FLUSHED : Nat := 10
abbrev T.AXIS_LOST : Nat := 11

end Sys2Proof.Machine
end

