-- ==== Sys2Proof/Machine/Regs.lean ====
section
/-! DEFINITION. The BAR0 register map (spec/19_register_map.md R538, R547, and the register tables of every chapter):
one offset per register (namespace R), one bit field per field of its table (namespace F), the reset word of every
register whose reset value is not 0, and the access masks of R8.  Index arguments follow the spec's own letters. -/

namespace Sys2Proof.Machine

/-- A bit field of a register: the register's BAR0 offset, the lowest bit, the number of bits. -/
structure Fld where
  off : Nat
  lo : Nat
  len : Nat
  deriving DecidableEq, Repr

/-- R14 -/ abbrev R.TB_STATUS : Nat := 0x8000
abbrev F.TB_STATUS_smear_active : Fld := ⟨R.TB_STATUS, 7, 1⟩
abbrev F.TB_STATUS_leap_dir : Fld := ⟨R.TB_STATUS, 6, 1⟩
abbrev F.TB_STATUS_leap_pending : Fld := ⟨R.TB_STATUS, 5, 1⟩
abbrev F.TB_STATUS_utc_valid : Fld := ⟨R.TB_STATUS, 4, 1⟩
abbrev F.TB_STATUS_stepped : Fld := ⟨R.TB_STATUS, 3, 1⟩
abbrev F.TB_STATUS_time_valid : Fld := ⟨R.TB_STATUS, 2, 1⟩
abbrev F.TB_STATUS_dt_set : Fld := ⟨R.TB_STATUS, 1, 1⟩
abbrev F.TB_STATUS_dt_invalid : Fld := ⟨R.TB_STATUS, 0, 1⟩
/-- R15 -/ abbrev R.TB_INCR_LO : Nat := 0x8010
abbrev F.TB_INCR_LO : Fld := ⟨R.TB_INCR_LO, 0, 32⟩
/-- R15 -/ abbrev R.TB_INCR_HI : Nat := 0x8014
abbrev F.TB_INCR_HI_int : Fld := ⟨R.TB_INCR_HI, 16, 8⟩
abbrev F.TB_INCR_HI_frac_hi : Fld := ⟨R.TB_INCR_HI, 0, 16⟩
/-- R16 -/ abbrev R.TB_NOW_SEC_LO : Nat := 0x8020
abbrev F.TB_NOW_SEC_LO : Fld := ⟨R.TB_NOW_SEC_LO, 0, 32⟩
/-- R16 -/ abbrev R.TB_NOW_SEC_HI : Nat := 0x8024
abbrev F.TB_NOW_SEC_HI : Fld := ⟨R.TB_NOW_SEC_HI, 0, 16⟩
/-- R16 -/ abbrev R.TB_NOW_NS : Nat := 0x8028
abbrev F.TB_NOW_NS : Fld := ⟨R.TB_NOW_NS, 0, 30⟩
/-- R16 -/ abbrev R.TB_NOW_FRAC_LO : Nat := 0x802c
abbrev F.TB_NOW_FRAC_LO : Fld := ⟨R.TB_NOW_FRAC_LO, 0, 32⟩
/-- R16 -/ abbrev R.TB_NOW_FRAC_HI : Nat := 0x8030
abbrev F.TB_NOW_FRAC_HI : Fld := ⟨R.TB_NOW_FRAC_HI, 0, 16⟩
/-- R24 -/ abbrev R.TB_LEAP_CTL : Nat := 0x8040
abbrev F.TB_LEAP_CTL_commit : Fld := ⟨R.TB_LEAP_CTL, 31, 1⟩
abbrev F.TB_LEAP_CTL_force : Fld := ⟨R.TB_LEAP_CTL, 30, 1⟩
abbrev F.TB_LEAP_CTL_src : Fld := ⟨R.TB_LEAP_CTL, 4, 2⟩
abbrev F.TB_LEAP_CTL_sealed_only : Fld := ⟨R.TB_LEAP_CTL, 0, 1⟩
/-- R25 -/ abbrev R.TB_LEAP_STATUS : Nat := 0x8044
abbrev F.TB_LEAP_STATUS_tai_utc_now : Fld := ⟨R.TB_LEAP_STATUS, 24, 8⟩
abbrev F.TB_LEAP_STATUS_gnss_tai_utc : Fld := ⟨R.TB_LEAP_STATUS, 16, 8⟩
abbrev F.TB_LEAP_STATUS_commit_err : Fld := ⟨R.TB_LEAP_STATUS, 4, 4⟩
abbrev F.TB_LEAP_STATUS_stale : Fld := ⟨R.TB_LEAP_STATUS, 3, 1⟩
abbrev F.TB_LEAP_STATUS_leapdis : Fld := ⟨R.TB_LEAP_STATUS, 2, 1⟩
abbrev F.TB_LEAP_STATUS_gnss_pending : Fld := ⟨R.TB_LEAP_STATUS, 1, 1⟩
abbrev F.TB_LEAP_STATUS_table_valid : Fld := ⟨R.TB_LEAP_STATUS, 0, 1⟩
/-- R28 -/ abbrev R.TB_LEAP_EXPIRY_LO : Nat := 0x8048
abbrev F.TB_LEAP_EXPIRY_LO : Fld := ⟨R.TB_LEAP_EXPIRY_LO, 0, 32⟩
/-- R28 -/ abbrev R.TB_LEAP_EXPIRY_HI : Nat := 0x804c
abbrev F.TB_LEAP_EXPIRY_HI : Fld := ⟨R.TB_LEAP_EXPIRY_HI, 0, 16⟩
/-- R30 -/ abbrev R.TB_SMEAR_CTL : Nat := 0x8060
abbrev F.TB_SMEAR_CTL_enable : Fld := ⟨R.TB_SMEAR_CTL, 31, 1⟩
abbrev F.TB_SMEAR_CTL_mode : Fld := ⟨R.TB_SMEAR_CTL, 8, 1⟩
/-- R30 -/ abbrev R.TB_SMEAR_WIN : Nat := 0x8064
abbrev F.TB_SMEAR_WIN : Fld := ⟨R.TB_SMEAR_WIN, 0, 18⟩
/-- R21 -/ abbrev R.TB_LEAP_LO (n : Nat) : Nat := 0x8100 + 8 * n
abbrev F.TB_LEAP_LO (n : Nat) : Fld := ⟨(R.TB_LEAP_LO n), 0, 32⟩
/-- R21 -/ abbrev R.TB_LEAP_HI (n : Nat) : Nat := 0x8104 + 8 * n
abbrev F.TB_LEAP_HI_valid (n : Nat) : Fld := ⟨(R.TB_LEAP_HI n), 31, 1⟩
abbrev F.TB_LEAP_HI_tai_utc (n : Nat) : Fld := ⟨(R.TB_LEAP_HI n), 16, 8⟩
abbrev F.TB_LEAP_HI_eff_hi (n : Nat) : Fld := ⟨(R.TB_LEAP_HI n), 0, 16⟩
/-- R42 -/ abbrev R.AXIS_CFG (n : Nat) : Nat := 0xc000 + 0x40 * n
abbrev F.AXIS_CFG_enable (n : Nat) : Fld := ⟨(R.AXIS_CFG n), 31, 1⟩
abbrev F.AXIS_CFG_miss_limit (n : Nat) : Fld := ⟨(R.AXIS_CFG n), 24, 5⟩
abbrev F.AXIS_CFG_tol (n : Nat) : Fld := ⟨(R.AXIS_CFG n), 16, 8⟩
abbrev F.AXIS_CFG_avg_log2 (n : Nat) : Fld := ⟨(R.AXIS_CFG n), 13, 3⟩
abbrev F.AXIS_CFG_edge (n : Nat) : Fld := ⟨(R.AXIS_CFG n), 12, 1⟩
abbrev F.AXIS_CFG_mode (n : Nat) : Fld := ⟨(R.AXIS_CFG n), 10, 2⟩
/-- R43 -/ abbrev R.AXIS_STATUS (n : Nat) : Nat := 0xc004 + 0x40 * n
abbrev F.AXIS_STATUS_misses (n : Nat) : Fld := ⟨(R.AXIS_STATUS n), 8, 5⟩
abbrev F.AXIS_STATUS_renum (n : Nat) : Fld := ⟨(R.AXIS_STATUS n), 5, 1⟩
abbrev F.AXIS_STATUS_lost_evt (n : Nat) : Fld := ⟨(R.AXIS_STATUS n), 4, 1⟩
abbrev F.AXIS_STATUS_state (n : Nat) : Fld := ⟨(R.AXIS_STATUS n), 0, 3⟩
/-- R41 -/ abbrev R.AXIS_PERIOD_NS (n : Nat) : Nat := 0xc008 + 0x40 * n
abbrev F.AXIS_PERIOD_NS (n : Nat) : Fld := ⟨(R.AXIS_PERIOD_NS n), 0, 32⟩
/-- R41 -/ abbrev R.AXIS_PERIOD_FRAC (n : Nat) : Nat := 0xc00c + 0x40 * n
abbrev F.AXIS_PERIOD_FRAC (n : Nat) : Fld := ⟨(R.AXIS_PERIOD_FRAC n), 0, 16⟩
/-- R41 -/ abbrev R.AXIS_CYCLE (n : Nat) : Nat := 0xc010 + 0x40 * n
abbrev F.AXIS_CYCLE (n : Nat) : Fld := ⟨(R.AXIS_CYCLE n), 0, 32⟩
/-- R41 -/ abbrev R.AXIS_EDGE_SEC_LO (n : Nat) : Nat := 0xc014 + 0x40 * n
abbrev F.AXIS_EDGE_SEC_LO (n : Nat) : Fld := ⟨(R.AXIS_EDGE_SEC_LO n), 0, 32⟩
/-- R41 -/ abbrev R.AXIS_EDGE_SEC_HI (n : Nat) : Nat := 0xc018 + 0x40 * n
abbrev F.AXIS_EDGE_SEC_HI (n : Nat) : Fld := ⟨(R.AXIS_EDGE_SEC_HI n), 0, 16⟩
/-- R41 -/ abbrev R.AXIS_EDGE_NS (n : Nat) : Nat := 0xc01c + 0x40 * n
abbrev F.AXIS_EDGE_NS (n : Nat) : Fld := ⟨(R.AXIS_EDGE_NS n), 0, 30⟩
/-- R41 -/ abbrev R.AXIS_DELAY (n : Nat) : Nat := 0xc020 + 0x40 * n
abbrev F.AXIS_DELAY (n : Nat) : Fld := ⟨(R.AXIS_DELAY n), 0, 32⟩
/-- R41 -/ abbrev R.AXIS_LINES (n : Nat) : Nat := 0xc024 + 0x40 * n
abbrev F.AXIS_LINES (n : Nat) : Fld := ⟨(R.AXIS_LINES n), 0, 16⟩
/-- R41 -/ abbrev R.AXIS_CYCLE_SET (n : Nat) : Nat := 0xc028 + 0x40 * n
abbrev F.AXIS_CYCLE_SET (n : Nat) : Fld := ⟨(R.AXIS_CYCLE_SET n), 0, 32⟩
/-- R79 -/ abbrev R.PWR_PD_CTL : Nat := 0x1000
abbrev F.PWR_PD_CTL_link_on : Fld := ⟨R.PWR_PD_CTL, 3, 1⟩
abbrev F.PWR_PD_CTL_gnss_on : Fld := ⟨R.PWR_PD_CTL, 2, 1⟩
abbrev F.PWR_PD_CTL_slb_on : Fld := ⟨R.PWR_PD_CTL, 1, 1⟩
abbrev F.PWR_PD_CTL_sla_on : Fld := ⟨R.PWR_PD_CTL, 0, 1⟩
/-- R80 -/ abbrev R.PWR_PD_STATUS : Nat := 0x1004
abbrev F.PWR_PD_STATUS_powered : Fld := ⟨R.PWR_PD_STATUS, 16, 12⟩
abbrev F.PWR_PD_STATUS_refused : Fld := ⟨R.PWR_PD_STATUS, 0, 4⟩
/-- R68 -/ abbrev R.SLC_CTL (n : Nat) : Nat := 0x18000 + 0x100 * n
abbrev F.SLC_CTL_en (n : Nat) : Fld := ⟨(R.SLC_CTL n), 31, 1⟩
abbrev F.SLC_CTL_stop (n : Nat) : Fld := ⟨(R.SLC_CTL n), 30, 1⟩
abbrev F.SLC_CTL_drained (n : Nat) : Fld := ⟨(R.SLC_CTL n), 29, 1⟩
abbrev F.SLC_CTL_lanes (n : Nat) : Fld := ⟨(R.SLC_CTL n), 0, 4⟩
/-- R68 -/ abbrev R.SLC_SPILL (n : Nat) : Nat := 0x18004 + 0x100 * n
abbrev F.SLC_SPILL (n : Nat) : Fld := ⟨(R.SLC_SPILL n), 0, 7⟩
/-- R68 -/ abbrev R.SLC_QUEUE (n : Nat) : Nat := 0x18008 + 0x100 * n
abbrev F.SLC_QUEUE_peak (n : Nat) : Fld := ⟨(R.SLC_QUEUE n), 16, 8⟩
abbrev F.SLC_QUEUE_cur (n : Nat) : Fld := ⟨(R.SLC_QUEUE n), 0, 8⟩
/-- R65 -/ abbrev R.SLC_STEER_SEED : Nat := 0x18c00
abbrev F.SLC_STEER_SEED : Fld := ⟨R.SLC_STEER_SEED, 0, 32⟩
/-- R70 -/ abbrev R.OVN_CTL : Nat := 0x19000
abbrev F.OVN_CTL_en : Fld := ⟨R.OVN_CTL, 31, 1⟩
abbrev F.OVN_CTL_stop : Fld := ⟨R.OVN_CTL, 30, 1⟩
abbrev F.OVN_CTL_drained : Fld := ⟨R.OVN_CTL, 29, 1⟩
abbrev F.OVN_CTL_ovens : Fld := ⟨R.OVN_CTL, 0, 24⟩
/-- R70 -/ abbrev R.OVN_BORROW : Nat := 0x19004
abbrev F.OVN_BORROW_enable : Fld := ⟨R.OVN_BORROW, 4, 1⟩
abbrev F.OVN_BORROW_quota : Fld := ⟨R.OVN_BORROW, 0, 4⟩
/-- R70 -/ abbrev R.OVN_FAULT : Nat := 0x19008
abbrev F.OVN_FAULT : Fld := ⟨R.OVN_FAULT, 0, 24⟩
/-- R63 -/ abbrev R.TROUGH_STATUS : Nat := 0x30000
abbrev F.TROUGH_STATUS_quota_err : Fld := ⟨R.TROUGH_STATUS, 4, 4⟩
abbrev F.TROUGH_STATUS_pin_full : Fld := ⟨R.TROUGH_STATUS, 3, 1⟩
abbrev F.TROUGH_STATUS_bp_active : Fld := ⟨R.TROUGH_STATUS, 2, 1⟩
abbrev F.TROUGH_STATUS_drop_evt : Fld := ⟨R.TROUGH_STATUS, 1, 1⟩
abbrev F.TROUGH_STATUS_ready : Fld := ⟨R.TROUGH_STATUS, 0, 1⟩
/-- R60 -/ abbrev R.TROUGH_FREE : Nat := 0x30004
abbrev F.TROUGH_FREE : Fld := ⟨R.TROUGH_FREE, 0, 15⟩
/-- R52 -/ abbrev R.TROUGH_BENCH_WT : Nat := 0x30010
abbrev F.TROUGH_BENCH_WT_w3 : Fld := ⟨R.TROUGH_BENCH_WT, 16, 8⟩
abbrev F.TROUGH_BENCH_WT_w2 : Fld := ⟨R.TROUGH_BENCH_WT, 8, 8⟩
abbrev F.TROUGH_BENCH_WT_w1 : Fld := ⟨R.TROUGH_BENCH_WT, 0, 8⟩
/-- R61 -/ abbrev R.TROUGH_POOL_QUOTA (n : Nat) : Nat := 0x30100 + 0x10 * n
abbrev F.TROUGH_POOL_QUOTA_max (n : Nat) : Fld := ⟨(R.TROUGH_POOL_QUOTA n), 16, 16⟩
abbrev F.TROUGH_POOL_QUOTA_min (n : Nat) : Fld := ⟨(R.TROUGH_POOL_QUOTA n), 0, 16⟩
/-- R62 -/ abbrev R.TROUGH_POOL_CTL (n : Nat) : Nat := 0x30104 + 0x10 * n
abbrev F.TROUGH_POOL_CTL_policy (n : Nat) : Fld := ⟨(R.TROUGH_POOL_CTL n), 16, 2⟩
abbrev F.TROUGH_POOL_CTL_hwm (n : Nat) : Fld := ⟨(R.TROUGH_POOL_CTL n), 0, 16⟩
/-- R60 -/ abbrev R.TROUGH_POOL_USED (n : Nat) : Nat := 0x30108 + 0x10 * n
abbrev F.TROUGH_POOL_USED_peak (n : Nat) : Fld := ⟨(R.TROUGH_POOL_USED n), 16, 16⟩
abbrev F.TROUGH_POOL_USED_used (n : Nat) : Fld := ⟨(R.TROUGH_POOL_USED n), 0, 16⟩
/-- R60 -/ abbrev R.TROUGH_POOL_DROPS (n : Nat) : Nat := 0x3010c + 0x10 * n
abbrev F.TROUGH_POOL_DROPS (n : Nat) : Fld := ⟨(R.TROUGH_POOL_DROPS n), 0, 32⟩
/-- R83 -/ abbrev R.CLS_CTL : Nat := 0x1a000
abbrev F.CLS_CTL_en : Fld := ⟨R.CLS_CTL, 31, 1⟩
abbrev F.CLS_CTL_stop : Fld := ⟨R.CLS_CTL, 30, 1⟩
abbrev F.CLS_CTL_drained : Fld := ⟨R.CLS_CTL, 29, 1⟩
/-- R85 -/ abbrev R.CLS_STATUS : Nat := 0x1a004
abbrev F.CLS_STATUS_boundary : Fld := ⟨R.CLS_STATUS, 13, 3⟩
abbrev F.CLS_STATUS_conflict : Fld := ⟨R.CLS_STATUS, 2, 1⟩
abbrev F.CLS_STATUS_shedding : Fld := ⟨R.CLS_STATUS, 1, 1⟩
abbrev F.CLS_STATUS_not_ready : Fld := ⟨R.CLS_STATUS, 0, 1⟩
/-- R83 -/ abbrev R.CLS_CT_SEED : Nat := 0x1a008
abbrev F.CLS_CT_SEED : Fld := ⟨R.CLS_CT_SEED, 0, 32⟩
/-- R103 -/ abbrev R.CLS_CT_CTL : Nat := 0x1a00c
abbrev F.CLS_CT_CTL_en : Fld := ⟨R.CLS_CT_CTL, 31, 1⟩
abbrev F.CLS_CT_CTL_expire : Fld := ⟨R.CLS_CT_CTL, 0, 16⟩
/-- R93 -/ abbrev R.CLS_POLICY : Nat := 0x1a010
abbrev F.CLS_POLICY_ptpm_host : Fld := ⟨R.CLS_POLICY, 8, 1⟩
abbrev F.CLS_POLICY_other_host : Fld := ⟨R.CLS_POLICY, 7, 1⟩
abbrev F.CLS_POLICY_icmp_host : Fld := ⟨R.CLS_POLICY, 6, 1⟩
abbrev F.CLS_POLICY_tcp_host : Fld := ⟨R.CLS_POLICY, 5, 1⟩
abbrev F.CLS_POLICY_opt_host : Fld := ⟨R.CLS_POLICY, 4, 1⟩
abbrev F.CLS_POLICY_arp_host : Fld := ⟨R.CLS_POLICY, 3, 1⟩
abbrev F.CLS_POLICY_legacy_host : Fld := ⟨R.CLS_POLICY, 2, 1⟩
abbrev F.CLS_POLICY_sym_host : Fld := ⟨R.CLS_POLICY, 1, 1⟩
abbrev F.CLS_POLICY_m6_host : Fld := ⟨R.CLS_POLICY, 0, 1⟩
/-- R98 -/ abbrev R.CLS_NTP_CTL : Nat := 0x1a014
abbrev F.CLS_NTP_CTL_poll_max : Fld := ⟨R.CLS_NTP_CTL, 24, 6⟩
abbrev F.CLS_NTP_CTL_poll_min : Fld := ⟨R.CLS_NTP_CTL, 16, 6⟩
abbrev F.CLS_NTP_CTL_disp_floor : Fld := ⟨R.CLS_NTP_CTL, 0, 16⟩
/-- R110 -/ abbrev R.CLS_ADM_CTL : Nat := 0x1a020
abbrev F.CLS_ADM_CTL_c4_floor : Fld := ⟨R.CLS_ADM_CTL, 24, 8⟩
abbrev F.CLS_ADM_CTL_q_tgt : Fld := ⟨R.CLS_ADM_CTL, 0, 16⟩
/-- R106 -/ abbrev R.CLS_KOD_CTL : Nat := 0x1a030
abbrev F.CLS_KOD_CTL_en : Fld := ⟨R.CLS_KOD_CTL, 31, 1⟩
abbrev F.CLS_KOD_CTL_gap : Fld := ⟨R.CLS_KOD_CTL, 16, 8⟩
abbrev F.CLS_KOD_CTL_rate : Fld := ⟨R.CLS_KOD_CTL, 0, 16⟩
/-- R86 -/ abbrev R.CLS_SA_CMD : Nat := 0x1a040
abbrev F.CLS_SA_CMD_op : Fld := ⟨R.CLS_SA_CMD, 30, 2⟩
abbrev F.CLS_SA_CMD_busy : Fld := ⟨R.CLS_SA_CMD, 29, 1⟩
abbrev F.CLS_SA_CMD_err : Fld := ⟨R.CLS_SA_CMD, 26, 3⟩
abbrev F.CLS_SA_CMD_index : Fld := ⟨R.CLS_SA_CMD, 0, 8⟩
/-- R86 -/ abbrev R.CLS_SA_ATTR : Nat := 0x1a044
abbrev F.CLS_SA_ATTR_valid : Fld := ⟨R.CLS_SA_ATTR, 31, 1⟩
abbrev F.CLS_SA_ATTR_owned : Fld := ⟨R.CLS_SA_ATTR, 30, 1⟩
abbrev F.CLS_SA_ATTR_vlan : Fld := ⟨R.CLS_SA_ATTR, 24, 6⟩
abbrev F.CLS_SA_ATTR_mac_sel : Fld := ⟨R.CLS_SA_ATTR, 20, 4⟩
abbrev F.CLS_SA_ATTR_prof : Fld := ⟨R.CLS_SA_ATTR, 16, 4⟩
abbrev F.CLS_SA_ATTR_ports : Fld := ⟨R.CLS_SA_ATTR, 0, 16⟩
/-- R86 -/ abbrev R.CLS_SA_SVC : Nat := 0x1a048
abbrev F.CLS_SA_SVC_hop : Fld := ⟨R.CLS_SA_SVC, 24, 8⟩
abbrev F.CLS_SA_SVC_dscp : Fld := ⟨R.CLS_SA_SVC, 16, 6⟩
abbrev F.CLS_SA_SVC_arp : Fld := ⟨R.CLS_SA_SVC, 4, 1⟩
abbrev F.CLS_SA_SVC_smear : Fld := ⟨R.CLS_SA_SVC, 3, 1⟩
abbrev F.CLS_SA_SVC_ptp : Fld := ⟨R.CLS_SA_SVC, 2, 1⟩
abbrev F.CLS_SA_SVC_nts : Fld := ⟨R.CLS_SA_SVC, 1, 1⟩
abbrev F.CLS_SA_SVC_ntp : Fld := ⟨R.CLS_SA_SVC, 0, 1⟩
/-- R83 -/ abbrev R.CLS_SA_ADDR (i : Nat) : Nat := 0x1a050 + 4 * i
abbrev F.CLS_SA_ADDR (i : Nat) : Fld := ⟨(R.CLS_SA_ADDR i), 0, 32⟩
/-- R83 -/ abbrev R.CLS_MAC_LO (m : Nat) : Nat := 0x1a080 + 8 * m
abbrev F.CLS_MAC_LO (m : Nat) : Fld := ⟨(R.CLS_MAC_LO m), 0, 32⟩
/-- R83 -/ abbrev R.CLS_MAC_HI (m : Nat) : Nat := 0x1a084 + 8 * m
abbrev F.CLS_MAC_HI (m : Nat) : Fld := ⟨(R.CLS_MAC_HI m), 0, 16⟩
/-- R89 -/ abbrev R.CLS_VLAN (v : Nat) : Nat := 0x1a100 + 4 * v
abbrev F.CLS_VLAN_valid (v : Nat) : Fld := ⟨(R.CLS_VLAN v), 31, 1⟩
abbrev F.CLS_VLAN_untagged (v : Nat) : Fld := ⟨(R.CLS_VLAN v), 30, 1⟩
abbrev F.CLS_VLAN_pcp (v : Nat) : Fld := ⟨(R.CLS_VLAN v), 12, 3⟩
abbrev F.CLS_VLAN_vid (v : Nat) : Fld := ⟨(R.CLS_VLAN v), 0, 12⟩
/-- R83 -/ abbrev R.CLS_PREF_ADDR (p i : Nat) : Nat := 0x1a200 + 0x20 * p + 4 * i
abbrev F.CLS_PREF_ADDR (p i : Nat) : Fld := ⟨(R.CLS_PREF_ADDR p i), 0, 32⟩
/-- R104 -/ abbrev R.CLS_PREF_CTL (p : Nat) : Nat := 0x1a210 + 0x20 * p
abbrev F.CLS_PREF_CTL_valid (p : Nat) : Fld := ⟨(R.CLS_PREF_CTL p), 31, 1⟩
abbrev F.CLS_PREF_CTL_prof (p : Nat) : Fld := ⟨(R.CLS_PREF_CTL p), 8, 4⟩
abbrev F.CLS_PREF_CTL_len (p : Nat) : Fld := ⟨(R.CLS_PREF_CTL p), 0, 8⟩
/-- R83 -/ abbrev R.CLS_REF_ID (n : Nat) : Nat := 0x1a400 + 8 * n
abbrev F.CLS_REF_ID (n : Nat) : Fld := ⟨(R.CLS_REF_ID n), 0, 32⟩
/-- R83 -/ abbrev R.CLS_REF_STRAT (n : Nat) : Nat := 0x1a404 + 8 * n
abbrev F.CLS_REF_STRAT (n : Nat) : Fld := ⟨(R.CLS_REF_STRAT n), 0, 4⟩
/-- R83 -/ abbrev R.CLS_RATE_INT (p : Nat) : Nat := 0x1a500 + 8 * p
abbrev F.CLS_RATE_INT (p : Nat) : Fld := ⟨(R.CLS_RATE_INT p), 0, 32⟩
/-- R83 -/ abbrev R.CLS_RATE_BURST (p : Nat) : Nat := 0x1a504 + 8 * p
abbrev F.CLS_RATE_BURST (p : Nat) : Fld := ⟨(R.CLS_RATE_BURST p), 0, 16⟩
/-- R140 -/ abbrev R.PEEL_CTL : Nat := 0xd000
abbrev F.PEEL_CTL_en : Fld := ⟨R.PEEL_CTL, 31, 1⟩
abbrev F.PEEL_CTL_stop : Fld := ⟨R.PEEL_CTL, 30, 1⟩
abbrev F.PEEL_CTL_drained : Fld := ⟨R.PEEL_CTL, 29, 1⟩
/-- R140 -/ abbrev R.PEEL_STATUS : Nat := 0xd004
abbrev F.PEEL_STATUS_step_hold : Fld := ⟨R.PEEL_STATUS, 2, 1⟩
abbrev F.PEEL_STATUS_invalid : Fld := ⟨R.PEEL_STATUS, 1, 1⟩
abbrev F.PEEL_STATUS_far_full : Fld := ⟨R.PEEL_STATUS, 0, 1⟩
/-- R118 -/ abbrev R.PEEL_GUARD : Nat := 0xd010
abbrev F.PEEL_GUARD_g_commit : Fld := ⟨R.PEEL_GUARD, 16, 16⟩
abbrev F.PEEL_GUARD_g_lead : Fld := ⟨R.PEEL_GUARD, 0, 16⟩
/-- R140 -/ abbrev R.PEEL_PROMISE_NTP : Nat := 0xd014
abbrev F.PEEL_PROMISE_NTP : Fld := ⟨R.PEEL_PROMISE_NTP, 0, 16⟩
/-- R140 -/ abbrev R.PEEL_PROMISE_NTS : Nat := 0xd018
abbrev F.PEEL_PROMISE_NTS : Fld := ⟨R.PEEL_PROMISE_NTS, 0, 16⟩
/-- R140 -/ abbrev R.PEEL_PROMISE_PTP : Nat := 0xd01c
abbrev F.PEEL_PROMISE_PTP : Fld := ⟨R.PEEL_PROMISE_PTP, 0, 16⟩
/-- R124 -/ abbrev R.PEEL_BUILD : Nat := 0xd020
abbrev F.PEEL_BUILD_ptp : Fld := ⟨R.PEEL_BUILD, 16, 8⟩
abbrev F.PEEL_BUILD_nts : Fld := ⟨R.PEEL_BUILD, 8, 8⟩
abbrev F.PEEL_BUILD_plain : Fld := ⟨R.PEEL_BUILD, 0, 8⟩
/-- R124 -/ abbrev R.PEEL_SEARCH : Nat := 0xd024
abbrev F.PEEL_SEARCH : Fld := ⟨R.PEEL_SEARCH, 0, 16⟩
/-- R140 -/ abbrev R.PEEL_FAR_USED : Nat := 0xd030
abbrev F.PEEL_FAR_USED : Fld := ⟨R.PEEL_FAR_USED, 0, 26⟩
/-- R140 -/ abbrev R.PEEL_GCL_IDX : Nat := 0xd040
abbrev F.PEEL_GCL_IDX_port : Fld := ⟨R.PEEL_GCL_IDX, 16, 4⟩
abbrev F.PEEL_GCL_IDX_entry : Fld := ⟨R.PEEL_GCL_IDX, 0, 8⟩
/-- R140 -/ abbrev R.PEEL_GCL_LO : Nat := 0xd044
abbrev F.PEEL_GCL_LO : Fld := ⟨R.PEEL_GCL_LO, 0, 32⟩
/-- R140 -/ abbrev R.PEEL_GCL_HI : Nat := 0xd048
abbrev F.PEEL_GCL_HI : Fld := ⟨R.PEEL_GCL_HI, 0, 8⟩
/-- R134 -/ abbrev R.PEEL_GCL_CMD : Nat := 0xd04c
abbrev F.PEEL_GCL_CMD_op : Fld := ⟨R.PEEL_GCL_CMD, 30, 2⟩
abbrev F.PEEL_GCL_CMD_cancel : Fld := ⟨R.PEEL_GCL_CMD, 29, 1⟩
abbrev F.PEEL_GCL_CMD_len : Fld := ⟨R.PEEL_GCL_CMD, 0, 9⟩
/-- R140 -/ abbrev R.PEEL_GCL_CYCLE_NS : Nat := 0xd050
abbrev F.PEEL_GCL_CYCLE_NS : Fld := ⟨R.PEEL_GCL_CYCLE_NS, 0, 32⟩
/-- R140 -/ abbrev R.PEEL_GCL_CYCLE_FRAC : Nat := 0xd054
abbrev F.PEEL_GCL_CYCLE_FRAC : Fld := ⟨R.PEEL_GCL_CYCLE_FRAC, 0, 16⟩
/-- R140 -/ abbrev R.PEEL_GCL_BASE_W (i : Nat) : Nat := 0xd058 + 4 * i
abbrev F.PEEL_GCL_BASE_W (i : Nat) : Fld := ⟨(R.PEEL_GCL_BASE_W i), 0, 32⟩
/-- R140 -/ abbrev R.PEEL_GCL_AT_W (i : Nat) : Nat := 0xd064 + 4 * i
abbrev F.PEEL_GCL_AT_W (i : Nat) : Fld := ⟨(R.PEEL_GCL_AT_W i), 0, 32⟩
/-- R140 -/ abbrev R.PEEL_GCL_RESULT : Nat := 0xd070
abbrev F.PEEL_GCL_RESULT : Fld := ⟨R.PEEL_GCL_RESULT, 0, 4⟩
/-- R140 -/ abbrev R.PEEL_GCL_HANDLE : Nat := 0xd074
abbrev F.PEEL_GCL_HANDLE : Fld := ⟨R.PEEL_GCL_HANDLE, 0, 32⟩
/-- R140 -/ abbrev R.PEEL_P_CTL (n : Nat) : Nat := 0xd100 + 0x40 * n
abbrev F.PEEL_P_CTL_gate_en (n : Nat) : Fld := ⟨(R.PEEL_P_CTL n), 11, 1⟩
abbrev F.PEEL_P_CTL_untag_tc (n : Nat) : Fld := ⟨(R.PEEL_P_CTL n), 8, 3⟩
/-- R140 -/ abbrev R.PEEL_P_STATUS (n : Nat) : Nat := 0xd104 + 0x40 * n
abbrev F.PEEL_P_STATUS_near (n : Nat) : Fld := ⟨(R.PEEL_P_STATUS n), 16, 16⟩
abbrev F.PEEL_P_STATUS_slip (n : Nat) : Fld := ⟨(R.PEEL_P_STATUS n), 3, 1⟩
abbrev F.PEEL_P_STATUS_gate_active (n : Nat) : Fld := ⟨(R.PEEL_P_STATUS n), 2, 1⟩
abbrev F.PEEL_P_STATUS_cal (n : Nat) : Fld := ⟨(R.PEEL_P_STATUS n), 0, 2⟩
/-- R140 -/ abbrev R.PEEL_P_EGR_PHASE (n : Nat) : Nat := 0xd108 + 0x40 * n
abbrev F.PEEL_P_EGR_PHASE (n : Nat) : Fld := ⟨(R.PEEL_P_EGR_PHASE n), 0, 32⟩
/-- R129 -/ abbrev R.PEEL_P_EGR_ADJ (n : Nat) : Nat := 0xd10c + 0x40 * n
abbrev F.PEEL_P_EGR_ADJ (n : Nat) : Fld := ⟨(R.PEEL_P_EGR_ADJ n), 0, 16⟩
/-- R140 -/ abbrev R.PEEL_P_GCL_STATUS (n : Nat) : Nat := 0xd110 + 0x40 * n
abbrev F.PEEL_P_GCL_STATUS_pend (n : Nat) : Fld := ⟨(R.PEEL_P_GCL_STATUS n), 16, 2⟩
abbrev F.PEEL_P_GCL_STATUS_len (n : Nat) : Fld := ⟨(R.PEEL_P_GCL_STATUS n), 0, 9⟩
/-- R173 -/ abbrev R.OVN_NTS_CTL : Nat := 0x19010
abbrev F.OVN_NTS_CTL_enc_ef : Fld := ⟨R.OVN_NTS_CTL, 11, 1⟩
abbrev F.OVN_NTS_CTL_nak_en : Fld := ⟨R.OVN_NTS_CTL, 10, 1⟩
abbrev F.OVN_NTS_CTL_max_ph : Fld := ⟨R.OVN_NTS_CTL, 0, 3⟩
/-- R173 -/ abbrev R.OVN_NAK_RATE : Nat := 0x19014
abbrev F.OVN_NAK_RATE : Fld := ⟨R.OVN_NAK_RATE, 0, 16⟩
/-- R173 -/ abbrev R.OVN_STARTER_STATUS : Nat := 0x19020
abbrev F.OVN_STARTER_STATUS_denied : Fld := ⟨R.OVN_STARTER_STATUS, 8, 1⟩
abbrev F.OVN_STARTER_STATUS_rotated : Fld := ⟨R.OVN_STARTER_STATUS, 7, 1⟩
abbrev F.OVN_STARTER_STATUS_member : Fld := ⟨R.OVN_STARTER_STATUS, 6, 1⟩
abbrev F.OVN_STARTER_STATUS_fault : Fld := ⟨R.OVN_STARTER_STATUS, 5, 1⟩
abbrev F.OVN_STARTER_STATUS_purging : Fld := ⟨R.OVN_STARTER_STATUS, 4, 1⟩
abbrev F.OVN_STARTER_STATUS_priors : Fld := ⟨R.OVN_STARTER_STATUS, 2, 2⟩
abbrev F.OVN_STARTER_STATUS_pending : Fld := ⟨R.OVN_STARTER_STATUS, 1, 1⟩
abbrev F.OVN_STARTER_STATUS_ready : Fld := ⟨R.OVN_STARTER_STATUS, 0, 1⟩
/-- R173 -/ abbrev R.OVN_STARTER_GEN : Nat := 0x19024
abbrev F.OVN_STARTER_GEN : Fld := ⟨R.OVN_STARTER_GEN, 0, 32⟩
/-- R173 -/ abbrev R.OVN_STARTER_NEXT_W (i : Nat) : Nat := 0x19028 + 4 * i
abbrev F.OVN_STARTER_NEXT_W (i : Nat) : Fld := ⟨(R.OVN_STARTER_NEXT_W i), 0, 32⟩
/-- R173 -/ abbrev R.OVN_STARTER_CMD : Nat := 0x19034
abbrev F.OVN_STARTER_CMD_op : Fld := ⟨R.OVN_STARTER_CMD, 30, 2⟩
abbrev F.OVN_STARTER_CMD_cancel : Fld := ⟨R.OVN_STARTER_CMD, 29, 1⟩
/-- R173 -/ abbrev R.OVN_STARTER_AT_W (i : Nat) : Nat := 0x19038 + 4 * i
abbrev F.OVN_STARTER_AT_W (i : Nat) : Fld := ⟨(R.OVN_STARTER_AT_W i), 0, 32⟩
/-- R173 -/ abbrev R.OVN_STARTER_RESULT : Nat := 0x19044
abbrev F.OVN_STARTER_RESULT : Fld := ⟨R.OVN_STARTER_RESULT, 0, 4⟩
/-- R173 -/ abbrev R.OVN_STARTER_HANDLE : Nat := 0x19048
abbrev F.OVN_STARTER_HANDLE : Fld := ⟨R.OVN_STARTER_HANDLE, 0, 32⟩
/-- R173 -/ abbrev R.OVN_STARTER_PERIOD : Nat := 0x1904c
abbrev F.OVN_STARTER_PERIOD : Fld := ⟨R.OVN_STARTER_PERIOD, 0, 20⟩
/-- R173 -/ abbrev R.OVN_STARTER_POLICY : Nat := 0x19050
abbrev F.OVN_STARTER_POLICY_purge_host : Fld := ⟨R.OVN_STARTER_POLICY, 1, 1⟩
abbrev F.OVN_STARTER_POLICY_auto : Fld := ⟨R.OVN_STARTER_POLICY, 0, 1⟩
/-- R173 -/ abbrev R.OVN_KE_CTL : Nat := 0x19060
abbrev F.OVN_KE_CTL_en : Fld := ⟨R.OVN_KE_CTL, 31, 1⟩
abbrev F.OVN_KE_CTL_stop : Fld := ⟨R.OVN_KE_CTL, 30, 1⟩
abbrev F.OVN_KE_CTL_drained : Fld := ⟨R.OVN_KE_CTL, 29, 1⟩
abbrev F.OVN_KE_CTL_per_src : Fld := ⟨R.OVN_KE_CTL, 8, 8⟩
abbrev F.OVN_KE_CTL_cookies : Fld := ⟨R.OVN_KE_CTL, 0, 4⟩
/-- R173 -/ abbrev R.OVN_KE_TIMEOUT : Nat := 0x19064
abbrev F.OVN_KE_TIMEOUT_req : Fld := ⟨R.OVN_KE_TIMEOUT, 16, 16⟩
abbrev F.OVN_KE_TIMEOUT_hs : Fld := ⟨R.OVN_KE_TIMEOUT, 0, 16⟩
/-- R173 -/ abbrev R.OVN_KE_STREAMS : Nat := 0x19068
abbrev F.OVN_KE_STREAMS : Fld := ⟨R.OVN_KE_STREAMS, 0, 19⟩
/-- R173 -/ abbrev R.OVN_KE_TLS : Nat := 0x1906c
abbrev F.OVN_KE_TLS_sig : Fld := ⟨R.OVN_KE_TLS, 8, 3⟩
abbrev F.OVN_KE_TLS_groups : Fld := ⟨R.OVN_KE_TLS, 4, 3⟩
abbrev F.OVN_KE_TLS_suites : Fld := ⟨R.OVN_KE_TLS, 0, 2⟩
/-- R173 -/ abbrev R.OVN_KE_SRV_CTL : Nat := 0x19070
abbrev F.OVN_KE_SRV_CTL_en : Fld := ⟨R.OVN_KE_SRV_CTL, 31, 1⟩
abbrev F.OVN_KE_SRV_CTL_len : Fld := ⟨R.OVN_KE_SRV_CTL, 0, 7⟩
/-- R173 -/ abbrev R.OVN_KE_SRVNAME (i : Nat) : Nat := 0x19080 + 4 * i
abbrev F.OVN_KE_SRVNAME (i : Nat) : Fld := ⟨(R.OVN_KE_SRVNAME i), 0, 32⟩
/-- R197 -/ abbrev R.CLS_PTP_CFG (i : Nat) : Nat := 0x1a800 + 0x80 * i
abbrev F.CLS_PTP_CFG_en (i : Nat) : Fld := ⟨(R.CLS_PTP_CFG i), 31, 1⟩
abbrev F.CLS_PTP_CFG_stop (i : Nat) : Fld := ⟨(R.CLS_PTP_CFG i), 30, 1⟩
abbrev F.CLS_PTP_CFG_drained (i : Nat) : Fld := ⟨(R.CLS_PTP_CFG i), 29, 1⟩
abbrev F.CLS_PTP_CFG_profile (i : Nat) : Fld := ⟨(R.CLS_PTP_CFG i), 26, 3⟩
abbrev F.CLS_PTP_CFG_transport (i : Nat) : Fld := ⟨(R.CLS_PTP_CFG i), 24, 2⟩
abbrev F.CLS_PTP_CFG_l2_addr (i : Nat) : Fld := ⟨(R.CLS_PTP_CFG i), 23, 1⟩
abbrev F.CLS_PTP_CFG_unicast (i : Nat) : Fld := ⟨(R.CLS_PTP_CFG i), 22, 1⟩
abbrev F.CLS_PTP_CFG_osc_cat (i : Nat) : Fld := ⟨(R.CLS_PTP_CFG i), 20, 2⟩
abbrev F.CLS_PTP_CFG_prtc_b (i : Nat) : Fld := ⟨(R.CLS_PTP_CFG i), 19, 1⟩
abbrev F.CLS_PTP_CFG_domain (i : Nat) : Fld := ⟨(R.CLS_PTP_CFG i), 8, 8⟩
/-- R196 -/ abbrev R.CLS_PTP_PORTS (i : Nat) : Nat := 0x1a804 + 0x80 * i
abbrev F.CLS_PTP_PORTS_client (i : Nat) : Fld := ⟨(R.CLS_PTP_PORTS i), 16, 16⟩
abbrev F.CLS_PTP_PORTS_server (i : Nat) : Fld := ⟨(R.CLS_PTP_PORTS i), 0, 16⟩
/-- R196 -/ abbrev R.CLS_PTP_PRIO (i : Nat) : Nat := 0x1a808 + 0x80 * i
abbrev F.CLS_PTP_PRIO_p1 (i : Nat) : Fld := ⟨(R.CLS_PTP_PRIO i), 24, 8⟩
abbrev F.CLS_PTP_PRIO_p2 (i : Nat) : Fld := ⟨(R.CLS_PTP_PRIO i), 16, 8⟩
abbrev F.CLS_PTP_PRIO_local (i : Nat) : Fld := ⟨(R.CLS_PTP_PRIO i), 0, 8⟩
/-- R196 -/ abbrev R.CLS_PTP_ID_LO (i : Nat) : Nat := 0x1a80c + 0x80 * i
abbrev F.CLS_PTP_ID_LO (i : Nat) : Fld := ⟨(R.CLS_PTP_ID_LO i), 0, 32⟩
/-- R196 -/ abbrev R.CLS_PTP_ID_HI (i : Nat) : Nat := 0x1a810 + 0x80 * i
abbrev F.CLS_PTP_ID_HI (i : Nat) : Fld := ⟨(R.CLS_PTP_ID_HI i), 0, 32⟩
/-- R196 -/ abbrev R.CLS_PTP_RATES (i : Nat) : Nat := 0x1a814 + 0x80 * i
abbrev F.CLS_PTP_RATES_timeout (i : Nat) : Fld := ⟨(R.CLS_PTP_RATES i), 24, 8⟩
abbrev F.CLS_PTP_RATES_dreq (i : Nat) : Fld := ⟨(R.CLS_PTP_RATES i), 16, 8⟩
abbrev F.CLS_PTP_RATES_ann (i : Nat) : Fld := ⟨(R.CLS_PTP_RATES i), 8, 8⟩
abbrev F.CLS_PTP_RATES_sync (i : Nat) : Fld := ⟨(R.CLS_PTP_RATES i), 0, 8⟩
/-- R196 -/ abbrev R.CLS_PTP_SYNC (i : Nat) : Nat := 0x1a818 + 0x80 * i
abbrev F.CLS_PTP_SYNC_win (i : Nat) : Fld := ⟨(R.CLS_PTP_SYNC i), 0, 16⟩
/-- R196 -/ abbrev R.CLS_PTP_PHASE (i : Nat) : Nat := 0x1a81c + 0x80 * i
abbrev F.CLS_PTP_PHASE (i : Nat) : Fld := ⟨(R.CLS_PTP_PHASE i), 0, 32⟩
/-- R196 -/ abbrev R.CLS_PTP_UNI (i : Nat) : Nat := 0x1a820 + 0x80 * i
abbrev F.CLS_PTP_UNI_max_dur (i : Nat) : Fld := ⟨(R.CLS_PTP_UNI i), 22, 10⟩
abbrev F.CLS_PTP_UNI_max_grants (i : Nat) : Fld := ⟨(R.CLS_PTP_UNI i), 0, 17⟩
/-- R196 -/ abbrev R.CLS_PTP_VAR (i : Nat) : Nat := 0x1a824 + 0x80 * i
abbrev F.CLS_PTP_VAR_locked (i : Nat) : Fld := ⟨(R.CLS_PTP_VAR i), 16, 16⟩
abbrev F.CLS_PTP_VAR_holdover (i : Nat) : Fld := ⟨(R.CLS_PTP_VAR i), 0, 16⟩
/-- R196 -/ abbrev R.CLS_PTP_SA (i : Nat) : Nat := 0x1a828 + 0x80 * i
abbrev F.CLS_PTP_SA_refslot (i : Nat) : Fld := ⟨(R.CLS_PTP_SA i), 16, 5⟩
abbrev F.CLS_PTP_SA_vlan (i : Nat) : Fld := ⟨(R.CLS_PTP_SA i), 8, 6⟩
abbrev F.CLS_PTP_SA_sa (i : Nat) : Fld := ⟨(R.CLS_PTP_SA i), 0, 8⟩
/-- R197 -/ abbrev R.CLS_PTP_STATUS (i : Nat) : Nat := 0x1a82c + 0x80 * i
abbrev F.CLS_PTP_STATUS_clock_class (i : Nat) : Fld := ⟨(R.CLS_PTP_STATUS i), 24, 8⟩
abbrev F.CLS_PTP_STATUS_clock_acc (i : Nat) : Fld := ⟨(R.CLS_PTP_STATUS i), 16, 8⟩
abbrev F.CLS_PTP_STATUS_err (i : Nat) : Fld := ⟨(R.CLS_PTP_STATUS i), 5, 3⟩
abbrev F.CLS_PTP_STATUS_foreign (i : Nat) : Fld := ⟨(R.CLS_PTP_STATUS i), 4, 1⟩
abbrev F.CLS_PTP_STATUS_upstream (i : Nat) : Fld := ⟨(R.CLS_PTP_STATUS i), 3, 1⟩
/-- R196 -/ abbrev R.CLS_PTP_GRANTS (i : Nat) : Nat := 0x1a830 + 0x80 * i
abbrev F.CLS_PTP_GRANTS (i : Nat) : Fld := ⟨(R.CLS_PTP_GRANTS i), 0, 17⟩
/-- R196 -/ abbrev R.CLS_PTP_C37 (i : Nat) : Nat := 0x1a834 + 0x80 * i
abbrev F.CLS_PTP_C37_atoi_len (i : Nat) : Fld := ⟨(R.CLS_PTP_C37 i), 16, 6⟩
abbrev F.CLS_PTP_C37_gm (i : Nat) : Fld := ⟨(R.CLS_PTP_C37 i), 0, 16⟩
/-- R196 -/ abbrev R.CLS_PTP_UPMAC_LO (i : Nat) : Nat := 0x1a838 + 0x80 * i
abbrev F.CLS_PTP_UPMAC_LO (i : Nat) : Fld := ⟨(R.CLS_PTP_UPMAC_LO i), 0, 32⟩
/-- R196 -/ abbrev R.CLS_PTP_UPMAC_HI (i : Nat) : Nat := 0x1a83c + 0x80 * i
abbrev F.CLS_PTP_UPMAC_HI (i : Nat) : Fld := ⟨(R.CLS_PTP_UPMAC_HI i), 0, 16⟩
/-- R196 -/ abbrev R.CLS_PTP_UP (i j : Nat) : Nat := 0x1a840 + 0x80 * i + 4 * j
abbrev F.CLS_PTP_UP (i j : Nat) : Fld := ⟨(R.CLS_PTP_UP i j), 0, 32⟩
/-- R196 -/ abbrev R.CLS_PTP_ATOI (i j : Nat) : Nat := 0x1a850 + 0x80 * i + 4 * j
abbrev F.CLS_PTP_ATOI (i j : Nat) : Fld := ⟨(R.CLS_PTP_ATOI i j), 0, 32⟩
/-- R197 -/ abbrev R.CLS_PTPP_CTL (n : Nat) : Nat := 0x1ac00 + 0x40 * n
abbrev F.CLS_PTPP_CTL_pd_log (n : Nat) : Fld := ⟨(R.CLS_PTPP_CTL n), 8, 8⟩
abbrev F.CLS_PTPP_CTL_delay (n : Nat) : Fld := ⟨(R.CLS_PTPP_CTL n), 0, 2⟩
/-- R196 -/ abbrev R.CLS_PTPP_EGR_LAT (n : Nat) : Nat := 0x1ac04 + 0x40 * n
abbrev F.CLS_PTPP_EGR_LAT (n : Nat) : Fld := ⟨(R.CLS_PTPP_EGR_LAT n), 0, 32⟩
/-- R196 -/ abbrev R.CLS_PTPP_ING_LAT (n : Nat) : Nat := 0x1ac08 + 0x40 * n
abbrev F.CLS_PTPP_ING_LAT (n : Nat) : Fld := ⟨(R.CLS_PTPP_ING_LAT n), 0, 32⟩
/-- R196 -/ abbrev R.CLS_PTPP_ASYM (n : Nat) : Nat := 0x1ac0c + 0x40 * n
abbrev F.CLS_PTPP_ASYM (n : Nat) : Fld := ⟨(R.CLS_PTPP_ASYM n), 0, 32⟩
/-- R196 -/ abbrev R.CLS_PTPP_MLD (n : Nat) : Nat := 0x1ac10 + 0x40 * n
abbrev F.CLS_PTPP_MLD (n : Nat) : Fld := ⟨(R.CLS_PTPP_MLD n), 0, 32⟩
/-- R202 -/ abbrev R.PORT_CTL (n : Nat) : Nat := 0x10000 + 0x400 * n
abbrev F.PORT_CTL_en (n : Nat) : Fld := ⟨(R.PORT_CTL n), 31, 1⟩
abbrev F.PORT_CTL_stop (n : Nat) : Fld := ⟨(R.PORT_CTL n), 30, 1⟩
abbrev F.PORT_CTL_drained (n : Nat) : Fld := ⟨(R.PORT_CTL n), 29, 1⟩
abbrev F.PORT_CTL_l2ctl_host (n : Nat) : Fld := ⟨(R.PORT_CTL n), 9, 1⟩
abbrev F.PORT_CTL_lpi_en (n : Nat) : Fld := ⟨(R.PORT_CTL n), 8, 1⟩
abbrev F.PORT_CTL_tx_off (n : Nat) : Fld := ⟨(R.PORT_CTL n), 4, 1⟩
abbrev F.PORT_CTL_stat_clr (n : Nat) : Fld := ⟨(R.PORT_CTL n), 0, 1⟩
/-- R202 -/ abbrev R.PORT_MODE (n : Nat) : Nat := 0x10004 + 0x400 * n
abbrev F.PORT_MODE_grp (n : Nat) : Fld := ⟨(R.PORT_MODE n), 16, 2⟩
abbrev F.PORT_MODE_pmd (n : Nat) : Fld := ⟨(R.PORT_MODE n), 12, 2⟩
abbrev F.PORT_MODE_an (n : Nat) : Fld := ⟨(R.PORT_MODE n), 8, 1⟩
abbrev F.PORT_MODE_m16 (n : Nat) : Fld := ⟨(R.PORT_MODE n), 0, 2⟩
/-- R202 -/ abbrev R.PORT_STATUS (n : Nat) : Nat := 0x10008 + 0x400 * n
abbrev F.PORT_STATUS_speed (n : Nat) : Fld := ⟨(R.PORT_STATUS n), 20, 2⟩
abbrev F.PORT_STATUS_cfg_err (n : Nat) : Fld := ⟨(R.PORT_STATUS n), 17, 1⟩
abbrev F.PORT_STATUS_slip (n : Nat) : Fld := ⟨(R.PORT_STATUS n), 16, 1⟩
abbrev F.PORT_STATUS_rx_lpi (n : Nat) : Fld := ⟨(R.PORT_STATUS n), 15, 1⟩
abbrev F.PORT_STATUS_tx_lpi (n : Nat) : Fld := ⟨(R.PORT_STATUS n), 14, 1⟩
abbrev F.PORT_STATUS_rx_cal (n : Nat) : Fld := ⟨(R.PORT_STATUS n), 12, 2⟩
abbrev F.PORT_STATUS_an_done (n : Nat) : Fld := ⟨(R.PORT_STATUS n), 11, 1⟩
abbrev F.PORT_STATUS_fec_lock (n : Nat) : Fld := ⟨(R.PORT_STATUS n), 10, 1⟩
abbrev F.PORT_STATUS_aligned (n : Nat) : Fld := ⟨(R.PORT_STATUS n), 9, 1⟩
abbrev F.PORT_STATUS_remote_fault (n : Nat) : Fld := ⟨(R.PORT_STATUS n), 8, 1⟩
abbrev F.PORT_STATUS_local_fault (n : Nat) : Fld := ⟨(R.PORT_STATUS n), 7, 1⟩
abbrev F.PORT_STATUS_link_chg (n : Nat) : Fld := ⟨(R.PORT_STATUS n), 1, 1⟩
abbrev F.PORT_STATUS_link_up (n : Nat) : Fld := ⟨(R.PORT_STATUS n), 0, 1⟩
/-- R201 -/ abbrev R.PORT_MAC_LO (n : Nat) : Nat := 0x1000c + 0x400 * n
abbrev F.PORT_MAC_LO (n : Nat) : Fld := ⟨(R.PORT_MAC_LO n), 0, 32⟩
/-- R201 -/ abbrev R.PORT_MAC_HI (n : Nat) : Nat := 0x10010 + 0x400 * n
abbrev F.PORT_MAC_HI (n : Nat) : Fld := ⟨(R.PORT_MAC_HI n), 0, 16⟩
/-- R201 -/ abbrev R.PORT_MAXLEN (n : Nat) : Nat := 0x10014 + 0x400 * n
abbrev F.PORT_MAXLEN (n : Nat) : Fld := ⟨(R.PORT_MAXLEN n), 0, 14⟩
/-- R217 -/ abbrev R.PORT_LPI (n : Nat) : Nat := 0x10018 + 0x400 * n
abbrev F.PORT_LPI_tw (n : Nat) : Fld := ⟨(R.PORT_LPI n), 16, 16⟩
abbrev F.PORT_LPI_ts (n : Nat) : Fld := ⟨(R.PORT_LPI n), 4, 12⟩
/-- R201 -/ abbrev R.PORT_ING_ADJ (n : Nat) : Nat := 0x1001c + 0x400 * n
abbrev F.PORT_ING_ADJ (n : Nat) : Fld := ⟨(R.PORT_ING_ADJ n), 0, 16⟩
/-- R220 -/ abbrev R.PORT_SYNCE (n : Nat) : Nat := 0x10020 + 0x400 * n
abbrev F.PORT_SYNCE_ref_en (n : Nat) : Fld := ⟨(R.PORT_SYNCE n), 31, 1⟩
abbrev F.PORT_SYNCE_esmc_en (n : Nat) : Fld := ⟨(R.PORT_SYNCE n), 30, 1⟩
abbrev F.PORT_SYNCE_ext_en (n : Nat) : Fld := ⟨(R.PORT_SYNCE n), 29, 1⟩
abbrev F.PORT_SYNCE_refslot (n : Nat) : Fld := ⟨(R.PORT_SYNCE n), 16, 5⟩
/-- R221 -/ abbrev R.PORT_ESMC_RX (n : Nat) : Nat := 0x10024 + 0x400 * n
abbrev F.PORT_ESMC_RX_ext (n : Nat) : Fld := ⟨(R.PORT_ESMC_RX n), 17, 1⟩
abbrev F.PORT_ESMC_RX_valid (n : Nat) : Fld := ⟨(R.PORT_ESMC_RX n), 16, 1⟩
abbrev F.PORT_ESMC_RX_essm (n : Nat) : Fld := ⟨(R.PORT_ESMC_RX n), 8, 8⟩
abbrev F.PORT_ESMC_RX_ssm (n : Nat) : Fld := ⟨(R.PORT_ESMC_RX n), 0, 4⟩
/-- R201 -/ abbrev R.PORT_ESMC_TX (n : Nat) : Nat := 0x10028 + 0x400 * n
abbrev F.PORT_ESMC_TX_essm (n : Nat) : Fld := ⟨(R.PORT_ESMC_TX n), 8, 8⟩
abbrev F.PORT_ESMC_TX_ssm (n : Nat) : Fld := ⟨(R.PORT_ESMC_TX n), 0, 4⟩
/-- R201 -/ abbrev R.PORT_HALF_LO (n : Nat) : Nat := 0x10030 + 0x400 * n
abbrev F.PORT_HALF_LO (n : Nat) : Fld := ⟨(R.PORT_HALF_LO n), 0, 32⟩
/-- R201 -/ abbrev R.PORT_HALF_HI (n : Nat) : Nat := 0x10034 + 0x400 * n
abbrev F.PORT_HALF_HI (n : Nat) : Fld := ⟨(R.PORT_HALF_HI n), 0, 10⟩
/-- R201 -/ abbrev R.PORT_ING_PHASE (n : Nat) : Nat := 0x10038 + 0x400 * n
abbrev F.PORT_ING_PHASE (n : Nat) : Fld := ⟨(R.PORT_ING_PHASE n), 0, 32⟩
/-- R201 -/ abbrev R.PORT_STAT_LO (n k : Nat) : Nat := 0x10100 + 0x400 * n + 8 * k
abbrev F.PORT_STAT_LO (n k : Nat) : Fld := ⟨(R.PORT_STAT_LO n k), 0, 32⟩
/-- R201 -/ abbrev R.PORT_STAT_HI (n k : Nat) : Nat := 0x10104 + 0x400 * n + 8 * k
abbrev F.PORT_STAT_HI (n k : Nat) : Fld := ⟨(R.PORT_STAT_HI n k), 0, 8⟩
/-- R223 -/ abbrev R.PORT_ESMC_CTL : Nat := 0x17000
abbrev F.PORT_ESMC_CTL_opt : Fld := ⟨R.PORT_ESMC_CTL, 31, 1⟩
abbrev F.PORT_ESMC_CTL_ql_hold : Fld := ⟨R.PORT_ESMC_CTL, 12, 4⟩
abbrev F.PORT_ESMC_CTL_ql_other : Fld := ⟨R.PORT_ESMC_CTL, 8, 4⟩
abbrev F.PORT_ESMC_CTL_essm : Fld := ⟨R.PORT_ESMC_CTL, 0, 8⟩
/-- R201 -/ abbrev R.PORT_ESMC_ID_LO : Nat := 0x17004
abbrev F.PORT_ESMC_ID_LO : Fld := ⟨R.PORT_ESMC_ID_LO, 0, 32⟩
/-- R201 -/ abbrev R.PORT_ESMC_ID_HI : Nat := 0x17008
abbrev F.PORT_ESMC_ID_HI : Fld := ⟨R.PORT_ESMC_ID_HI, 0, 32⟩
/-- R201 -/ abbrev R.PORT_HALF_SUM : Nat := 0x1700c
abbrev F.PORT_HALF_SUM : Fld := ⟨R.PORT_HALF_SUM, 0, 17⟩
/-- R258 -/ abbrev R.REF_CFG (n : Nat) : Nat := 0x9000 + 0x80 * n
abbrev F.REF_CFG_en (n : Nat) : Fld := ⟨(R.REF_CFG n), 31, 1⟩
abbrev F.REF_CFG_stop (n : Nat) : Fld := ⟨(R.REF_CFG n), 30, 1⟩
abbrev F.REF_CFG_drained (n : Nat) : Fld := ⟨(R.REF_CFG n), 29, 1⟩
abbrev F.REF_CFG_type (n : Nat) : Fld := ⟨(R.REF_CFG n), 25, 4⟩
abbrev F.REF_CFG_bw (n : Nat) : Fld := ⟨(R.REF_CFG n), 20, 5⟩
abbrev F.REF_CFG_prio (n : Nat) : Fld := ⟨(R.REF_CFG n), 16, 4⟩
abbrev F.REF_CFG_src (n : Nat) : Fld := ⟨(R.REF_CFG n), 8, 4⟩
abbrev F.REF_CFG_atomic (n : Nat) : Fld := ⟨(R.REF_CFG n), 5, 1⟩
abbrev F.REF_CFG_hold (n : Nat) : Fld := ⟨(R.REF_CFG n), 4, 1⟩
abbrev F.REF_CFG_requal (n : Nat) : Fld := ⟨(R.REF_CFG n), 3, 1⟩
/-- R258 -/ abbrev R.REF_STATUS (n : Nat) : Nat := 0x9004 + 0x80 * n
abbrev F.REF_STATUS_state (n : Nat) : Fld := ⟨(R.REF_STATUS n), 29, 3⟩
abbrev F.REF_STATUS_dq_reason (n : Nat) : Fld := ⟨(R.REF_STATUS n), 27, 2⟩
abbrev F.REF_STATUS_err (n : Nat) : Fld := ⟨(R.REF_STATUS n), 25, 2⟩
abbrev F.REF_STATUS_drift (n : Nat) : Fld := ⟨(R.REF_STATUS n), 24, 1⟩
abbrev F.REF_STATUS_refdis (n : Nat) : Fld := ⟨(R.REF_STATUS n), 23, 1⟩
abbrev F.REF_STATUS_time_kind (n : Nat) : Fld := ⟨(R.REF_STATUS n), 22, 1⟩
abbrev F.REF_STATUS_bw_cap (n : Nat) : Fld := ⟨(R.REF_STATUS n), 21, 1⟩
/-- R258 -/ abbrev R.REF_QUAL (n : Nat) : Nat := 0x9008 + 0x80 * n
abbrev F.REF_QUAL_decl (n : Nat) : Fld := ⟨(R.REF_QUAL n), 28, 4⟩
abbrev F.REF_QUAL_floor (n : Nat) : Fld := ⟨(R.REF_QUAL n), 24, 4⟩
/-- R257 -/ abbrev R.REF_PROOF (n : Nat) : Nat := 0x900c + 0x80 * n
abbrev F.REF_PROOF_time_s (n : Nat) : Fld := ⟨(R.REF_PROOF n), 16, 16⟩
abbrev F.REF_PROOF_freq_s (n : Nat) : Fld := ⟨(R.REF_PROOF n), 0, 16⟩
/-- R257 -/ abbrev R.REF_DELAY (n : Nat) : Nat := 0x9010 + 0x80 * n
abbrev F.REF_DELAY (n : Nat) : Fld := ⟨(R.REF_DELAY n), 0, 32⟩
/-- R257 -/ abbrev R.REF_ERR (n : Nat) : Nat := 0x9014 + 0x80 * n
abbrev F.REF_ERR (n : Nat) : Fld := ⟨(R.REF_ERR n), 0, 32⟩
/-- R260 -/ abbrev R.REF_TOD (n : Nat) : Nat := 0x9018 + 0x80 * n
abbrev F.REF_TOD_label (n : Nat) : Fld := ⟨(R.REF_TOD n), 8, 1⟩
abbrev F.REF_TOD_baud (n : Nat) : Fld := ⟨(R.REF_TOD n), 5, 3⟩
abbrev F.REF_TOD_fmt (n : Nat) : Fld := ⟨(R.REF_TOD n), 3, 2⟩
abbrev F.REF_TOD_tin (n : Nat) : Fld := ⟨(R.REF_TOD n), 0, 3⟩
/-- R257 -/ abbrev R.REF_NOMF (n : Nat) : Nat := 0x901c + 0x80 * n
abbrev F.REF_NOMF (n : Nat) : Fld := ⟨(R.REF_NOMF n), 0, 32⟩
/-- R257 -/ abbrev R.REF_RANK (n : Nat) : Nat := 0x9020 + 0x80 * n
abbrev F.REF_RANK_code (n : Nat) : Fld := ⟨(R.REF_RANK n), 8, 8⟩
abbrev F.REF_RANK_derived (n : Nat) : Fld := ⟨(R.REF_RANK n), 4, 4⟩
abbrev F.REF_RANK_used (n : Nat) : Fld := ⟨(R.REF_RANK n), 0, 4⟩
/-- R257 -/ abbrev R.REF_CODE (n : Nat) : Nat := 0x9024 + 0x80 * n
abbrev F.REF_CODE (n : Nat) : Fld := ⟨(R.REF_CODE n), 0, 32⟩
/-- R257 -/ abbrev R.REF_PHASE_LO (n : Nat) : Nat := 0x9028 + 0x80 * n
abbrev F.REF_PHASE_LO (n : Nat) : Fld := ⟨(R.REF_PHASE_LO n), 0, 32⟩
/-- R257 -/ abbrev R.REF_PHASE_HI (n : Nat) : Nat := 0x902c + 0x80 * n
abbrev F.REF_PHASE_HI (n : Nat) : Fld := ⟨(R.REF_PHASE_HI n), 0, 32⟩
/-- R257 -/ abbrev R.REF_FREQ (n : Nat) : Nat := 0x9030 + 0x80 * n
abbrev F.REF_FREQ (n : Nat) : Fld := ⟨(R.REF_FREQ n), 0, 32⟩
/-- R257 -/ abbrev R.REF_DRIFT (n : Nat) : Nat := 0x9034 + 0x80 * n
abbrev F.REF_DRIFT (n : Nat) : Fld := ⟨(R.REF_DRIFT n), 0, 32⟩
/-- R257 -/ abbrev R.REF_NOISE (n : Nat) : Nat := 0x9038 + 0x80 * n
abbrev F.REF_NOISE (n : Nat) : Fld := ⟨(R.REF_NOISE n), 0, 32⟩
/-- R257 -/ abbrev R.REF_PROOF_T (n : Nat) : Nat := 0x903c + 0x80 * n
abbrev F.REF_PROOF_T_restarts (n : Nat) : Fld := ⟨(R.REF_PROOF_T n), 16, 16⟩
abbrev F.REF_PROOF_T_secs (n : Nat) : Fld := ⟨(R.REF_PROOF_T n), 0, 16⟩
/-- R258 -/ abbrev R.REF_EVT (n : Nat) : Nat := 0x9040 + 0x80 * n
abbrev F.REF_EVT_loss (n : Nat) : Fld := ⟨(R.REF_EVT n), 5, 1⟩
abbrev F.REF_EVT_glitch (n : Nat) : Fld := ⟨(R.REF_EVT n), 4, 1⟩
abbrev F.REF_EVT_proof_restart (n : Nat) : Fld := ⟨(R.REF_EVT n), 3, 1⟩
abbrev F.REF_EVT_drift (n : Nat) : Fld := ⟨(R.REF_EVT n), 2, 1⟩
abbrev F.REF_EVT_refdis (n : Nat) : Fld := ⟨(R.REF_EVT n), 1, 1⟩
abbrev F.REF_EVT_state_chg (n : Nat) : Fld := ⟨(R.REF_EVT n), 0, 1⟩
/-- R257 -/ abbrev R.REF_ERR_RPT (n : Nat) : Nat := 0x9044 + 0x80 * n
abbrev F.REF_ERR_RPT (n : Nat) : Fld := ⟨(R.REF_ERR_RPT n), 0, 32⟩
/-- R257 -/ abbrev R.REF_NTP_ADDR (n j : Nat) : Nat := 0x9050 + 0x80 * n + 4 * j
abbrev F.REF_NTP_ADDR (n j : Nat) : Fld := ⟨(R.REF_NTP_ADDR n j), 0, 32⟩
/-- R257 -/ abbrev R.REF_NTP_CTL (n : Nat) : Nat := 0x9060 + 0x80 * n
abbrev F.REF_NTP_CTL_port (n : Nat) : Fld := ⟨(R.REF_NTP_CTL n), 16, 4⟩
abbrev F.REF_NTP_CTL_poll (n : Nat) : Fld := ⟨(R.REF_NTP_CTL n), 8, 4⟩
abbrev F.REF_NTP_CTL_sa (n : Nat) : Fld := ⟨(R.REF_NTP_CTL n), 0, 8⟩
/-- R257 -/ abbrev R.REF_NTP_MAC_LO (n : Nat) : Nat := 0x9064 + 0x80 * n
abbrev F.REF_NTP_MAC_LO (n : Nat) : Fld := ⟨(R.REF_NTP_MAC_LO n), 0, 32⟩
/-- R257 -/ abbrev R.REF_NTP_MAC_HI (n : Nat) : Nat := 0x9068 + 0x80 * n
abbrev F.REF_NTP_MAC_HI (n : Nat) : Fld := ⟨(R.REF_NTP_MAC_HI n), 0, 16⟩
/-- R261 -/ abbrev R.TB_SEL_CTL : Nat := 0x8200
abbrev F.TB_SEL_CTL_revert : Fld := ⟨R.TB_SEL_CTL, 31, 1⟩
abbrev F.TB_SEL_CTL_force_en : Fld := ⟨R.TB_SEL_CTL, 30, 1⟩
abbrev F.TB_SEL_CTL_force_slot : Fld := ⟨R.TB_SEL_CTL, 24, 5⟩
abbrev F.TB_SEL_CTL_dq_hold : Fld := ⟨R.TB_SEL_CTL, 0, 16⟩
/-- R261 -/ abbrev R.TB_SEL_STATUS : Nat := 0x8204
abbrev F.TB_SEL_STATUS_mode : Fld := ⟨R.TB_SEL_STATUS, 29, 3⟩
abbrev F.TB_SEL_STATUS_slot : Fld := ⟨R.TB_SEL_STATUS, 24, 5⟩
abbrev F.TB_SEL_STATUS_primary : Fld := ⟨R.TB_SEL_STATUS, 23, 1⟩
abbrev F.TB_SEL_STATUS_widen_dis : Fld := ⟨R.TB_SEL_STATUS, 22, 1⟩
abbrev F.TB_SEL_STATUS_widen_drift : Fld := ⟨R.TB_SEL_STATUS, 21, 1⟩
abbrev F.TB_SEL_STATUS_step_pending : Fld := ⟨R.TB_SEL_STATUS, 20, 1⟩
abbrev F.TB_SEL_STATUS_slewing : Fld := ⟨R.TB_SEL_STATUS, 19, 1⟩
abbrev F.TB_SEL_STATUS_rank : Fld := ⟨R.TB_SEL_STATUS, 0, 4⟩
/-- R261 -/ abbrev R.TB_DPLL_CTL : Nat := 0x8208
abbrev F.TB_DPLL_CTL_acq_en : Fld := ⟨R.TB_DPLL_CTL, 31, 1⟩
abbrev F.TB_DPLL_CTL_acq_bw : Fld := ⟨R.TB_DPLL_CTL, 24, 5⟩
abbrev F.TB_DPLL_CTL_damp : Fld := ⟨R.TB_DPLL_CTL, 16, 3⟩
abbrev F.TB_DPLL_CTL_acq_thr : Fld := ⟨R.TB_DPLL_CTL, 0, 16⟩
/-- R261 -/ abbrev R.TB_AGREE : Nat := 0x820c
abbrev F.TB_AGREE_win : Fld := ⟨R.TB_AGREE, 16, 16⟩
abbrev F.TB_AGREE_lim : Fld := ⟨R.TB_AGREE, 0, 16⟩
/-- R261 -/ abbrev R.TB_DRIFT : Nat := 0x8210
abbrev F.TB_DRIFT_hard : Fld := ⟨R.TB_DRIFT, 16, 16⟩
abbrev F.TB_DRIFT_soft : Fld := ⟨R.TB_DRIFT, 0, 16⟩
/-- R261 -/ abbrev R.TB_XTOL : Nat := 0x8214
abbrev F.TB_XTOL : Fld := ⟨R.TB_XTOL, 0, 32⟩
/-- R261 -/ abbrev R.TB_HOLD_CTL : Nat := 0x8218
abbrev F.TB_HOLD_CTL_policy : Fld := ⟨R.TB_HOLD_CTL, 31, 1⟩
abbrev F.TB_HOLD_CTL_avg : Fld := ⟨R.TB_HOLD_CTL, 0, 16⟩
/-- R261 -/ abbrev R.TB_HOLD_BUDGET : Nat := 0x821c
abbrev F.TB_HOLD_BUDGET : Fld := ⟨R.TB_HOLD_BUDGET, 0, 32⟩
/-- R261 -/ abbrev R.TB_STEP_CTL : Nat := 0x8220
abbrev F.TB_STEP_CTL_allow : Fld := ⟨R.TB_STEP_CTL, 31, 1⟩
abbrev F.TB_STEP_CTL_slew : Fld := ⟨R.TB_STEP_CTL, 24, 3⟩
abbrev F.TB_STEP_CTL_thr : Fld := ⟨R.TB_STEP_CTL, 0, 20⟩
/-- R261 -/ abbrev R.TB_OSC_AGE : Nat := 0x8230
abbrev F.TB_OSC_AGE : Fld := ⟨R.TB_OSC_AGE, 0, 32⟩
/-- R261 -/ abbrev R.TB_OSC_AGE_TOL : Nat := 0x8234
abbrev F.TB_OSC_AGE_TOL : Fld := ⟨R.TB_OSC_AGE_TOL, 0, 32⟩
/-- R261 -/ abbrev R.TB_OSC_NOISE : Nat := 0x8238
abbrev F.TB_OSC_NOISE : Fld := ⟨R.TB_OSC_NOISE, 0, 32⟩
/-- R261 -/ abbrev R.TB_OSC_CTL : Nat := 0x823c
abbrev F.TB_OSC_CTL_anchored : Fld := ⟨R.TB_OSC_CTL, 1, 1⟩
abbrev F.TB_OSC_CTL_reanchor : Fld := ⟨R.TB_OSC_CTL, 0, 1⟩
/-- R261 -/ abbrev R.TB_ERR_EST_LO : Nat := 0x8240
abbrev F.TB_ERR_EST_LO : Fld := ⟨R.TB_ERR_EST_LO, 0, 32⟩
/-- R261 -/ abbrev R.TB_ERR_EST_HI : Nat := 0x8244
abbrev F.TB_ERR_EST_HI : Fld := ⟨R.TB_ERR_EST_HI, 0, 16⟩
/-- R261 -/ abbrev R.TB_ERR_WIDEN : Nat := 0x8248
abbrev F.TB_ERR_WIDEN : Fld := ⟨R.TB_ERR_WIDEN, 0, 32⟩
/-- R261 -/ abbrev R.TB_HOLD_TIME : Nat := 0x824c
abbrev F.TB_HOLD_TIME : Fld := ⟨R.TB_HOLD_TIME, 0, 32⟩
/-- R261 -/ abbrev R.TB_HOLD_LEFT : Nat := 0x8250
abbrev F.TB_HOLD_LEFT : Fld := ⟨R.TB_HOLD_LEFT, 0, 32⟩
/-- R261 -/ abbrev R.TB_STEER : Nat := 0x8254
abbrev F.TB_STEER : Fld := ⟨R.TB_STEER, 0, 32⟩
/-- R292 -/ abbrev R.GNSS_CTL : Nat := 0x1c000
abbrev F.GNSS_CTL_en : Fld := ⟨R.GNSS_CTL, 31, 1⟩
abbrev F.GNSS_CTL_stop : Fld := ⟨R.GNSS_CTL, 30, 1⟩
abbrev F.GNSS_CTL_drained : Fld := ⟨R.GNSS_CTL, 29, 1⟩
abbrev F.GNSS_CTL_mode : Fld := ⟨R.GNSS_CTL, 24, 2⟩
abbrev F.GNSS_CTL_cal_commit : Fld := ⟨R.GNSS_CTL, 8, 1⟩
abbrev F.GNSS_CTL_bds : Fld := ⟨R.GNSS_CTL, 2, 1⟩
abbrev F.GNSS_CTL_gal : Fld := ⟨R.GNSS_CTL, 1, 1⟩
abbrev F.GNSS_CTL_gps : Fld := ⟨R.GNSS_CTL, 0, 1⟩
/-- R292 -/ abbrev R.GNSS_STATUS : Nat := 0x1c004
abbrev F.GNSS_STATUS_clk_ok : Fld := ⟨R.GNSS_STATUS, 31, 1⟩
abbrev F.GNSS_STATUS_ga_fault : Fld := ⟨R.GNSS_STATUS, 30, 1⟩
abbrev F.GNSS_STATUS_gb_fault : Fld := ⟨R.GNSS_STATUS, 29, 1⟩
abbrev F.GNSS_STATUS_level_alarm : Fld := ⟨R.GNSS_STATUS, 28, 1⟩
abbrev F.GNSS_STATUS_utc_conflict : Fld := ⟨R.GNSS_STATUS, 27, 1⟩
abbrev F.GNSS_STATUS_snap_busy : Fld := ⟨R.GNSS_STATUS, 26, 1⟩
abbrev F.GNSS_STATUS_tracking : Fld := ⟨R.GNSS_STATUS, 8, 8⟩
abbrev F.GNSS_STATUS_sats : Fld := ⟨R.GNSS_STATUS, 0, 8⟩
/-- R292 -/ abbrev R.GNSS_PORT_CTL : Nat := 0x1c008
abbrev F.GNSS_PORT_CTL_ga_en : Fld := ⟨R.GNSS_PORT_CTL, 31, 1⟩
abbrev F.GNSS_PORT_CTL_gb_en : Fld := ⟨R.GNSS_PORT_CTL, 30, 1⟩
abbrev F.GNSS_PORT_CTL_delay : Fld := ⟨R.GNSS_PORT_CTL, 12, 4⟩
abbrev F.GNSS_PORT_CTL_lat : Fld := ⟨R.GNSS_PORT_CTL, 0, 4⟩
/-- R292 -/ abbrev R.GNSS_IF_B1 : Nat := 0x1c00c
abbrev F.GNSS_IF_B1 : Fld := ⟨R.GNSS_IF_B1, 0, 32⟩
/-- R292 -/ abbrev R.GNSS_IF_B5 : Nat := 0x1c010
abbrev F.GNSS_IF_B5 : Fld := ⟨R.GNSS_IF_B5, 0, 32⟩
/-- R292 -/ abbrev R.GNSS_LEVEL : Nat := 0x1c014
abbrev F.GNSS_LEVEL : Fld := ⟨R.GNSS_LEVEL, 0, 32⟩
/-- R292 -/ abbrev R.GNSS_CLIP : Nat := 0x1c018
abbrev F.GNSS_CLIP : Fld := ⟨R.GNSS_CLIP, 0, 32⟩
/-- R292 -/ abbrev R.GNSS_CHAN_CTL : Nat := 0x1c020
abbrev F.GNSS_CHAN_CTL_gb_max : Fld := ⟨R.GNSS_CHAN_CTL, 0, 8⟩
/-- R292 -/ abbrev R.GNSS_ACQ_CTL : Nat := 0x1c024
abbrev F.GNSS_ACQ_CTL_win : Fld := ⟨R.GNSS_ACQ_CTL, 16, 16⟩
abbrev F.GNSS_ACQ_CTL_thr : Fld := ⟨R.GNSS_ACQ_CTL, 0, 8⟩
/-- R292 -/ abbrev R.GNSS_TRK_CTL : Nat := 0x1c028
abbrev F.GNSS_TRK_CTL_pll_bw : Fld := ⟨R.GNSS_TRK_CTL, 24, 8⟩
abbrev F.GNSS_TRK_CTL_dll_bw : Fld := ⟨R.GNSS_TRK_CTL, 16, 8⟩
abbrev F.GNSS_TRK_CTL_sp1 : Fld := ⟨R.GNSS_TRK_CTL, 8, 8⟩
abbrev F.GNSS_TRK_CTL_sp5 : Fld := ⟨R.GNSS_TRK_CTL, 0, 8⟩
/-- R292 -/ abbrev R.GNSS_SOL_CTL : Nat := 0x1c030
abbrev F.GNSS_SOL_CTL_tsys : Fld := ⟨R.GNSS_SOL_CTL, 30, 2⟩
abbrev F.GNSS_SOL_CTL_utc_steer : Fld := ⟨R.GNSS_SOL_CTL, 29, 1⟩
abbrev F.GNSS_SOL_CTL_mask : Fld := ⟨R.GNSS_SOL_CTL, 16, 8⟩
abbrev F.GNSS_SOL_CTL_cn0_min : Fld := ⟨R.GNSS_SOL_CTL, 8, 8⟩
abbrev F.GNSS_SOL_CTL_smooth : Fld := ⟨R.GNSS_SOL_CTL, 0, 8⟩
/-- R292 -/ abbrev R.GNSS_SOL_STATUS : Nat := 0x1c034
abbrev F.GNSS_SOL_STATUS_pos_src : Fld := ⟨R.GNSS_SOL_STATUS, 30, 2⟩
abbrev F.GNSS_SOL_STATUS_integrity : Fld := ⟨R.GNSS_SOL_STATUS, 28, 2⟩
abbrev F.GNSS_SOL_STATUS_valid : Fld := ⟨R.GNSS_SOL_STATUS, 27, 1⟩
abbrev F.GNSS_SOL_STATUS_excl : Fld := ⟨R.GNSS_SOL_STATUS, 16, 8⟩
abbrev F.GNSS_SOL_STATUS_used : Fld := ⟨R.GNSS_SOL_STATUS, 8, 8⟩
abbrev F.GNSS_SOL_STATUS_rank : Fld := ⟨R.GNSS_SOL_STATUS, 4, 4⟩
/-- R292 -/ abbrev R.GNSS_RAIM : Nat := 0x1c038
abbrev F.GNSS_RAIM_alarm : Fld := ⟨R.GNSS_RAIM, 16, 16⟩
abbrev F.GNSS_RAIM_k : Fld := ⟨R.GNSS_RAIM, 8, 8⟩
abbrev F.GNSS_RAIM_max_excl : Fld := ⟨R.GNSS_RAIM, 0, 4⟩
/-- R292 -/ abbrev R.GNSS_SOL_ERR : Nat := 0x1c03c
abbrev F.GNSS_SOL_ERR : Fld := ⟨R.GNSS_SOL_ERR, 0, 32⟩
/-- R292 -/ abbrev R.GNSS_DLY (i : Nat) : Nat := 0x1c040 + 4 * i
abbrev F.GNSS_DLY (i : Nat) : Fld := ⟨(R.GNSS_DLY i), 0, 32⟩
/-- R292 -/ abbrev R.GNSS_ISB (i : Nat) : Nat := 0x1c050 + 4 * i
abbrev F.GNSS_ISB (i : Nat) : Fld := ⟨(R.GNSS_ISB i), 0, 32⟩
/-- R292 -/ abbrev R.GNSS_CAL_UNC : Nat := 0x1c058
abbrev F.GNSS_CAL_UNC : Fld := ⟨R.GNSS_CAL_UNC, 0, 32⟩
/-- R292 -/ abbrev R.GNSS_POS_LO (a : Nat) : Nat := 0x1c060 + 8 * a
abbrev F.GNSS_POS_LO (a : Nat) : Fld := ⟨(R.GNSS_POS_LO a), 0, 32⟩
/-- R292 -/ abbrev R.GNSS_POS_HI (a : Nat) : Nat := 0x1c064 + 8 * a
abbrev F.GNSS_POS_HI (a : Nat) : Fld := ⟨(R.GNSS_POS_HI a), 0, 8⟩
/-- R292 -/ abbrev R.GNSS_BASE (a : Nat) : Nat := 0x1c078 + 4 * a
abbrev F.GNSS_BASE (a : Nat) : Fld := ⟨(R.GNSS_BASE a), 0, 32⟩
/-- R292 -/ abbrev R.GNSS_SURVEY : Nat := 0x1c084
abbrev F.GNSS_SURVEY_start : Fld := ⟨R.GNSS_SURVEY, 31, 1⟩
abbrev F.GNSS_SURVEY_abort : Fld := ⟨R.GNSS_SURVEY, 30, 1⟩
abbrev F.GNSS_SURVEY_auto : Fld := ⟨R.GNSS_SURVEY, 29, 1⟩
abbrev F.GNSS_SURVEY_dur : Fld := ⟨R.GNSS_SURVEY, 0, 20⟩
/-- R292 -/ abbrev R.GNSS_SURVEY_STATUS : Nat := 0x1c088
abbrev F.GNSS_SURVEY_STATUS_sigma : Fld := ⟨R.GNSS_SURVEY_STATUS, 24, 8⟩
abbrev F.GNSS_SURVEY_STATUS_epochs : Fld := ⟨R.GNSS_SURVEY_STATUS, 0, 20⟩
/-- R292 -/ abbrev R.GNSS_SPOOF_CTL : Nat := 0x1c090
abbrev F.GNSS_SPOOF_CTL_en : Fld := ⟨R.GNSS_SPOOF_CTL, 31, 1⟩
abbrev F.GNSS_SPOOF_CTL_sealed_geom : Fld := ⟨R.GNSS_SPOOF_CTL, 30, 1⟩
abbrev F.GNSS_SPOOF_CTL_fail_thr : Fld := ⟨R.GNSS_SPOOF_CTL, 16, 8⟩
abbrev F.GNSS_SPOOF_CTL_pass_thr : Fld := ⟨R.GNSS_SPOOF_CTL, 8, 8⟩
abbrev F.GNSS_SPOOF_CTL_ss_thr : Fld := ⟨R.GNSS_SPOOF_CTL, 0, 8⟩
/-- R292 -/ abbrev R.GNSS_SPOOF_STATUS : Nat := 0x1c094
abbrev F.GNSS_SPOOF_STATUS_state : Fld := ⟨R.GNSS_SPOOF_STATUS, 30, 2⟩
abbrev F.GNSS_SPOOF_STATUS_alarm : Fld := ⟨R.GNSS_SPOOF_STATUS, 29, 1⟩
abbrev F.GNSS_SPOOF_STATUS_single : Fld := ⟨R.GNSS_SPOOF_STATUS, 28, 1⟩
abbrev F.GNSS_SPOOF_STATUS_n : Fld := ⟨R.GNSS_SPOOF_STATUS, 16, 8⟩
abbrev F.GNSS_SPOOF_STATUS_rho : Fld := ⟨R.GNSS_SPOOF_STATUS, 0, 16⟩
/-- R296 -/ abbrev R.GNSS_SNAP_CTL : Nat := 0x1c0a0
abbrev F.GNSS_SNAP_CTL_periodic : Fld := ⟨R.GNSS_SNAP_CTL, 31, 1⟩
abbrev F.GNSS_SNAP_CTL_op : Fld := ⟨R.GNSS_SNAP_CTL, 29, 2⟩
abbrev F.GNSS_SNAP_CTL_cancel : Fld := ⟨R.GNSS_SNAP_CTL, 28, 1⟩
abbrev F.GNSS_SNAP_CTL_period : Fld := ⟨R.GNSS_SNAP_CTL, 16, 12⟩
abbrev F.GNSS_SNAP_CTL_forensic : Fld := ⟨R.GNSS_SNAP_CTL, 8, 1⟩
abbrev F.GNSS_SNAP_CTL_solve : Fld := ⟨R.GNSS_SNAP_CTL, 7, 1⟩
abbrev F.GNSS_SNAP_CTL_len : Fld := ⟨R.GNSS_SNAP_CTL, 0, 7⟩
/-- R292 -/ abbrev R.GNSS_SNAP_AT_W (i : Nat) : Nat := 0x1c0a4 + 4 * i
abbrev F.GNSS_SNAP_AT_W (i : Nat) : Fld := ⟨(R.GNSS_SNAP_AT_W i), 0, 32⟩
/-- R292 -/ abbrev R.GNSS_SNAP_RESULT : Nat := 0x1c0b0
abbrev F.GNSS_SNAP_RESULT : Fld := ⟨R.GNSS_SNAP_RESULT, 0, 4⟩
/-- R292 -/ abbrev R.GNSS_SNAP_HANDLE : Nat := 0x1c0b4
abbrev F.GNSS_SNAP_HANDLE : Fld := ⟨R.GNSS_SNAP_HANDLE, 0, 32⟩
/-- R292 -/ abbrev R.GNSS_SNAP_RES : Nat := 0x1c0b8
abbrev F.GNSS_SNAP_RES : Fld := ⟨R.GNSS_SNAP_RES, 0, 32⟩
/-- R292 -/ abbrev R.GNSS_MEAS_CTL : Nat := 0x1c0c0
abbrev F.GNSS_MEAS_CTL_en : Fld := ⟨R.GNSS_MEAS_CTL, 31, 1⟩
abbrev F.GNSS_MEAS_CTL_gb : Fld := ⟨R.GNSS_MEAS_CTL, 30, 1⟩
abbrev F.GNSS_MEAS_CTL_ring : Fld := ⟨R.GNSS_MEAS_CTL, 0, 8⟩
/-- R292 -/ abbrev R.GNSS_UTC : Nat := 0x1c0c4
abbrev F.GNSS_UTC_gps : Fld := ⟨R.GNSS_UTC, 24, 8⟩
abbrev F.GNSS_UTC_gal : Fld := ⟨R.GNSS_UTC, 16, 8⟩
abbrev F.GNSS_UTC_bds : Fld := ⟨R.GNSS_UTC, 8, 8⟩
/-- R322 -/ abbrev R.TIC_STATUS : Nat := 0xa000
abbrev F.TIC_STATUS_valid : Fld := ⟨R.TIC_STATUS, 16, 9⟩
abbrev F.TIC_STATUS_rec_drop : Fld := ⟨R.TIC_STATUS, 2, 1⟩
abbrev F.TIC_STATUS_cal_fail : Fld := ⟨R.TIC_STATUS, 1, 1⟩
abbrev F.TIC_STATUS_cal_busy : Fld := ⟨R.TIC_STATUS, 0, 1⟩
/-- R322 -/ abbrev R.TIC_CAL_CTL : Nat := 0xa004
abbrev F.TIC_CAL_CTL_start : Fld := ⟨R.TIC_CAL_CTL, 31, 1⟩
abbrev F.TIC_CAL_CTL_auto : Fld := ⟨R.TIC_CAL_CTL, 30, 1⟩
abbrev F.TIC_CAL_CTL_temp : Fld := ⟨R.TIC_CAL_CTL, 20, 4⟩
abbrev F.TIC_CAL_CTL_period : Fld := ⟨R.TIC_CAL_CTL, 0, 16⟩
/-- R322 -/ abbrev R.TIC_CAL_STATUS : Nat := 0xa008
abbrev F.TIC_CAL_STATUS_err : Fld := ⟨R.TIC_CAL_STATUS, 29, 3⟩
abbrev F.TIC_CAL_STATUS_chan : Fld := ⟨R.TIC_CAL_STATUS, 25, 4⟩
abbrev F.TIC_CAL_STATUS_line : Fld := ⟨R.TIC_CAL_STATUS, 24, 1⟩
abbrev F.TIC_CAL_STATUS_age : Fld := ⟨R.TIC_CAL_STATUS, 0, 16⟩
/-- R320 -/ abbrev R.TIC_RING : Nat := 0xa00c
abbrev F.TIC_RING_en : Fld := ⟨R.TIC_RING, 31, 1⟩
abbrev F.TIC_RING_ring : Fld := ⟨R.TIC_RING, 0, 8⟩
/-- R320 -/ abbrev R.TIC_TBL_IDX : Nat := 0xa010
abbrev F.TIC_TBL_IDX_chan : Fld := ⟨R.TIC_TBL_IDX, 16, 4⟩
abbrev F.TIC_TBL_IDX_line : Fld := ⟨R.TIC_TBL_IDX, 12, 1⟩
abbrev F.TIC_TBL_IDX_entry : Fld := ⟨R.TIC_TBL_IDX, 0, 10⟩
/-- R320 -/ abbrev R.TIC_TBL_DATA : Nat := 0xa014
abbrev F.TIC_TBL_DATA : Fld := ⟨R.TIC_TBL_DATA, 0, 32⟩
/-- R321 -/ abbrev R.TIC_CH_CFG (n : Nat) : Nat := 0xa100 + 0x10 * n
abbrev F.TIC_CH_CFG_en (n : Nat) : Fld := ⟨(R.TIC_CH_CFG n), 31, 1⟩
abbrev F.TIC_CH_CFG_stop (n : Nat) : Fld := ⟨(R.TIC_CH_CFG n), 30, 1⟩
abbrev F.TIC_CH_CFG_drained (n : Nat) : Fld := ⟨(R.TIC_CH_CFG n), 29, 1⟩
abbrev F.TIC_CH_CFG_thr (n : Nat) : Fld := ⟨(R.TIC_CH_CFG n), 16, 10⟩
abbrev F.TIC_CH_CFG_hyst (n : Nat) : Fld := ⟨(R.TIC_CH_CFG n), 14, 2⟩
abbrev F.TIC_CH_CFG_term (n : Nat) : Fld := ⟨(R.TIC_CH_CFG n), 13, 1⟩
abbrev F.TIC_CH_CFG_slope (n : Nat) : Fld := ⟨(R.TIC_CH_CFG n), 12, 1⟩
abbrev F.TIC_CH_CFG_presc (n : Nat) : Fld := ⟨(R.TIC_CH_CFG n), 9, 3⟩
abbrev F.TIC_CH_CFG_host_rec (n : Nat) : Fld := ⟨(R.TIC_CH_CFG n), 8, 1⟩
abbrev F.TIC_CH_CFG_dec (n : Nat) : Fld := ⟨(R.TIC_CH_CFG n), 4, 4⟩
/-- R320 -/ abbrev R.TIC_CH_DELAY (n : Nat) : Nat := 0xa104 + 0x10 * n
abbrev F.TIC_CH_DELAY (n : Nat) : Fld := ⟨(R.TIC_CH_DELAY n), 0, 32⟩
/-- R320 -/ abbrev R.TIC_CH_STAT (n : Nat) : Nat := 0xa108 + 0x10 * n
abbrev F.TIC_CH_STAT_line (n : Nat) : Fld := ⟨(R.TIC_CH_STAT n), 31, 1⟩
abbrev F.TIC_CH_STAT_va (n : Nat) : Fld := ⟨(R.TIC_CH_STAT n), 30, 1⟩
abbrev F.TIC_CH_STAT_vb (n : Nat) : Fld := ⟨(R.TIC_CH_STAT n), 29, 1⟩
abbrev F.TIC_CH_STAT_lost (n : Nat) : Fld := ⟨(R.TIC_CH_STAT n), 0, 8⟩
/-- R322 -/ abbrev R.TIC_PAIR_CFG (p : Nat) : Nat := 0xa200 + 0x10 * p
abbrev F.TIC_PAIR_CFG_en (p : Nat) : Fld := ⟨(R.TIC_PAIR_CFG p), 31, 1⟩
abbrev F.TIC_PAIR_CFG_stop (p : Nat) : Fld := ⟨(R.TIC_PAIR_CFG p), 30, 1⟩
abbrev F.TIC_PAIR_CFG_drained (p : Nat) : Fld := ⟨(R.TIC_PAIR_CFG p), 29, 1⟩
abbrev F.TIC_PAIR_CFG_single (p : Nat) : Fld := ⟨(R.TIC_PAIR_CFG p), 8, 1⟩
abbrev F.TIC_PAIR_CFG_first_ch (p : Nat) : Fld := ⟨(R.TIC_PAIR_CFG p), 4, 3⟩
abbrev F.TIC_PAIR_CFG_last_ch (p : Nat) : Fld := ⟨(R.TIC_PAIR_CFG p), 0, 3⟩
/-- R320 -/ abbrev R.TIC_PAIR_LAST_LO (p : Nat) : Nat := 0xa204 + 0x10 * p
abbrev F.TIC_PAIR_LAST_LO (p : Nat) : Fld := ⟨(R.TIC_PAIR_LAST_LO p), 0, 32⟩
/-- R320 -/ abbrev R.TIC_PAIR_LAST_HI (p : Nat) : Nat := 0xa208 + 0x10 * p
abbrev F.TIC_PAIR_LAST_HI (p : Nat) : Fld := ⟨(R.TIC_PAIR_LAST_HI p), 0, 32⟩
/-- R320 -/ abbrev R.TIC_PAIR_FLAGS (p : Nat) : Nat := 0xa20c + 0x10 * p
abbrev F.TIC_PAIR_FLAGS (p : Nat) : Fld := ⟨(R.TIC_PAIR_FLAGS p), 0, 5⟩
/-- R345 -/ abbrev R.PWR_PLL_STATUS : Nat := 0x1010
abbrev F.PWR_PLL_STATUS : Fld := ⟨R.PWR_PLL_STATUS, 0, 32⟩
/-- R345 -/ abbrev R.PWR_PLL_EVT : Nat := 0x1014
abbrev F.PWR_PLL_EVT : Fld := ⟨R.PWR_PLL_EVT, 0, 32⟩
/-- R345 -/ abbrev R.TB_OSCIN_CFG : Nat := 0x8300
abbrev F.TB_OSCIN_CFG_freq : Fld := ⟨R.TB_OSCIN_CFG, 30, 2⟩
abbrev F.TB_OSCIN_CFG_warm_ign : Fld := ⟨R.TB_OSCIN_CFG, 29, 1⟩
abbrev F.TB_OSCIN_CFG_warm_min : Fld := ⟨R.TB_OSCIN_CFG, 0, 12⟩
/-- R345 -/ abbrev R.TB_TBC : Nat := 0x8304
abbrev F.TB_TBC_manual : Fld := ⟨R.TB_TBC, 31, 1⟩
/-- R345 -/ abbrev R.TB_TBS : Nat := 0x8308
abbrev F.TB_TBS_state : Fld := ⟨R.TB_TBS, 29, 3⟩
abbrev F.TB_TBS_warm_lost : Fld := ⟨R.TB_TBS, 28, 1⟩
abbrev F.TB_TBS_restored : Fld := ⟨R.TB_TBS, 27, 1⟩
abbrev F.TB_TBS_restore_fail : Fld := ⟨R.TB_TBS, 26, 1⟩
abbrev F.TB_TBS_manual_ref : Fld := ⟨R.TB_TBS, 25, 1⟩
abbrev F.TB_TBS_incr_err : Fld := ⟨R.TB_TBS, 24, 1⟩
/-- R345 -/ abbrev R.TB_RAW_LO : Nat := 0x8310
abbrev F.TB_RAW_LO : Fld := ⟨R.TB_RAW_LO, 0, 32⟩
/-- R345 -/ abbrev R.TB_RAW_HI : Nat := 0x8314
abbrev F.TB_RAW_HI : Fld := ⟨R.TB_RAW_HI, 0, 32⟩
/-- R345 -/ abbrev R.TB_LOSS_GAP : Nat := 0x8318
abbrev F.TB_LOSS_GAP : Fld := ⟨R.TB_LOSS_GAP, 0, 32⟩
/-- R349 -/ abbrev R.OUT_EV_CMD : Nat := 0xb010
abbrev F.OUT_EV_CMD_op : Fld := ⟨R.OUT_EV_CMD, 30, 2⟩
abbrev F.OUT_EV_CMD_cancel : Fld := ⟨R.OUT_EV_CMD, 29, 1⟩
abbrev F.OUT_EV_CMD_action : Fld := ⟨R.OUT_EV_CMD, 26, 2⟩
abbrev F.OUT_EV_CMD_out : Fld := ⟨R.OUT_EV_CMD, 0, 3⟩
/-- R345 -/ abbrev R.OUT_EV_WIDTH : Nat := 0xb014
abbrev F.OUT_EV_WIDTH : Fld := ⟨R.OUT_EV_WIDTH, 0, 32⟩
/-- R345 -/ abbrev R.OUT_EV_AT_W (i : Nat) : Nat := 0xb018 + 4 * i
abbrev F.OUT_EV_AT_W (i : Nat) : Fld := ⟨(R.OUT_EV_AT_W i), 0, 32⟩
/-- R345 -/ abbrev R.OUT_EV_RESULT : Nat := 0xb024
abbrev F.OUT_EV_RESULT : Fld := ⟨R.OUT_EV_RESULT, 0, 4⟩
/-- R345 -/ abbrev R.OUT_EV_HANDLE : Nat := 0xb028
abbrev F.OUT_EV_HANDLE : Fld := ⟨R.OUT_EV_HANDLE, 0, 32⟩
/-- R346 -/ abbrev R.TOUT_CFG (n : Nat) : Nat := 0xb100 + 0x40 * n
abbrev F.TOUT_CFG_en (n : Nat) : Fld := ⟨(R.TOUT_CFG n), 31, 1⟩
abbrev F.TOUT_CFG_stop (n : Nat) : Fld := ⟨(R.TOUT_CFG n), 30, 1⟩
abbrev F.TOUT_CFG_drained (n : Nat) : Fld := ⟨(R.TOUT_CFG n), 29, 1⟩
abbrev F.TOUT_CFG_func (n : Nat) : Fld := ⟨(R.TOUT_CFG n), 24, 3⟩
abbrev F.TOUT_CFG_pol (n : Nat) : Fld := ⟨(R.TOUT_CFG n), 23, 1⟩
abbrev F.TOUT_CFG_hiz_idle (n : Nat) : Fld := ⟨(R.TOUT_CFG n), 22, 1⟩
abbrev F.TOUT_CFG_hiz_sq (n : Nat) : Fld := ⟨(R.TOUT_CFG n), 21, 1⟩
abbrev F.TOUT_CFG_sq (n : Nat) : Fld := ⟨(R.TOUT_CFG n), 19, 2⟩
/-- R346 -/ abbrev R.TOUT_STATUS (n : Nat) : Nat := 0xb104 + 0x40 * n
abbrev F.TOUT_STATUS_phase_err (n : Nat) : Fld := ⟨(R.TOUT_STATUS n), 3, 1⟩
abbrev F.TOUT_STATUS_sq (n : Nat) : Fld := ⟨(R.TOUT_STATUS n), 2, 1⟩
abbrev F.TOUT_STATUS_running (n : Nat) : Fld := ⟨(R.TOUT_STATUS n), 1, 1⟩
abbrev F.TOUT_STATUS_shortened (n : Nat) : Fld := ⟨(R.TOUT_STATUS n), 0, 1⟩
/-- R345 -/ abbrev R.TOUT_OFF (n : Nat) : Nat := 0xb108 + 0x40 * n
abbrev F.TOUT_OFF (n : Nat) : Fld := ⟨(R.TOUT_OFF n), 0, 32⟩
/-- R345 -/ abbrev R.TOUT_WIDTH (n : Nat) : Nat := 0xb10c + 0x40 * n
abbrev F.TOUT_WIDTH (n : Nat) : Fld := ⟨(R.TOUT_WIDTH n), 0, 32⟩
/-- R345 -/ abbrev R.TOUT_PER_LO (n : Nat) : Nat := 0xb110 + 0x40 * n
abbrev F.TOUT_PER_LO (n : Nat) : Fld := ⟨(R.TOUT_PER_LO n), 0, 32⟩
/-- R345 -/ abbrev R.TOUT_PER_HI (n : Nat) : Nat := 0xb114 + 0x40 * n
abbrev F.TOUT_PER_HI (n : Nat) : Fld := ⟨(R.TOUT_PER_HI n), 0, 8⟩
/-- R345 -/ abbrev R.TOUT_DELAY (n : Nat) : Nat := 0xb118 + 0x40 * n
abbrev F.TOUT_DELAY (n : Nat) : Fld := ⟨(R.TOUT_DELAY n), 0, 32⟩
/-- R346 -/ abbrev R.TOUT_AUX (n : Nat) : Nat := 0xb11c + 0x40 * n
abbrev F.TOUT_AUX_gport (n : Nat) : Fld := ⟨(R.TOUT_AUX n), 28, 4⟩
abbrev F.TOUT_AUX_gtc (n : Nat) : Fld := ⟨(R.TOUT_AUX n), 25, 3⟩
abbrev F.TOUT_AUX_baud (n : Nat) : Fld := ⟨(R.TOUT_AUX n), 22, 3⟩
abbrev F.TOUT_AUX_t_start (n : Nat) : Fld := ⟨(R.TOUT_AUX n), 13, 9⟩
abbrev F.TOUT_AUX_irig_x (n : Nat) : Fld := ⟨(R.TOUT_AUX n), 10, 3⟩
abbrev F.TOUT_AUX_cf_1344 (n : Nat) : Fld := ⟨(R.TOUT_AUX n), 9, 1⟩
abbrev F.TOUT_AUX_local (n : Nat) : Fld := ⟨(R.TOUT_AUX n), 2, 7⟩
abbrev F.TOUT_AUX_scale (n : Nat) : Fld := ⟨(R.TOUT_AUX n), 0, 2⟩
/-- R346 -/ abbrev R.FOUT_CFG (m : Nat) : Nat := 0xb400 + 0x40 * m
abbrev F.FOUT_CFG_en (m : Nat) : Fld := ⟨(R.FOUT_CFG m), 31, 1⟩
abbrev F.FOUT_CFG_stop (m : Nat) : Fld := ⟨(R.FOUT_CFG m), 30, 1⟩
abbrev F.FOUT_CFG_drained (m : Nat) : Fld := ⟨(R.FOUT_CFG m), 29, 1⟩
abbrev F.FOUT_CFG_hiz_idle (m : Nat) : Fld := ⟨(R.FOUT_CFG m), 22, 1⟩
abbrev F.FOUT_CFG_hiz_sq (m : Nat) : Fld := ⟨(R.FOUT_CFG m), 21, 1⟩
abbrev F.FOUT_CFG_sq (m : Nat) : Fld := ⟨(R.FOUT_CFG m), 19, 2⟩
/-- R346 -/ abbrev R.FOUT_STATUS (m : Nat) : Nat := 0xb404 + 0x40 * m
abbrev F.FOUT_STATUS_phase_err (m : Nat) : Fld := ⟨(R.FOUT_STATUS m), 3, 1⟩
abbrev F.FOUT_STATUS_sq (m : Nat) : Fld := ⟨(R.FOUT_STATUS m), 2, 1⟩
abbrev F.FOUT_STATUS_running (m : Nat) : Fld := ⟨(R.FOUT_STATUS m), 1, 1⟩
abbrev F.FOUT_STATUS_lock (m : Nat) : Fld := ⟨(R.FOUT_STATUS m), 0, 1⟩
/-- R345 -/ abbrev R.FOUT_FREQ_INT (m : Nat) : Nat := 0xb408 + 0x40 * m
abbrev F.FOUT_FREQ_INT (m : Nat) : Fld := ⟨(R.FOUT_FREQ_INT m), 0, 30⟩
/-- R345 -/ abbrev R.FOUT_FREQ_FRAC (m : Nat) : Nat := 0xb40c + 0x40 * m
abbrev F.FOUT_FREQ_FRAC (m : Nat) : Fld := ⟨(R.FOUT_FREQ_FRAC m), 0, 16⟩
/-- R345 -/ abbrev R.FOUT_PHASE (m : Nat) : Nat := 0xb410 + 0x40 * m
abbrev F.FOUT_PHASE (m : Nat) : Fld := ⟨(R.FOUT_PHASE m), 0, 32⟩
/-- R345 -/ abbrev R.FOUT_DELAY (m : Nat) : Nat := 0xb414 + 0x40 * m
abbrev F.FOUT_DELAY (m : Nat) : Fld := ⟨(R.FOUT_DELAY m), 0, 32⟩
/-- R383 -/ abbrev R.SEC_STATUS : Nat := 0xe000
abbrev F.SEC_STATUS_vault_ok : Fld := ⟨R.SEC_STATUS, 7, 1⟩
abbrev F.SEC_STATUS_tls_next : Fld := ⟨R.SEC_STATUS, 6, 1⟩
abbrev F.SEC_STATUS_tls_ready : Fld := ⟨R.SEC_STATUS, 5, 1⟩
abbrev F.SEC_STATUS_batch_pending : Fld := ⟨R.SEC_STATUS, 4, 1⟩
abbrev F.SEC_STATUS_fw_confirmed : Fld := ⟨R.SEC_STATUS, 3, 1⟩
abbrev F.SEC_STATUS_fw_bank : Fld := ⟨R.SEC_STATUS, 2, 1⟩
abbrev F.SEC_STATUS_claim_armed : Fld := ⟨R.SEC_STATUS, 1, 1⟩
abbrev F.SEC_STATUS_owner : Fld := ⟨R.SEC_STATUS, 0, 1⟩
/-- R382 -/ abbrev R.SEC_CTL : Nat := 0xe004
abbrev F.SEC_CTL_auto_confirm : Fld := ⟨R.SEC_CTL, 0, 1⟩
/-- R382 -/ abbrev R.SEC_CLAIM_NONCE (i : Nat) : Nat := 0xe010 + 4 * i
abbrev F.SEC_CLAIM_NONCE (i : Nat) : Fld := ⟨(R.SEC_CLAIM_NONCE i), 0, 32⟩
/-- R382 -/ abbrev R.SEC_FUSE_SVN : Nat := 0xe030
abbrev F.SEC_FUSE_SVN : Fld := ⟨R.SEC_FUSE_SVN, 0, 7⟩
/-- R382 -/ abbrev R.SEC_FUSE_EPOCH : Nat := 0xe034
abbrev F.SEC_FUSE_EPOCH : Fld := ⟨R.SEC_FUSE_EPOCH, 0, 6⟩
/-- R382 -/ abbrev R.SEC_FUSE_ZCNT : Nat := 0xe038
abbrev F.SEC_FUSE_ZCNT : Fld := ⟨R.SEC_FUSE_ZCNT, 0, 6⟩
/-- R382 -/ abbrev R.SEC_BATCH_SEQ_LO : Nat := 0xe040
abbrev F.SEC_BATCH_SEQ_LO : Fld := ⟨R.SEC_BATCH_SEQ_LO, 0, 32⟩
/-- R382 -/ abbrev R.SEC_BATCH_SEQ_HI : Nat := 0xe044
abbrev F.SEC_BATCH_SEQ_HI : Fld := ⟨R.SEC_BATCH_SEQ_HI, 0, 32⟩
/-- R382 -/ abbrev R.SEC_BATCH_PEND_LO : Nat := 0xe048
abbrev F.SEC_BATCH_PEND_LO : Fld := ⟨R.SEC_BATCH_PEND_LO, 0, 32⟩
/-- R382 -/ abbrev R.SEC_BATCH_PEND_HI : Nat := 0xe04c
abbrev F.SEC_BATCH_PEND_HI : Fld := ⟨R.SEC_BATCH_PEND_HI, 0, 32⟩
/-- R382 -/ abbrev R.SEC_BATCH_RESULT : Nat := 0xe050
abbrev F.SEC_BATCH_RESULT : Fld := ⟨R.SEC_BATCH_RESULT, 0, 4⟩
/-- R384 -/ abbrev R.SEC_TAMPER_CFG : Nat := 0xe060
abbrev F.SEC_TAMPER_CFG_redundancy : Fld := ⟨R.SEC_TAMPER_CFG, 8, 2⟩
abbrev F.SEC_TAMPER_CFG_tamp1 : Fld := ⟨R.SEC_TAMPER_CFG, 6, 2⟩
abbrev F.SEC_TAMPER_CFG_tamp0 : Fld := ⟨R.SEC_TAMPER_CFG, 4, 2⟩
abbrev F.SEC_TAMPER_CFG_temp : Fld := ⟨R.SEC_TAMPER_CFG, 2, 2⟩
abbrev F.SEC_TAMPER_CFG_clk : Fld := ⟨R.SEC_TAMPER_CFG, 1, 1⟩
abbrev F.SEC_TAMPER_CFG_volt : Fld := ⟨R.SEC_TAMPER_CFG, 0, 1⟩
/-- R384 -/ abbrev R.SEC_TAMPER_STATUS : Nat := 0xe064
abbrev F.SEC_TAMPER_STATUS_zeroized : Fld := ⟨R.SEC_TAMPER_STATUS, 5, 1⟩
abbrev F.SEC_TAMPER_STATUS_redundancy : Fld := ⟨R.SEC_TAMPER_STATUS, 4, 1⟩
abbrev F.SEC_TAMPER_STATUS_tamp1 : Fld := ⟨R.SEC_TAMPER_STATUS, 3, 1⟩
abbrev F.SEC_TAMPER_STATUS_tamp0 : Fld := ⟨R.SEC_TAMPER_STATUS, 2, 1⟩
abbrev F.SEC_TAMPER_STATUS_temp : Fld := ⟨R.SEC_TAMPER_STATUS, 1, 1⟩
abbrev F.SEC_TAMPER_STATUS_glitch : Fld := ⟨R.SEC_TAMPER_STATUS, 0, 1⟩
/-- R382 -/ abbrev R.SEC_SEAL_WRITES : Nat := 0xe070
abbrev F.SEC_SEAL_WRITES : Fld := ⟨R.SEC_SEAL_WRITES, 0, 32⟩
/-- R382 -/ abbrev R.SEC_EXT_STATUS : Nat := 0xe074
abbrev F.SEC_EXT_STATUS_state : Fld := ⟨R.SEC_EXT_STATUS, 0, 2⟩
/-- R404 -/ abbrev R.PKE_CTL : Nat := 0xf000
abbrev F.PKE_CTL_en : Fld := ⟨R.PKE_CTL, 31, 1⟩
abbrev F.PKE_CTL_stop : Fld := ⟨R.PKE_CTL, 30, 1⟩
abbrev F.PKE_CTL_drained : Fld := ⟨R.PKE_CTL, 29, 1⟩
abbrev F.PKE_CTL_dt2_all : Fld := ⟨R.PKE_CTL, 0, 1⟩
/-- R405 -/ abbrev R.PKE_STATUS : Nat := 0xf004
abbrev F.PKE_STATUS_busy : Fld := ⟨R.PKE_STATUS, 16, 7⟩
abbrev F.PKE_STATUS_in_service : Fld := ⟨R.PKE_STATUS, 8, 7⟩
abbrev F.PKE_STATUS_fault_evt : Fld := ⟨R.PKE_STATUS, 2, 1⟩
abbrev F.PKE_STATUS_wiping : Fld := ⟨R.PKE_STATUS, 1, 1⟩
abbrev F.PKE_STATUS_ready : Fld := ⟨R.PKE_STATUS, 0, 1⟩
/-- R404 -/ abbrev R.PKE_CORE_EN (i : Nat) : Nat := 0xf008 + 4 * i
abbrev F.PKE_CORE_EN (i : Nat) : Fld := ⟨(R.PKE_CORE_EN i), 0, 32⟩
/-- R404 -/ abbrev R.PKE_FAULT (i : Nat) : Nat := 0xf010 + 4 * i
abbrev F.PKE_FAULT (i : Nat) : Fld := ⟨(R.PKE_FAULT i), 0, 32⟩
/-- R406 -/ abbrev R.PKE_RQ_CFG (r : Nat) : Nat := 0xf040 + 8 * r
abbrev F.PKE_RQ_CFG_qmax (r : Nat) : Fld := ⟨(R.PKE_RQ_CFG r), 16, 16⟩
abbrev F.PKE_RQ_CFG_run (r : Nat) : Fld := ⟨(R.PKE_RQ_CFG r), 8, 7⟩
abbrev F.PKE_RQ_CFG_w (r : Nat) : Fld := ⟨(R.PKE_RQ_CFG r), 0, 8⟩
/-- R404 -/ abbrev R.PKE_RQ_STAT (r : Nat) : Nat := 0xf044 + 8 * r
abbrev F.PKE_RQ_STAT_waiting (r : Nat) : Fld := ⟨(R.PKE_RQ_STAT r), 16, 16⟩
abbrev F.PKE_RQ_STAT_running (r : Nat) : Fld := ⟨(R.PKE_RQ_STAT r), 8, 7⟩
/-- R431 -/ abbrev R.PAIR_CTL : Nat := 0x1e000
abbrev F.PAIR_CTL_en : Fld := ⟨R.PAIR_CTL, 31, 1⟩
abbrev F.PAIR_CTL_stop : Fld := ⟨R.PAIR_CTL, 30, 1⟩
abbrev F.PAIR_CTL_drained : Fld := ⟨R.PAIR_CTL, 29, 1⟩
abbrev F.PAIR_CTL_revert : Fld := ⟨R.PAIR_CTL, 28, 1⟩
abbrev F.PAIR_CTL_gnss_track : Fld := ⟨R.PAIR_CTL, 27, 1⟩
abbrev F.PAIR_CTL_auto_pwr : Fld := ⟨R.PAIR_CTL, 26, 1⟩
abbrev F.PAIR_CTL_auto_cal : Fld := ⟨R.PAIR_CTL, 25, 1⟩
/-- R432 -/ abbrev R.PAIR_STATUS : Nat := 0x1e004
abbrev F.PAIR_STATUS_link : Fld := ⟨R.PAIR_STATUS, 29, 3⟩
abbrev F.PAIR_STATUS_role : Fld := ⟨R.PAIR_STATUS, 26, 3⟩
abbrev F.PAIR_STATUS_fence_in : Fld := ⟨R.PAIR_STATUS, 24, 2⟩
abbrev F.PAIR_STATUS_fence_out : Fld := ⟨R.PAIR_STATUS, 22, 2⟩
abbrev F.PAIR_STATUS_swapped : Fld := ⟨R.PAIR_STATUS, 21, 1⟩
abbrev F.PAIR_STATUS_asym_valid : Fld := ⟨R.PAIR_STATUS, 20, 1⟩
abbrev F.PAIR_STATUS_split : Fld := ⟨R.PAIR_STATUS, 19, 1⟩
abbrev F.PAIR_STATUS_partner_serving : Fld := ⟨R.PAIR_STATUS, 18, 1⟩
abbrev F.PAIR_STATUS_att_err : Fld := ⟨R.PAIR_STATUS, 14, 4⟩
abbrev F.PAIR_STATUS_takeover : Fld := ⟨R.PAIR_STATUS, 7, 1⟩
abbrev F.PAIR_STATUS_resign_rx : Fld := ⟨R.PAIR_STATUS, 6, 1⟩
abbrev F.PAIR_STATUS_gen_conflict : Fld := ⟨R.PAIR_STATUS, 5, 1⟩
abbrev F.PAIR_STATUS_cal_fail : Fld := ⟨R.PAIR_STATUS, 4, 1⟩
/-- R431 -/ abbrev R.PAIR_CFG : Nat := 0x1e008
abbrev F.PAIR_CFG_configured : Fld := ⟨R.PAIR_CFG, 31, 1⟩
abbrev F.PAIR_CFG_mode : Fld := ⟨R.PAIR_CFG, 30, 1⟩
abbrev F.PAIR_CFG_member : Fld := ⟨R.PAIR_CFG, 29, 1⟩
abbrev F.PAIR_CFG_pref : Fld := ⟨R.PAIR_CFG, 28, 1⟩
abbrev F.PAIR_CFG_min_svn : Fld := ⟨R.PAIR_CFG, 0, 16⟩
/-- R430 -/ abbrev R.PAIR_ID_LO : Nat := 0x1e00c
abbrev F.PAIR_ID_LO : Fld := ⟨R.PAIR_ID_LO, 0, 32⟩
/-- R430 -/ abbrev R.PAIR_ID_HI : Nat := 0x1e010
abbrev F.PAIR_ID_HI : Fld := ⟨R.PAIR_ID_HI, 0, 16⟩
/-- R430 -/ abbrev R.PAIR_PEER_LO : Nat := 0x1e014
abbrev F.PAIR_PEER_LO : Fld := ⟨R.PAIR_PEER_LO, 0, 32⟩
/-- R430 -/ abbrev R.PAIR_PEER_HI : Nat := 0x1e018
abbrev F.PAIR_PEER_HI : Fld := ⟨R.PAIR_PEER_HI, 0, 16⟩
/-- R430 -/ abbrev R.PAIR_CMD : Nat := 0x1e01c
abbrev F.PAIR_CMD_op : Fld := ⟨R.PAIR_CMD, 30, 2⟩
/-- R430 -/ abbrev R.PAIR_ASYM : Nat := 0x1e020
abbrev F.PAIR_ASYM : Fld := ⟨R.PAIR_ASYM, 0, 32⟩
/-- R430 -/ abbrev R.PAIR_TT_UNC : Nat := 0x1e024
abbrev F.PAIR_TT_UNC : Fld := ⟨R.PAIR_TT_UNC, 0, 32⟩
/-- R430 -/ abbrev R.PAIR_OFFSET_LO : Nat := 0x1e028
abbrev F.PAIR_OFFSET_LO : Fld := ⟨R.PAIR_OFFSET_LO, 0, 32⟩
/-- R430 -/ abbrev R.PAIR_OFFSET_HI : Nat := 0x1e02c
abbrev F.PAIR_OFFSET_HI : Fld := ⟨R.PAIR_OFFSET_HI, 0, 32⟩
/-- R430 -/ abbrev R.PAIR_CAL_CMD : Nat := 0x1e030
abbrev F.PAIR_CAL_CMD_op : Fld := ⟨R.PAIR_CAL_CMD, 30, 2⟩
abbrev F.PAIR_CAL_CMD_cancel : Fld := ⟨R.PAIR_CAL_CMD, 29, 1⟩
/-- R430 -/ abbrev R.PAIR_CAL_AT_W (i : Nat) : Nat := 0x1e034 + 4 * i
abbrev F.PAIR_CAL_AT_W (i : Nat) : Fld := ⟨(R.PAIR_CAL_AT_W i), 0, 32⟩
/-- R430 -/ abbrev R.PAIR_CAL_RESULT : Nat := 0x1e040
abbrev F.PAIR_CAL_RESULT : Fld := ⟨R.PAIR_CAL_RESULT, 0, 4⟩
/-- R430 -/ abbrev R.PAIR_CAL_HANDLE : Nat := 0x1e044
abbrev F.PAIR_CAL_HANDLE : Fld := ⟨R.PAIR_CAL_HANDLE, 0, 32⟩
/-- R430 -/ abbrev R.PAIR_TAKE (i : Nat) : Nat := 0x1e060 + 4 * i
abbrev F.PAIR_TAKE (i : Nat) : Fld := ⟨(R.PAIR_TAKE i), 0, 32⟩
/-- R439 -/ abbrev R.HIF_RING_CTL (n : Nat) : Nat := 0x4000 + 0x40 * n
abbrev F.HIF_RING_CTL_en (n : Nat) : Fld := ⟨(R.HIF_RING_CTL n), 31, 1⟩
abbrev F.HIF_RING_CTL_stop (n : Nat) : Fld := ⟨(R.HIF_RING_CTL n), 30, 1⟩
abbrev F.HIF_RING_CTL_drained (n : Nat) : Fld := ⟨(R.HIF_RING_CTL n), 29, 1⟩
abbrev F.HIF_RING_CTL_class (n : Nat) : Fld := ⟨(R.HIF_RING_CTL n), 24, 3⟩
abbrev F.HIF_RING_CTL_wake (n : Nat) : Fld := ⟨(R.HIF_RING_CTL n), 23, 1⟩
abbrev F.HIF_RING_CTL_size_log2 (n : Nat) : Fld := ⟨(R.HIF_RING_CTL n), 16, 5⟩
/-- R439 -/ abbrev R.HIF_RING_STATUS (n : Nat) : Nat := 0x4004 + 0x40 * n
abbrev F.HIF_RING_STATUS_err (n : Nat) : Fld := ⟨(R.HIF_RING_STATUS n), 12, 4⟩
abbrev F.HIF_RING_STATUS_phase (n : Nat) : Fld := ⟨(R.HIF_RING_STATUS n), 4, 1⟩
abbrev F.HIF_RING_STATUS_cfg_err (n : Nat) : Fld := ⟨(R.HIF_RING_STATUS n), 3, 1⟩
abbrev F.HIF_RING_STATUS_paused (n : Nat) : Fld := ⟨(R.HIF_RING_STATUS n), 2, 1⟩
abbrev F.HIF_RING_STATUS_full (n : Nat) : Fld := ⟨(R.HIF_RING_STATUS n), 1, 1⟩
abbrev F.HIF_RING_STATUS_halted (n : Nat) : Fld := ⟨(R.HIF_RING_STATUS n), 0, 1⟩
/-- R438 -/ abbrev R.HIF_RING_SQ_LO (n : Nat) : Nat := 0x4008 + 0x40 * n
abbrev F.HIF_RING_SQ_LO (n : Nat) : Fld := ⟨(R.HIF_RING_SQ_LO n), 12, 20⟩
/-- R438 -/ abbrev R.HIF_RING_SQ_HI (n : Nat) : Nat := 0x400c + 0x40 * n
abbrev F.HIF_RING_SQ_HI (n : Nat) : Fld := ⟨(R.HIF_RING_SQ_HI n), 0, 32⟩
/-- R438 -/ abbrev R.HIF_RING_CQ_LO (n : Nat) : Nat := 0x4010 + 0x40 * n
abbrev F.HIF_RING_CQ_LO (n : Nat) : Fld := ⟨(R.HIF_RING_CQ_LO n), 12, 20⟩
/-- R438 -/ abbrev R.HIF_RING_CQ_HI (n : Nat) : Nat := 0x4014 + 0x40 * n
abbrev F.HIF_RING_CQ_HI (n : Nat) : Fld := ⟨(R.HIF_RING_CQ_HI n), 0, 32⟩
/-- R438 -/ abbrev R.HIF_RING_IDX (n : Nat) : Nat := 0x4018 + 0x40 * n
abbrev F.HIF_RING_IDX_cq_tail (n : Nat) : Fld := ⟨(R.HIF_RING_IDX n), 16, 16⟩
abbrev F.HIF_RING_IDX_sq_head (n : Nat) : Fld := ⟨(R.HIF_RING_IDX n), 0, 16⟩
/-- R439 -/ abbrev R.HIF_RING_MOD (n : Nat) : Nat := 0x401c + 0x40 * n
abbrev F.HIF_RING_MOD_time (n : Nat) : Fld := ⟨(R.HIF_RING_MOD n), 16, 16⟩
abbrev F.HIF_RING_MOD_count (n : Nat) : Fld := ⟨(R.HIF_RING_MOD n), 0, 8⟩
/-- R438 -/ abbrev R.HIF_RING_SEL (n : Nat) : Nat := 0x4020 + 0x40 * n
abbrev F.HIF_RING_SEL (n : Nat) : Fld := ⟨(R.HIF_RING_SEL n), 0, 17⟩
/-- R438 -/ abbrev R.HIF_RING_ERR_LO (n : Nat) : Nat := 0x4024 + 0x40 * n
abbrev F.HIF_RING_ERR_LO (n : Nat) : Fld := ⟨(R.HIF_RING_ERR_LO n), 0, 32⟩
/-- R438 -/ abbrev R.HIF_RING_ERR_HI (n : Nat) : Nat := 0x4028 + 0x40 * n
abbrev F.HIF_RING_ERR_HI (n : Nat) : Fld := ⟨(R.HIF_RING_ERR_HI n), 0, 32⟩
/-- R438 -/ abbrev R.HIF_RING_DONE (n : Nat) : Nat := 0x402c + 0x40 * n
abbrev F.HIF_RING_DONE (n : Nat) : Fld := ⟨(R.HIF_RING_DONE n), 0, 32⟩
/-- R471 -/ abbrev R.HIF_CTL : Nat := 0x1b000
abbrev F.HIF_CTL_resume : Fld := ⟨R.HIF_CTL, 31, 1⟩
abbrev F.HIF_CTL_evt_en : Fld := ⟨R.HIF_CTL, 16, 1⟩
abbrev F.HIF_CTL_evt_ring : Fld := ⟨R.HIF_CTL, 8, 8⟩
/-- R471 -/ abbrev R.HIF_STATUS : Nat := 0x1b004
abbrev F.HIF_STATUS_speed : Fld := ⟨R.HIF_STATUS, 13, 3⟩
abbrev F.HIF_STATUS_width : Fld := ⟨R.HIF_STATUS, 9, 4⟩
abbrev F.HIF_STATUS_bme : Fld := ⟨R.HIF_STATUS, 8, 1⟩
abbrev F.HIF_STATUS_pf1_d : Fld := ⟨R.HIF_STATUS, 6, 2⟩
abbrev F.HIF_STATUS_pf0_d : Fld := ⟨R.HIF_STATUS, 4, 2⟩
abbrev F.HIF_STATUS_l1 : Fld := ⟨R.HIF_STATUS, 3, 1⟩
abbrev F.HIF_STATUS_pme_sent : Fld := ⟨R.HIF_STATUS, 2, 1⟩
abbrev F.HIF_STATUS_paused : Fld := ⟨R.HIF_STATUS, 1, 1⟩
abbrev F.HIF_STATUS_perst_seen : Fld := ⟨R.HIF_STATUS, 0, 1⟩
/-- R471 -/ abbrev R.HIF_HALT (i : Nat) : Nat := 0x1b010 + 4 * i
abbrev F.HIF_HALT (i : Nat) : Fld := ⟨(R.HIF_HALT i), 0, 32⟩
/-- R471 -/ abbrev R.HIF_FULL (i : Nat) : Nat := 0x1b030 + 4 * i
abbrev F.HIF_FULL (i : Nat) : Fld := ⟨(R.HIF_FULL i), 0, 32⟩
/-- R471 -/ abbrev R.MSIX_ADDR_LO (v : Nat) : Nat := 0x1b800 + 0x10 * v
abbrev F.MSIX_ADDR_LO (v : Nat) : Fld := ⟨(R.MSIX_ADDR_LO v), 2, 30⟩
/-- R471 -/ abbrev R.MSIX_ADDR_HI (v : Nat) : Nat := 0x1b804 + 0x10 * v
abbrev F.MSIX_ADDR_HI (v : Nat) : Fld := ⟨(R.MSIX_ADDR_HI v), 0, 32⟩
/-- R471 -/ abbrev R.MSIX_DATA (v : Nat) : Nat := 0x1b808 + 0x10 * v
abbrev F.MSIX_DATA (v : Nat) : Fld := ⟨(R.MSIX_DATA v), 0, 32⟩
/-- R471 -/ abbrev R.MSIX_VCTL (v : Nat) : Nat := 0x1b80c + 0x10 * v
abbrev F.MSIX_VCTL_mask (v : Nat) : Fld := ⟨(R.MSIX_VCTL v), 0, 1⟩
/-- R471 -/ abbrev R.MSIX_PBA (i : Nat) : Nat := 0x1bc00 + 4 * i
abbrev F.MSIX_PBA (i : Nat) : Fld := ⟨(R.MSIX_PBA i), 0, 32⟩
/-- R486 -/ abbrev R.INTC_CTL : Nat := 0x2000
abbrev F.INTC_CTL_mode : Fld := ⟨R.INTC_CTL, 31, 1⟩
abbrev F.INTC_CTL_rr_to : Fld := ⟨R.INTC_CTL, 16, 8⟩
/-- R486 -/ abbrev R.INTC_STATUS : Nat := 0x2004
abbrev F.INTC_STATUS_bad_eoi : Fld := ⟨R.INTC_STATUS, 1, 1⟩
abbrev F.INTC_STATUS_spurious : Fld := ⟨R.INTC_STATUS, 0, 1⟩
/-- R486 -/ abbrev R.INTC_PEND (w : Nat) : Nat := 0x2080 + 4 * w
abbrev F.INTC_PEND (w : Nat) : Fld := ⟨(R.INTC_PEND w), 0, 32⟩
/-- R486 -/ abbrev R.INTC_SETP (w : Nat) : Nat := 0x2100 + 4 * w
abbrev F.INTC_SETP (w : Nat) : Fld := ⟨(R.INTC_SETP w), 0, 32⟩
/-- R486 -/ abbrev R.INTC_ACT (w : Nat) : Nat := 0x2180 + 4 * w
abbrev F.INTC_ACT (w : Nat) : Fld := ⟨(R.INTC_ACT w), 0, 32⟩
/-- R486 -/ abbrev R.INTC_TGT_CTL (t : Nat) : Nat := 0x2400 + 0x20 * t
abbrev F.INTC_TGT_CTL_en (t : Nat) : Fld := ⟨(R.INTC_TGT_CTL t), 31, 1⟩
abbrev F.INTC_TGT_CTL_pmr (t : Nat) : Fld := ⟨(R.INTC_TGT_CTL t), 16, 5⟩
abbrev F.INTC_TGT_CTL_thread (t : Nat) : Fld := ⟨(R.INTC_TGT_CTL t), 4, 2⟩
abbrev F.INTC_TGT_CTL_vec (t : Nat) : Fld := ⟨(R.INTC_TGT_CTL t), 0, 4⟩
/-- R486 -/ abbrev R.INTC_TGT_CLAIM (t : Nat) : Nat := 0x2404 + 0x20 * t
abbrev F.INTC_TGT_CLAIM (t : Nat) : Fld := ⟨(R.INTC_TGT_CLAIM t), 0, 10⟩
/-- R486 -/ abbrev R.INTC_TGT_EOI (t : Nat) : Nat := 0x2408 + 0x20 * t
abbrev F.INTC_TGT_EOI (t : Nat) : Fld := ⟨(R.INTC_TGT_EOI t), 0, 10⟩
/-- R486 -/ abbrev R.INTC_TGT_RUN (t : Nat) : Nat := 0x240c + 0x20 * t
abbrev F.INTC_TGT_RUN (t : Nat) : Fld := ⟨(R.INTC_TGT_RUN t), 0, 5⟩
/-- R486 -/ abbrev R.INTC_SRC_CFG (n : Nat) : Nat := 0x3000 + 4 * n
abbrev F.INTC_SRC_CFG_en (n : Nat) : Fld := ⟨(R.INTC_SRC_CFG n), 31, 1⟩
abbrev F.INTC_SRC_CFG_sense (n : Nat) : Fld := ⟨(R.INTC_SRC_CFG n), 29, 2⟩
abbrev F.INTC_SRC_CFG_prio (n : Nat) : Fld := ⟨(R.INTC_SRC_CFG n), 24, 4⟩
abbrev F.INTC_SRC_CFG_side (n : Nat) : Fld := ⟨(R.INTC_SRC_CFG n), 16, 1⟩
abbrev F.INTC_SRC_CFG_tmask (n : Nat) : Fld := ⟨(R.INTC_SRC_CFG n), 0, 16⟩
/-- R510 -/ abbrev R.MON_STATUS : Nat := 0x20000
abbrev F.MON_STATUS_ledger_ok : Fld := ⟨R.MON_STATUS, 1, 1⟩
abbrev F.MON_STATUS_ready : Fld := ⟨R.MON_STATUS, 0, 1⟩
/-- R510 -/ abbrev R.MON_CNT_IDX : Nat := 0x20010
abbrev F.MON_CNT_IDX_view : Fld := ⟨R.MON_CNT_IDX, 16, 3⟩
abbrev F.MON_CNT_IDX_index : Fld := ⟨R.MON_CNT_IDX, 0, 15⟩
/-- R510 -/ abbrev R.MON_CNT_LO : Nat := 0x20014
abbrev F.MON_CNT_LO : Fld := ⟨R.MON_CNT_LO, 0, 32⟩
/-- R510 -/ abbrev R.MON_CNT_HI : Nat := 0x20018
abbrev F.MON_CNT_HI : Fld := ⟨R.MON_CNT_HI, 0, 32⟩
/-- R511 -/ abbrev R.MON_SNAP_CMD : Nat := 0x20020
abbrev F.MON_SNAP_CMD_op : Fld := ⟨R.MON_SNAP_CMD, 30, 2⟩
abbrev F.MON_SNAP_CMD_cancel : Fld := ⟨R.MON_SNAP_CMD, 29, 1⟩
abbrev F.MON_SNAP_CMD_notify : Fld := ⟨R.MON_SNAP_CMD, 28, 1⟩
/-- R510 -/ abbrev R.MON_SNAP_AT_W (i : Nat) : Nat := 0x20024 + 4 * i
abbrev F.MON_SNAP_AT_W (i : Nat) : Fld := ⟨(R.MON_SNAP_AT_W i), 0, 32⟩
/-- R510 -/ abbrev R.MON_SNAP_RESULT : Nat := 0x20030
abbrev F.MON_SNAP_RESULT : Fld := ⟨R.MON_SNAP_RESULT, 0, 4⟩
/-- R510 -/ abbrev R.MON_SNAP_HANDLE : Nat := 0x20034
abbrev F.MON_SNAP_HANDLE : Fld := ⟨R.MON_SNAP_HANDLE, 0, 32⟩
/-- R510 -/ abbrev R.MON_SNAP_SEQ : Nat := 0x20038
abbrev F.MON_SNAP_SEQ : Fld := ⟨R.MON_SNAP_SEQ, 0, 32⟩
/-- R510 -/ abbrev R.MON_SNAP_T_W (i : Nat) : Nat := 0x2003c + 4 * i
abbrev F.MON_SNAP_T_W (i : Nat) : Fld := ⟨(R.MON_SNAP_T_W i), 0, 32⟩
/-- R510 -/ abbrev R.MON_WIN_CFG (w : Nat) : Nat := 0x20080 + 4 * w
abbrev F.MON_WIN_CFG_view (w : Nat) : Fld := ⟨(R.MON_WIN_CFG w), 28, 3⟩
abbrev F.MON_WIN_CFG_base (w : Nat) : Fld := ⟨(R.MON_WIN_CFG w), 0, 16⟩
/-- R511 -/ abbrev R.MON_HW_CMD : Nat := 0x20100
abbrev F.MON_HW_CMD_op : Fld := ⟨R.MON_HW_CMD, 30, 2⟩
abbrev F.MON_HW_CMD_cancel : Fld := ⟨R.MON_HW_CMD, 29, 1⟩
abbrev F.MON_HW_CMD_notify : Fld := ⟨R.MON_HW_CMD, 28, 1⟩
abbrev F.MON_HW_CMD_mon : Fld := ⟨R.MON_HW_CMD, 0, 8⟩
/-- R510 -/ abbrev R.MON_HW_AT_W (i : Nat) : Nat := 0x20104 + 4 * i
abbrev F.MON_HW_AT_W (i : Nat) : Fld := ⟨(R.MON_HW_AT_W i), 0, 32⟩
/-- R510 -/ abbrev R.MON_HW_RESULT : Nat := 0x20110
abbrev F.MON_HW_RESULT : Fld := ⟨R.MON_HW_RESULT, 0, 4⟩
/-- R510 -/ abbrev R.MON_HW_HANDLE : Nat := 0x20114
abbrev F.MON_HW_HANDLE : Fld := ⟨R.MON_HW_HANDLE, 0, 32⟩
/-- R510 -/ abbrev R.MON_LEDGER_SEQ_LO : Nat := 0x20200
abbrev F.MON_LEDGER_SEQ_LO : Fld := ⟨R.MON_LEDGER_SEQ_LO, 0, 32⟩
/-- R510 -/ abbrev R.MON_LEDGER_SEQ_HI : Nat := 0x20204
abbrev F.MON_LEDGER_SEQ_HI : Fld := ⟨R.MON_LEDGER_SEQ_HI, 0, 32⟩
/-- R510 -/ abbrev R.MON_LEDGER_OLD_LO : Nat := 0x20208
abbrev F.MON_LEDGER_OLD_LO : Fld := ⟨R.MON_LEDGER_OLD_LO, 0, 32⟩
/-- R510 -/ abbrev R.MON_LEDGER_OLD_HI : Nat := 0x2020c
abbrev F.MON_LEDGER_OLD_HI : Fld := ⟨R.MON_LEDGER_OLD_HI, 0, 32⟩
/-- R510 -/ abbrev R.MON_LEDGER_NEXT_LO : Nat := 0x20210
abbrev F.MON_LEDGER_NEXT_LO : Fld := ⟨R.MON_LEDGER_NEXT_LO, 0, 32⟩
/-- R510 -/ abbrev R.MON_LEDGER_NEXT_HI : Nat := 0x20214
abbrev F.MON_LEDGER_NEXT_HI : Fld := ⟨R.MON_LEDGER_NEXT_HI, 0, 32⟩
/-- R511 -/ abbrev R.MON_HIST_CFG (h : Nat) : Nat := 0x21000 + 0x10 * h
abbrev F.MON_HIST_CFG_en (h : Nat) : Fld := ⟨(R.MON_HIST_CFG h), 31, 1⟩
abbrev F.MON_HIST_CFG_stop (h : Nat) : Fld := ⟨(R.MON_HIST_CFG h), 30, 1⟩
abbrev F.MON_HIST_CFG_drained (h : Nat) : Fld := ⟨(R.MON_HIST_CFG h), 29, 1⟩
abbrev F.MON_HIST_CFG_wmode (h : Nat) : Fld := ⟨(R.MON_HIST_CFG h), 27, 2⟩
abbrev F.MON_HIST_CFG_scheme (h : Nat) : Fld := ⟨(R.MON_HIST_CFG h), 26, 1⟩
abbrev F.MON_HIST_CFG_arg (h : Nat) : Fld := ⟨(R.MON_HIST_CFG h), 8, 8⟩
abbrev F.MON_HIST_CFG_src (h : Nat) : Fld := ⟨(R.MON_HIST_CFG h), 0, 8⟩
/-- R510 -/ abbrev R.MON_HIST_LO (h : Nat) : Nat := 0x21004 + 0x10 * h
abbrev F.MON_HIST_LO (h : Nat) : Fld := ⟨(R.MON_HIST_LO h), 0, 32⟩
/-- R510 -/ abbrev R.MON_HIST_W (h : Nat) : Nat := 0x21008 + 0x10 * h
abbrev F.MON_HIST_W (h : Nat) : Fld := ⟨(R.MON_HIST_W h), 0, 32⟩
/-- R510 -/ abbrev R.MON_HIST_PER (h : Nat) : Nat := 0x2100c + 0x10 * h
abbrev F.MON_HIST_PER (h : Nat) : Fld := ⟨(R.MON_HIST_PER h), 0, 20⟩
/-- R512 -/ abbrev R.SAMPLE_CTL : Nat := 0x3f000
abbrev F.SAMPLE_CTL_en : Fld := ⟨R.SAMPLE_CTL, 31, 1⟩
abbrev F.SAMPLE_CTL_stop : Fld := ⟨R.SAMPLE_CTL, 30, 1⟩
abbrev F.SAMPLE_CTL_drained : Fld := ⟨R.SAMPLE_CTL, 29, 1⟩
abbrev F.SAMPLE_CTL_ring : Fld := ⟨R.SAMPLE_CTL, 0, 8⟩
/-- R512 -/ abbrev R.SAMPLE_SEL : Nat := 0x3f004
abbrev F.SAMPLE_SEL_threads : Fld := ⟨R.SAMPLE_SEL, 16, 4⟩
abbrev F.SAMPLE_SEL_engines : Fld := ⟨R.SAMPLE_SEL, 0, 16⟩
/-- R512 -/ abbrev R.SAMPLE_PER : Nat := 0x3f008
abbrev F.SAMPLE_PER : Fld := ⟨R.SAMPLE_PER, 0, 24⟩
/-- R534 -/ abbrev R.GLB_ID : Nat := 0
abbrev F.GLB_ID_part : Fld := ⟨R.GLB_ID, 16, 16⟩
abbrev F.GLB_ID_stepping : Fld := ⟨R.GLB_ID, 0, 16⟩
/-- R535 -/ abbrev R.GLB_STATUS : Nat := 4
abbrev F.GLB_STATUS_stage : Fld := ⟨R.GLB_STATUS, 29, 3⟩
abbrev F.GLB_STATUS_state : Fld := ⟨R.GLB_STATUS, 27, 2⟩
abbrev F.GLB_STATUS_kept : Fld := ⟨R.GLB_STATUS, 26, 1⟩
abbrev F.GLB_STATUS_cause : Fld := ⟨R.GLB_STATUS, 16, 8⟩
abbrev F.GLB_STATUS_fallback : Fld := ⟨R.GLB_STATUS, 2, 1⟩
abbrev F.GLB_STATUS_fault_n : Fld := ⟨R.GLB_STATUS, 1, 1⟩
abbrev F.GLB_STATUS_ready : Fld := ⟨R.GLB_STATUS, 0, 1⟩
/-- R534 -/ abbrev R.GLB_STRAP : Nat := 8
abbrev F.GLB_STRAP_time_keep : Fld := ⟨R.GLB_STRAP, 4, 1⟩
abbrev F.GLB_STRAP_osc_fsel : Fld := ⟨R.GLB_STRAP, 2, 2⟩
abbrev F.GLB_STRAP_smb_addr : Fld := ⟨R.GLB_STRAP, 0, 2⟩
/-- R534 -/ abbrev R.GLB_RST : Nat := 0xc
abbrev F.GLB_RST_op : Fld := ⟨R.GLB_RST, 30, 2⟩
abbrev F.GLB_RST_key : Fld := ⟨R.GLB_RST, 0, 16⟩
/-- R536 -/ abbrev R.GLB_RST_CAUSE : Nat := 0x10
abbrev F.GLB_RST_CAUSE_kept : Fld := ⟨R.GLB_RST_CAUSE, 8, 1⟩
abbrev F.GLB_RST_CAUSE_cause : Fld := ⟨R.GLB_RST_CAUSE, 0, 4⟩
/-- R537 -/ abbrev R.GLB_WDOG : Nat := 0x14
abbrev F.GLB_WDOG_en : Fld := ⟨R.GLB_WDOG, 31, 1⟩
abbrev F.GLB_WDOG_action : Fld := ⟨R.GLB_WDOG, 30, 1⟩
abbrev F.GLB_WDOG_fstop_auto : Fld := ⟨R.GLB_WDOG, 29, 1⟩
abbrev F.GLB_WDOG_period : Fld := ⟨R.GLB_WDOG, 0, 16⟩
/-- R534 -/ abbrev R.GLB_BOOT_MS : Nat := 0x18
abbrev F.GLB_BOOT_MS : Fld := ⟨R.GLB_BOOT_MS, 0, 16⟩
/-- R534 -/ abbrev R.GLB_RST_CNT : Nat := 0x1c
abbrev F.GLB_RST_CNT : Fld := ⟨R.GLB_RST_CNT, 0, 16⟩
/-- R534 -/ abbrev R.GLB_REC_CTL : Nat := 0x20
abbrev F.GLB_REC_CTL_start : Fld := ⟨R.GLB_REC_CTL, 31, 1⟩
abbrev F.GLB_REC_CTL_done : Fld := ⟨R.GLB_REC_CTL, 30, 1⟩
/-- R534 -/ abbrev R.GLB_REC_STATUS : Nat := 0x24
abbrev F.GLB_REC_STATUS_room : Fld := ⟨R.GLB_REC_STATUS, 16, 12⟩
abbrev F.GLB_REC_STATUS_result : Fld := ⟨R.GLB_REC_STATUS, 0, 4⟩
/-- R534 -/ abbrev R.GLB_REC_DATA : Nat := 0x28
abbrev F.GLB_REC_DATA : Fld := ⟨R.GLB_REC_DATA, 0, 32⟩
/-- R545 -/ abbrev R.GLB_LOCK : Nat := 0x30
abbrev F.GLB_LOCK_lock : Fld := ⟨R.GLB_LOCK, 31, 1⟩
abbrev F.GLB_LOCK_denied : Fld := ⟨R.GLB_LOCK, 0, 16⟩
/-- R546 -/ abbrev R.GLB_ACC_ERR : Nat := 0x34
abbrev F.GLB_ACC_ERR_valid : Fld := ⟨R.GLB_ACC_ERR, 31, 1⟩
abbrev F.GLB_ACC_ERR_kind : Fld := ⟨R.GLB_ACC_ERR, 28, 3⟩
abbrev F.GLB_ACC_ERR_count : Fld := ⟨R.GLB_ACC_ERR, 20, 8⟩
abbrev F.GLB_ACC_ERR_offset : Fld := ⟨R.GLB_ACC_ERR, 0, 18⟩

/-- One row of the map: registers at base + s1·i + s2·j, i < c1, j < c2, and a word for them. -/
structure RstRow where
  base : Nat
  s1 : Nat
  c1 : Nat
  s2 : Nat
  c2 : Nat
  word : Nat
  deriving DecidableEq, Repr

/-- Whether offset `o` is one of the registers base + s1·i + s2·j, i < c1, j < c2. -/
def inRow (o base s1 c1 s2 c2 : Nat) : Bool :=
  match Nat.ble base o with
  | false => false
  | true =>
    let e := o - base
    if s1 = 0 then e == 0
    else
      let i := e / s1
      let r := e % s1
      decide (i < c1) && (if s2 = 0 then r == 0 else (decide (r / s2 < c2) && r % s2 == 0))

/-- The reset words of the registers whose tables state one other than 0. -/
def rstRows0 : List RstRow :=
  [⟨0x1000, 0, 1, 0, 1, 0xf⟩,
   ⟨0x2000, 0, 1, 0, 1, 0x800a0000⟩,
   ⟨0, 0, 1, 0, 1, 0x724000b0⟩,
   ⟨0x14, 0, 1, 0, 1, 0xa00003e8⟩,
   ⟨0x2400, 0, 1, 0, 1, 0x80100000⟩]
def rstRows1 : List RstRow :=
  [⟨0x240c, 0x20, 32, 0, 1, 0x10⟩,
   ⟨0x2420, 0, 1, 0, 1, 0x80100000⟩,
   ⟨0x2440, 0, 1, 0, 1, 0x80100000⟩,
   ⟨0x2460, 0, 1, 0, 1, 0x80100000⟩,
   ⟨0x2480, 0, 1, 0, 1, 0x80100000⟩,
   ⟨0x24a0, 0, 1, 0, 1, 0x80100000⟩,
   ⟨0x24c0, 0, 1, 0, 1, 0x80100000⟩,
   ⟨0x24e0, 0, 1, 0, 1, 0x80100000⟩,
   ⟨0x2500, 0, 1, 0, 1, 0x80100000⟩,
   ⟨0x2520, 0, 1, 0, 1, 0x80100000⟩,
   ⟨0x2540, 0, 1, 0, 1, 0x80100000⟩,
   ⟨0x2560, 0, 1, 0, 1, 0x80100000⟩,
   ⟨0x2580, 0, 1, 0, 1, 0x80100000⟩,
   ⟨0x25a0, 0, 1, 0, 1, 0x80100000⟩,
   ⟨0x25c0, 0, 1, 0, 1, 0x80100000⟩,
   ⟨0x25e0, 0, 1, 0, 1, 0x80100000⟩,
   ⟨0x2600, 0, 1, 0, 1, 0x80100000⟩,
   ⟨0x2620, 0, 1, 0, 1, 0x80100001⟩,
   ⟨0x2640, 0, 1, 0, 1, 0x80100002⟩,
   ⟨0x2660, 0, 1, 0, 1, 0x80100003⟩,
   ⟨0x2680, 0, 1, 0, 1, 0x80100004⟩,
   ⟨0x26a0, 0, 1, 0, 1, 0x80100005⟩,
   ⟨0x26c0, 0, 1, 0, 1, 0x80100006⟩,
   ⟨0x26e0, 0, 1, 0, 1, 0x80100007⟩,
   ⟨0x2700, 0, 1, 0, 1, 0x80100008⟩,
   ⟨0x2720, 0, 1, 0, 1, 0x80100009⟩,
   ⟨0x2740, 0, 1, 0, 1, 0x8010000a⟩,
   ⟨0x2760, 0, 1, 0, 1, 0x8010000b⟩,
   ⟨0x2780, 0, 1, 0, 1, 0x8010000c⟩,
   ⟨0x27a0, 0, 1, 0, 1, 0x8010000d⟩,
   ⟨0x27c0, 0, 1, 0, 1, 0x8010000e⟩,
   ⟨0x27e0, 0, 1, 0, 1, 0x8010000f⟩]
def rstRows2 : List RstRow :=
  [⟨0x3000, 4, 323, 0, 1, 0x8010001⟩,
   ⟨0x350c, 4, 1, 0, 1, 0x28010001⟩,
   ⟨0x3580, 4, 4, 0, 1, 0x28010001⟩,
   ⟨0x3590, 4, 8, 0, 1, 0x8010001⟩,
   ⟨0x35b0, 4, 3, 0, 1, 0x28010001⟩,
   ⟨0x35bc, 4, 1, 0, 1, 0x8010001⟩,
   ⟨0x35c0, 4, 1, 0, 1, 0x28010001⟩,
   ⟨0x3680, 4, 1, 0, 1, 0x28010001⟩,
   ⟨0x3684, 4, 1, 0, 1, 0x8010001⟩,
   ⟨0x3688, 4, 1, 0, 1, 0x28010001⟩,
   ⟨0x368c, 4, 2, 0, 1, 0x8010001⟩,
   ⟨0x3694, 4, 4, 0, 1, 0x28010001⟩]
def rstRows3 : List RstRow :=
  [⟨0x8014, 0, 1, 0, 1, 0x14000⟩,
   ⟨0x8040, 0, 1, 0, 1, 0x10⟩,
   ⟨0x8064, 0, 1, 0, 1, 0x15180⟩,
   ⟨0x4000, 0x40, 256, 0, 1, 0x20060000⟩,
   ⟨0x401c, 0x40, 256, 0, 1, 0x1⟩,
   ⟨0x36a4, 4, 1, 0, 1, 0x8010001⟩,
   ⟨0x36a8, 4, 4, 0, 1, 0x28010001⟩,
   ⟨0x3700, 4, 11, 0, 1, 0x28010001⟩,
   ⟨0x3740, 4, 12, 0, 1, 0x28010001⟩,
   ⟨0x3780, 4, 25, 0, 1, 0x28010001⟩,
   ⟨0x3800, 4, 320, 0, 1, 0x28000001⟩,
   ⟨0x3d00, 4, 64, 0, 1, 0x28010001⟩]
def rstRows4 : List RstRow :=
  [⟨0x8200, 0, 1, 0, 1, 0x80000258⟩,
   ⟨0x8204, 0, 1, 0, 1, 0xf⟩,
   ⟨0x8208, 0, 1, 0, 1, 0x86000064⟩,
   ⟨0x820c, 0, 1, 0, 1, 0x3e800c8⟩,
   ⟨0x8210, 0, 1, 0, 1, 0x138801f4⟩,
   ⟨0x8214, 0, 1, 0, 1, 0xf4240⟩,
   ⟨0x8218, 0, 1, 0, 1, 0x8000012c⟩,
   ⟨0x821c, 0, 1, 0, 1, 0x3e8⟩,
   ⟨0x8220, 0, 1, 0, 1, 0x850003e8⟩,
   ⟨0x8234, 0, 1, 0, 1, 0x2710⟩,
   ⟨0x8238, 0, 1, 0, 1, 0x2710⟩,
   ⟨0x8250, 0, 1, 0, 1, 0xffffffff⟩]
def rstRows5 : List RstRow :=
  [⟨0x9000, 0x80, 32, 0, 1, 0x20380000⟩,
   ⟨0x9008, 0x80, 32, 0, 1, 0xf1000000⟩,
   ⟨0x900c, 0x80, 32, 0, 1, 0x78003c⟩,
   ⟨0x9018, 0x80, 32, 0, 1, 0x20⟩,
   ⟨0x901c, 0x80, 32, 0, 1, 0x989680⟩,
   ⟨0x9020, 0x80, 32, 0, 1, 0xff⟩,
   ⟨0x9060, 0x80, 32, 0, 1, 0x400⟩,
   ⟨0xa004, 0, 1, 0, 1, 0x40500258⟩,
   ⟨0xa008, 0, 1, 0, 1, 0xffff⟩,
   ⟨0xa100, 0x10, 8, 0, 1, 0x223b4000⟩,
   ⟨0xa200, 0x10, 4, 0, 1, 0x20000000⟩,
   ⟨0xb010, 0, 1, 0, 1, 0x8000000⟩]
def rstRows6 : List RstRow :=
  [⟨0xc000, 0x40, 2, 0, 1, 0x4104000⟩,
   ⟨0xd000, 0, 1, 0, 1, 0x80000000⟩,
   ⟨0xd010, 0, 1, 0, 1, 0x12c0190⟩,
   ⟨0xd014, 0, 1, 0, 1, 0x4b0⟩,
   ⟨0xd018, 0, 1, 0, 1, 0xe10⟩,
   ⟨0xb014, 0, 1, 0, 1, 0x3e8⟩,
   ⟨0xb100, 0x40, 8, 0, 1, 0x20000000⟩,
   ⟨0xb10c, 0x40, 8, 0, 1, 0x5f5e100⟩,
   ⟨0xb110, 0x40, 8, 0, 1, 0x3b9aca00⟩,
   ⟨0xb11c, 0x40, 8, 0, 1, 0x4c8000⟩,
   ⟨0xb400, 0x40, 4, 0, 1, 0x20000000⟩,
   ⟨0xb408, 0x40, 4, 0, 1, 0x989680⟩]
def rstRows7 : List RstRow :=
  [⟨0xd01c, 0, 1, 0, 1, 0x5dc⟩,
   ⟨0xd020, 0, 1, 0, 1, 0x1e4b19⟩,
   ⟨0xd024, 0, 1, 0, 1, 0xfa0⟩,
   ⟨0xd04c, 0, 1, 0, 1, 0x1⟩,
   ⟨0xd050, 0, 1, 0, 1, 0xf4240⟩,
   ⟨0xe060, 0, 1, 0, 1, 0x1a7⟩,
   ⟨0xf000, 0, 1, 0, 1, 0x80000000⟩,
   ⟨0xf008, 4, 2, 0, 1, 0xffffffff⟩,
   ⟨0xf040, 0, 1, 0, 1, 0x8004008⟩,
   ⟨0xf048, 0, 1, 0, 1, 0x400804⟩,
   ⟨0xf050, 0, 1, 0, 1, 0x400804⟩,
   ⟨0xf058, 0, 1, 0, 1, 0x100001⟩]
def rstRows8 : List RstRow :=
  [⟨0x18000, 0x100, 12, 0, 1, 0x2000000f⟩,
   ⟨0x18004, 0x100, 12, 0, 1, 0x30⟩,
   ⟨0x19000, 0, 1, 0, 1, 0x20ffffff⟩,
   ⟨0x19004, 0, 1, 0, 1, 0x14⟩,
   ⟨0x19010, 0, 1, 0, 1, 0xc07⟩,
   ⟨0x19014, 0, 1, 0, 1, 0x3e8⟩,
   ⟨0x1904c, 0, 1, 0, 1, 0x15180⟩,
   ⟨0x10000, 0x400, 17, 0, 1, 0x20000200⟩,
   ⟨0x10004, 0x400, 17, 0, 1, 0x100⟩,
   ⟨0x10014, 0x400, 17, 0, 1, 0x5f2⟩,
   ⟨0x17000, 0, 1, 0, 1, 0xbbff⟩,
   ⟨0xf060, 0, 1, 0, 1, 0x10001002⟩]
def rstRows9 : List RstRow :=
  [⟨0x1a000, 0, 1, 0, 1, 0x20000000⟩,
   ⟨0x1a004, 0, 1, 0, 1, 0xe001⟩,
   ⟨0x1a00c, 0, 1, 0, 1, 0x80000e10⟩,
   ⟨0x1a010, 0, 1, 0, 1, 0x28⟩,
   ⟨0x1a014, 0, 1, 0, 1, 0x11040001⟩,
   ⟨0x1a020, 0, 1, 0, 1, 0x2000180⟩,
   ⟨0x1a030, 0, 1, 0, 1, 0x806403e8⟩,
   ⟨0x19050, 0, 1, 0, 1, 0x1⟩,
   ⟨0x19060, 0, 1, 0, 1, 0x20004008⟩,
   ⟨0x19064, 0, 1, 0, 1, 0x640064⟩,
   ⟨0x1906c, 0, 1, 0, 1, 0x73⟩,
   ⟨0x19070, 0, 1, 0, 1, 0x1⟩]
def rstRows10 : List RstRow :=
  [⟨0x1a404, 8, 32, 0, 1, 0x1⟩,
   ⟨0x1a500, 8, 16, 0, 1, 0xf42400⟩,
   ⟨0x1a504, 8, 16, 0, 1, 0x10⟩,
   ⟨0x1a800, 0x80, 8, 0, 1, 0x20300000⟩,
   ⟨0x1a808, 0x80, 8, 0, 1, 0x80800080⟩,
   ⟨0x1a818, 0x80, 8, 0, 1, 0x3e8⟩,
   ⟨0x1a820, 0x80, 8, 0, 1, 0x4b010000⟩,
   ⟨0x1a824, 0x80, 8, 0, 1, 0x4e5dffff⟩,
   ⟨0x1a82c, 0x80, 8, 0, 1, 0xf8fe0000⟩,
   ⟨0x1ac10, 0x40, 16, 0, 1, 0xffffffff⟩,
   ⟨0x1b80c, 0x10, 16, 0, 1, 0x1⟩,
   ⟨0x1a814, 0x80, 8, 0, 1, 0x3000100⟩]
def rstRows11 : List RstRow :=
  [⟨0x1c000, 0, 1, 0, 1, 0x20000007⟩,
   ⟨0x1c008, 0, 1, 0, 1, 0xc0000004⟩,
   ⟨0x1c020, 0, 1, 0, 1, 0x30⟩,
   ⟨0x1c024, 0, 1, 0, 1, 0x17700023⟩,
   ⟨0x1c028, 0, 1, 0, 1, 0xa140620⟩,
   ⟨0x1c030, 0, 1, 0, 1, 0xa1e64⟩,
   ⟨0x1c034, 0, 1, 0, 1, 0xf0⟩,
   ⟨0x1c038, 0, 1, 0, 1, 0x643203⟩,
   ⟨0x1c058, 0, 1, 0, 1, 0x1388⟩,
   ⟨0x1c084, 0, 1, 0, 1, 0x20001c20⟩,
   ⟨0x1c090, 0, 1, 0, 1, 0x80331a0d⟩,
   ⟨0x1c0a0, 0, 1, 0, 1, 0x803c0194⟩]
def rstRows12 : List RstRow :=
  [⟨0x1c0b8, 0, 1, 0, 1, 0x80000000⟩,
   ⟨0x1e000, 0, 1, 0, 1, 0x2e000000⟩,
   ⟨0x1e024, 0, 1, 0, 1, 0x64⟩,
   ⟨0x20084, 0, 1, 0, 1, 0x400⟩,
   ⟨0x20088, 0, 1, 0, 1, 0x800⟩,
   ⟨0x2008c, 0, 1, 0, 1, 0xc00⟩,
   ⟨0x20090, 0, 1, 0, 1, 0x1000⟩,
   ⟨0x20094, 0, 1, 0, 1, 0x1400⟩,
   ⟨0x20098, 0, 1, 0, 1, 0x1800⟩,
   ⟨0x2009c, 0, 1, 0, 1, 0x1c00⟩]
def rstRows13 : List RstRow :=
  [⟨0x30010, 0, 1, 0, 1, 0x1030c⟩,
   ⟨0x21000, 0x10, 256, 0, 1, 0x20000000⟩,
   ⟨0x21008, 0x10, 256, 0, 1, 0x1⟩,
   ⟨0x2100c, 0x10, 256, 0, 1, 0x1⟩,
   ⟨0x30100, 0, 1, 0, 1, 0x8000400⟩,
   ⟨0x30110, 0, 1, 0, 1, 0x8000400⟩,
   ⟨0x30114, 0, 1, 0, 1, 0x20000⟩,
   ⟨0x30120, 0, 1, 0, 1, 0x4000200⟩,
   ⟨0x30124, 0, 1, 0, 1, 0x20000⟩,
   ⟨0x30130, 0, 1, 0, 1, 0x8000800⟩,
   ⟨0x30134, 0, 1, 0, 1, 0x10000⟩,
   ⟨0x30140, 0, 1, 0, 1, 0x10001000⟩]
def rstRows14 : List RstRow :=
  [⟨0x3f000, 0, 1, 0, 1, 0x20000000⟩,
   ⟨0x3f004, 0, 1, 0, 1, 0xf0000⟩,
   ⟨0x3f008, 0, 1, 0, 1, 0x10000⟩,
   ⟨0x30144, 0, 1, 0, 1, 0x10000⟩,
   ⟨0x30150, 0, 1, 0, 1, 0x8000400⟩,
   ⟨0x30154, 0, 1, 0, 1, 0x10000⟩,
   ⟨0x30160, 0, 1, 0, 1, 0xc000800⟩,
   ⟨0x30164, 0, 1, 0, 1, 0x20000⟩,
   ⟨0x30170, 0, 1, 0, 1, 0x4000200⟩,
   ⟨0x30180, 0, 1, 0, 1, 0x400040⟩]
/-- The rows that can hold an offset: the tables are split by address. -/
def rstRows (o : Nat) : List RstRow :=
  (match Nat.blt o 0xd01c with | true => (match Nat.blt o 0x36a4 with | true => (match Nat.blt o 0x240c with | true => rstRows0 | false => (match Nat.blt o 0x3000 with | true => rstRows1 | false => rstRows2)) | false => (match Nat.blt o 0x9000 with | true => (match Nat.blt o 0x8200 with | true => rstRows3 | false => rstRows4) | false => (match Nat.blt o 0xb014 with | true => rstRows5 | false => rstRows6))) | false => (match Nat.blt o 0x1c000 with | true => (match Nat.blt o 0x19050 with | true => (match Nat.blt o 0xf060 with | true => rstRows7 | false => rstRows8) | false => (match Nat.blt o 0x1a404 with | true => rstRows9 | false => rstRows10)) | false => (match Nat.blt o 0x21000 with | true => (match Nat.blt o 0x1c0b8 with | true => rstRows11 | false => rstRows12) | false => (match Nat.blt o 0x30144 with | true => rstRows13 | false => rstRows14))))

def rstLookup (o : Nat) : List RstRow → Nat
  | [] => 0
  | r :: t => match inRow o r.base r.s1 r.c1 r.s2 r.c2 with | true => r.word | false => rstLookup o t

/-- The reset word of the register at BAR0 offset `o` (0 where its tables give every field reset 0). (DESIGN CHOICE, log entry 98.) -/
def regReset (o : Nat) : BitVec 32 := BitVec.ofNat 32 (rstLookup o (rstRows o))

/-- The access masks of a register (R8): which bits a host write sets, sets before SET-UP LOCK, clears by 1, sets by 1,
triggers (WO), or may only be set by a Batch (SEAL). -/
structure AccRow where
  base : Nat
  s1 : Nat
  c1 : Nat
  s2 : Nat
  c2 : Nat
  rwM : Nat
  rwlM : Nat
  sealM : Nat
  w1cM : Nat
  w1sM : Nat
  woM : Nat
  deriving DecidableEq, Repr

def accRows0 : List AccRow :=
  [/- GLB_ID -/ ⟨0, 0, 1, 0, 1, 0, 0, 0, 0, 0, 0⟩,
   /- GLB_STATUS -/ ⟨4, 0, 1, 0, 1, 0, 0, 0, 0, 0, 0⟩,
   /- GLB_STRAP -/ ⟨8, 0, 1, 0, 1, 0, 0, 0, 0, 0, 0⟩,
   /- GLB_RST -/ ⟨0xc, 0, 1, 0, 1, 0, 0, 0, 0, 0, 0xc000ffff⟩,
   /- GLB_RST_CAUSE -/ ⟨0x10, 0, 1, 0, 1, 0, 0, 0, 0, 0, 0⟩,
   /- GLB_WDOG -/ ⟨0x14, 0, 1, 0, 1, 0, 0xe000ffff, 0, 0, 0, 0⟩,
   /- GLB_BOOT_MS -/ ⟨0x18, 0, 1, 0, 1, 0, 0, 0, 0, 0, 0⟩,
   /- GLB_RST_CNT -/ ⟨0x1c, 0, 1, 0, 1, 0, 0, 0, 0, 0, 0⟩,
   /- GLB_REC_CTL -/ ⟨0x20, 0, 1, 0, 1, 0, 0, 0, 0, 0, 0xc0000000⟩,
   /- GLB_REC_STATUS -/ ⟨0x24, 0, 1, 0, 1, 0, 0, 0, 0, 0, 0⟩,
   /- GLB_REC_DATA -/ ⟨0x28, 0, 1, 0, 1, 0, 0, 0, 0, 0, 0xffffffff⟩,
   /- GLB_LOCK -/ ⟨0x30, 0, 1, 0, 1, 0, 0, 0, 0, 0x80000000, 0⟩]
def accRows1 : List AccRow :=
  [/- PWR_PD_CTL -/ ⟨0x1000, 0, 1, 0, 1, 0xf, 0, 0, 0, 0, 0⟩,
   /- PWR_PD_STATUS -/ ⟨0x1004, 0, 1, 0, 1, 0, 0, 0, 0xf, 0, 0⟩,
   /- PWR_PLL_STATUS -/ ⟨0x1010, 0, 1, 0, 1, 0, 0, 0, 0, 0, 0⟩,
   /- PWR_PLL_EVT -/ ⟨0x1014, 0, 1, 0, 1, 0, 0, 0, 0xffffffff, 0, 0⟩,
   /- INTC_CTL -/ ⟨0x2000, 0, 1, 0, 1, 0x80ff0000, 0, 0, 0, 0, 0⟩,
   /- INTC_STATUS -/ ⟨0x2004, 0, 1, 0, 1, 0, 0, 0, 3, 0, 0⟩,
   /- INTC_PEND -/ ⟨0x2080, 4, 32, 0, 1, 0, 0, 0, 0xffffffff, 0, 0⟩,
   /- INTC_SETP -/ ⟨0x2100, 4, 32, 0, 1, 0, 0, 0, 0, 0xffffffff, 0⟩,
   /- INTC_ACT -/ ⟨0x2180, 4, 32, 0, 1, 0, 0, 0, 0, 0, 0⟩,
   /- GLB_ACC_ERR -/ ⟨0x34, 0, 1, 0, 1, 0, 0, 0, 0x80000000, 0, 0⟩]
def accRows2 : List AccRow :=
  [/- INTC_TGT_CTL -/ ⟨0x2400, 0x20, 32, 0, 1, 0x801f000f, 0, 0, 0, 0, 0⟩,
   /- INTC_TGT_CLAIM -/ ⟨0x2404, 0x20, 32, 0, 1, 0, 0, 0, 0, 0, 0⟩,
   /- INTC_TGT_EOI -/ ⟨0x2408, 0x20, 32, 0, 1, 0, 0, 0, 0, 0, 0x3ff⟩,
   /- INTC_TGT_RUN -/ ⟨0x240c, 0x20, 32, 0, 1, 0, 0, 0, 0, 0, 0⟩,
   /- INTC_SRC_CFG -/ ⟨0x3000, 4, 1024, 0, 1, 0xef00ffff, 0, 0, 0, 0, 0⟩]
def accRows3 : List AccRow :=
  [/- HIF_RING_CTL -/ ⟨0x4000, 0x40, 256, 0, 1, 0xc79f0000, 0, 0, 0, 0, 0⟩,
   /- HIF_RING_STATUS -/ ⟨0x4004, 0x40, 256, 0, 1, 0, 0, 0, 8, 0, 0⟩,
   /- HIF_RING_SQ_LO -/ ⟨0x4008, 0x40, 256, 0, 1, 0xfffff000, 0, 0, 0, 0, 0⟩,
   /- HIF_RING_SQ_HI -/ ⟨0x400c, 0x40, 256, 0, 1, 0xffffffff, 0, 0, 0, 0, 0⟩,
   /- HIF_RING_CQ_LO -/ ⟨0x4010, 0x40, 256, 0, 1, 0xfffff000, 0, 0, 0, 0, 0⟩,
   /- HIF_RING_CQ_HI -/ ⟨0x4014, 0x40, 256, 0, 1, 0xffffffff, 0, 0, 0, 0, 0⟩,
   /- HIF_RING_IDX -/ ⟨0x4018, 0x40, 256, 0, 1, 0, 0, 0, 0, 0, 0⟩,
   /- HIF_RING_MOD -/ ⟨0x401c, 0x40, 256, 0, 1, 0xffff00ff, 0, 0, 0, 0, 0⟩,
   /- HIF_RING_SEL -/ ⟨0x4020, 0x40, 256, 0, 1, 0x1ffff, 0, 0, 0, 0, 0⟩,
   /- HIF_RING_ERR_LO -/ ⟨0x4024, 0x40, 256, 0, 1, 0, 0, 0, 0, 0, 0⟩,
   /- HIF_RING_ERR_HI -/ ⟨0x4028, 0x40, 256, 0, 1, 0, 0, 0, 0, 0, 0⟩,
   /- HIF_RING_DONE -/ ⟨0x402c, 0x40, 256, 0, 1, 0, 0, 0, 0, 0, 0⟩]
def accRows4 : List AccRow :=
  [/- TB_STATUS -/ ⟨0x8000, 0, 1, 0, 1, 0, 0, 0, 8, 0, 0⟩,
   /- TB_INCR_LO -/ ⟨0x8010, 0, 1, 0, 1, 0xffffffff, 0, 0, 0, 0, 0⟩,
   /- TB_INCR_HI -/ ⟨0x8014, 0, 1, 0, 1, 0xffffff, 0, 0, 0, 0, 0⟩,
   /- TB_NOW_SEC_LO -/ ⟨0x8020, 0, 1, 0, 1, 0, 0, 0, 0, 0, 0⟩,
   /- TB_NOW_SEC_HI -/ ⟨0x8024, 0, 1, 0, 1, 0, 0, 0, 0, 0, 0⟩,
   /- TB_NOW_NS -/ ⟨0x8028, 0, 1, 0, 1, 0, 0, 0, 0, 0, 0⟩,
   /- TB_NOW_FRAC_LO -/ ⟨0x802c, 0, 1, 0, 1, 0, 0, 0, 0, 0, 0⟩,
   /- TB_NOW_FRAC_HI -/ ⟨0x8030, 0, 1, 0, 1, 0, 0, 0, 0, 0, 0⟩,
   /- TB_LEAP_CTL -/ ⟨0x8040, 0, 1, 0, 1, 0, 0x30, 1, 0, 0, 0xc0000000⟩,
   /- TB_LEAP_STATUS -/ ⟨0x8044, 0, 1, 0, 1, 0, 0, 0, 4, 0, 0⟩,
   /- TB_LEAP_EXPIRY_LO -/ ⟨0x8048, 0, 1, 0, 1, 0xffffffff, 0, 0, 0, 0, 0⟩,
   /- TB_LEAP_EXPIRY_HI -/ ⟨0x804c, 0, 1, 0, 1, 0xffff, 0, 0, 0, 0, 0⟩]
def accRows5 : List AccRow :=
  [/- TB_SMEAR_CTL -/ ⟨0x8060, 0, 1, 0, 1, 0x80000100, 0, 0, 0, 0, 0⟩,
   /- TB_SMEAR_WIN -/ ⟨0x8064, 0, 1, 0, 1, 0x3ffff, 0, 0, 0, 0, 0⟩,
   /- TB_LEAP_LO -/ ⟨0x8100, 8, 32, 0, 1, 0xffffffff, 0, 0, 0, 0, 0⟩,
   /- TB_LEAP_HI -/ ⟨0x8104, 8, 32, 0, 1, 0x80ffffff, 0, 0, 0, 0, 0⟩,
   /- TB_SEL_CTL -/ ⟨0x8200, 0, 1, 0, 1, 0xdf00ffff, 0, 0, 0, 0, 0⟩,
   /- TB_SEL_STATUS -/ ⟨0x8204, 0, 1, 0, 1, 0, 0, 0, 0, 0, 0⟩,
   /- TB_DPLL_CTL -/ ⟨0x8208, 0, 1, 0, 1, 0x9f07ffff, 0, 0, 0, 0, 0⟩,
   /- TB_AGREE -/ ⟨0x820c, 0, 1, 0, 1, 0xffffffff, 0, 0, 0, 0, 0⟩,
   /- TB_DRIFT -/ ⟨0x8210, 0, 1, 0, 1, 0xffffffff, 0, 0, 0, 0, 0⟩,
   /- TB_XTOL -/ ⟨0x8214, 0, 1, 0, 1, 0xffffffff, 0, 0, 0, 0, 0⟩,
   /- TB_HOLD_CTL -/ ⟨0x8218, 0, 1, 0, 1, 0x8000ffff, 0, 0, 0, 0, 0⟩,
   /- TB_HOLD_BUDGET -/ ⟨0x821c, 0, 1, 0, 1, 0xffffffff, 0, 0, 0, 0, 0⟩]
def accRows6 : List AccRow :=
  [/- TB_STEP_CTL -/ ⟨0x8220, 0, 1, 0, 1, 0x870fffff, 0, 0, 0, 0, 0⟩,
   /- TB_OSC_AGE -/ ⟨0x8230, 0, 1, 0, 1, 0xffffffff, 0, 0, 0, 0, 0⟩,
   /- TB_OSC_AGE_TOL -/ ⟨0x8234, 0, 1, 0, 1, 0xffffffff, 0, 0, 0, 0, 0⟩,
   /- TB_OSC_NOISE -/ ⟨0x8238, 0, 1, 0, 1, 0xffffffff, 0, 0, 0, 0, 0⟩,
   /- TB_OSC_CTL -/ ⟨0x823c, 0, 1, 0, 1, 0, 0, 0, 0, 0, 1⟩,
   /- TB_ERR_EST_LO -/ ⟨0x8240, 0, 1, 0, 1, 0, 0, 0, 0, 0, 0⟩,
   /- TB_ERR_EST_HI -/ ⟨0x8244, 0, 1, 0, 1, 0, 0, 0, 0, 0, 0⟩,
   /- TB_ERR_WIDEN -/ ⟨0x8248, 0, 1, 0, 1, 0, 0, 0, 0, 0, 0⟩,
   /- TB_HOLD_TIME -/ ⟨0x824c, 0, 1, 0, 1, 0, 0, 0, 0, 0, 0⟩,
   /- TB_HOLD_LEFT -/ ⟨0x8250, 0, 1, 0, 1, 0, 0, 0, 0, 0, 0⟩,
   /- TB_STEER -/ ⟨0x8254, 0, 1, 0, 1, 0, 0, 0, 0, 0, 0⟩,
   /- TB_OSCIN_CFG -/ ⟨0x8300, 0, 1, 0, 1, 0, 0x20000fff, 0, 0, 0, 0⟩]
def accRows7 : List AccRow :=
  [/- TB_TBC -/ ⟨0x8304, 0, 1, 0, 1, 0x80000000, 0, 0, 0, 0, 0⟩,
   /- TB_TBS -/ ⟨0x8308, 0, 1, 0, 1, 0, 0, 0, 0x1f000000, 0, 0⟩,
   /- TB_RAW_LO -/ ⟨0x8310, 0, 1, 0, 1, 0, 0, 0, 0, 0, 0⟩,
   /- TB_RAW_HI -/ ⟨0x8314, 0, 1, 0, 1, 0, 0, 0, 0, 0, 0⟩,
   /- TB_LOSS_GAP -/ ⟨0x8318, 0, 1, 0, 1, 0, 0, 0, 0, 0, 0⟩]
def accRows8 : List AccRow :=
  [/- REF_CFG -/ ⟨0x9000, 0x80, 32, 0, 1, 0xdfff0f30, 0, 0, 0, 0, 8⟩,
   /- REF_STATUS -/ ⟨0x9004, 0x80, 32, 0, 1, 0, 0, 0, 0, 0, 0⟩,
   /- REF_QUAL -/ ⟨0x9008, 0x80, 32, 0, 1, 0xff000000, 0, 0, 0, 0, 0⟩,
   /- REF_PROOF -/ ⟨0x900c, 0x80, 32, 0, 1, 0xffffffff, 0, 0, 0, 0, 0⟩,
   /- REF_DELAY -/ ⟨0x9010, 0x80, 32, 0, 1, 0xffffffff, 0, 0, 0, 0, 0⟩,
   /- REF_ERR -/ ⟨0x9014, 0x80, 32, 0, 1, 0xffffffff, 0, 0, 0, 0, 0⟩,
   /- REF_TOD -/ ⟨0x9018, 0x80, 32, 0, 1, 0x1ff, 0, 0, 0, 0, 0⟩,
   /- REF_NOMF -/ ⟨0x901c, 0x80, 32, 0, 1, 0xffffffff, 0, 0, 0, 0, 0⟩,
   /- REF_RANK -/ ⟨0x9020, 0x80, 32, 0, 1, 0, 0, 0, 0, 0, 0⟩,
   /- REF_CODE -/ ⟨0x9024, 0x80, 32, 0, 1, 0, 0, 0, 0, 0, 0⟩,
   /- REF_PHASE_LO -/ ⟨0x9028, 0x80, 32, 0, 1, 0, 0, 0, 0, 0, 0⟩,
   /- REF_PHASE_HI -/ ⟨0x902c, 0x80, 32, 0, 1, 0, 0, 0, 0, 0, 0⟩,
   /- REF_FREQ -/ ⟨0x9030, 0x80, 32, 0, 1, 0, 0, 0, 0, 0, 0⟩,
   /- REF_DRIFT -/ ⟨0x9034, 0x80, 32, 0, 1, 0, 0, 0, 0, 0, 0⟩,
   /- REF_NOISE -/ ⟨0x9038, 0x80, 32, 0, 1, 0, 0, 0, 0, 0, 0⟩,
   /- REF_PROOF_T -/ ⟨0x903c, 0x80, 32, 0, 1, 0, 0, 0, 0, 0, 0⟩,
   /- REF_EVT -/ ⟨0x9040, 0x80, 32, 0, 1, 0, 0, 0, 0x3f, 0, 0⟩,
   /- REF_ERR_RPT -/ ⟨0x9044, 0x80, 32, 0, 1, 0, 0, 0, 0, 0, 0⟩,
   /- REF_NTP_ADDR -/ ⟨0x9050, 0x80, 32, 4, 4, 0xffffffff, 0, 0, 0, 0, 0⟩,
   /- REF_NTP_CTL -/ ⟨0x9060, 0x80, 32, 0, 1, 0xf0fff, 0, 0, 0, 0, 0⟩,
   /- REF_NTP_MAC_LO -/ ⟨0x9064, 0x80, 32, 0, 1, 0xffffffff, 0, 0, 0, 0, 0⟩,
   /- REF_NTP_MAC_HI -/ ⟨0x9068, 0x80, 32, 0, 1, 0xffff, 0, 0, 0, 0, 0⟩]
def accRows9 : List AccRow :=
  [/- TIC_STATUS -/ ⟨0xa000, 0, 1, 0, 1, 0, 0, 0, 6, 0, 0⟩,
   /- TIC_CAL_CTL -/ ⟨0xa004, 0, 1, 0, 1, 0x40f0ffff, 0, 0, 0, 0, 0x80000000⟩,
   /- TIC_CAL_STATUS -/ ⟨0xa008, 0, 1, 0, 1, 0, 0, 0, 0, 0, 0⟩,
   /- TIC_RING -/ ⟨0xa00c, 0, 1, 0, 1, 0x800000ff, 0, 0, 0, 0, 0⟩,
   /- TIC_TBL_IDX -/ ⟨0xa010, 0, 1, 0, 1, 0xf13ff, 0, 0, 0, 0, 0⟩,
   /- TIC_TBL_DATA -/ ⟨0xa014, 0, 1, 0, 1, 0, 0, 0, 0, 0, 0⟩,
   /- TIC_CH_CFG -/ ⟨0xa100, 0x10, 8, 0, 1, 0xc3fffff0, 0, 0, 0, 0, 0⟩,
   /- TIC_CH_DELAY -/ ⟨0xa104, 0x10, 8, 0, 1, 0xffffffff, 0, 0, 0, 0, 0⟩,
   /- TIC_CH_STAT -/ ⟨0xa108, 0x10, 8, 0, 1, 0, 0, 0, 0, 0, 0⟩]
def accRows10 : List AccRow :=
  [/- TIC_PAIR_CFG -/ ⟨0xa200, 0x10, 4, 0, 1, 0xc0000177, 0, 0, 0, 0, 0⟩,
   /- TIC_PAIR_LAST_LO -/ ⟨0xa204, 0x10, 4, 0, 1, 0, 0, 0, 0, 0, 0⟩,
   /- TIC_PAIR_LAST_HI -/ ⟨0xa208, 0x10, 4, 0, 1, 0, 0, 0, 0, 0, 0⟩,
   /- TIC_PAIR_FLAGS -/ ⟨0xa20c, 0x10, 4, 0, 1, 0, 0, 0, 0, 0, 0⟩,
   /- OUT_EV_CMD -/ ⟨0xb010, 0, 1, 0, 1, 0xc000007, 0, 0, 0, 0, 0xe0000000⟩,
   /- OUT_EV_WIDTH -/ ⟨0xb014, 0, 1, 0, 1, 0xffffffff, 0, 0, 0, 0, 0⟩,
   /- OUT_EV_AT_W -/ ⟨0xb018, 4, 3, 0, 1, 0xffffffff, 0, 0, 0, 0, 0⟩,
   /- OUT_EV_RESULT -/ ⟨0xb024, 0, 1, 0, 1, 0, 0, 0, 0, 0, 0⟩,
   /- OUT_EV_HANDLE -/ ⟨0xb028, 0, 1, 0, 1, 0xffffffff, 0, 0, 0, 0, 0⟩]
def accRows11 : List AccRow :=
  [/- TOUT_CFG -/ ⟨0xb100, 0x40, 8, 0, 1, 0xc7f80000, 0, 0, 0, 0, 0⟩,
   /- TOUT_STATUS -/ ⟨0xb104, 0x40, 8, 0, 1, 0, 0, 0, 9, 0, 0⟩,
   /- TOUT_OFF -/ ⟨0xb108, 0x40, 8, 0, 1, 0xffffffff, 0, 0, 0, 0, 0⟩,
   /- TOUT_WIDTH -/ ⟨0xb10c, 0x40, 8, 0, 1, 0xffffffff, 0, 0, 0, 0, 0⟩,
   /- TOUT_PER_LO -/ ⟨0xb110, 0x40, 8, 0, 1, 0xffffffff, 0, 0, 0, 0, 0⟩,
   /- TOUT_PER_HI -/ ⟨0xb114, 0x40, 8, 0, 1, 0xff, 0, 0, 0, 0, 0⟩,
   /- TOUT_DELAY -/ ⟨0xb118, 0x40, 8, 0, 1, 0xffffffff, 0, 0, 0, 0, 0⟩,
   /- TOUT_AUX -/ ⟨0xb11c, 0x40, 8, 0, 1, 0xffffffff, 0, 0, 0, 0, 0⟩]
def accRows12 : List AccRow :=
  [/- FOUT_CFG -/ ⟨0xb400, 0x40, 4, 0, 1, 0xc0780000, 0, 0, 0, 0, 0⟩,
   /- FOUT_STATUS -/ ⟨0xb404, 0x40, 4, 0, 1, 0, 0, 0, 8, 0, 0⟩,
   /- FOUT_FREQ_INT -/ ⟨0xb408, 0x40, 4, 0, 1, 0x3fffffff, 0, 0, 0, 0, 0⟩,
   /- FOUT_FREQ_FRAC -/ ⟨0xb40c, 0x40, 4, 0, 1, 0xffff, 0, 0, 0, 0, 0⟩,
   /- FOUT_PHASE -/ ⟨0xb410, 0x40, 4, 0, 1, 0xffffffff, 0, 0, 0, 0, 0⟩,
   /- FOUT_DELAY -/ ⟨0xb414, 0x40, 4, 0, 1, 0xffffffff, 0, 0, 0, 0, 0⟩]
def accRows13 : List AccRow :=
  [/- AXIS_CFG -/ ⟨0xc000, 0x40, 2, 0, 1, 0x9ffffc00, 0, 0, 0, 0, 0⟩,
   /- AXIS_STATUS -/ ⟨0xc004, 0x40, 2, 0, 1, 0, 0, 0, 0x30, 0, 0⟩,
   /- AXIS_PERIOD_NS -/ ⟨0xc008, 0x40, 2, 0, 1, 0, 0, 0, 0, 0, 0⟩,
   /- AXIS_PERIOD_FRAC -/ ⟨0xc00c, 0x40, 2, 0, 1, 0, 0, 0, 0, 0, 0⟩,
   /- AXIS_CYCLE -/ ⟨0xc010, 0x40, 2, 0, 1, 0, 0, 0, 0, 0, 0⟩,
   /- AXIS_EDGE_SEC_LO -/ ⟨0xc014, 0x40, 2, 0, 1, 0, 0, 0, 0, 0, 0⟩,
   /- AXIS_EDGE_SEC_HI -/ ⟨0xc018, 0x40, 2, 0, 1, 0, 0, 0, 0, 0, 0⟩,
   /- AXIS_EDGE_NS -/ ⟨0xc01c, 0x40, 2, 0, 1, 0, 0, 0, 0, 0, 0⟩,
   /- AXIS_DELAY -/ ⟨0xc020, 0x40, 2, 0, 1, 0xffffffff, 0, 0, 0, 0, 0⟩,
   /- AXIS_LINES -/ ⟨0xc024, 0x40, 2, 0, 1, 0xffff, 0, 0, 0, 0, 0⟩,
   /- AXIS_CYCLE_SET -/ ⟨0xc028, 0x40, 2, 0, 1, 0, 0, 0, 0, 0, 0xffffffff⟩,
   /- PEEL_CTL -/ ⟨0xd000, 0, 1, 0, 1, 0xc0000000, 0, 0, 0, 0, 0⟩]
def accRows14 : List AccRow :=
  [/- PEEL_STATUS -/ ⟨0xd004, 0, 1, 0, 1, 0, 0, 0, 1, 0, 0⟩,
   /- PEEL_GUARD -/ ⟨0xd010, 0, 1, 0, 1, 0xffffffff, 0, 0, 0, 0, 0⟩,
   /- PEEL_PROMISE_NTP -/ ⟨0xd014, 0, 1, 0, 1, 0xffff, 0, 0, 0, 0, 0⟩,
   /- PEEL_PROMISE_NTS -/ ⟨0xd018, 0, 1, 0, 1, 0xffff, 0, 0, 0, 0, 0⟩,
   /- PEEL_PROMISE_PTP -/ ⟨0xd01c, 0, 1, 0, 1, 0xffff, 0, 0, 0, 0, 0⟩,
   /- PEEL_BUILD -/ ⟨0xd020, 0, 1, 0, 1, 0xffffff, 0, 0, 0, 0, 0⟩,
   /- PEEL_SEARCH -/ ⟨0xd024, 0, 1, 0, 1, 0xffff, 0, 0, 0, 0, 0⟩,
   /- PEEL_FAR_USED -/ ⟨0xd030, 0, 1, 0, 1, 0, 0, 0, 0, 0, 0⟩,
   /- PEEL_GCL_IDX -/ ⟨0xd040, 0, 1, 0, 1, 0xf00ff, 0, 0, 0, 0, 0⟩,
   /- PEEL_GCL_LO -/ ⟨0xd044, 0, 1, 0, 1, 0xffffffff, 0, 0, 0, 0, 0⟩,
   /- PEEL_GCL_HI -/ ⟨0xd048, 0, 1, 0, 1, 0xff, 0, 0, 0, 0, 0⟩,
   /- PEEL_GCL_CMD -/ ⟨0xd04c, 0, 1, 0, 1, 0x1ff, 0, 0, 0, 0, 0xe0000000⟩]
def accRows15 : List AccRow :=
  [/- PEEL_GCL_CYCLE_NS -/ ⟨0xd050, 0, 1, 0, 1, 0xffffffff, 0, 0, 0, 0, 0⟩,
   /- PEEL_GCL_CYCLE_FRAC -/ ⟨0xd054, 0, 1, 0, 1, 0xffff, 0, 0, 0, 0, 0⟩,
   /- PEEL_GCL_BASE_W -/ ⟨0xd058, 4, 3, 0, 1, 0xffffffff, 0, 0, 0, 0, 0⟩,
   /- PEEL_GCL_AT_W -/ ⟨0xd064, 4, 3, 0, 1, 0xffffffff, 0, 0, 0, 0, 0⟩,
   /- PEEL_GCL_RESULT -/ ⟨0xd070, 0, 1, 0, 1, 0, 0, 0, 0, 0, 0⟩,
   /- PEEL_GCL_HANDLE -/ ⟨0xd074, 0, 1, 0, 1, 0xffffffff, 0, 0, 0, 0, 0⟩,
   /- PEEL_P_CTL -/ ⟨0xd100, 0x40, 16, 0, 1, 0xf00, 0, 0, 0, 0, 0⟩,
   /- PEEL_P_STATUS -/ ⟨0xd104, 0x40, 16, 0, 1, 0, 0, 0, 8, 0, 0⟩,
   /- PEEL_P_EGR_PHASE -/ ⟨0xd108, 0x40, 16, 0, 1, 0, 0, 0, 0, 0, 0⟩,
   /- PEEL_P_EGR_ADJ -/ ⟨0xd10c, 0x40, 16, 0, 1, 0xffff, 0, 0, 0, 0, 0⟩,
   /- PEEL_P_GCL_STATUS -/ ⟨0xd110, 0x40, 16, 0, 1, 0, 0, 0, 0, 0, 0⟩,
   /- SEC_STATUS -/ ⟨0xe000, 0, 1, 0, 1, 0, 0, 0, 0, 0, 0⟩]
def accRows16 : List AccRow :=
  [/- SEC_CTL -/ ⟨0xe004, 0, 1, 0, 1, 0, 0, 1, 0, 0, 0⟩,
   /- SEC_CLAIM_NONCE -/ ⟨0xe010, 4, 8, 0, 1, 0, 0, 0, 0, 0, 0⟩,
   /- SEC_FUSE_SVN -/ ⟨0xe030, 0, 1, 0, 1, 0, 0, 0, 0, 0, 0⟩,
   /- SEC_FUSE_EPOCH -/ ⟨0xe034, 0, 1, 0, 1, 0, 0, 0, 0, 0, 0⟩,
   /- SEC_FUSE_ZCNT -/ ⟨0xe038, 0, 1, 0, 1, 0, 0, 0, 0, 0, 0⟩,
   /- SEC_BATCH_SEQ_LO -/ ⟨0xe040, 0, 1, 0, 1, 0, 0, 0, 0, 0, 0⟩,
   /- SEC_BATCH_SEQ_HI -/ ⟨0xe044, 0, 1, 0, 1, 0, 0, 0, 0, 0, 0⟩,
   /- SEC_BATCH_PEND_LO -/ ⟨0xe048, 0, 1, 0, 1, 0, 0, 0, 0, 0, 0⟩,
   /- SEC_BATCH_PEND_HI -/ ⟨0xe04c, 0, 1, 0, 1, 0, 0, 0, 0, 0, 0⟩,
   /- SEC_BATCH_RESULT -/ ⟨0xe050, 0, 1, 0, 1, 0, 0, 0, 0, 0, 0⟩,
   /- SEC_TAMPER_CFG -/ ⟨0xe060, 0, 1, 0, 1, 0, 0, 0x3ff, 0, 0, 0⟩,
   /- SEC_TAMPER_STATUS -/ ⟨0xe064, 0, 1, 0, 1, 0, 0, 0, 0x3f, 0, 0⟩]
def accRows17 : List AccRow :=
  [/- SEC_SEAL_WRITES -/ ⟨0xe070, 0, 1, 0, 1, 0, 0, 0, 0, 0, 0⟩,
   /- SEC_EXT_STATUS -/ ⟨0xe074, 0, 1, 0, 1, 0, 0, 0, 0, 0, 0⟩,
   /- PKE_CTL -/ ⟨0xf000, 0, 1, 0, 1, 0xc0000001, 0, 0, 0, 0, 0⟩,
   /- PKE_STATUS -/ ⟨0xf004, 0, 1, 0, 1, 0, 0, 0, 4, 0, 0⟩,
   /- PKE_CORE_EN -/ ⟨0xf008, 4, 2, 0, 1, 0xffffffff, 0, 0, 0, 0, 0⟩,
   /- PKE_FAULT -/ ⟨0xf010, 4, 2, 0, 1, 0, 0, 0, 0, 0, 0⟩,
   /- PKE_RQ_CFG -/ ⟨0xf040, 8, 5, 0, 1, 0, 0xffff7fff, 0, 0, 0, 0⟩,
   /- PKE_RQ_STAT -/ ⟨0xf044, 8, 5, 0, 1, 0, 0, 0, 0, 0, 0⟩]
def accRows18 : List AccRow :=
  [/- PORT_CTL -/ ⟨0x10000, 0x400, 17, 0, 1, 0xc0000310, 0, 0, 0, 0, 1⟩,
   /- PORT_MODE -/ ⟨0x10004, 0x400, 17, 0, 1, 0x33103, 0, 0, 0, 0, 0⟩,
   /- PORT_STATUS -/ ⟨0x10008, 0x400, 17, 0, 1, 0, 0, 0, 0x30002, 0, 0⟩,
   /- PORT_MAC_LO -/ ⟨0x1000c, 0x400, 17, 0, 1, 0xffffffff, 0, 0, 0, 0, 0⟩,
   /- PORT_MAC_HI -/ ⟨0x10010, 0x400, 17, 0, 1, 0xffff, 0, 0, 0, 0, 0⟩,
   /- PORT_MAXLEN -/ ⟨0x10014, 0x400, 17, 0, 1, 0x3fff, 0, 0, 0, 0, 0⟩,
   /- PORT_LPI -/ ⟨0x10018, 0x400, 17, 0, 1, 0xfffffff0, 0, 0, 0, 0, 0⟩,
   /- PORT_ING_ADJ -/ ⟨0x1001c, 0x400, 17, 0, 1, 0xffff, 0, 0, 0, 0, 0⟩,
   /- PORT_SYNCE -/ ⟨0x10020, 0x400, 17, 0, 1, 0xe01f0000, 0, 0, 0, 0, 0⟩,
   /- PORT_ESMC_RX -/ ⟨0x10024, 0x400, 17, 0, 1, 0, 0, 0, 0, 0, 0⟩,
   /- PORT_ESMC_TX -/ ⟨0x10028, 0x400, 17, 0, 1, 0, 0, 0, 0, 0, 0⟩,
   /- PORT_HALF_LO -/ ⟨0x10030, 0x400, 17, 0, 1, 0, 0, 0, 0xffffffff, 0, 0⟩,
   /- PORT_HALF_HI -/ ⟨0x10034, 0x400, 17, 0, 1, 0, 0, 0, 0x3ff, 0, 0⟩,
   /- PORT_ING_PHASE -/ ⟨0x10038, 0x400, 17, 0, 1, 0, 0, 0, 0, 0, 0⟩,
   /- PORT_STAT_LO -/ ⟨0x10100, 0x400, 17, 8, 42, 0, 0, 0, 0, 0, 0⟩,
   /- PORT_STAT_HI -/ ⟨0x10104, 0x400, 17, 8, 42, 0, 0, 0, 0, 0, 0⟩]
def accRows19 : List AccRow :=
  [/- SLC_CTL -/ ⟨0x18000, 0x100, 12, 0, 1, 0xc000000f, 0, 0, 0, 0, 0⟩,
   /- SLC_SPILL -/ ⟨0x18004, 0x100, 12, 0, 1, 0x7f, 0, 0, 0, 0, 0⟩,
   /- SLC_QUEUE -/ ⟨0x18008, 0x100, 12, 0, 1, 0, 0, 0, 0, 0, 0⟩,
   /- SLC_STEER_SEED -/ ⟨0x18c00, 0, 1, 0, 1, 0, 0xffffffff, 0, 0, 0, 0⟩,
   /- OVN_CTL -/ ⟨0x19000, 0, 1, 0, 1, 0xc0ffffff, 0, 0, 0, 0, 0⟩,
   /- OVN_BORROW -/ ⟨0x19004, 0, 1, 0, 1, 0x1f, 0, 0, 0, 0, 0⟩,
   /- OVN_FAULT -/ ⟨0x19008, 0, 1, 0, 1, 0, 0, 0, 0, 0, 0⟩,
   /- OVN_NTS_CTL -/ ⟨0x19010, 0, 1, 0, 1, 0xc07, 0, 0, 0, 0, 0⟩,
   /- PORT_ESMC_CTL -/ ⟨0x17000, 0, 1, 0, 1, 0x8000ffff, 0, 0, 0, 0, 0⟩,
   /- PORT_ESMC_ID_LO -/ ⟨0x17004, 0, 1, 0, 1, 0xffffffff, 0, 0, 0, 0, 0⟩,
   /- PORT_ESMC_ID_HI -/ ⟨0x17008, 0, 1, 0, 1, 0xffffffff, 0, 0, 0, 0, 0⟩,
   /- PORT_HALF_SUM -/ ⟨0x1700c, 0, 1, 0, 1, 0, 0, 0, 0, 0, 0⟩]
def accRows20 : List AccRow :=
  [/- OVN_NAK_RATE -/ ⟨0x19014, 0, 1, 0, 1, 0xffff, 0, 0, 0, 0, 0⟩,
   /- OVN_STARTER_STATUS -/ ⟨0x19020, 0, 1, 0, 1, 0, 0, 0, 0x1a0, 0, 0⟩,
   /- OVN_STARTER_GEN -/ ⟨0x19024, 0, 1, 0, 1, 0, 0, 0, 0, 0, 0⟩,
   /- OVN_STARTER_NEXT_W -/ ⟨0x19028, 4, 3, 0, 1, 0, 0, 0, 0, 0, 0⟩,
   /- OVN_STARTER_CMD -/ ⟨0x19034, 0, 1, 0, 1, 0, 0, 0, 0, 0, 0xe0000000⟩,
   /- OVN_STARTER_AT_W -/ ⟨0x19038, 4, 3, 0, 1, 0xffffffff, 0, 0, 0, 0, 0⟩,
   /- OVN_STARTER_RESULT -/ ⟨0x19044, 0, 1, 0, 1, 0, 0, 0, 0, 0, 0⟩,
   /- OVN_STARTER_HANDLE -/ ⟨0x19048, 0, 1, 0, 1, 0xffffffff, 0, 0, 0, 0, 0⟩,
   /- OVN_STARTER_PERIOD -/ ⟨0x1904c, 0, 1, 0, 1, 0, 0, 0xfffff, 0, 0, 0⟩,
   /- OVN_STARTER_POLICY -/ ⟨0x19050, 0, 1, 0, 1, 0, 0, 3, 0, 0, 0⟩,
   /- OVN_KE_CTL -/ ⟨0x19060, 0, 1, 0, 1, 0xc000ff0f, 0, 0, 0, 0, 0⟩,
   /- OVN_KE_TIMEOUT -/ ⟨0x19064, 0, 1, 0, 1, 0xffffffff, 0, 0, 0, 0, 0⟩]
def accRows21 : List AccRow :=
  [/- CLS_CTL -/ ⟨0x1a000, 0, 1, 0, 1, 0xc0000000, 0, 0, 0, 0, 0⟩,
   /- CLS_STATUS -/ ⟨0x1a004, 0, 1, 0, 1, 0, 0, 0, 4, 0, 0⟩,
   /- CLS_CT_SEED -/ ⟨0x1a008, 0, 1, 0, 1, 0, 0xffffffff, 0, 0, 0, 0⟩,
   /- CLS_CT_CTL -/ ⟨0x1a00c, 0, 1, 0, 1, 0x8000ffff, 0, 0, 0, 0, 0⟩,
   /- CLS_POLICY -/ ⟨0x1a010, 0, 1, 0, 1, 0x1ff, 0, 0, 0, 0, 0⟩,
   /- CLS_NTP_CTL -/ ⟨0x1a014, 0, 1, 0, 1, 0x3f3fffff, 0, 0, 0, 0, 0⟩,
   /- CLS_ADM_CTL -/ ⟨0x1a020, 0, 1, 0, 1, 0xff00ffff, 0, 0, 0, 0, 0⟩,
   /- CLS_KOD_CTL -/ ⟨0x1a030, 0, 1, 0, 1, 0x80ffffff, 0, 0, 0, 0, 0⟩,
   /- OVN_KE_STREAMS -/ ⟨0x19068, 0, 1, 0, 1, 0, 0, 0, 0, 0, 0⟩,
   /- OVN_KE_TLS -/ ⟨0x1906c, 0, 1, 0, 1, 0, 0, 0x773, 0, 0, 0⟩,
   /- OVN_KE_SRV_CTL -/ ⟨0x19070, 0, 1, 0, 1, 0x8000007f, 0, 0, 0, 0, 0⟩,
   /- OVN_KE_SRVNAME -/ ⟨0x19080, 4, 16, 0, 1, 0xffffffff, 0, 0, 0, 0, 0⟩]
def accRows22 : List AccRow :=
  [/- CLS_SA_CMD -/ ⟨0x1a040, 0, 1, 0, 1, 0xff, 0, 0, 0, 0, 0xc0000000⟩,
   /- CLS_SA_ATTR -/ ⟨0x1a044, 0, 1, 0, 1, 0xffffffff, 0, 0, 0, 0, 0⟩,
   /- CLS_SA_SVC -/ ⟨0x1a048, 0, 1, 0, 1, 0xff3f001f, 0, 0, 0, 0, 0⟩,
   /- CLS_SA_ADDR -/ ⟨0x1a050, 4, 4, 0, 1, 0xffffffff, 0, 0, 0, 0, 0⟩,
   /- CLS_MAC_LO -/ ⟨0x1a088, 8, 15, 0, 1, 0xffffffff, 0, 0, 0, 0, 0⟩,
   /- CLS_MAC_HI -/ ⟨0x1a08c, 8, 15, 0, 1, 0xffff, 0, 0, 0, 0, 0⟩,
   /- CLS_VLAN -/ ⟨0x1a100, 4, 64, 0, 1, 0xc0007fff, 0, 0, 0, 0, 0⟩,
   /- CLS_PREF_ADDR -/ ⟨0x1a200, 0x20, 16, 4, 4, 0xffffffff, 0, 0, 0, 0, 0⟩,
   /- CLS_PREF_CTL -/ ⟨0x1a210, 0x20, 16, 0, 1, 0x80000fff, 0, 0, 0, 0, 0⟩,
   /- CLS_REF_ID -/ ⟨0x1a400, 8, 32, 0, 1, 0xffffffff, 0, 0, 0, 0, 0⟩,
   /- CLS_REF_STRAT -/ ⟨0x1a404, 8, 32, 0, 1, 0xf, 0, 0, 0, 0, 0⟩]
def accRows23 : List AccRow :=
  [/- CLS_RATE_INT -/ ⟨0x1a500, 8, 16, 0, 1, 0xffffffff, 0, 0, 0, 0, 0⟩,
   /- CLS_RATE_BURST -/ ⟨0x1a504, 8, 16, 0, 1, 0xffff, 0, 0, 0, 0, 0⟩]
def accRows24 : List AccRow :=
  [/- CLS_PTP_CFG -/ ⟨0x1a800, 0x80, 8, 0, 1, 0xdff8ff00, 0, 0, 0, 0, 0⟩,
   /- CLS_PTP_PORTS -/ ⟨0x1a804, 0x80, 8, 0, 1, 0xffffffff, 0, 0, 0, 0, 0⟩,
   /- CLS_PTP_PRIO -/ ⟨0x1a808, 0x80, 8, 0, 1, 0xffff00ff, 0, 0, 0, 0, 0⟩,
   /- CLS_PTP_ID_LO -/ ⟨0x1a80c, 0x80, 8, 0, 1, 0xffffffff, 0, 0, 0, 0, 0⟩,
   /- CLS_PTP_ID_HI -/ ⟨0x1a810, 0x80, 8, 0, 1, 0xffffffff, 0, 0, 0, 0, 0⟩,
   /- CLS_PTP_RATES -/ ⟨0x1a814, 0x80, 8, 0, 1, 0xffffffff, 0, 0, 0, 0, 0⟩,
   /- CLS_PTP_SYNC -/ ⟨0x1a818, 0x80, 8, 0, 1, 0xffff, 0, 0, 0, 0, 0⟩,
   /- CLS_PTP_PHASE -/ ⟨0x1a81c, 0x80, 8, 0, 1, 0xffffffff, 0, 0, 0, 0, 0⟩,
   /- CLS_PTP_UNI -/ ⟨0x1a820, 0x80, 8, 0, 1, 0xffc1ffff, 0, 0, 0, 0, 0⟩,
   /- CLS_PTP_VAR -/ ⟨0x1a824, 0x80, 8, 0, 1, 0xffffffff, 0, 0, 0, 0, 0⟩,
   /- CLS_PTP_SA -/ ⟨0x1a828, 0x80, 8, 0, 1, 0x1f3fff, 0, 0, 0, 0, 0⟩,
   /- CLS_PTP_STATUS -/ ⟨0x1a82c, 0x80, 8, 0, 1, 0, 0, 0, 0x10, 0, 0⟩,
   /- CLS_PTP_GRANTS -/ ⟨0x1a830, 0x80, 8, 0, 1, 0, 0, 0, 0, 0, 0⟩,
   /- CLS_PTP_C37 -/ ⟨0x1a834, 0x80, 8, 0, 1, 0x3fffff, 0, 0, 0, 0, 0⟩,
   /- CLS_PTP_UPMAC_LO -/ ⟨0x1a838, 0x80, 8, 0, 1, 0xffffffff, 0, 0, 0, 0, 0⟩,
   /- CLS_PTP_UPMAC_HI -/ ⟨0x1a83c, 0x80, 8, 0, 1, 0xffff, 0, 0, 0, 0, 0⟩,
   /- CLS_PTP_UP -/ ⟨0x1a840, 0x80, 8, 4, 4, 0xffffffff, 0, 0, 0, 0, 0⟩,
   /- CLS_PTP_ATOI -/ ⟨0x1a850, 0x80, 8, 4, 12, 0xffffffff, 0, 0, 0, 0, 0⟩]
def accRows25 : List AccRow :=
  [/- CLS_PTPP_CTL -/ ⟨0x1ac00, 0x40, 16, 0, 1, 0xff03, 0, 0, 0, 0, 0⟩,
   /- CLS_PTPP_EGR_LAT -/ ⟨0x1ac04, 0x40, 16, 0, 1, 0xffffffff, 0, 0, 0, 0, 0⟩,
   /- CLS_PTPP_ING_LAT -/ ⟨0x1ac08, 0x40, 16, 0, 1, 0xffffffff, 0, 0, 0, 0, 0⟩,
   /- CLS_PTPP_ASYM -/ ⟨0x1ac0c, 0x40, 16, 0, 1, 0xffffffff, 0, 0, 0, 0, 0⟩,
   /- CLS_PTPP_MLD -/ ⟨0x1ac10, 0x40, 16, 0, 1, 0, 0, 0, 0, 0, 0⟩,
   /- HIF_CTL -/ ⟨0x1b000, 0, 1, 0, 1, 0x1ff00, 0, 0, 0, 0, 0x80000000⟩,
   /- HIF_STATUS -/ ⟨0x1b004, 0, 1, 0, 1, 0, 0, 0, 5, 0, 0⟩,
   /- HIF_HALT -/ ⟨0x1b010, 4, 8, 0, 1, 0, 0, 0, 0, 0, 0⟩,
   /- HIF_FULL -/ ⟨0x1b030, 4, 8, 0, 1, 0, 0, 0, 0, 0, 0⟩]
def accRows26 : List AccRow :=
  [/- GNSS_CTL -/ ⟨0x1c000, 0, 1, 0, 1, 0xc3000007, 0, 0, 0, 0, 0x100⟩,
   /- GNSS_STATUS -/ ⟨0x1c004, 0, 1, 0, 1, 0, 0, 0, 0x10000000, 0, 0⟩,
   /- GNSS_PORT_CTL -/ ⟨0x1c008, 0, 1, 0, 1, 0xc000f00f, 0, 0, 0, 0, 0⟩,
   /- GNSS_IF_B1 -/ ⟨0x1c00c, 0, 1, 0, 1, 0xffffffff, 0, 0, 0, 0, 0⟩,
   /- GNSS_IF_B5 -/ ⟨0x1c010, 0, 1, 0, 1, 0xffffffff, 0, 0, 0, 0, 0⟩,
   /- GNSS_LEVEL -/ ⟨0x1c014, 0, 1, 0, 1, 0, 0, 0, 0, 0, 0⟩,
   /- GNSS_CLIP -/ ⟨0x1c018, 0, 1, 0, 1, 0, 0, 0, 0, 0, 0⟩,
   /- MSIX_ADDR_LO -/ ⟨0x1b800, 0x10, 16, 0, 1, 0xfffffffc, 0, 0, 0, 0, 0⟩,
   /- MSIX_ADDR_HI -/ ⟨0x1b804, 0x10, 16, 0, 1, 0xffffffff, 0, 0, 0, 0, 0⟩,
   /- MSIX_DATA -/ ⟨0x1b808, 0x10, 16, 0, 1, 0xffffffff, 0, 0, 0, 0, 0⟩,
   /- MSIX_VCTL -/ ⟨0x1b80c, 0x10, 16, 0, 1, 1, 0, 0, 0, 0, 0⟩,
   /- MSIX_PBA -/ ⟨0x1bc00, 4, 2, 0, 1, 0, 0, 0, 0, 0, 0⟩]
def accRows27 : List AccRow :=
  [/- GNSS_CHAN_CTL -/ ⟨0x1c020, 0, 1, 0, 1, 0xff, 0, 0, 0, 0, 0⟩,
   /- GNSS_ACQ_CTL -/ ⟨0x1c024, 0, 1, 0, 1, 0xffff00ff, 0, 0, 0, 0, 0⟩,
   /- GNSS_TRK_CTL -/ ⟨0x1c028, 0, 1, 0, 1, 0xffffffff, 0, 0, 0, 0, 0⟩,
   /- GNSS_SOL_CTL -/ ⟨0x1c030, 0, 1, 0, 1, 0xe0ffffff, 0, 0, 0, 0, 0⟩,
   /- GNSS_SOL_STATUS -/ ⟨0x1c034, 0, 1, 0, 1, 0, 0, 0, 0, 0, 0⟩,
   /- GNSS_RAIM -/ ⟨0x1c038, 0, 1, 0, 1, 0xffffff0f, 0, 0, 0, 0, 0⟩,
   /- GNSS_SOL_ERR -/ ⟨0x1c03c, 0, 1, 0, 1, 0, 0, 0, 0, 0, 0⟩,
   /- GNSS_DLY -/ ⟨0x1c040, 4, 4, 0, 1, 0xffffffff, 0, 0, 0, 0, 0⟩,
   /- GNSS_ISB -/ ⟨0x1c050, 4, 2, 0, 1, 0xffffffff, 0, 0, 0, 0, 0⟩,
   /- GNSS_CAL_UNC -/ ⟨0x1c058, 0, 1, 0, 1, 0xffffffff, 0, 0, 0, 0, 0⟩,
   /- GNSS_POS_LO -/ ⟨0x1c060, 8, 3, 0, 1, 0xffffffff, 0, 0, 0, 0, 0⟩,
   /- GNSS_POS_HI -/ ⟨0x1c064, 8, 3, 0, 1, 0xff, 0, 0, 0, 0, 0⟩]
def accRows28 : List AccRow :=
  [/- GNSS_BASE -/ ⟨0x1c078, 4, 3, 0, 1, 0xffffffff, 0, 0, 0, 0, 0⟩,
   /- GNSS_SURVEY -/ ⟨0x1c084, 0, 1, 0, 1, 0x200fffff, 0, 0, 0, 0, 0xc0000000⟩,
   /- GNSS_SURVEY_STATUS -/ ⟨0x1c088, 0, 1, 0, 1, 0, 0, 0, 0, 0, 0⟩,
   /- GNSS_SPOOF_CTL -/ ⟨0x1c090, 0, 1, 0, 1, 0x80ffffff, 0, 0x40000000, 0, 0, 0⟩,
   /- GNSS_SPOOF_STATUS -/ ⟨0x1c094, 0, 1, 0, 1, 0, 0, 0, 0x30000000, 0, 0⟩,
   /- GNSS_SNAP_CTL -/ ⟨0x1c0a0, 0, 1, 0, 1, 0x8fff01ff, 0, 0, 0, 0, 0x70000000⟩,
   /- GNSS_SNAP_AT_W -/ ⟨0x1c0a4, 4, 3, 0, 1, 0xffffffff, 0, 0, 0, 0, 0⟩,
   /- GNSS_SNAP_RESULT -/ ⟨0x1c0b0, 0, 1, 0, 1, 0, 0, 0, 0, 0, 0⟩,
   /- GNSS_SNAP_HANDLE -/ ⟨0x1c0b4, 0, 1, 0, 1, 0xffffffff, 0, 0, 0, 0, 0⟩,
   /- GNSS_SNAP_RES -/ ⟨0x1c0b8, 0, 1, 0, 1, 0, 0, 0, 0, 0, 0⟩,
   /- GNSS_MEAS_CTL -/ ⟨0x1c0c0, 0, 1, 0, 1, 0xc00000ff, 0, 0, 0, 0, 0⟩,
   /- GNSS_UTC -/ ⟨0x1c0c4, 0, 1, 0, 1, 0, 0, 0, 0, 0, 0⟩]
def accRows29 : List AccRow :=
  [/- PAIR_CTL -/ ⟨0x1e000, 0, 1, 0, 1, 0xde000000, 0, 0, 0, 0, 0⟩,
   /- PAIR_STATUS -/ ⟨0x1e004, 0, 1, 0, 1, 0, 0, 0, 0xf0, 0, 0⟩,
   /- PAIR_CFG -/ ⟨0x1e008, 0, 1, 0, 1, 0, 0, 0, 0, 0, 0⟩,
   /- PAIR_ID_LO -/ ⟨0x1e00c, 0, 1, 0, 1, 0, 0, 0, 0, 0, 0⟩,
   /- PAIR_ID_HI -/ ⟨0x1e010, 0, 1, 0, 1, 0, 0, 0, 0, 0, 0⟩,
   /- PAIR_PEER_LO -/ ⟨0x1e014, 0, 1, 0, 1, 0, 0, 0, 0, 0, 0⟩,
   /- PAIR_PEER_HI -/ ⟨0x1e018, 0, 1, 0, 1, 0, 0, 0, 0, 0, 0⟩,
   /- PAIR_CMD -/ ⟨0x1e01c, 0, 1, 0, 1, 0, 0, 0, 0, 0, 0xc0000000⟩,
   /- PAIR_ASYM -/ ⟨0x1e020, 0, 1, 0, 1, 0xffffffff, 0, 0, 0, 0, 0⟩,
   /- PAIR_TT_UNC -/ ⟨0x1e024, 0, 1, 0, 1, 0xffffffff, 0, 0, 0, 0, 0⟩,
   /- PAIR_OFFSET_LO -/ ⟨0x1e028, 0, 1, 0, 1, 0, 0, 0, 0, 0, 0⟩,
   /- PAIR_OFFSET_HI -/ ⟨0x1e02c, 0, 1, 0, 1, 0, 0, 0, 0, 0, 0⟩]
def accRows30 : List AccRow :=
  [/- PAIR_CAL_CMD -/ ⟨0x1e030, 0, 1, 0, 1, 0, 0, 0, 0, 0, 0xe0000000⟩,
   /- PAIR_CAL_AT_W -/ ⟨0x1e034, 4, 3, 0, 1, 0xffffffff, 0, 0, 0, 0, 0⟩,
   /- PAIR_CAL_RESULT -/ ⟨0x1e040, 0, 1, 0, 1, 0, 0, 0, 0, 0, 0⟩,
   /- PAIR_CAL_HANDLE -/ ⟨0x1e044, 0, 1, 0, 1, 0xffffffff, 0, 0, 0, 0, 0⟩,
   /- PAIR_TAKE -/ ⟨0x1e060, 4, 8, 0, 1, 0xffffffff, 0, 0, 0, 0, 0⟩,
   /- MON_STATUS -/ ⟨0x20000, 0, 1, 0, 1, 0, 0, 0, 0, 0, 0⟩,
   /- MON_CNT_IDX -/ ⟨0x20010, 0, 1, 0, 1, 0x77fff, 0, 0, 0, 0, 0⟩,
   /- MON_CNT_LO -/ ⟨0x20014, 0, 1, 0, 1, 0, 0, 0, 0, 0, 0⟩,
   /- MON_CNT_HI -/ ⟨0x20018, 0, 1, 0, 1, 0, 0, 0, 0, 0, 0⟩,
   /- MON_SNAP_CMD -/ ⟨0x20020, 0, 1, 0, 1, 0x10000000, 0, 0, 0, 0, 0xe0000000⟩,
   /- MON_SNAP_AT_W -/ ⟨0x20024, 4, 3, 0, 1, 0xffffffff, 0, 0, 0, 0, 0⟩,
   /- MON_SNAP_RESULT -/ ⟨0x20030, 0, 1, 0, 1, 0, 0, 0, 0, 0, 0⟩]
def accRows31 : List AccRow :=
  [/- MON_SNAP_HANDLE -/ ⟨0x20034, 0, 1, 0, 1, 0xffffffff, 0, 0, 0, 0, 0⟩,
   /- MON_SNAP_SEQ -/ ⟨0x20038, 0, 1, 0, 1, 0, 0, 0, 0, 0, 0⟩,
   /- MON_SNAP_T_W -/ ⟨0x2003c, 4, 3, 0, 1, 0, 0, 0, 0, 0, 0⟩,
   /- MON_WIN_CFG -/ ⟨0x20080, 4, 8, 0, 1, 0x7000ffff, 0, 0, 0, 0, 0⟩,
   /- MON_HW_CMD -/ ⟨0x20100, 0, 1, 0, 1, 0x100000ff, 0, 0, 0, 0, 0xe0000000⟩,
   /- MON_HW_AT_W -/ ⟨0x20104, 4, 3, 0, 1, 0xffffffff, 0, 0, 0, 0, 0⟩,
   /- MON_HW_RESULT -/ ⟨0x20110, 0, 1, 0, 1, 0, 0, 0, 0, 0, 0⟩,
   /- MON_HW_HANDLE -/ ⟨0x20114, 0, 1, 0, 1, 0xffffffff, 0, 0, 0, 0, 0⟩,
   /- MON_LEDGER_SEQ_LO -/ ⟨0x20200, 0, 1, 0, 1, 0, 0, 0, 0, 0, 0⟩,
   /- MON_LEDGER_SEQ_HI -/ ⟨0x20204, 0, 1, 0, 1, 0, 0, 0, 0, 0, 0⟩,
   /- MON_LEDGER_OLD_LO -/ ⟨0x20208, 0, 1, 0, 1, 0, 0, 0, 0, 0, 0⟩,
   /- MON_LEDGER_OLD_HI -/ ⟨0x2020c, 0, 1, 0, 1, 0, 0, 0, 0, 0, 0⟩]
def accRows32 : List AccRow :=
  [/- TROUGH_STATUS -/ ⟨0x30000, 0, 1, 0, 1, 0, 0, 0, 0xa, 0, 0⟩,
   /- TROUGH_FREE -/ ⟨0x30004, 0, 1, 0, 1, 0, 0, 0, 0, 0, 0⟩,
   /- TROUGH_BENCH_WT -/ ⟨0x30010, 0, 1, 0, 1, 0xffffff, 0, 0, 0, 0, 0⟩,
   /- MON_LEDGER_NEXT_LO -/ ⟨0x20210, 0, 1, 0, 1, 0xffffffff, 0, 0, 0, 0, 0⟩,
   /- MON_LEDGER_NEXT_HI -/ ⟨0x20214, 0, 1, 0, 1, 0xffffffff, 0, 0, 0, 0, 0⟩,
   /- MON_HIST_CFG -/ ⟨0x21000, 0x10, 256, 0, 1, 0xdc00ffff, 0, 0, 0, 0, 0⟩,
   /- MON_HIST_LO -/ ⟨0x21004, 0x10, 256, 0, 1, 0xffffffff, 0, 0, 0, 0, 0⟩,
   /- MON_HIST_W -/ ⟨0x21008, 0x10, 256, 0, 1, 0xffffffff, 0, 0, 0, 0, 0⟩,
   /- MON_HIST_PER -/ ⟨0x2100c, 0x10, 256, 0, 1, 0xfffff, 0, 0, 0, 0, 0⟩]
def accRows33 : List AccRow :=
  [/- TROUGH_POOL_QUOTA -/ ⟨0x30100, 0x10, 9, 0, 1, 0xffffffff, 0, 0, 0, 0, 0⟩,
   /- TROUGH_POOL_CTL -/ ⟨0x30104, 0x10, 9, 0, 1, 0x3ffff, 0, 0, 0, 0, 0⟩,
   /- TROUGH_POOL_USED -/ ⟨0x30108, 0x10, 9, 0, 1, 0, 0, 0, 0, 0, 0⟩,
   /- TROUGH_POOL_DROPS -/ ⟨0x3010c, 0x10, 9, 0, 1, 0, 0, 0, 0, 0, 0⟩,
   /- SAMPLE_CTL -/ ⟨0x3f000, 0, 1, 0, 1, 0xc00000ff, 0, 0, 0, 0, 0⟩,
   /- SAMPLE_SEL -/ ⟨0x3f004, 0, 1, 0, 1, 0xfffff, 0, 0, 0, 0, 0⟩,
   /- SAMPLE_PER -/ ⟨0x3f008, 0, 1, 0, 1, 0xffffff, 0, 0, 0, 0, 0⟩]
/-- The register map with its access codes: the rows that can hold an offset. -/
def accRows (o : Nat) : List AccRow :=
  (match Nat.blt o 0xe070 with | true => (match Nat.blt o 0x9000 with | true => (match Nat.blt o 0x8000 with | true => (match Nat.blt o 0x2400 with | true => (match Nat.blt o 0x34 with | true => accRows0 | false => accRows1) | false => (match Nat.blt o 0x4000 with | true => accRows2 | false => accRows3)) | false => (match Nat.blt o 0x8220 with | true => (match Nat.blt o 0x8060 with | true => accRows4 | false => accRows5) | false => (match Nat.blt o 0x8304 with | true => accRows6 | false => accRows7))) | false => (match Nat.blt o 0xb400 with | true => (match Nat.blt o 0xa200 with | true => (match Nat.blt o 0xa000 with | true => accRows8 | false => accRows9) | false => (match Nat.blt o 0xb100 with | true => accRows10 | false => accRows11)) | false => (match Nat.blt o 0xd004 with | true => (match Nat.blt o 0xc000 with | true => accRows12 | false => accRows13) | false => (match Nat.blt o 0xd050 with | true => accRows14 | false => (match Nat.blt o 0xe004 with | true => accRows15 | false => accRows16))))) | false => (match Nat.blt o 0x1ac00 with | true => (match Nat.blt o 0x19068 with | true => (match Nat.blt o 0x17000 with | true => (match Nat.blt o 0x10000 with | true => accRows17 | false => accRows18) | false => (match Nat.blt o 0x19014 with | true => accRows19 | false => accRows20)) | false => (match Nat.blt o 0x1a500 with | true => (match Nat.blt o 0x1a040 with | true => accRows21 | false => accRows22) | false => (match Nat.blt o 0x1a800 with | true => accRows23 | false => accRows24))) | false => (match Nat.blt o 0x1e000 with | true => (match Nat.blt o 0x1c020 with | true => (match Nat.blt o 0x1b800 with | true => accRows25 | false => accRows26) | false => (match Nat.blt o 0x1c078 with | true => accRows27 | false => accRows28)) | false => (match Nat.blt o 0x20034 with | true => (match Nat.blt o 0x1e030 with | true => accRows29 | false => accRows30) | false => (match Nat.blt o 0x20210 with | true => accRows31 | false => (match Nat.blt o 0x30100 with | true => accRows32 | false => accRows33))))))

def accLookup (o : Nat) : List AccRow → Option AccRow
  | [] => none
  | r :: t => match inRow o r.base r.s1 r.c1 r.s2 r.c2 with | true => some r | false => accLookup o t

/-- The register at BAR0 offset `o`; none is reserved space (R542). -/
def accRow? (o : Nat) : Option AccRow := accLookup o (accRows o)

end Sys2Proof.Machine
end

