-- ==== Sys2Proof/Machine/State.lean ====
section
/-! DEFINITION. The block's state as plain data, the reasons a step can stop, and the state right after a cold reset.
Every register of spec/19_register_map.md is held in `Device.regs` (a sparse table from BAR0 offset to word, in which an
unlisted offset reads its reset value, Machine/Regs.lean); what a register shows of a structured piece of state (counters,
tables, queues) is held once, in that structure. -/

namespace Sys2Proof.Machine

/-! ### The reasons a step can stop -/

/-- No rule of the spec stops the block: every command has an effect (it may be refused by the device with a code, which is
an effect on State).  No meaning raises a fault; the type has the one constructor that Lean needs to name a reason, kept
for a command the device could not take at all. -/
inductive Fault where
  /-- Raised by no meaning; safe. -/
  | none
  deriving DecidableEq, Repr

/-- Why the model gives no meaning. -/
inductive Refusal where
  /-- Raised by an arm of exec whose command has no meaning yet; safe. -/
  | notModelled (mnemonic : String)
  deriving DecidableEq, Repr

/-! ### What leaves the block -/

/-- What the block sends or drives, in order of occurrence (newest first in Device.out).  A model's own record of the
spec's visible outputs; DESIGN CHOICE (log entry 4). -/
inductive Output where
  /-- The word a host read returns. -/
  | hostRead (w : Word)
  /-- Bytes written into a host buffer by the descriptor of `ring`. -/
  | dma (ring : Nat) (bs : Bytes)
  /-- A 16-byte completion written to CQ slot `slot` of `ring` (R442). -/
  | cqe (ring slot : Nat) (bs : Bytes)
  /-- An MSI-X message on a PF0 vector (R480). -/
  | msix (vec : Nat)
  /-- PM_PME, or PCIE_WAKE_N driven low (R465). -/
  | pme (wakePin : Bool)
  /-- PME_TO_Ack (R466). -/
  | pmeToAck
  /-- Final outcome of a timed action, as an R34 code. -/
  | timedOutcome (handle code : Nat)
  /-- Outcome of a request at an axis position (R44). -/
  | axisOutcome (axis id code : Nat)
  /-- A frame launched on a port at an instant (R115), without FCS. -/
  | frame (port : Nat) (t : Inst) (bs : Bytes)
  /-- A MAC control or wake signal of a port's transmitter (R135). -/
  | portWake (port : Nat)
  /-- The answer to a requester of the Peel that is neither a lane nor the host (R116). -/
  | peelReply (handle code : Nat) (t : Inst)
  /-- A frame on the Elvod link (R409), without its CRC: type, sealed flag and payload. -/
  | elvod (ftype : Nat) (sealed : Bool) (seq : Nat) (bs : Bytes)
  /-- An event of a stream to the host (R149): stream, code, reason, value, bytes. -/
  | streamEvent (sid code reason value : Nat) (bs : Bytes)
  /-- A level or pulse on a named output pin. -/
  | pin (name : String) (level : Nat) (t : Inst)
  /-- A message on the serial time-of-day output or a pulse pattern of a TOUT. -/
  | serial (out : Nat) (bs : Bytes)
  /-- The completion of an engine's PKE job and its output image (R390). -/
  | pkeReply (req : Nat) (cqe out : Bytes)
  /-- An answer on SMBus (R519). -/
  | smbus (w : Nat)
  /-- An extraordinary event another unit of the board sees (tamper, owner reset and the like). -/
  | note (name : String)
  deriving DecidableEq, Repr

/-! ### Device Time (spec/01_device_time.md) -/

/-- One entry of a leap-second table (R21). -/
structure LeapEntry where
  eff : Nat
  taiUtc : Nat
  deriving DecidableEq, Repr

/-- Device Time and what follows it: the counter (R11), the increment and its commit (R15), the leap tables (R22), the
satellite UTC parameters (R27), and the raw count of PD_AON (R327). -/
structure TimeSt where
  sec : BitVec 48
  ns : BitVec 30
  frac : BitVec 48
  /-- TB_INCR in force, units of 2^-48 ns. -/
  incr : BitVec 56
  /-- The staged TB_INCR_LO word. -/
  stagedLo : BitVec 32
  /-- A committed increment that takes effect at the next tick edge. -/
  commit : Option (BitVec 56)
  /-- TIME ticks since reset of PD_TIME; the wheels' k and the TIC's coarse count are read from it. -/
  ticks : Nat
  /-- Time units those ticks have added: Device Time without its steps. -/
  run : Nat
  /-- OSC_IN in units of 1.25 ns since PD_AON and PD_TIME came up; the raw count of R327 is this by 80. -/
  osc : Nat
  /-- The pair (D, N) of R328 recorded at the last good window of the TIME APLL, N in the unit of `osc`. -/
  pairD : Inst
  pairN : Nat
  /-- The leap table in force, ascending; none before the first commit. -/
  leap : Option (List LeapEntry)
  /-- An accepted table: the entries, the second boundary it waits for, and whether a forced commit changes the offset. -/
  leapNext : Option (List LeapEntry × Nat × Bool)
  /-- Entries adopted from satellite announcements under HOST_CHECKED with a stale table (R27). -/
  leapAdopted : List LeapEntry
  /-- The staged low word of TB_LEAP_EXPIRY. -/
  expiryStaged : BitVec 32
  /-- The expiry in force, TAI seconds. -/
  expiry : Nat
  /-- The latest decoded UTC parameters of each satellite system. -/
  utc : List UtcParams
  /-- Mismatches already written to the Ledger: (current offset, announced offset, effective second). -/
  leapSeen : List (Nat × Nat × Nat)
  deriving DecidableEq, Repr

/-- A pending timed action (R31 to R37), in order of acceptance. -/
structure TimedAct where
  handle : Nat
  due : Inst
  act : Act
  notify : Bool
  tag : Nat
  /-- Its instant fell into the interval a forward step skipped (R36). -/
  stepped : Bool
  deriving DecidableEq, Repr

/-- The scheduler's state: the pending actions, and the counter handles are drawn from (DESIGN CHOICE, log entry 6). -/
structure Sched where
  pend : List TimedAct
  nextHandle : Nat
  deriving DecidableEq, Repr

/-- A request held at an axis position (R44). -/
structure AxisReq where
  id : Nat
  cycle : BitVec 32
  phase : BitVec 32
  act : Act
  /-- For a request for the next cycle: the edge and the period its instant is computed from. -/
  fixed : Option (Int × Nat)
  deriving DecidableEq, Repr

/-- The model an axis keeps of its external quantity (R38 to R44).  The state code, the run of misses, P and the cycle
number stand in AXISn_STATUS, AXISn_PERIOD_NS, _FRAC and AXISn_CYCLE. -/
structure Axis where
  /-- Corrected times of the edges collected while ACQUIRING, newest first. -/
  acq : List Int
  /-- The intervals the mean is taken over, newest first, in time units; one that spans m misses stands m + 1 times. -/
  intervals : List Rat
  /-- Corrected time of the last real edge, and of the last real or virtual one. -/
  lastReal : Int
  lastEdge : Int
  /-- Time of the phase-0 edge that started the current cycle. -/
  cycleEdge : Int
  /-- Line edges since phase 0 (ENCODER). -/
  lineCnt : Nat
  /-- The current cycle was started by a virtual edge (ENCODER). -/
  virtZero : Bool
  /-- Edges ignored as glitches. -/
  glitches : Nat
  /-- A first acquisition has taken place, so numbering is kept. -/
  numbered : Bool
  /-- The axis re-acquires after LOST. -/
  afterLost : Bool
  /-- A number staged by AXISn_CYCLE_SET for the next real edge. -/
  cycleSet : Option (BitVec 32)
  reqs : List AxisReq
  nextId : Nat
  deriving DecidableEq, Repr

/-! ### Interrupt controller (spec/16_interrupts.md) -/

/-- Pending, active and offer state; sources are numbered as in R473, targets 0 to 31 as in R486. -/
structure Intc where
  /-- Sources whose edge is latched. -/
  latched : List Nat
  /-- Sources set pending by software. -/
  soft : List Nat
  /-- Active sources and the target each is active on. -/
  active : List (Nat × Nat)
  /-- Status lines as the controller last saw them high. -/
  lines : List Nat
  /-- ROUND_ROBIN: the target that last claimed a source, and the target a source is offered to. -/
  rrPtr : List (Nat × Nat)
  rrOffer : List (Nat × Nat)
  /-- When each offer of ROUND_ROBIN was made, in the unit of `TimeSt.osc`. -/
  rrSince : List (Nat × Nat)
  /-- Lines the service firmware drives high (sources 0x200 to 0x2FF). -/
  fw : List Nat
  /-- Per engine target, the running sources, innermost first, with their priorities. -/
  run : List (Nat × List (Nat × Nat))
  /-- Host targets (0 to 15) whose offered set is not empty, as last seen. -/
  told : List Nat
  /-- Host targets whose message is held (R462). -/
  held : List Nat
  /-- Host targets that have sent a message no claim of theirs has answered yet (R487). -/
  msgOut : List Nat
  deriving DecidableEq, Repr

/-! ### Rings (spec/15_host_rings.md) -/

/-- A descriptor the device has read and not completed: its SQ slot and, for a buffer class, the buffer's length. -/
structure Posted where
  slot : Nat
  len : Nat
  /-- A malformed descriptor that completes with BAD_DESC in its turn. -/
  bad : Bool
  deriving DecidableEq, Repr

/-- A device event of an NTS-KE stream waiting for a posted RXBUF (R456). -/
structure StreamEv where
  sid : Nat
  code : Nat
  reason : Nat
  value : Nat
  data : Bytes
  deriving DecidableEq, Repr

/-- A ring pair's running state; configuration and status bits stand in its context registers (R438, R439). -/
structure Ring where
  /-- Next SQ slot the device reads, and the host's tail. -/
  sqHead : Nat
  sqTail : Nat
  /-- Next CQ slot the device writes, and the host's head. -/
  cqTail : Nat
  cqHead : Nat
  /-- Last doorbell words written. -/
  dbSq : Word
  dbCq : Word
  /-- Descriptors read and not completed, oldest first. -/
  posted : List Posted
  /-- Completions produced while host memory cannot be written, oldest first, with the data of each (R464). -/
  heldOut : List (Bytes × Bytes)
  /-- Completions since the ring last fired, the first one's time, and whether the source is held high (R461). -/
  modCount : Nat
  modStart : Option Inst
  fired : Bool
  /-- The buffer being filled: bytes so far, records begun, first flag, time of the first record (R458, R459). -/
  part : Bytes
  partRecs : Nat
  partFirst : Bool
  partStart : Option Inst
  /-- Records lost since the previous completion. -/
  nlost : Nat
  /-- STREAM: device events waiting for an RXBUF, oldest first. -/
  events : List StreamEv
  /-- Completions of R469 that wait for room in the CQ. -/
  flush : List Bytes
  deriving DecidableEq, Repr

/-- Link, function and memory conditions of the endpoint (R464 to R467). -/
structure Pcie where
  /-- D-state of PF0 and PF1: 0 D0, 3 D3hot, 4 D3cold. -/
  pf0D : Nat
  pf1D : Nat
  bme : Bool
  pmeEn : Bool
  pmeStatus : Bool
  /-- MSI-X function mask. -/
  fnMask : Bool
  perstLow : Bool
  linkUp : Bool
  l23 : Bool
  l1 : Bool
  aspmL1En : Bool
  deriving DecidableEq, Repr

/-! ### Monitoring (spec/17_monitoring.md) -/

/-- A monitor's window in progress (R497, R498). -/
structure Window where
  isOpen : Bool
  start : Inst
  bins : List (Nat × Nat)
  count : Nat
  sum : Int
  min : Int
  max : Int
  sat : Bool
  stepped : Bool
  invalid : Bool
  dropped : Nat
  deriving DecidableEq, Repr

/-- A monitor: its window, its queue of values waiting, and its latched results (R500) by index j. -/
structure Hist where
  win : Window
  queue : List Int
  seq : Nat
  latched : List (Nat × Nat)
  /-- Boundaries of PERIODIC windows up to this instant have passed. -/
  mark : Inst
  deriving DecidableEq, Repr

/-- One Ledger event (R506). -/
structure LedgerEvent where
  code : Nat
  src : Nat
  at_ : Option Inst
  arg0 : Nat
  arg1 : Nat
  deriving DecidableEq, Repr

/-- A second whose quality record is still to be written: its events, and whether events were lost, Device Time stepped, or was invalid
in it (R503). -/
structure LedgerSec where
  sec : Nat
  events : List LedgerEvent
  lost : Bool
  stepped : Bool
  invalid : Bool
  deriving DecidableEq, Repr

/-- Counter snapshots, histogram monitors, sampler and Ledger. -/
structure Mon where
  /-- The latched high word of MON_CNT_LO. -/
  cntHi : Word
  /-- The bank of the latest snapshot: event counters and port statistics; and the bank before it. -/
  snap : List (Nat × Nat)
  snapStat : List (Nat × Nat)
  snapPrev : List (Nat × Nat)
  hists : List (Nat × Hist)
  /-- The sampler's per-thread record count and gap flag, by 4 × engine + thread. -/
  sampleSeq : List (Nat × Nat)
  sampleGap : List Nat
  /-- When the sampler last sent a record (unit of `TimeSt.osc`). -/
  sampleAt : Option Nat
  /-- Ledger records retained, oldest first. -/
  ledger : List (Nat × Bytes)
  /-- Sequence number of the newest record; 0 before the first. -/
  ledgerSeq : Nat
  /-- Next record to deliver, and the staged low word of a host write to it. -/
  ledgerNext : Nat
  ledgerNextLo : Word
  /-- The next record is the first since the Trough was initialized. -/
  ledgerFirst : Bool
  /-- Events of the second in progress, oldest first, and whether some were lost. -/
  events : List LedgerEvent
  evLost : Bool
  /-- Device Time stepped, or was invalid, during the second in progress. -/
  secStepped : Bool
  secInvalid : Bool
  /-- Counter totals at the last record, by counter index. -/
  lastCnt : List (Nat × Nat)
  lastPoolDrops : Nat
  /-- Seconds field when the second in progress began, and seconds that a step or a loss closed before their records. -/
  secAt : Nat
  closed : List LedgerSec
  /-- Records lost since the last completion of a LEDGER ring, while none was enabled (R507). -/
  lostHeld : Nat
  deriving DecidableEq, Repr

/-! ### Trough, slices and units (spec/02_architecture.md) -/

/-- What the Trough's controller remembers (R53, R57, R58); the use of each pool is counted from what the block holds
(Machine/Trough.lean). -/
structure Trough where
  /-- Peak cells in use per pool since the last read of its USED register. -/
  peak : List (Nat × Nat)
  /-- Cells in use per pool after the last command, for the rise of the high-water mark. -/
  prev : List (Nat × Nat)
  /-- Pools stalling their producer. -/
  stalled : List Nat
  deriving DecidableEq, Repr

/-- A service-address entry (R86): the words of CLS_SA_ATTR and CLS_SA_SVC and the 16-byte address. -/
structure SaEntry where
  attr : Word
  svc : Word
  addr : BitVec 128
  deriving DecidableEq, Repr

/-- What a lane is to do with an item. -/
inductive Work where
  | ntp
  | nts
  /-- A PTP event message for an instance. -/
  | ptp (inst : Nat)
  | arp
  | nd
  /-- A frame for the host, with its R454 reason. -/
  | host (reason : Nat)
  /-- A Sync the emitter asks for (R183): instance, logical port, grant entry for unicast, nominal instant. -/
  | sync (inst port : Nat) (grant : Option Nat) (nominal : Inst)
  deriving DecidableEq, Repr

/-- An item of lane work as the classifier hands it over: the frame, its stamp, and the service-address entry as it stood
at classification (R86). -/
structure Item where
  work : Work
  cls : Nat
  cost : Nat
  port : Nat
  stamp : Inst
  bytes : Bytes
  saIdx : Nat
  sa : SaEntry
  vlan : Nat
  src : BitVec 128
  prof : Nat
  pref : Bool
  deriving DecidableEq, Repr

/-- What must be sealed anew when an NTS response is re-promised (R119, R162). -/
structure SealCtx where
  s2c : Bytes
  uid : Bytes
  plain : Bytes
  deriving DecidableEq, Repr

/-- A response as a lane built it: the whole frame without FCS, where its transmit timestamp stands (none for ARP, ND and
PTP), and what a re-promise needs. -/
structure LaneResp where
  slice : Nat
  /-- 0 plain NTP, 1 NTS, 2 Delay_Resp or Sync, 3 ARP or ND, 4 Pdelay_Resp. -/
  kind : Nat
  item : Item
  frame : Bytes
  kod : Bool
  sealCtx : Option SealCtx
  deriving DecidableEq, Repr

/-- A slice: its queue in order, its re-promise items (served first, R120) and the peak depth since the last read. -/
structure Slice where
  queue : List Item
  reprom : List LaneResp
  peak : Nat
  deriving DecidableEq, Repr

/-! ### Classifier, client table and admission (spec/03_serving_pipeline.md) -/

/-- An entry of the client table (R100). -/
structure CtEntry where
  tag : BitVec 32
  firstSec : BitVec 32
  tat : BitVec 64
  lastSec : BitVec 32
  kodLast : BitVec 32
  req : BitVec 32
  overBudget : BitVec 16
  valid : Bool
  pref : Bool
  nts : Bool
  kodValid : Bool
  prof : BitVec 4
  kods : BitVec 8
  deriving DecidableEq, Repr

/-- The admission meter (R108): quarter-slots offered and admitted per class in the window, the quotas in force (none is
unlimited) and the boundary class's carry. -/
structure Meter where
  offered : List Nat
  admitted : List Nat
  quota : List (Option Nat)
  carry : List Nat
  deriving DecidableEq, Repr

/-- The classifiers' tables and meters. -/
structure Cls where
  sa : List (Nat × SaEntry)
  /-- The accepted change a service-address command makes at its completion. -/
  saPend : Option (Nat × SaEntry)
  ct : List (Nat × CtEntry)
  meter : Meter
  /-- Global KoD bucket: tokens × time units per second, and when it was last filled (R105). -/
  kodLevel : Nat
  kodAt : Inst
  /-- ARP and ND answers of the second: port ↦ (second, count) (R94). -/
  ndCount : List (Nat × (Nat × Nat))
  /-- Last second a conflict of an address was written to the Ledger (R95). -/
  conflictSec : List (Nat × Nat)
  /-- Instant of the last second boundary at which the DPLL applied a correction (R96). -/
  refTime : Inst
  /-- NTP identity when a slot was last selected: stratum, reference ID, root delay (R97); none since cold reset. -/
  lastSel : Option (Nat × Nat × Nat)
  deriving DecidableEq, Repr

/-! ### The Peel (spec/04_peel.md) -/

/-- Who booked a launch. -/
inductive Owner where
  /-- A lane of a slice, for a response of a kind (LaneResp.kind). -/
  | lane (slice kind : Nat)
  /-- A FRAME_TX descriptor: ring and SQ slot. -/
  | host (ring slot : Nat)
  /-- An engine: the event counter its launch advances, if one. -/
  | engine (idx : Option Nat)
  deriving DecidableEq, Repr

/-- A booking of a launch point (R116, R117). -/
structure Booking where
  handle : Nat
  port : Nat
  due : Inst
  len : Nat
  gcls : Nat
  mayRp : Bool
  /-- The frame has been re-promised before. -/
  again : Bool
  frame : Option Bytes
  owner : Owner
  /-- A lane's response as built. -/
  resp : Option LaneResp
  /-- Number of its launch point on the port's grid. -/
  pt : Nat
  /-- Commit guard in force when booked, in ns (R118). -/
  guardC : Nat
  /-- Wheel level 0 to 2, or 3 for the far list, and the tick of its instant. -/
  level : Nat
  tick : Nat
  pinned : Bool
  deriving DecidableEq, Repr

/-- A gate control list (R131): base in 2^-16 ns, cycle in 2^-16 ns, entries of interval (ns) and gate states. -/
structure GateList where
  base : Nat
  cycle : Nat
  entries : List (Nat × Nat)
  deriving DecidableEq, Repr

/-- The Peel: bookings in order of acceptance, what each port's wire last carried, the calibrated grids, the gate lists, and
the probe's measurements for the ports (R128, R209, R314). -/
structure Peel where
  bookings : List Booking
  /-- Position in octets of the grid where the last frame launched on a port ended, and the idle deficit (R122). -/
  lastEnd : List (Nat × (Nat × Nat))
  /-- When the last frame launched on a port has finished on the wire, in the unit of `TimeSt.osc` (R136, R205). -/
  outUntil : List (Nat × Nat)
  /-- Calibrated offset of each physical lane of a port's grid, in time units. -/
  laneOff : List (Nat × List Int)
  /-- When a port's calibration last ended or was last checked, in the unit of `TimeSt.osc`; transmit and receive (+ 0x100). -/
  calAt : List (Nat × Nat)
  /-- Ingress: calibrated phase of each physical lane, in ps. -/
  ingOff : List (Nat × List Int)
  /-- Probe measurements per strobe since its requester began: count and sum in ps. -/
  probe : List (Nat × (Nat × Int))
  staged : List (Nat × (Nat × Nat))
  gates : List (Nat × GateList)
  /-- Pending list changes: port ↦ (handle, change instant, list), oldest first. -/
  gatePend : List (Nat × List (Nat × Inst × GateList))
  /-- Missed lane bookings whose NTS job is still in an Oven: handle and port. -/
  voided : List (Nat × Nat)
  /-- EGR_ADJ of a port at its last calibration, in ps. -/
  egrAdj : List (Nat × Int)
  deriving DecidableEq, Repr

/-! ### NTS, Starter and Ovens (spec/05_nts.md) -/

/-- A Starter generation (R156): its number, its 32-byte key, and whether it stands wrapped in flash. -/
structure Gen where
  num : Nat
  key : Bytes
  inFlash : Bool
  deriving DecidableEq, Repr

/-- What a lane has read from an NTS request once checks 1 to 3 have passed (R162). -/
structure NtsReq where
  item : Item
  slice : Nat
  booking : Nat
  /-- The Unique Identifier field whole, the cookie, the associated data, and the authenticator's nonce and ciphertext. -/
  uid : Bytes
  cookie : Bytes
  ad : Bytes
  nonce : Bytes
  ctext : Bytes
  /-- Placeholders in the clear: body lengths in order. -/
  clearPh : List Nat
  /-- OVN_NTS_CTL.max_ph when the lane took the item (R174). -/
  maxPh : Nat
  deriving DecidableEq, Repr

/-- An Oven job (R170). -/
inductive OvenWork where
  | openJob (r : NtsReq)
  /-- Mint `k` cookies for the keys and seal the response whose header the lane built for the booking; `kod` for an
  authenticated KoD. -/
  | sealJob (r : NtsReq) (hdr c2s s2c : Bytes) (k : Nat) (kod : Bool)
  /-- Reseal after a re-promise with the new launch instant. -/
  | resealJob (resp : LaneResp) (booking : Nat)
  /-- Mint one cookie for a KE stream. -/
  | mintJob (sid : Nat) (c2s s2c : Bytes)
  deriving DecidableEq, Repr

/-- A job in an Oven, with the generations in force when it started (R158), and whether it is a second attempt (R171). -/
structure OvenJob where
  id : Nat
  oven : Nat
  work : OvenWork
  gens : List Gen
  retried : Bool
  /-- When it entered the queue, in the unit of `TimeSt.osc`. -/
  since : Nat
  deriving DecidableEq, Repr

/-- A scheduled rotation: its timed-action handle, its instant, whether it is automatic, and its deferrals (R157). -/
structure Rotation where
  handle : Nat
  due : Inst
  auto : Bool
  deferrals : Nat
  deriving DecidableEq, Repr

/-- The Starter: generations held, the retired one awaiting its wipe, the scheduled rotations, the purge in progress. -/
structure Starter where
  pending : Option Gen
  current : Option Gen
  prior1 : Option Gen
  prior2 : Option Gen
  retired : List Gen
  rotations : List Rotation
  /-- The next automatic instant already prepared, in TAI seconds. -/
  preparedSec : Nat
  /-- The partner has acknowledged the pending generation. -/
  offered : Bool
  deriving DecidableEq, Repr

/-- Where a KE session stands. -/
inductive KePhase where
  | hello
  | kex
  | sign
  | finish
  | request
  | mint
  | closing
  deriving DecidableEq, Repr

/-- A session's TLS state (R144): handshake bytes short of a message, the transcript, the client's key share and session ID, whether
it offered early data, the traffic secrets of both directions, the exporter secret, the record counters, and the NTS-KE records
received so far. -/
structure Tls where
  hs : Bytes
  transcript : Bytes
  share : Bytes
  sessId : Bytes
  early : Bool
  shared : Bytes
  cHs : Bytes
  sHs : Bytes
  cAp : Bytes
  sAp : Bytes
  exp : Bytes
  rd : Nat
  wr : Nat
  inner : Bytes
  deriving DecidableEq, Repr

/-- An open NTS-KE stream (R150 to R152); instants in the unit of `TimeSt.osc`. -/
structure Stream where
  sid : Nat
  ring : Nat
  client : BitVec 128
  tcpPort : Nat
  sa : Nat
  thread : Nat
  window : Nat
  phase : KePhase
  /-- TLS bytes received so far. -/
  rx : Bytes
  acceptAt : Nat
  hsAt : Nat
  finAt : Option Nat
  hostFin : Bool
  /-- Deadlines, cookie count and TLS profile in force when it opened (R175). -/
  hsLimit : Nat
  reqLimit : Nat
  ncookies : Nat
  suites : Nat
  groups : Nat
  sig : Nat
  /-- Suite and group chosen by the ClientHello, and whether a HelloRetryRequest was sent. -/
  suite : Nat
  group : Nat
  retried : Bool
  /-- Cookies minted so far. -/
  cookies : List Bytes
  tls : Tls
  deriving DecidableEq, Repr

/-- NTS serving, the Ovens and the KE service. -/
structure Nts where
  starter : Starter
  jobs : List OvenJob
  nextJob : Nat
  /-- Fault times of each Oven, oldest first (R171). -/
  faults : List (Nat × List Inst)
  /-- Ovens running the known-answer test after OVN_CTL set their bit. -/
  kat : List Nat
  /-- The Ovens out of service until a cold reset. -/
  dead : List Nat
  /-- NAK bucket: tokens × time units per second, and when it was last filled. -/
  nakLevel : Nat
  nakAt : Inst
  streams : List Stream
  deriving DecidableEq, Repr

/-! ### References, selection and holdover (spec/08_references.md) -/

/-- A reference slot's measurements (R228 to R230); its state, reason and flags stand in REFn_STATUS. Phases are in 2^-16 ns,
elapsed time in the unit of `TimeSt.osc` or in whole seconds of it. -/
structure RefSlot where
  /-- Signal present under R230, as last evaluated. -/
  present : Bool
  /-- When the last raw comparison or accepted edge arrived. -/
  heard : Option Nat
  /-- Raw comparisons of the second in progress: sum and count. -/
  sum : Int
  count : Nat
  lastX : Option Int
  /-- x by elapsed second, newest first. -/
  hist : List (Nat × Int)
  /-- The slot's own error in ps (R234), the advertised code, and the rank its unit reports (GNSS, PARTNER). -/
  own : Nat
  adv : Nat
  qual : Nat
  glitch : Bool
  /-- Consecutive labels 1 s apart (R238). -/
  run : Nat
  /-- SUSPECT: seconds of re-agreement, and the majority side. -/
  agree : Nat
  side : List Nat
  /-- When a DRIFT hold began, and when the drift flag was last 1. -/
  dqAt : Nat
  driftAt : Option Nat
  /-- Slots it is in a disagreeing pair with. -/
  dis : List Nat
  /-- PPS: stamp of the last accepted edge, of the last edge awaiting a label, the label decoded for the next edge, the last
  label used and the bad labels in a row. -/
  lastEdge : Option Inst
  waiting : Option Inst
  label : Option Nat
  lastLabel : Option Nat
  badLabels : Nat
  /-- NTP: the T1 awaited, polls unanswered in a row, when the last poll was sent, the last samples (θ, δ) in 2^-16 ns. -/
  ntpT1 : Option Inst
  missed : Nat
  polledAt : Option Nat
  samples : List (Int × Int)
  deriving DecidableEq, Repr

/-- What stands behind the reference slots, the selector and the DPLL.  Frequencies are in ns/s. -/
structure Refs where
  slots : List (Nat × RefSlot)
  /-- e, the bound on the error of Device Time, in ps (R251). -/
  errEst : Nat
  /-- Mean path delay a slot measures to its upstream, in ps, by slot. -/
  delay : List (Nat × Nat)
  /-- What the partner reports for NTP: stratum, reference ID, root delay (NTP short format). -/
  partnerNtp : Nat × Nat × Nat
  /-- A scheduled step: its instant and its size in time units (R137, R248). -/
  stepAt : Option (Inst × Int)
  /-- Device Time second last evaluated (R236). -/
  evalSec : Nat
  /-- The SELECTED slot, and whether its first comparison is still awaited (R247). -/
  sel : Option Nat
  build : Bool
  /-- The build-out b in 2^-16 ns, and when it was set. -/
  b : Int
  bAt : Nat
  /-- The DPLL: integral state, correction s, last update, updates below acq_thr in a row, acquiring. -/
  integ : Rat
  steer : Rat
  lastUpd : Nat
  acqRun : Nat
  acq : Bool
  /-- s by elapsed second while tracking, newest first (R244, R252). -/
  sHist : List (Nat × Rat)
  /-- o of the seconds of TRACK_TIME in the run in progress, newest first, 10 at most; the newest full run and its end (R245). -/
  oRun : List Rat
  last10 : Option (Nat × List Rat)
  /-- The anchor: elapsed second A and o_A. -/
  anchor : Option (Nat × Rat)
  /-- Seconds of TRACK_TIME since the model was written; the first anchor since then is set; tracking seconds since the
  anchor without a DRIFT flag; a reanchor is held. -/
  selSecs : Nat
  firstDone : Bool
  sinceAnchor : Nat
  reanchor : Bool
  /-- e at the last second of TRACK_TIME, when the mode was entered, and s_h and u_h of the holdover. -/
  eH : Nat
  modeAt : Nat
  sH : Rat
  uH : Rat
  wDis : Nat
  wDrift : Nat
  /-- Some slot has been selected since cold reset; the type of the last one, and whether it was a PTP client slot. -/
  everSel : Bool
  lastType : Nat
  /-- The last reference before holdover was a primary one (R190). -/
  lastPrim : Bool
  /-- When Device Time last stepped. -/
  stepOsc : Option Nat
  /-- TB_HOLD_CTL and TB_STEP_CTL written in a second of Device Time: that second, and the word in force until it ends (R263). -/
  holdWas : Option (Nat × Word)
  stepWas : Option (Nat × Word)
  deriving DecidableEq, Repr

/-! ### PTP (spec/06_ptp.md) -/

/-- A grant entry of P_PTPU (R188). -/
structure Grant where
  inst : Nat
  lport : Nat
  addr : Nat
  peerId : Nat
  peerPort : Nat
  vlan : Nat
  dstMac : Nat
  /-- Granted types: bit 0 Announce, bit 1 Sync, bit 2 Delay_Resp. -/
  granted : Nat
  logAnn : Int
  logSync : Int
  logDresp : Int
  /-- Expiries, Device Time seconds. -/
  expAnn : Nat
  expSync : Nat
  expDresp : Nat
  seqSync : Nat
  seqAnn : Nat
  phase : Nat
  sent : Nat
  /-- Negotiation records, newest last, 20 at most. -/
  negs : List Bytes
  /-- Nominal instant of the last Sync emitted, and when the last Announce was sent. -/
  lastSync : Inst
  lastAnn : Inst
  /-- Under DRAIN: types whose cancel awaits its acknowledgement, and when the cancel was sent. -/
  cancelAt : Option Inst
  deriving DecidableEq, Repr

/-- A general message a classifier handed to PE0 to PE3 (R182). -/
structure PtpMsg where
  inst : Nat
  port : Nat
  stamp : Inst
  vlan : Nat
  src : Nat
  mac : Nat
  msg : Bytes
  deriving DecidableEq, Repr

/-- A foreign master heard on a CLIENT port (R193). -/
structure Foreign where
  port : Nat
  /-- sourcePortIdentity: clockIdentity and portNumber. -/
  clockId : Nat
  portNum : Nat
  /-- Body of the last Announce, from offset 44, and its flag octets, address and MAC. -/
  body : Bytes
  flags : Nat
  src : Nat
  mac : Nat
  heard : Inst
  count : Nat
  deriving DecidableEq, Repr

/-- A client-side unicast grant (R193): message type, duration in seconds, when it was given, and the interval's log. -/
structure UpGrant where
  mtype : Nat
  dur : Nat
  at_ : Inst
  log : Int
  asked : Bool
  deriving DecidableEq, Repr

/-- A Sync received on a CLIENT port: its identity, t2, and t1 (with the corrections applied) once known. -/
structure SyncRx where
  port : Nat
  clockId : Nat
  portNum : Nat
  seq : Nat
  t2 : Inst
  /-- t1 plus the corrections, in 2^-16 ns; none while the Follow_Up is awaited. -/
  t1 : Option Int
  corr : Int
  deriving DecidableEq, Repr

/-- A delay request of the device: its kind, sequenceId, the port, its egress value, and what has come back. -/
structure DelayTx where
  peer : Bool
  port : Nat
  seq : Nat
  /-- Egress value in 2^-16 ns (t3, or t1 of the peer delay). -/
  sent : Int
  /-- Peer delay: ingress value t4, requestReceiptTimestamp, and corrections, in 2^-16 ns, while the Follow_Up is awaited. -/
  back : Option (Int × Int × Int)
  deriving DecidableEq, Repr

/-- An instance's running state. -/
structure PtpInst where
  foreign : List Foreign
  /-- The chosen candidate: port, clockIdentity, portNumber. -/
  best : Option (Nat × Nat × Nat)
  up : List UpGrant
  /-- Next sequenceIds by port: multicast Sync, Announce, Delay_Req, Pdelay_Req, Signaling. -/
  seqs : List (Nat × Nat)
  /-- Multicast: nominal instant of the last Sync emitted, by port; when the last Announce and request were sent. -/
  lastSync : List (Nat × Inst)
  lastAnn : List (Nat × Inst)
  lastReq : List (Nat × Inst)
  sync : Option SyncRx
  delays : List DelayTx
  /-- t2 − t1 of the last Sync, and the mean path delay, in 2^-16 ns. -/
  ms : Option Int
  mpd : Option Int
  deriving DecidableEq, Repr

/-- The PTP service. -/
structure Ptp where
  grants : List (Nat × Grant)
  insts : List (Nat × PtpInst)
  intake : List PtpMsg
  /-- Delay requests taken in the second: port ↦ (second, count) (R184). -/
  reqRate : List (Nat × (Nat × Nat))
  deriving DecidableEq, Repr

/-! ### GNSS (spec/09_gnss.md) -/

/-- A channel (R269 to R273): the satellite and antenna, whether it has acquired, seconds of lock per band, since when both bands
have been out of lock (unit of `TimeSt.osc`), and the carrier smoothing: epochs in it, smoothed combination and last carrier, in
ps. -/
structure GChan where
  sys : Nat
  svid : Nat
  gb : Bool
  acquired : Bool
  lock1 : Option Nat
  lock5 : Option Nat
  outAt : Option Nat
  smoothN : Nat
  smooth : Rat
  carrier : Rat
  deriving DecidableEq, Repr

/-- A capture in progress, with its header (R290): trigger, handle, first sample instant, length in ms, valid streams. -/
structure Capture where
  trigger : Nat
  handle : Nat
  start : Inst
  len : Nat
  streams : Nat
  deriving DecidableEq, Repr

/-- A capture held in P_SNAP: header and samples, the bytes already delivered, and the bytes it occupies. -/
structure Snap where
  head : Bytes
  data : Bytes
  sent : Nat
  size : Nat
  deriving DecidableEq, Repr

/-- The receiver.  Status and configuration stand in its registers. -/
structure Gnss where
  chans : List (Nat × GChan)
  /-- Mode in force: SNAPSHOT. -/
  snapMode : Bool
  /-- Staged register values awaiting a commit (R275), and a commit awaiting its epoch. -/
  staged : List (Nat × Word)
  commit : Bool
  /-- Device Time seconds of the last epoch, allocation, level check and periodic capture. -/
  epochSec : Nat
  allocSec : Nat
  snapSec : Option Nat
  /-- Source of the position before a survey; the survey's sums of position (mm) and of squares. -/
  before : Nat
  sumX : Rat
  sumY : Rat
  sumZ : Rat
  sumSq : Rat
  /-- Variance of a completed survey's mean, in mm². -/
  surveyVar : Rat
  /-- T-RAIM per src 0 to 3: integrity, and the excluded satellites with the second each returns (R280). -/
  integ : List (Nat × Nat)
  excl : List (Nat × Nat × Nat × Nat)
  /-- The dual-antenna test: epochs in a row that meet the PASS and the FAIL conditions (R284). -/
  passRun : Nat
  failRun : Nat
  /-- Ephemerides held: system, satellite, second decoded. -/
  eph : List (Nat × Nat × Nat)
  /-- The refresh burst in progress ends at this instant (R289). -/
  burst : Option Inst
  seq : Nat
  caps : List Capture
  snaps : List Snap
  deriving DecidableEq, Repr

/-! ### Time-interval counter (spec/10_tic.md) -/

/-- A delay line of a channel (R310, R313): its accepted table as (phi, w) by code, codes in use, and the second and the
temperature at acceptance. -/
structure TicLine where
  valid : Bool
  tbl : List (Nat × Nat)
  used : Nat
  sec : Nat
  temp : Int
  deriving DecidableEq, Repr

/-- A channel, 0 to 7 the pins and 8 the probe: its two lines (the serving one stands in TIC_CHn_STAT), the prescaler's count,
the raw time of the last accepted edge, the decimation count, and what the next record carries. -/
structure TicCh where
  a : TicLine
  b : TicLine
  /-- Serving line is B. -/
  onB : Bool
  presc : Nat
  lastEdge : Option Inst
  decCount : Nat
  seq : Nat
  nlost : Nat
  gap : Bool
  stepped : Bool
  /-- Calibration cycle: 0 none, 1 the first line, 2 the other line. -/
  stage : Nat
  deriving DecidableEq, Repr

/-- The first edge of an open pair: its channel, the tick of it, the step-free time of that tick edge, its fine term and bin width
(time units), its φ, and its stamp. -/
structure TicFirst where
  ch : Nat
  tick : Nat
  run : Nat
  fine : Rat
  wid : Rat
  phi : Nat
  stamp : Inst
  deriving DecidableEq, Repr

/-- An interval pair (R306): 0 DISARMED, 1 ARMED, 2 OPEN; what the next result carries; the last result and its flags. -/
structure TicPair where
  st : Nat
  first : Option TicFirst
  lost : Bool
  stepped : Bool
  gap : Bool
  seq : Nat
  last : Nat
  flags : Nat
  deriving DecidableEq, Repr

structure Tic where
  chans : List (Nat × TicCh)
  pairs : List (Nat × TicPair)
  /-- In the unit of `TimeSt.osc`: start of the last cycle, end of the last completed one, and the last abort. -/
  calStart : Option Nat
  calDone : Option Nat
  abortAt : Option Nat
  /-- Die temperature of the last cycle, in 0.1 °C. -/
  lastTemp : Option Int
  deriving DecidableEq, Repr

/-! ### Timebase (spec/11_timebase_outputs.md) -/

/-- The oscillator, the PLL lock windows and MANUAL. -/
structure Tb where
  /-- The timebase has left WARMUP (R325). -/
  warm : Bool
  /-- Level of OSC_WARM_N, and since when it has been low; when OSC_IN became present. -/
  warmN : Bool
  warmLowAt : Nat
  oscAt : Nat
  /-- Per clock of R333: consecutive good and bad windows. -/
  good : List (Nat × Nat)
  bad : List (Nat × Nat)
  /-- The raw count stood still in a window of the gap, and the raw counter's unit count at the loss (R329). -/
  oscLost : Bool
  lossAt : Nat
  /-- e at the entry into MANUAL, and when. -/
  manE : Nat
  manAt : Nat
  deriving DecidableEq, Repr

/-- A time or frequency output: its level before polarity, when en was set (and, for a FOUT, when its synthesizer locked), the
phase correction of R336 in ps, when the last squelch cause cleared, when its phase was last checked, and the implicit LOWs of
its pulses (instant and handle). -/
structure Out where
  level : Nat
  enAt : Inst
  startAt : Option Inst
  corr : Int
  clearAt : Option Nat
  checkAt : Option Nat
  lows : List (Inst × Nat)
  deriving DecidableEq, Repr

/-! ### Trust (spec/12_trust_batches.md) -/

/-- A TLS server key pair (R351): type in the codes of OVN_KE_TLS.sig, the private scalar or seed, and the raw public key. -/
structure TlsKey where
  typ : Nat
  priv : Bytes
  pub : Bytes
  deriving DecidableEq, Repr

/-- A Batch bank (R371): the Batch as written, its commit record, its applied record with the numbers of the one-shot items still
to do, and its void record. -/
structure Bank where
  data : Bytes
  /-- Commit record: seq, SHA-256 and apply instant (0 for "as soon as permitted"). -/
  commit : Option (Nat × Bytes × Inst)
  applied : Option (List Nat)
  void : Bool
  deriving DecidableEq, Repr

/-- A firmware bank (R375): whether it still holds the image the part was delivered with, the bytes written over the erased
bank, its commit and failure records, and boots in a row that did not reach supervisor start. -/
structure FwBank where
  factory : Bool
  cells : List (Nat × Byte)
  commit : Bool
  failed : Bool
  tries : Nat
  deriving DecidableEq, Repr

/-- Keys, Batches, firmware and the flash.  The vault's slots are held by what they hold: the Owner Key, the TLS keys, the pairwise
key, and the generations of the Starter; slots 0 to 2 are derived (R352). -/
structure Trust where
  /-- The host region of the flash, by flash offset; an unlisted byte is erased. -/
  flash : List (Nat × Byte)
  /-- The key store: records as written (R356), oldest first, and the seq of the last one. -/
  records : List Bytes
  recSeq : Nat
  /-- Owner Key: sig_alg and raw public key. -/
  owner : Option (Nat × Bytes)
  tlsCur : Option TlsKey
  tlsNext : Option TlsKey
  pairKey : Option Bytes
  /-- Certificate chain in force, and the extension module in force (R377). -/
  chain : List Bytes
  ext : Option Bytes
  /-- The module in force has faulted (R377). -/
  extFault : Bool
  /-- Level of CLAIM_N, and when the claim nonce was armed (unit of `TimeSt.osc`). -/
  claimN : Bool
  nonceAt : Nat
  /-- The Batch staging buffer. -/
  staging : List (Nat × Byte)
  banks : List (Nat × Bank)
  /-- The bank whose apply is pending, and the handle of its timed action (none while it waits for dt_set). -/
  pend : Option (Nat × Option Nat)
  fw : List (Nat × FwBank)
  /-- Since when the running image has served (unit of `TimeSt.osc`). -/
  servedAt : Nat
  deriving DecidableEq, Repr


/-! ### Public-key engine (spec/13_pke.md) -/

/-- Whose job it is. -/
inductive PkeDest where
  /-- A host ring, its SQ slot. -/
  | host (ring slot : Nat)
  /-- The key exchange (false) or the signature (true) of a KE stream. -/
  | ke (sid : Nat) (sign : Bool)
  /-- A job an engine submits for itself: its requester. -/
  | engine (req : Nat)
  deriving DecidableEq, Repr

/-- A job of the pool (R388, R391): its descriptor and input image; when it arrived and, once started, its core and when it ends
(unit of `TimeSt.osc`).  `discard`: its result is not written (R403). -/
structure PkeJob where
  id : Nat
  req : Nat
  desc : Bytes
  image : Bytes
  dest : PkeDest
  arrive : Nat
  start : Option (Nat × Nat)
  ends : Nat
  discard : Bool
  deriving DecidableEq, Repr

/-- The pool: jobs in order of arrival, the requesters' virtual times in µs (R387), cores under the known-answer test with when it
ends, fault times of each core, and the cores out of service until a cold reset. -/
structure Pke where
  jobs : List PkeJob
  nextId : Nat
  vt : List (Nat × Rat)
  kat : List (Nat × Nat)
  faults : List (Nat × List Nat)
  dead : List Nat
  deriving DecidableEq, Repr


/-! ### Ports (spec/07_ports.md) -/

/-- What a port keeps beside its registers and counters: when the last valid ESMC PDU came (unit of `TimeSt.osc`) with its cascade
counts (eEEC, EEC), the second of the last information PDU, the QL last sent (SSM and enhanced code), and the latched high byte of
a counter; port 16: the host frames waiting for the link, with ring and SQ slot. -/
structure PortSt where
  esmcAt : Nat
  eeecs : Nat
  eecs : Nat
  infoSec : Nat
  sent : Option (Nat × Nat)
  latch : Nat
  hostQ : List (Nat × Nat × Bytes)
  deriving DecidableEq, Repr


/-! ### The pair (spec/14_pair.md) -/

/-- A lane-swap calibration in progress (R425): its start A and handle; stage 0 normal, 1 swapped, 2 normal again; and count and sum
of the raw θ of the three windows, in ps. -/
structure PairCal where
  at_ : Inst
  handle : Nat
  stage : Nat
  n1 : Nat × Rat
  s : Nat × Rat
  n2 : Nat × Rat
  deriving DecidableEq, Repr

/-- What the pair protocol keeps.  Link, role, fence and their flags stand in PAIR_STATUS. -/
structure Pair where
  /-- Body of the PAIR item in force; empty while unpaired (R412). -/
  body : Bytes
  /-- Own HELLO nonce, ephemeral scalar and HELLO payload; the partner's HELLO and QUOTE (R410, R414). -/
  nonce : Bytes
  eph : Nat
  hello : Bytes
  peerHello : Bytes
  peerQuote : Bytes
  /-- Sequence number of the last frame sent and of the last one accepted (R409). -/
  txSeq : Nat
  rxSeq : Nat
  /-- When en was set, whether the link has reached UP since, and whether the 1 s of R417 has been judged. -/
  enAt : Nat
  reached : Bool
  upJudged : Bool
  /-- A heartbeat is awaited, and when the last accepted one came. -/
  watch : Bool
  hbRx : Nat
  /-- The partner's last HB: role, flags and generation. -/
  peer : Nat × Nat × Nat
  /-- Agreed change: roles of member 0 and 1, and its instant (R420, R421). -/
  change : Option (Nat × Nat × Inst)
  /-- A resignation awaiting its ACK: when it began, and whether a DRAIN of the pair waits for it. -/
  resign : Option (Nat × Bool)
  /-- The member resigned for a cause that holds (R421). -/
  held : Bool
  /-- Announcement sets still to send: when, and the entries (R420). -/
  announce : List (Nat × List Nat)
  /-- t_tx and receive stamp of the last TIME frame accepted, and when it came; number of the last TIME instant used. -/
  last : Option (Inst × Inst)
  timeK : Nat
  /-- Latest x, in 2^-16 ns (R426). -/
  offset : Int
  cal : Option PairCal
  /-- Bytes of a pair-bound Batch received so far. -/
  batch : List (Nat × Byte)
  deriving DecidableEq, Repr


/-! ### Lifecycle (spec/18_lifecycle_faults.md) -/

/-- Resets in progress, held events, relock attempts and FAULT_STOP.  Stage, state and cause stand in GLB_STATUS. -/
structure Life where
  /-- What holds the device in a cold reset (POR_N low or a rail, TEST_EN) or in a warm one (WRST_N, EXTEST). -/
  porLow : Bool
  testEn : Bool
  wrstLow : Bool
  extest : Bool
  /-- The warm reset in progress keeps Device Time. -/
  keep : Bool
  /-- Ledger events held in PD_AON (R537). -/
  events : List LedgerEvent
  /-- PLLs 0 to 2: domains on the AON clock, relock attempts made, and when lock was last declared (R529). -/
  aonClk : List Nat
  attempts : List (Nat × Nat)
  lockAt : List (Nat × Nat)
  /-- When FAULT_STOP was entered (unit of `TimeSt.osc`). -/
  stopAt : Nat
  /-- Bytes of bank A written in RECOVERY. -/
  recLen : Nat
  deriving DecidableEq, Repr


/-! ### The block -/

/-- Everything the spec gives the block, but the queue of waiting commands. -/
structure Device where
  /-- The register bank: BAR0 offset ↦ word, unlisted offsets reading their reset word (R538, R547). -/
  regs : List (Nat × Word)
  /-- Event counters by index (R489, R490), modulo 2^48. -/
  cnts : List (Nat × Nat)
  /-- Port statistics by 64 n + k (R214), modulo 2^40. -/
  stats : List (Nat × Nat)
  /-- Units a DRAIN (false) or CUT (true) is in progress on, by the offset of their enable word (R75). -/
  stopping : List (Nat × Bool)
  tm : TimeSt
  sched : Sched
  axis0 : Axis
  axis1 : Axis
  intc : Intc
  rings : List (Nat × Ring)
  pcie : Pcie
  mon : Mon
  trough : Trough
  slices : List (Nat × Slice)
  cls : Cls
  peel : Peel
  nts : Nts
  refs : Refs
  tb : Tb
  /-- TOUT0 to TOUT7 as 0 to 7, FOUT0 to FOUT3 as 8 to 11. -/
  outs : List (Nat × Out)
  ptp : Ptp
  gnss : Gnss
  tic : Tic
  trust : Trust
  pke : Pke
  ports : List (Nat × PortSt)
  pair : Pair
  life : Life
  /-- Draws made from the random bit generator (the model's counter; each draw is a free value, log entry 3). -/
  draws : Nat
  /-- What the block sent, newest first. -/
  out : List Output
  deriving DecidableEq, Repr

/-- The state: the commands waiting, first in first out, and the block. -/
structure State where
  pending : List Instr
  dev : Device
  deriving DecidableEq, Repr

/-! ### Reset -/

def TimeSt.init : TimeSt :=
  { sec := 0, ns := 0, frac := 0, incr := 0x01400000000000#56, stagedLo := 0, commit := none, ticks := 0, run := 0, osc := 0,
    pairD := 0, pairN := 0,
    leap := none, leapNext := none, leapAdopted := [], expiryStaged := 0, expiry := 0, utc := [], leapSeen := [] }

def Axis.init : Axis :=
  { acq := [], intervals := [], lastReal := 0, lastEdge := 0, cycleEdge := 0, lineCnt := 0, virtZero := false, glitches := 0,
    numbered := false, afterLost := false, cycleSet := none, reqs := [], nextId := 1 }

def Sched.init : Sched := { pend := [], nextHandle := 1 }

def Intc.init : Intc :=
  { latched := [], soft := [], active := [], lines := [], rrPtr := [], rrOffer := [], rrSince := [],
    fw := [], run := [], told := [], held := [], msgOut := [] }

def Ring.init : Ring :=
  { sqHead := 0, sqTail := 0, cqTail := 0, cqHead := 0, dbSq := 0, dbCq := 0, posted := [], heldOut := [], modCount := 0,
    modStart := none, fired := false, part := [], partRecs := 0, partFirst := false, partStart := none, nlost := 0, events := [],
    flush := [] }

def Pcie.init : Pcie :=
  { pf0D := 0, pf1D := 0, bme := false, pmeEn := false, pmeStatus := false, fnMask := false, perstLow := true,
    linkUp := false, l23 := false, l1 := false, aspmL1En := false }

def Window.init : Window :=
  { isOpen := false, start := 0, bins := [], count := 0, sum := 0, min := 0x7FFFFFFFFFFFFFFF, max := -0x8000000000000000,
    sat := false, stepped := false, invalid := false, dropped := 0 }

def Hist.init : Hist := { win := Window.init, queue := [], seq := 0, latched := [], mark := 0 }

def Mon.init : Mon :=
  { cntHi := 0, snap := [], snapStat := [], snapPrev := [], hists := [], sampleSeq := [], sampleGap := [], sampleAt := none, ledger := [],
    ledgerSeq := 0, ledgerNext := 1, ledgerNextLo := 0, ledgerFirst := true, events := [], evLost := false,
    secStepped := false, secInvalid := false, lastCnt := [], lastPoolDrops := 0, secAt := 0, closed := [],
    lostHeld := 0 }

def Trough.init : Trough := { peak := [], prev := [], stalled := [] }

def Slice.init : Slice := { queue := [], reprom := [], peak := 0 }

def Meter.init : Meter :=
  { offered := [0, 0, 0, 0, 0], admitted := [0, 0, 0, 0, 0], quota := [none, none, none, none, none],
    carry := [0, 0, 0, 0, 0] }

def SaEntry.init : SaEntry := { attr := 0, svc := 0, addr := 0 }

def CtEntry.init : CtEntry :=
  { tag := 0, firstSec := 0, tat := 0, lastSec := 0, kodLast := 0, req := 0, overBudget := 0, valid := false, pref := false,
    nts := false, kodValid := false, prof := 0, kods := 0 }

def Cls.init : Cls :=
  { sa := [], saPend := none, ct := [], meter := Meter.init, kodLevel := 0, kodAt := 0, ndCount := [], conflictSec := [],
    refTime := 0, lastSel := none }

def Peel.init : Peel :=
  { bookings := [], lastEnd := [], outUntil := [], laneOff := [], calAt := [], ingOff := [], probe := [], staged := [], gates := [],
    gatePend := [], voided := [], egrAdj := [] }

def Starter.init : Starter :=
  { pending := none, current := none, prior1 := none, prior2 := none, retired := [], rotations := [], preparedSec := 0,
    offered := false }

def Tls.init : Tls :=
  { hs := [], transcript := [], share := [], sessId := [], early := false, shared := [], cHs := [], sHs := [], cAp := [], sAp := [], exp := [],
    rd := 0, wr := 0, inner := [] }

def Nts.init : Nts :=
  { starter := Starter.init, jobs := [], nextJob := 1, faults := [], kat := [], dead := [], nakLevel := 0, nakAt := 0,
    streams := [] }

def RefSlot.init : RefSlot :=
  { present := false, heard := none, sum := 0, count := 0, lastX := none, hist := [], own := 0, adv := 0, qual := 15,
    glitch := false, run := 0, agree := 0, side := [], dqAt := 0, driftAt := none, dis := [], lastEdge := none,
    waiting := none, label := none, lastLabel := none, badLabels := 0, ntpT1 := none, missed := 0, polledAt := none,
    samples := [] }

def Refs.init : Refs :=
  { slots := [], errEst := 2 ^ 48 - 1, delay := [], partnerNtp := (0, 0, 0), stepAt := none, evalSec := 0, sel := none,
    build := false, b := 0, bAt := 0, integ := 0, steer := 0, lastUpd := 0, acqRun := 0, acq := false,
    sHist := [], oRun := [], last10 := none, anchor := none, selSecs := 0, firstDone := false, sinceAnchor := 0,
    reanchor := false, eH := 2 ^ 48 - 1, modeAt := 0, sH := 0, uH := 0, wDis := 0, wDrift := 0, everSel := false, lastType := 0, lastPrim := false,
    stepOsc := none, holdWas := none, stepWas := none }

def Tb.init : Tb :=
  { warm := false, warmN := true, warmLowAt := 0, oscAt := 0, good := [], bad := [], oscLost := false, lossAt := 0, manE := 0,
    manAt := 0 }

def Out.init : Out :=
  { level := 0, enAt := 0, startAt := none, corr := 0, clearAt := none, checkAt := none, lows := [] }

def PtpInst.init : PtpInst :=
  { foreign := [], best := none, up := [], seqs := [], lastSync := [], lastAnn := [], lastReq := [], sync := none, delays := [],
    ms := none, mpd := none }

def Ptp.init : Ptp := { grants := [], insts := [], intake := [], reqRate := [] }

def GChan.init : GChan :=
  { sys := 3, svid := 0, gb := false, acquired := false, lock1 := none, lock5 := none, outAt := none, smoothN := 0, smooth := 0,
    carrier := 0 }

def Gnss.init : Gnss :=
  { chans := [], snapMode := false, staged := [], commit := false, epochSec := 0, allocSec := 0, snapSec := none, before := 0,
    sumX := 0, sumY := 0, sumZ := 0, sumSq := 0, surveyVar := 0, integ := [], excl := [], passRun := 0, failRun := 0, eph := [],
    burst := none, seq := 0, caps := [], snaps := [] }

def TicLine.init : TicLine := { valid := false, tbl := [], used := 0, sec := 0, temp := 0 }

def TicCh.init : TicCh :=
  { a := TicLine.init, b := TicLine.init, onB := false, presc := 0, lastEdge := none, decCount := 0, seq := 0, nlost := 0,
    gap := false, stepped := false, stage := 0 }

def TicPair.init : TicPair :=
  { st := 0, first := none, lost := false, stepped := false, gap := false, seq := 0, last := 0, flags := 0 }

def Tic.init : Tic :=
  { chans := [], pairs := [], calStart := none, calDone := none, abortAt := none, lastTemp := none }

def PortSt.init : PortSt := { esmcAt := 0, eeecs := 0, eecs := 0, infoSec := 0, sent := none, latch := 0, hostQ := [] }

def Pair.init : Pair :=
  { body := [], nonce := [], eph := 0, hello := [], peerHello := [], peerQuote := [], txSeq := 0, rxSeq := 0, enAt := 0, reached := false,
    upJudged := false, watch := false, hbRx := 0, peer := (0, 0, 0), change := none, resign := none, held := false, announce := [],
    last := none, timeK := 0, offset := 0, cal := none, batch := [] }

def Life.init : Life :=
  { porLow := false, testEn := false, wrstLow := false, extest := false, keep := false, events := [], aonClk := [], attempts := [],
    lockAt := [], stopAt := 0, recLen := 0 }

def Bank.init : Bank := { data := [], commit := none, applied := none, void := false }

def FwBank.init : FwBank := { factory := false, cells := [], commit := false, failed := false, tries := 0 }

/-- As delivered: the image of manufacture committed in bank A (log entry 48). -/
def Trust.init : Trust :=
  { flash := [], records := [], recSeq := 0, owner := none, tlsCur := none, tlsNext := none, pairKey := none, chain := [], ext := none, extFault := false,
    claimN := true, nonceAt := 0, staging := [], banks := [], pend := none,
    fw := [(0, { FwBank.init with factory := true, commit := true })], servedAt := 0 }

def Pke.init : Pke := { jobs := [], nextId := 1, vt := [], kat := [], faults := [], dead := [] }

/-- The block right after a cold reset. -/
def Device.init : Device :=
  { regs := [], cnts := [], stats := [], stopping := [], tm := TimeSt.init, sched := Sched.init, axis0 := Axis.init,
    axis1 := Axis.init, intc := Intc.init, rings := [], pcie := Pcie.init, mon := Mon.init, trough := Trough.init,
    slices := [], cls := Cls.init, peel := Peel.init, nts := Nts.init, refs := Refs.init, tb := Tb.init, outs := [], ptp := Ptp.init, gnss := Gnss.init,
    tic := Tic.init, trust := Trust.init, pke := Pke.init, ports := [], pair := Pair.init, life := Life.init, draws := 0, out := [] }

/-- The machine right after reset: every register at its reset value, every queue empty. (DESIGN CHOICE, log entry 94.) -/
def State.reset : State := { pending := [], dev := Device.init }

end Sys2Proof.Machine
end

