-- ==== Sys2Proof/WellFormed.lean ====
section
/-! DEFINITION. Which commands are well formed: every index names an existing port, ring, slot, channel, unit or source, every
interpolator bin is one of 125, and every descriptor is of its size.  A meaning is total: on an ill-formed command it takes the
way the spec gives a reserved index, no effect. -/

namespace Sys2Proof

/-- An index names an existing unit of R73. -/
def UnitId.inRange : UnitId → Bool
  | .slc n => decide (n < 12)
  | .ptp n => decide (n < 8)
  | .port n => decide (n < 17)
  | .ref n => decide (n < 32)
  | .ticCh n => decide (n < 8)
  | .ticPair n => decide (n < 4)
  | .tout n => decide (n < 8)
  | .fout n => decide (n < 4)
  | .ring n => decide (n < 256)
  | .hist n => decide (n < 256)
  | .ovn | .cls | .peel | .ke | .gnss | .pke | .pair | .sample => true

/-- The command is well formed. -/
def Instr.wf : Instr → Bool
  | .tbIncrLoWrite _ => true
  | .tbIncrHiWrite _ => true
  | .tbNowRead => true
  | .leapCommit => true
  | .leapForceCommit => true
  | .leapTableInForce => true
  | .leapOffsetChange => true
  | .leapPendingStart => true
  | .leapExpiryLoWrite _ => true
  | .leapExpiryHiWrite _ => true
  | .leapTableStale => true
  | .gnssUtcDecode _ => true
  | .smearCtlWrite _ => true
  | .smearWinWrite _ => true
  | .smearWindowStart => true
  | .smearWindowEnd => true
  | .deviceTimeStep => true
  | .axinEdge pin _ b => decide (pin < 2) && decide (b < 125)
  | .axisEdgeTimeout n => decide (n < 2)
  | .axisCfgWrite n _ => decide (n < 2)
  | .axisCycleRead n => decide (n < 2)
  | .axisCycleSet n _ => decide (n < 2)
  | .axisRequestCommit n => decide (n < 2)
  | .poolQuotaWrite n _ => decide (n < 9)
  | .poolUsedRead n => decide (n < 9)
  | .slcQueueRead s0 => decide (s0 < 12)
  | .laneTakeItem slice => decide (slice < 12)
  | .ovnCtlWrite _ => true
  | .ovenKatDone k _ => decide (k < 24)
  | .unitEnable u => u.inRange
  | .unitDrain u => u.inRange
  | .unitCut u => u.inRange
  | .drainToCut u => u.inRange
  | .unitDrained u => u.inRange
  | .powerDomainWrite _ => true
  | .domainReleased dom => decide (dom < 4)
  | .portFrameReceive n b _ _ _ _ _ => decide (n < 16) && decide (b < 125)
  | .admissionWindowEnd => true
  | .mgmtFrameReceive b _ _ _ => decide (b < 125)
  | .saWrite i => decide (i < 256)
  | .saRead i => decide (i < 256)
  | .saInvalidate i => decide (i < 256)
  | .saCmdComplete => true
  | .peelBook port _ _ _ gcls _ => decide (port < 17) && decide (gcls < 8)
  | .peelCommit _ _ => true
  | .bookingVoid _ => true
  | .peelFetchMiss _ => true
  | .peelLaunch _ => true
  | .wheelSlotCascade port => decide (port < 17)
  | .farListRelease port => decide (port < 17)
  | .peelGuardWrite _ => true
  | .peelCalDone port => decide (port < 16)
  | .peelCalCheck port => decide (port < 16)
  | .probeMeasurement _ _ => true
  | .gclWrite _ => true
  | .gclRead _ => true
  | .gclRequest _ => true
  | .gclCancel _ => true
  | .gclChange port => decide (port < 16)
  | .peelLpiWake port => decide (port < 17)
  | .streamOpen n _ _ _ _ => decide (n < 256)
  | .streamData n _ _ => decide (n < 256)
  | .streamFin n _ => decide (n < 256)
  | .streamReset n _ => decide (n < 256)
  | .keHandshakeTimeout _ => true
  | .keRequestTimeout _ => true
  | .keCloseTimer _ => true
  | .ovenJobComplete _ => true
  | .ovenMismatch k => decide (k < 24)
  | .ovenSelfTest k _ => decide (k < 24)
  | .starterPrepare => true
  | .starterRotate => true
  | .starterWipeRetired => true
  | .starterRotateRequest => true
  | .starterCancel => true
  | .starterPurge => true
  | .purgeComplete => true
  | .syncEmit i port _ => decide (i < 8) && decide (port < 16)
  | .ptpAnnounceSend i port _ => decide (i < 8) && decide (port < 16)
  | .ptpRequestSend i port => decide (i < 8) && decide (port < 16)
  | .ptpUnicastRequest => true
  | .ptpCancelUnicast => true
  | .ptpGrantExpire _ _ => true
  | .ptpUnicastRenew i => decide (i < 8)
  | .ptpAnnounceReceive => true
  | .ptpGeneralReceive => true
  | .ptpManagement => true
  | .ptpAnnounceTimeout i => decide (i < 8)
  | .ptpCancelAckTimeout _ => true
  | .ptpInstanceEnable i => decide (i < 8)
  | .ptpProfileWrite i p => decide (i < 8) && decide (p < 16)
  | .portModeWrite n _ => decide (n < 17)
  | .portEnable n => decide (n < 17)
  | .portStatClear n => decide (n < 17)
  | .portLpiEnable n _ => decide (n < 17)
  | .portLpiWrite n _ => decide (n < 17)
  | .portSynceWrite n _ => decide (n < 17)
  | .linkUp n _ => decide (n < 17)
  | .linkDown n _ _ _ => decide (n < 17)
  | .rxCalDone n => decide (n < 16)
  | .rxCalCheck n => decide (n < 16)
  | .portStatRead n k => decide (n < 17) && decide (k < 42)
  | .esmcReceive n _ => decide (n < 16)
  | .esmcRxTimeout n => decide (n < 16)
  | .esmcInfoSend n => decide (n < 16)
  | .esmcEventSend n => decide (n < 16)
  | .refRawComparison n _ => decide (n < 32)
  | .refSecondEval => true
  | .selectorRerun => true
  | .deviceTimeSet => true
  | .refEnable n => decide (n < 32)
  | .refDisable n _ => decide (n < 32)
  | .refRequal n => decide (n < 32)
  | .oscReanchor => true
  | .oscAnchor => true
  | .tbErrEstRead => true
  | .refPhaseRead n => decide (n < 32)
  | .ntpPollSend n => decide (n < 32)
  | .ntpUpstreamResponse n port _ _ _ _ => decide (n < 32) && decide (port < 17)
  | .gnssEpoch _ _ _ _ => true
  | .gnssChannelAlloc _ => true
  | .gnssAcqDetect _ _ _ _ => true
  | .gnssChannelRelease _ => true
  | .gnssAntFault _ => true
  | .gnssLevelCheck rms clip => decide (rms.length = 4) && decide (clip.length = 4)
  | .gnssClockCheck _ => true
  | .gnssCalCommit => true
  | .gnssSurveyStart => true
  | .gnssSurveyAbort => true
  | .gnssModeWrite mode => decide (mode < 2)
  | .gnssSnapPeriodic _ => true
  | .gnssEphRefresh _ => true
  | .gnssCaptureRequest => true
  | .gnssCaptureCancel => true
  | .gnssCaptureExecute => true
  | .gnssCaptureComplete _ => true
  | .ticEdge n code => decide (n < 9) && decide (code < 512)
  | .ticPairOverflow p => decide (p < 4)
  | .ticPairEnable p => decide (p < 4)
  | .ticChannelEnable n => decide (n < 8)
  | .ticCalStart => true
  | .ticCalAuto _ => true
  | .ticLineCalDone n hits _ => decide (n < 9) && decide (hits.length = 512)
  | .ticPairLastRead p => decide (p < 4)
  | .oscWarmChange _ => true
  | .warmupEnd => true
  | .pllLockWindow good => decide (good < 2 ^ 17)
  | .pllRelockAttempt k _ => decide (k < 3)
  | .deviceTimeRestore => true
  | .tbRawRead => true
  | .manualWrite _ => true
  | .foutStart m => decide (m < 4)
  | .toutStart n => decide (n < 8)
  | .outputPhaseCheck n _ => decide (n < 12)
  | .outEventRequest _ => true
  | .outEventCancel _ => true
  | .outEventExecute n => decide (n < 8)
  | .squelchEnd n => decide (n < 12)
  | .batchStage n desc _ => decide (n < 256) && decide (desc.length = 32)
  | .batchCheck n desc => decide (n < 256) && decide (desc.length = 32)
  | .batchCommit n desc _ => decide (n < 256) && decide (desc.length = 32)
  | .batchCancel n desc => decide (n < 256) && decide (desc.length = 32)
  | .batchApply => true
  | .fwStage n desc _ _ => decide (n < 256) && decide (desc.length = 32)
  | .fwCommit n desc _ => decide (n < 256) && decide (desc.length = 32)
  | .fwConfirm n desc => decide (n < 256) && decide (desc.length = 32)
  | .fwAutoConfirm => true
  | .claimNonce n desc => decide (n < 256) && decide (desc.length = 32)
  | .claimDisarm _ => true
  | .quote n desc _ _ => decide (n < 256) && decide (desc.length = 32)
  | .certRead n desc _ => decide (n < 256) && decide (desc.length = 32)
  | .tlsPubkey n desc _ => decide (n < 256) && decide (desc.length = 32)
  | .flashRead n desc _ => decide (n < 256) && decide (desc.length = 32)
  | .flashWrite n desc _ _ => decide (n < 256) && decide (desc.length = 32)
  | .flashErase n desc _ => decide (n < 256) && decide (desc.length = 32)
  | .timedWrite n desc => decide (n < 256) && decide (desc.length = 32)
  | .timedWriteExecute => true
  | .cancel n desc => decide (n < 256) && decide (desc.length = 32)
  | .ctRead n desc _ => decide (n < 256) && decide (desc.length = 32)
  | .grantRead n desc _ => decide (n < 256) && decide (desc.length = 32)
  | .tamperSensor k => decide (k < 6)
  | .extModuleFault => true
  | .pkeJobSubmit req n _ _ => decide (req < 5) && decide (n < 256)
  | .pkeJobEnd _ _ => true
  | .pkeCoreSelfTest k _ => decide (k < 64)
  | .pkeCoreEnable i _ => decide (i < 2)
  | .pkeDisable _ => true
  | .pairLinkTrained => true
  | .pairHelloReceive _ => true
  | .pairQuoteReceive _ => true
  | .pairAttestDone => true
  | .pairHbSend => true
  | .pairHbReceive _ => true
  | .pairHbLoss => true
  | .pairUpTimeout => true
  | .fenceChange pat => decide (pat < 4)
  | .fenceRefreshTimeout => true
  | .pairAnnounceRepeat => true
  | .pairRoleReceive _ => true
  | .pairRoleChange => true
  | .pairResign => true
  | .pairAutoResign => true
  | .pairHandback => true
  | .pairResignReceive _ => true
  | .pairDisable _ => true
  | .pairTimeSend _ => true
  | .pairTimeReceive _ _ => true
  | .pairCalRequest _ => true
  | .pairCalCancel => true
  | .pairCalAuto => true
  | .pairCalSwap => true
  | .pairCalReturn => true
  | .pairCalFinish => true
  | .pairAsymWrite _ => true
  | .pairOffsetRead => true
  | .pairStarterReceive _ => true
  | .pairStartCmdReceive _ => true
  | .starterPartnerTimeout => true
  | .pairGenchkReceive _ => true
  | .pairBatchReceive _ => true
  | .sqDoorbell n _ => decide (n < 256)
  | .cqDoorbell n _ => decide (n < 256)
  | .doorbellBadSize => true
  | .frameTxSend n desc _ => decide (n < 256) && decide (desc.length = 32)
  | .frameRxBuf n len _ => decide (n < 256) && decide (len < 65536)
  | .streamRxbuf n len _ => decide (n < 256) && decide (len < 65536)
  | .recordBuf n len _ => decide (n < 256) && decide (len < 65536)
  | .bufferTimeout n => decide (n < 256)
  | .ringModTimer n => decide (n < 256)
  | .ringEnable n => decide (n < 256)
  | .ringDisable n _ _ => decide (n < 256)
  | .ringResume => true
  | .pf0DStateChange dst _ _ _ _ => decide (dst = 0 ∨ dst = 3)
  | .msixHoldRelease vec => decide (vec < 16)
  | .pmeTurnOff => true
  | .perstAssert => true
  | .perstRelease speed width => decide (speed < 8) && decide (width < 16)
  | .pcieLinkDown => true
  | .pcieLinkReturn speed width => decide (speed < 8) && decide (width < 16)
  | .functionLevelReset => true
  | .pf1Flr => true
  | .intcSourceEvent src _ => decide (src < 1024)
  | .intcClaimRead t => decide (t < 32)
  | .intcEoi t _ => decide (t < 32)
  | .intcSetPending w _ => decide (w < 32)
  | .intcClearPending w _ => decide (w < 32)
  | .intcSrcCfgWrite n _ => decide (n < 1024)
  | .intcRrTimeout src => decide (src < 1024)
  | .engineInterruptEntry k => decide (k < 16)
  | .engineInterruptReturn k => decide (k < 16)
  | .monCntRead => true
  | .snapshotNow _ => true
  | .snapshotAt _ => true
  | .snapshotCancel _ => true
  | .snapshotExecute => true
  | .histValue h _ => decide (h < 256)
  | .histWindowEnd h => decide (h < 256)
  | .hwStartRequest _ => true
  | .hwEndRequest _ => true
  | .hwCancel _ => true
  | .histTimedBoundary h => decide (h < 256)
  | .sampleRecord eng th _ _ _ _ _ _ => decide (eng < 16) && decide (th < 4)
  | .ledgerWrite _ => true
  | .ledgerNextLoWrite _ => true
  | .ledgerNextHiWrite _ => true
  | .ledgerSeqRead _ => true
  | .secBatchSeqRead _ => true
  | .powerOnReset => true
  | .brownout => true
  | .porRelease straps => decide (straps < 32)
  | .warmResetPin _ => true
  | .glbRstWarm _ => true
  | .glbRstTimeKeep _ => true
  | .glbRstPke _ _ => true
  | .watchdogExpire => true
  | .bootStageEnd _ => true
  | .recStart => true
  | .recEraseDone => true
  | .recDataWrite _ => true
  | .recDone _ => true
  | .faultStopEnter cause => decide (8 ≤ cause) && decide (cause < 11)
  | .fstopAutoReset => true
  | .smbusReadWord _ _ => true
  | .setupLock => true
  | .registerWrite o _ _ _ => decide (o < 0x40000) && decide (o % 4 = 0)
  | .tapExtest => true
  | .testEnHigh => true
  | .timeTick _ => true
  | .axisRequest n _ _ _ => decide (n < 2)
  | .todMessageReceive tin _ => decide (tin < 8)
  | .pkeKatDone k _ => decide (k < 64)
  | .txLpiEntry n => decide (n < 17)
  | .partnerLpiChange n _ => decide (n < 17)
  | .elvodBlockLockLoss => true
  | .pairAckReceive _ => true
  | .resignAckTimeout => true
  | .ptpGrantReceive => true
  | .ptpCancelAckReceive => true
  | .wrstRelease => true
  | .gnssAntFaultEnd _ => true
  | .aspmL1Entry => true
  | .extestExit => true
  | .testEnLow => true

end Sys2Proof
end

