-- ==== Sys2Proof/Machine/Ops.lean ====
section
/-! DEFINITION. The named operations every family is written over: register words and fields (R8, R538), event counters
(R489), port statistics (R214), units' enable words (R74), Device Time in exact units (R11, R17, R18), pulses into the
interrupt controller (R473), Ledger events (R506), outputs and random draws. -/

namespace Sys2Proof.Machine

/-! ### Bit fields of numbers -/

/-- Bits lo + len - 1 down to lo of a number. -/
def bits (w lo len : Nat) : Nat := w / 2 ^ lo % 2 ^ len

/-- A number with its bits lo + len - 1 down to lo replaced by those of `v`. -/
def putBits (w lo len v : Nat) : Nat := w - bits w lo len * 2 ^ lo + (v % 2 ^ len) * 2 ^ lo

/-- A `len`-bit number read as two's complement. -/
def signed (len v : Nat) : Int := if v % 2 ^ len < 2 ^ (len - 1) then (v % 2 ^ len : Nat) else ((v % 2 ^ len : Nat) : Int) - 2 ^ len

/-- An integer as a `len`-bit two's complement number. -/
def unsigned (len : Nat) (v : Int) : Nat := (v % (2 ^ len : Nat)).toNat

/-- Saturate an integer to a signed `len`-bit field. -/
def satS (len : Nat) (v : Int) : Int := max (-(2 ^ (len - 1) : Nat)) (min ((2 ^ (len - 1) : Nat) - 1) v)

/-- Saturate a number to an unsigned `len`-bit field. -/
def satU (len : Nat) (v : Nat) : Nat := min (2 ^ len - 1) v

/-- Clamp to a range. -/
def clamp (lo hi v : Nat) : Nat := max lo (min hi v)

/-! ### Registers -/

/-- The word a register holds. -/
def Device.rd (d : Device) (o : Nat) : Word := amGet (regReset o) d.regs o

/-- A register takes a word. -/
def Device.wr (d : Device) (o : Nat) (v : Word) : Device := { d with regs := amSet (regReset o) d.regs o v }

/-- The word as a number. -/
def Device.rn (d : Device) (o : Nat) : Nat := (d.rd o).toNat

/-- A register takes a number as its word. -/
def Device.wn (d : Device) (o v : Nat) : Device := d.wr o (BitVec.ofNat 32 v)

/-- A field's value. -/
def Device.fg (d : Device) (f : Fld) : Nat := bits (d.rd f.off).toNat f.lo f.len

/-- A field's value as two's complement. -/
def Device.fgs (d : Device) (f : Fld) : Int := signed f.len (d.fg f)

/-- Whether a flag or a field is not 0. -/
def Device.fb (d : Device) (f : Fld) : Bool := !(d.fg f == 0)

/-- A field takes a value; the register's other bits stay. -/
def Device.fs (d : Device) (f : Fld) (v : Nat) : Device :=
  d.wr f.off (BitVec.ofNat 32 (putBits (d.rd f.off).toNat f.lo f.len v))

/-- A field takes a signed value in two's complement. -/
def Device.fss (d : Device) (f : Fld) (v : Int) : Device := d.fs f (unsigned f.len v)

/-- A flag is set. -/
def Device.set1 (d : Device) (f : Fld) : Device := d.fs f 1

/-- A flag is cleared. -/
def Device.clr (d : Device) (f : Fld) : Device := d.fs f 0

/-- A flag follows a condition. -/
def Device.fsb (d : Device) (f : Fld) (b : Bool) : Device := d.fs f (if b then 1 else 0)

/-- Drop the bank entries of offsets lo to hi: the registers there read their reset values again. -/
def Device.resetRegs (d : Device) (lo hi : Nat) : Device :=
  { d with regs := d.regs.filter fun e => !(decide (lo ≤ e.1) && decide (e.1 ≤ hi)) }

/-- The same, keeping the offsets a test names. -/
def Device.resetRegsBut (d : Device) (lo hi : Nat) (keep : Nat → Bool) : Device :=
  { d with regs := d.regs.filter fun e => !(decide (lo ≤ e.1) && decide (e.1 ≤ hi)) || keep e.1 }

/-! ### Counters and outputs -/

/-- Add to an event counter, modulo 2^48 (R489). -/
def Device.cntN (d : Device) (i n : Nat) : Device :=
  { d with cnts := amSet 0 d.cnts i ((amGet 0 d.cnts i + n) % 2 ^ 48) }

/-- Count one event. -/
def Device.cnt (d : Device) (i : Nat) : Device := d.cntN i 1

/-- An event counter's value. -/
def Device.cntOf (d : Device) (i : Nat) : Nat := amGet 0 d.cnts i

/-- Append to what the block sent. -/
def Device.emit (d : Device) (o : Output) : Device := { d with out := o :: d.out }

/-- Number of a fresh draw from the random bit generator. -/
def Device.draw (d : Device) : Nat × Device := (d.draws, { d with draws := d.draws + 1 })

/-! ### Units: the enable word of R74 -/

end Sys2Proof.Machine

namespace Sys2Proof

open Sys2Proof.Machine

/-- Offset of a unit's enable word. -/
def UnitId.ctl : UnitId → Nat
  | .slc s => R.SLC_CTL s
  | .ovn => R.OVN_CTL
  | .cls => R.CLS_CTL
  | .peel => R.PEEL_CTL
  | .ke => R.OVN_KE_CTL
  | .ptp i => R.CLS_PTP_CFG i
  | .port n => R.PORT_CTL n
  | .ref n => R.REF_CFG n
  | .gnss => R.GNSS_CTL
  | .ticCh n => R.TIC_CH_CFG n
  | .ticPair p => R.TIC_PAIR_CFG p
  | .tout n => R.TOUT_CFG n
  | .fout m => R.FOUT_CFG m
  | .pke => R.PKE_CTL
  | .pair => R.PAIR_CTL
  | .ring n => R.HIF_RING_CTL n
  | .hist h => R.MON_HIST_CFG h
  | .sample => R.SAMPLE_CTL

/-- Whether an index names an existing unit (R73). -/
def UnitId.isUnit (u : UnitId) : Bool := u.inRange

def UnitId.en (u : UnitId) : Fld := ⟨u.ctl, 31, 1⟩
def UnitId.stop (u : UnitId) : Fld := ⟨u.ctl, 30, 1⟩
def UnitId.drained (u : UnitId) : Fld := ⟨u.ctl, 29, 1⟩

end Sys2Proof

namespace Sys2Proof.Machine

/-- The stop in progress on a unit: none, or whether it is a CUT. -/
def Device.stopOf (d : Device) (u : UnitId) : Option Bool :=
  (d.stopping.find? fun e => e.1 == u.ctl).map (·.2)

/-- The unit runs: en is 1 and no DRAIN or CUT is still in progress (R74, R76). -/
def Device.up (d : Device) (u : UnitId) : Bool := d.fb u.en && (d.stopOf u).isNone

/-- The unit is stopped: en is 0 and drained is 1. -/
def Device.down (d : Device) (u : UnitId) : Bool := !d.fb u.en && d.fb u.drained

/-- A power domain of R78 is on and released. -/
def Device.powered (d : Device) (n : Nat) : Bool := (d.fg F.PWR_PD_STATUS_powered).testBit n

/-! ### Device Time in units of 2^-45 ps -/

/-- Time units in a picosecond, 10 ps, a nanosecond, a second, and 2^-16 ns. -/
def psU : Nat := 2 ^ 45
def binU : Nat := 10 * 2 ^ 45
def nsU : Nat := 1000 * 2 ^ 45
def secU : Nat := 1000000000 * nsU
def subU : Nat := 1000 * 2 ^ 29

/-- Device Time at the last tick edge. -/
def TimeSt.now (t : TimeSt) : Inst := (t.sec.toNat * 1000000000 + t.ns.toNat) * nsU + t.frac.toNat * 125

/-- The length of the tick in progress, in time units (R15). -/
def TimeSt.tickLen (t : TimeSt) : Nat := t.incr.toNat * 125

def Device.now (d : Device) : Inst := d.tm.now

/-- R327: the raw count, OSC_IN divided to 10 MHz. -/
def Device.rawCount (d : Device) : Nat := d.tm.osc / 80 % 2 ^ 64

/-- Device Time seconds. -/
def Device.nowSec (d : Device) : Nat := d.tm.sec.toNat

/-- A register whose change applies from the next second of Device Time (R263): the word in force now. -/
def Device.secWord (d : Device) (o : Nat) (was : Option (Nat × Word)) : Word :=
  match was with
  | some (t, w) => if t = d.nowSec then w else d.rd o
  | none => d.rd o

/-- TB_HOLD_CTL and TB_STEP_CTL as they are in force (R263). -/
def Device.holdCtl (d : Device) : Word := d.secWord R.TB_HOLD_CTL d.refs.holdWas
def Device.stepCtl (d : Device) : Word := d.secWord R.TB_STEP_CTL d.refs.stepWas

/-- TB_HOLD_CTL.policy in force: 1 is UNSYNC (R254). -/
def Device.unsync (d : Device) : Bool := d.holdCtl.getLsbD 31

/-- R17: the stamp of an event at interpolator bin `b` (0 to 124) of the tick in progress: D + (b / 125) × TB_INCR. -/
def Device.stamp (d : Device) (b : Nat) : Inst := d.now + b * d.tm.incr.toNat

/-- The counter's fields for an instant: seconds, nanoseconds, fraction in 2^-48 ns (rounded down). -/
def TimeSt.setNow (t : TimeSt) (i : Inst) : TimeSt :=
  { t with sec := BitVec.ofNat 48 (i / secU), ns := BitVec.ofNat 30 (i % secU / nsU),
           frac := BitVec.ofNat 48 (i % nsU / 125) }

/-- Device Time invalid (R37). -/
def Device.dtInvalid (d : Device) : Bool := d.fb F.TB_STATUS_dt_invalid

/-- R18: an instant as a count of 2^-16 ns, to the nearest, a tie up. -/
def dtSub (t : Inst) : Nat := (t + subU / 2) / subU

/-- The instant of a count of 2^-16 ns. -/
def ofDtSub (n : Nat) : Inst := n * subU

/-! ### Interrupt pulses and Ledger events -/

/-- The source numbers of the ranges of R473 that never pend. -/
def srcReserved (s : Nat) : Bool :=
  (decide (0x144 ≤ s) && decide (s ≤ 0x15F)) || (decide (0x171 ≤ s) && decide (s ≤ 0x19F)) ||
  (decide (0x1AE ≤ s) && decide (s ≤ 0x1BF)) || (decide (0x1CB ≤ s) && decide (s ≤ 0x1CF)) ||
  (decide (0x1DC ≤ s) && decide (s ≤ 0x1DF)) || (decide (0x1F9 ≤ s) && decide (s ≤ 0x1FF)) || decide (0x380 ≤ s)

/-- An event on a pulse line: its RISING edge latches the source (R475); edges merge. -/
def Device.pulse (d : Device) (s : Nat) : Device :=
  if srcReserved s then d else { d with intc := { d.intc with latched := setIns d.intc.latched s } }

/-- One Ledger event of the second in progress (R505, R506): 145 at most, further ones are counted and set evlost.  While
Device Time is invalid its instant is 0 and arg1 holds bits 31:0 of the raw count. -/
def Device.ledger (d : Device) (code src arg0 arg1 : Nat) : Device :=
  if d.mon.events.length < 145 then
    let e : LedgerEvent :=
      if d.dtInvalid then { code, src, at_ := none, arg0 := arg0 % 2 ^ 32, arg1 := d.rawCount % 2 ^ 32 }
      else { code, src, at_ := some d.now, arg0 := arg0 % 2 ^ 32, arg1 := arg1 % 2 ^ 32 }
    { d with mon := { d.mon with events := d.mon.events ++ [e] } }
  else ({ d with mon := { d.mon with evLost := true } } : Device).cnt K.MON_LEDGER_EVLOST

/-- The second in progress ends with what its record holds; the next begins. -/
def Device.secClose (d : Device) : Device :=
  let m := d.mon
  let mine (e : LedgerEvent) : Bool := match e.at_ with | some t => decide (t < (m.secAt + 1) * secU) | none => true
  let c : LedgerSec := { sec := m.secAt, events := m.events.filter mine, lost := m.evLost, stepped := m.secStepped, invalid := m.secInvalid }
  { d with mon := { m with closed := m.closed ++ [c], events := m.events.filter fun e => !mine e, evLost := false, secStepped := false,
                           secInvalid := false, secAt := m.secAt + 1 } }

/-- R503: before a step or a loss, a second that is complete is closed. -/
def Device.secSplit (d : Device) : Device := if d.mon.secAt < d.nowSec then d.secClose else d

/-- After a step or a restore: the second in progress, and the boundaries already passed (R498, R503). -/
def Device.secMark (d : Device) : Device :=
  { d with mon := { d.mon with secAt := d.nowSec, hists := d.mon.hists.map fun (e : Nat × Hist) => (e.1, { e.2 with mark := d.now }) } }

end Sys2Proof.Machine
end

