-- ==== Sys2Proof/Machine/Operands.lean ====
section
/-! DEFINITION. Operand forms: byte strings and the numbers they spell, the DT96 record (R18), register groups that hold
one value, and the parts of an Ethernet, IP and UDP frame. -/

namespace Sys2Proof.Machine

/-! ### Bytes -/

/-- The number as `n` bytes, least significant first. -/
def leBytes : Nat → Nat → Bytes
  | 0, _ => []
  | n + 1, v => BitVec.ofNat 8 v :: leBytes n (v / 256)

/-- The number as `n` bytes, most significant first. -/
def beBytes (n v : Nat) : Bytes := (leBytes n v).reverse

/-- The number a little-endian byte string spells. -/
def leVal : Bytes → Nat
  | [] => 0
  | b :: t => b.toNat + 256 * leVal t

/-- The number a big-endian byte string spells. -/
def beVal (bs : Bytes) : Nat := bs.foldl (fun a b => a * 256 + b.toNat) 0

/-- `len` bytes from offset `off`. -/
def slice (bs : Bytes) (off len : Nat) : Bytes := (bs.drop off).take len

/-- The byte at an offset; 0 past the end. -/
def byteAt (bs : Bytes) (i : Nat) : Nat := (bs.getD i 0).toNat

/-- A big-endian field. -/
def beAt (bs : Bytes) (off len : Nat) : Nat := beVal (slice bs off len)

/-- A little-endian field. -/
def leAt (bs : Bytes) (off len : Nat) : Nat := leVal (slice bs off len)

def zeros (n : Nat) : Bytes := List.replicate n 0

/-- The bytes from an offset replaced by others of the same number. -/
def patch (bs : Bytes) (off : Nat) (new : Bytes) : Bytes := bs.take off ++ new ++ bs.drop (off + new.length)

/-- Pad with zero bytes to a length. -/
def padTo (n : Nat) (bs : Bytes) : Bytes := bs ++ zeros (n - bs.length)

/-- Bytes of ASCII text. -/
def ascii (s : String) : Bytes := s.toList.map fun c => BitVec.ofNat 8 c.toNat

/-- A number rounded up to a multiple. -/
def roundUp (m n : Nat) : Nat := (n + m - 1) / m * m

/-! ### DT96 (R18) -/

/-- The 96-bit DT96 value of an instant: subns, ns and sec. -/
def dt96 (t : Inst) : Nat :=
  let n := dtSub t
  n % 65536 + n / 65536 % 1000000000 * 2 ^ 16 + n / (65536 * 1000000000) % 2 ^ 48 * 2 ^ 48

/-- The instant a DT96 value names. -/
def ofDt96 (w : Nat) : Inst :=
  ofDtSub (w % 2 ^ 16 + 65536 * (w / 2 ^ 16 % 2 ^ 32) + 65536 * 1000000000 * (w / 2 ^ 48 % 2 ^ 48))

/-- The 12 bytes of a DT96. -/
def dt96Bytes (t : Inst) : Bytes := leBytes 12 (dt96 t)

/-! ### Register groups -/

/-- A 64-bit value over two registers. -/
def Device.rn2 (d : Device) (lo hi : Nat) : Nat := d.rn lo + 2 ^ 32 * d.rn hi

/-- A 64-bit value written over two registers. -/
def Device.wn2 (d : Device) (lo hi v : Nat) : Device := (d.wn lo (v % 2 ^ 32)).wn hi (v / 2 ^ 32 % 2 ^ 32)

/-- A 96-bit value over three consecutive registers. -/
def Device.rn3 (d : Device) (o : Nat) : Nat := d.rn o + 2 ^ 32 * d.rn (o + 4) + 2 ^ 64 * d.rn (o + 8)

/-- A 96-bit value written over three consecutive registers. -/
def Device.wn3 (d : Device) (o v : Nat) : Device :=
  ((d.wn o (v % 2 ^ 32)).wn (o + 4) (v / 2 ^ 32 % 2 ^ 32)).wn (o + 8) (v / 2 ^ 64 % 2 ^ 32)

/-- A register read as a signed 32-bit number. -/
def Device.rs (d : Device) (o : Nat) : Int := signed 32 (d.rn o)

/-! ### Lists -/

/-- The element with the least key; the first on a tie. -/
def leastBy {α : Type} (key : α → Nat) : List α → Option α
  | [] => none
  | a :: t =>
    match leastBy key t with
    | none => some a
    | some b => if key a ≤ key b then some a else some b

/-- Insert keeping keys ascending, after equal keys. -/
def insBy {α : Type} (key : α → Nat) (a : α) : List α → List α
  | [] => [a]
  | b :: t => if key a < key b then a :: b :: t else b :: insBy key a t

/-- Sort by a key, stably. -/
def sortBy {α : Type} (key : α → Nat) (l : List α) : List α := l.foldl (fun acc a => insBy key a acc) []

/-- Replace the elements that meet a test. -/
def mapIf {α : Type} (p : α → Bool) (f : α → α) (l : List α) : List α := l.map fun a => if p a then f a else a

/-- The numbers lo, lo + 1, …, of a count. -/
def nats (lo n : Nat) : List Nat := (List.range n).map (lo + ·)

/-- Numbers below `n` whose bit is set in `m`. -/
def setBits (m n : Nat) : List Nat := (List.range n).filter fun i => m.testBit i

/-- Square root, rounded down. -/
def isqrt (n : Nat) : Nat :=
  (List.range 64).foldr (fun k r => let c := r + 2 ^ k; if c * c ≤ n then c else r) 0

/-- Division rounded to the nearest, a tie up. -/
def divNear (a b : Nat) : Nat := (2 * a + b) / (2 * b)

/-- Division of integers rounded to the nearest, a tie up. -/
def divNearI (a : Int) (b : Nat) : Int := (2 * a + b) / (2 * (b : Int))

/-- A rational rounded to the nearest integer, a tie up. -/
def roundQ (q : Rat) : Int := (q + 1 / 2).floor

end Sys2Proof.Machine
end

