-- ==== Sys2Proof/Machine/Trough.lean ====
section
/-! DEFINITION. The Trough's pools (R57 to R59, R62): the cells in use, counted from what the block holds, room for more,
and the overflow policies. -/

namespace Sys2Proof.Machine

/-- Cells of 128 bytes for a number of bytes. -/
def cellsOf (n : Nat) : Nat := (n + 127) / 128

/-- Bookings that wait in the far list. -/
def farUsed (d : Device) : Nat := (d.peel.bookings.filter fun b => b.level == 3).length

/-- The frame of a booking stands in P_HOST when the host booked it, else in P_TX (R57). -/
def Booking.cells (b : Booking) (host : Bool) : Nat :=
  let h := match b.owner with | .host _ _ => true | _ => false
  if h == host then cellsOf ((b.frame.getD []).length) else 0

def sumOf {α : Type} (f : α → Nat) (l : List α) : Nat := l.foldl (fun n a => n + f a) 0

/-- Reserved minimum and maximum of a pool, in cells. -/
def poolMin (d : Device) (n : Nat) : Nat := d.fg (F.TROUGH_POOL_QUOTA_min n) * 8192
def poolMax (d : Device) (n : Nat) : Nat := d.fg (F.TROUGH_POOL_QUOTA_max n) * 8192

/-- Cells in use of a pool (R57). -/
def poolUsed (d : Device) (n : Nat) : Nat :=
  if n = 0 then sumOf (fun e => sumOf (fun i : Item => cellsOf i.bytes.length) e.2.queue) d.slices
  else if n = 1 then sumOf (·.cells false) d.peel.bookings
  else if n = 2 then sumOf (·.cells true) d.peel.bookings + sumOf (fun e => sumOf (fun h => cellsOf h.2.length) e.2.heldOut) d.rings +
    sumOf (fun e => sumOf (fun q => cellsOf q.2.2.length) e.2.hostQ) d.ports
  else if n = 3 then (if d.fb F.TROUGH_STATUS_ready then poolMin d 3 else 0)
  else if n = 4 then 4 * d.mon.ledger.length
  else if n = 5 then sumOf (fun c => cellsOf c.size) d.gnss.snaps
  else if n = 7 then (farUsed d + 3) / 4
  else if n = 8 then 8 * d.ptp.grants.length
  else 0

/-- Space shared by all pools, and what is free of it, in cells (R58). -/
def sharedAll (d : Device) : Nat := 16128 * 8192 - sumOf (poolMin d) (List.range 9)
def sharedFree (d : Device) : Nat := sharedAll d - sumOf (fun n => poolUsed d n - poolMin d n) (List.range 9)

/-- A pool can take `k` more cells (R58). -/
def poolRoom (d : Device) (n k : Nat) : Bool :=
  let u := poolUsed d n
  k == 0 || (decide (u + k ≤ poolMax d n) && decide (u + k - poolMin d n ≤ sharedFree d + (u - poolMin d n)))

/-- An item of a pool was refused or freed by its overflow policy. -/
def poolDrop (d : Device) (n : Nat) : Device :=
  (d.wn (R.TROUGH_POOL_DROPS n) (satU 32 (d.rn (R.TROUGH_POOL_DROPS n) + 1))).set1 F.TROUGH_STATUS_drop_evt

/-- A pool stalls its producer (BACKPRESSURE). -/
def poolStall (d : Device) (n : Nat) : Device :=
  { d with trough := { d.trough with stalled := setIns d.trough.stalled n } }

/-- The pool's policy: 0 DROP_NEWEST, 1 DROP_OLDEST, 2 BACKPRESSURE. -/
def poolPolicy (d : Device) (n : Nat) : Nat := d.fg (F.TROUGH_POOL_CTL_policy n)

/-- The oldest item of P_RX is freed and counted (DROP_OLDEST). -/
def rxFree (d : Device) : Device :=
  let all := d.slices.flatMap fun e => e.2.queue.map fun i => (e.1, i)
  match leastBy (fun e : Nat × Item => e.2.stamp) all with
  | none => d
  | some (s, i) =>
    let drop (e : Nat × Slice) : Nat × Slice := if e.1 = s then (e.1, { e.2 with queue := e.2.queue.erase i }) else e
    poolDrop { d with slices := d.slices.map drop } 0

/-- The oldest result held for a ring is freed and counted. -/
def hostFree (d : Device) : Device :=
  match d.rings.find? fun e => !e.2.heldOut.isEmpty with
  | none => d
  | some (n, r) => poolDrop { d with rings := amIns (amDel d.rings n) n { r with heldOut := r.heldOut.drop 1 } } 2

/-- Free items with `free` until `k` more cells fit. -/
def makeRoom (free : Device → Device) (n : Nat) : Nat → Nat → Device → Device
  | 0, _, d => d
  | fuel + 1, k, d => if poolRoom d n k then d else makeRoom free n fuel k (free d)

/-- Cells as MiB, rounded up. -/
def mibUp (n : Nat) : Nat := (n + 8191) / 8192

/-- Peaks, the rise of the high-water marks (R62), and the stalls that have ended. -/
def troughSettle (d : Device) : Device :=
  let use := (List.range 9).map fun n => (n, poolUsed d n)
  let d := use.foldl (fun d e =>
    let hwm := d.fg (F.TROUGH_POOL_CTL_hwm e.1)
    if hwm ≠ 0 ∧ amGet 0 d.trough.prev e.1 < hwm * 8192 ∧ hwm * 8192 ≤ e.2 then d.pulse S.TROUGH_HWM else d) d
  let t := d.trough
  { d with trough := { peak := use.foldl (fun p e => amSet 0 p e.1 (max (amGet 0 p e.1) e.2)) t.peak,
                       prev := use.foldl (fun p e => amSet 0 p e.1 e.2) [],
                       stalled := t.stalled.filter fun n => !poolRoom d n 1 } }

end Sys2Proof.Machine
end

