-- ==== Sys2Proof/Machine/Flags.lean ====
section
/-! DEFINITION. The flag computations of the block: which interrupt lines are high (R473), which sources pend and are
offered where (R475 to R479), which messages go out or are held (R480, R462), and `settle`, which brings the interrupt
controller up to date with the rest of the block after every command. -/

namespace Sys2Proof.Machine

/-! ### Lines -/

/-- Status sources that the W1C bits of the register at an offset, holding a word, keep high (R473). -/
def linesOf (o : Nat) (w : Word) : List Nat :=
  let any (src : Nat) (b : Bool) : List Nat := if b then [src] else []
  if 0x10000 ≤ o ∧ o < 0x14400 then
    let n := (o - 0x10000) / 0x400
    let k := (o - 0x10000) % 0x400
    if k = 8 then any (0x100 + 4 * n) (w.getLsbD 1) ++ any (0x101 + 4 * n) (w.getLsbD 16)
    else if k = 0x30 ∨ k = 0x34 then any (0x102 + 4 * n) (w != 0)
    else []
  else if 0xD100 ≤ o ∧ o < 0xD500 then
    if (o - 0xD100) % 0x40 = 4 then any (0x103 + 4 * ((o - 0xD100) / 0x40)) (w.getLsbD 3) else []
  else if 0x9000 ≤ o ∧ o < 0xA000 then
    if (o - 0x9000) % 0x80 = 0x40 then any 0x167 (w.getLsbD 0) ++ any 0x168 (w.getLsbD 1) ++ any 0x169 (w.getLsbD 2) else []
  else if o = R.TB_LEAP_STATUS then any 0x164 (w.getLsbD 2)
  else if o = R.TB_TBS then any 0x165 (w.getLsbD 28)
  else if o = R.PWR_PLL_EVT then any 0x166 (w != 0)
  else if 0xB100 ≤ o ∧ o < 0xB300 then if (o - 0xB100) % 0x40 = 4 then any 0x16A (w.getLsbD 3) else []
  else if 0xB400 ≤ o ∧ o < 0xB500 then if (o - 0xB400) % 0x40 = 4 then any 0x16A (w.getLsbD 3) else []
  else if o = R.GNSS_STATUS then any 0x16B (w.getLsbD 28)
  else if o = R.GNSS_SPOOF_STATUS then any 0x16F (w.getLsbD 29)
  else if o = R.CLS_STATUS then any 0x1A1 (w.getLsbD 2)
  else if o = R.OVN_STARTER_STATUS then any 0x1A3 (w.getLsbD 5)
  else if o = R.PKE_STATUS then any 0x1A4 (w.getLsbD 2)
  else if o = R.SEC_TAMPER_STATUS then any 0x1A9 (bits w.toNat 0 6 != 0)
  else []

/-- Every status line that is high: those of the register bank, those firmware drives, and the rings that have
fired (R461). -/
def linesNow (d : Device) : List Nat :=
  let a := d.regs.foldl (fun acc e => (linesOf e.1 e.2).foldl setIns acc) []
  let b := d.intc.fw.foldl setIns a
  d.rings.foldl (fun acc e => if e.2.fired then setIns acc e.1 else acc) b

/-- Sources whose line is a status line (R473); the firmware's internal sources count as status lines. -/
def statusLine (s : Nat) : Bool :=
  decide (s ≤ 0x143) || [0x164, 0x165, 0x166, 0x167, 0x168, 0x169, 0x16A, 0x16B, 0x16F, 0x1A1, 0x1A3, 0x1A4, 0x1A9].contains s
    || (decide (0x200 ≤ s) && decide (s ≤ 0x2FF))

/-- The sense in force: 0 LEVEL, 1 RISING, 2 FALLING, 3 BOTH; a pulse line senses RISING (R475). -/
def senseOf (d : Device) (s : Nat) : Nat := if statusLine s then d.fg (F.INTC_SRC_CFG_sense s) else 1

/-- A source pends: by software, by a latched edge, or by a high line under LEVEL (R475, R476). -/
def pends (d : Device) (s : Nat) : Bool :=
  !srcReserved s &&
  (d.intc.soft.contains s || d.intc.latched.contains s || (d.intc.lines.contains s && senseOf d s == 0))

/-- Every source that could pend, in ascending order. -/
def pendSet (d : Device) : List Nat :=
  let a := d.intc.soft.foldl setIns (d.intc.latched.foldl setIns d.intc.lines)
  a.filter (pends d)

/-! ### Offers -/

/-- The running priority of a target: of its innermost handler, or 16 (R477). -/
def runPrio (d : Device) (t : Nat) : Nat :=
  match amGet [] d.intc.run t with
  | [] => 16
  | (_, p) :: _ => p

def srcPrio (d : Device) (s : Nat) : Nat := d.fg (F.INTC_SRC_CFG_prio s)

/-- R477: a pending source is admitted to target `t` (0 to 15 engine, 16 to 31 host). -/
def admitted (d : Device) (s t : Nat) : Bool :=
  d.fb (F.INTC_SRC_CFG_en s) && pends d s && !(d.intc.active.any (·.1 == s)) &&
  d.fb (F.INTC_TGT_CTL_en t) && (d.fg (F.INTC_SRC_CFG_side s) == t / 16) &&
  (d.fg (F.INTC_SRC_CFG_tmask s)).testBit (t % 16) &&
  decide (srcPrio d s < min 16 (d.fg (F.INTC_TGT_CTL_pmr t))) &&
  (decide (16 ≤ t) || decide (srcPrio d s < runPrio d t))

/-- The next admitted target of a source after `from_`, in ascending order and wrapping round. -/
def nextTarget (d : Device) (s from_ : Nat) : Option Nat :=
  ((List.range 32).map fun k => (from_ + 1 + k) % 32).find? fun t => admitted d s t

/-- The source is offered to the target (R479). -/
def offered (d : Device) (s t : Nat) : Bool :=
  admitted d s t && (!d.fb F.INTC_CTL_mode || amGet 32 d.intc.rrOffer s == t)

/-- Sources offered to a target. -/
def offeredTo (d : Device) (t : Nat) : List Nat := (pendSet d).filter fun s => offered d s t

/-- The winner among the sources offered to a target: most urgent, then lowest number (R477). -/
def winner (d : Device) (t : Nat) : Option Nat := leastBy (srcPrio d) (offeredTo d t)

/-- ROUND_ROBIN: offers that no longer hold move to the next admitted target after the last claimer; new pending sources
get theirs (R479). -/
def rrSettle (d : Device) : Device :=
  if d.fb F.INTC_CTL_mode then
    let offers := (pendSet d).filterMap fun s =>
      let cur := amGet 32 d.intc.rrOffer s
      if decide (cur < 32) && admitted d s cur then some (s, cur)
      else (nextTarget d s (amGet 31 d.intc.rrPtr s)).map fun t => (s, t)
    let since := offers.map fun o =>
      (o.1, if d.intc.rrOffer.contains o then amGet d.tm.osc d.intc.rrSince o.1 else d.tm.osc)
    { d with intc := { d.intc with rrOffer := offers, rrSince := since } }
  else { d with intc := { d.intc with rrOffer := [], rrSince := [] } }

/-! ### Messages -/

/-- A message on a vector must be held: masked, PF0 outside D0, Bus Master Enable 0 (R462), or no link to carry it. -/
def msgHeld (d : Device) (vec : Nat) : Bool :=
  d.fb (F.MSIX_VCTL_mask vec) || d.pcie.fnMask || !(d.pcie.pf0D == 0) || !d.pcie.bme || !d.pcie.linkUp || d.pcie.perstLow

/-- The link leaves L1 to send a TLP (R466). -/
def leaveL1 (d : Device) : Device :=
  if d.pcie.l1 then ({ d with pcie := { d.pcie with l1 := false } }).clr F.HIF_STATUS_l1 else d

/-- Host target Hk has a message to send: it goes out, or it is held in its PBA bit. -/
def sendMsg (d : Device) (k : Nat) : Device :=
  let v := d.fg (F.INTC_TGT_CTL_vec (16 + k))
  if msgHeld d v then
    let d := { d with intc := { d.intc with held := setIns d.intc.held k } }
    d.wn (R.MSIX_PBA 0) (putBits (d.rn (R.MSIX_PBA 0)) v 1 1)
  else (leaveL1 { d with intc := { d.intc with msgOut := setIns d.intc.msgOut k } }).emit (.msix v)

/-- Host targets to which some source is offered. -/
def hostTold (d : Device) : List Nat := (List.range 16).filter fun k => !(offeredTo d (16 + k)).isEmpty

/-- The lines as the controller sees them next, with the edges that latch (R475). -/
def lineSettle (d : Device) : Device :=
  let new := linesNow d
  let rise := new.filter fun s => !(d.intc.lines.contains s) && (senseOf d s == 1 || senseOf d s == 3)
  let fall := d.intc.lines.filter fun s => !(new.contains s) && (senseOf d s == 2 || senseOf d s == 3)
  { d with intc := { d.intc with lines := new, latched := (rise ++ fall).foldl setIns d.intc.latched } }

/-- Each host target whose offered set changed from empty to non-empty sends its message (R480). -/
def toldSettle (d : Device) : Device :=
  let now := hostTold d
  let fresh := now.filter fun k => !(d.intc.told.contains k)
  let d := fresh.foldl sendMsg d
  { d with intc := { d.intc with told := now } }

/-! ### Squelch (R343) -/

/-- A cause of squelch holds for TOUT n (0 to 7) or FOUT n − 8. -/
def sqCause (d : Device) (n : Nat) : Bool :=
  let sq := if n < 8 then d.fg (F.TOUT_CFG_sq n) else d.fg (F.FOUT_CFG_sq (n - 8))
  let st := d.fg F.TB_TBS_state
  d.dtInvalid || (decide (1 ≤ sq) && !d.fb F.TB_STATUS_time_valid) || (decide (2 ≤ sq) && (st == 3 || st == 5)) ||
  (if n < 8 then d.fg (F.TOUT_CFG_func n) == 3 && !d.fb F.TB_STATUS_utc_valid && !(d.fg (F.TOUT_AUX_scale n) == 1)
   else d.fb (F.FOUT_CFG_en (n - 8)) && !d.fb (F.FOUT_STATUS_lock (n - 8)))

def sqFlag (n : Nat) : Fld := if n < 8 then F.TOUT_STATUS_sq n else F.FOUT_STATUS_sq (n - 8)

def Device.outOf (d : Device) (n : Nat) : Out := amGet Out.init d.outs n

def Device.setOut (d : Device) (n : Nat) (o : Out) : Device := { d with outs := amSet Out.init d.outs n o }

/-- Squelch takes hold of an output with its first cause; when the last cause clears, its 10 ms begin. -/
def outSettle (d : Device) : Device :=
  (List.range 12).foldl (fun d n =>
    if sqCause d n then (d.set1 (sqFlag n)).setOut n { d.outOf n with clearAt := none }
    else if d.fb (sqFlag n) && (d.outOf n).clearAt.isNone then d.setOut n { d.outOf n with clearAt := some d.tm.osc }
    else d) d

/-- Bring the pools' marks, the outputs' squelch and the interrupt controller up to date with the block. (DESIGN CHOICE, log entry 10.) -/
def settle (d : Device) : Device := toldSettle (rrSettle (lineSettle (outSettle (troughSettle d))))

/-- A command's outcome: the next state, with the interrupt controller up to date. -/
def finish (s : State) (d : Device) : Host.Outcome State Fault Refusal := .next { s with dev := settle d }

end Sys2Proof.Machine
end

