-- ==== Sys2Proof/Machine/Access.lean ====
section
/-! DEFINITION. Access codes of a register's bits (R7, R8), and what a Batch's REG_WRITE entry or a timed register change may name
(R367, R446). -/

namespace Sys2Proof.Machine

/-- The masks of a register's access codes, for those that exist. -/
def accRow (o : Nat) : AccRow := (accRow? o).getD ⟨o, 0, 1, 0, 1, 0, 0, 0, 0, 0, 0⟩

/-- Whether bits of a mask all lie in another. -/
def maskIn (m n : Nat) : Bool := m &&& n == m

/-- Offsets of the blocks a REG_WRITE entry may not name: the two HIF blocks, and the SEC block but SEC_CTL and SEC_TAMPER_CFG. -/
def sealedBlock (o : Nat) : Bool :=
  (decide (0x4000 ≤ o) && decide (o < 0x8000)) || (decide (0x1B000 ≤ o) && decide (o < 0x1C000)) ||
  (decide (0xE000 ≤ o) && decide (o < 0xF000) && !(o == R.SEC_CTL) && !(o == R.SEC_TAMPER_CFG))

/-- R367: the offset of an entry is refused. -/
def offsetBad (o : Nat) : Bool := !(o % 4 == 0) || (accRow? o).isNone || sealedBlock o

/-- R367: the mask touches a field that is neither RW, RWL nor SEAL. -/
def maskBad (o mask : Nat) : Bool := let r := accRow o; !maskIn mask (r.rwM ||| r.rwlM ||| r.sealM)

/-- R367: a REG_WRITE entry is refused. -/
def entryBad (o mask : Nat) : Bool := offsetBad o || maskBad o mask

/-- SET-UP LOCK is in force. -/
def setupLocked (d : Device) : Bool := d.fb F.GLB_LOCK_lock

/-- R446: a timed register change is refused, at its request and at its instant. -/
def timedBad (d : Device) (o mask : Nat) : Bool :=
  let r := accRow o
  offsetBad o || decide (0xE000 ≤ o ∧ o < 0xF000) || maskBad o mask || !(mask &&& r.sealM == 0) ||
  (setupLocked d && !(mask &&& r.rwlM == 0))

/-- A word with the bits of a mask replaced. -/
def maskPut (old mask v : Nat) : Nat := (old ^^^ (old &&& mask)) ||| (v &&& mask)

/-- The power domain of a block (R538). -/
def domainOf (o : Nat) : Nat :=
  if o < 0x4000 then 0
  else if o < 0x8000 then 10
  else if o < 0xE000 then 8
  else if o < 0xF000 then 0
  else if o < 0x10000 then 6
  else if o < 0x18000 then (if R.PORT_CTL 16 ≤ o ∧ o < R.PORT_CTL 17 then 11 else 9)
  else if o < 0x1B000 then 1
  else if o < 0x1C000 then 10
  else 1

/-- R543: the block's domain is off or in reset; GLB is always reached. -/
def blockOff (d : Device) (o : Nat) : Bool := decide (0x1000 ≤ o) && !d.powered (domainOf o)

/-- R546: a refused access. -/
def accErr (d : Device) (kind o : Nat) : Device :=
  let d := if d.fb F.GLB_ACC_ERR_valid then d
    else ((d.set1 F.GLB_ACC_ERR_valid).fs F.GLB_ACC_ERR_kind kind).fs F.GLB_ACC_ERR_offset o
  d.fs F.GLB_ACC_ERR_count (satU 8 (d.fg F.GLB_ACC_ERR_count + 1))

/-- A host write of one register reaches it, or is ignored and recorded as OFF (R543). -/
def hostWrite (o : Nat) (f : Device → Device) (d : Device) : Device := if blockOff d o then accErr d 3 o else f d

/-- A host read of one register with a side effect: 0 and no side effect while the block is off (R543). -/
def hostRead (o : Nat) (f : Device → Device) (d : Device) : Device := if blockOff d o then d.emit (.hostRead 0) else f d

end Sys2Proof.Machine
end

