-- ==== Sys2Proof/Machine/Rings.lean ====
section
/-! DEFINITION. The ring pairs' shared operations (spec/15_host_rings.md): reading a descriptor (R441, R443), writing a
completion or holding it (R442, R464), firing (R461), halting (R468), packing records into posted buffers (R458, R459, R463),
delivering host-bound frames (R453) and the timed-outcome record (R449). -/

namespace Sys2Proof.Machine

def Device.ring (d : Device) (n : Nat) : Ring := amGet Ring.init d.rings n

def Device.setRing (d : Device) (n : Nat) (r : Ring) : Device := { d with rings := amSet Ring.init d.rings n r }

/-- 2^size_log2, with size_log2 clamped to 6 to 16 (R439). -/
def ringSize (d : Device) (n : Nat) : Nat := 2 ^ clamp 6 16 (d.fg (F.HIF_RING_CTL_size_log2 n))

def ringClass (d : Device) (n : Nat) : Nat := d.fg (F.HIF_RING_CTL_class n)

def ringHalted (d : Device) (n : Nat) : Bool := d.fb (F.HIF_RING_STATUS_halted n)

def ringPaused (d : Device) (n : Nat) : Bool := d.fb (F.HIF_RING_STATUS_paused n)

/-- Host memory can be read and written (R464, R467). -/
def hostReach (d : Device) : Bool := d.pcie.pf0D == 0 && d.pcie.bme && d.pcie.linkUp && !d.pcie.perstLow

/-- The ring reads and writes (R467, R468). -/
def ringMoves (d : Device) (n : Nat) : Bool := hostReach d && !ringHalted d n && !ringPaused d n

/-- Completions the host has not returned, written or held. -/
def unreturned (d : Device) (n : Nat) : Nat :=
  let r := d.ring n
  (r.cqTail + ringSize d n - r.cqHead) % ringSize d n + r.heldOut.length

/-- R443: the device may read a further descriptor. -/
def ringRoom (d : Device) (n : Nat) : Bool :=
  decide ((d.ring n).posted.length + unreturned d n < ringSize d n - 1)

/-- The classes whose descriptors are empty buffers. -/
def bufferClass (c : Nat) : Bool := c == 2 || c == 5 || c == 6 || c == 7

/-- R463: the ring is full for its producer. -/
def ringFull (d : Device) (n : Nat) : Bool :=
  d.fb (F.HIF_RING_CTL_en n) &&
  (!ringRoom d n || (bufferClass (ringClass d n) && (d.ring n).posted.isEmpty))

/-- A ring that can take a descriptor of a class: enabled and not stopping, reading, with one posted and room for it. -/
def canTake (d : Device) (n c : Nat) : Bool :=
  decide (n < 256) && d.up (.ring n) && (ringClass d n == c) && ringMoves d n && ringRoom d n &&
  !((d.ring n).sqHead == (d.ring n).sqTail)

/-- R441: read the descriptor at the SQ head; the slot returns to the host. -/
def takeDesc (d : Device) (n len : Nat) (bad : Bool) : Nat × Device :=
  let r := d.ring n
  (r.sqHead, d.setRing n
    { r with sqHead := (r.sqHead + 1) % ringSize d n, posted := r.posted ++ [{ slot := r.sqHead, len, bad }] })

/-! ### Completions -/

/-- R465: a ring that fires outside D0 with wake = 1 requests PME. -/
def ringPme (d : Device) (n : Nat) : Device :=
  if d.fb (F.HIF_RING_CTL_wake n) && d.pcie.pmeEn then
    if d.pcie.pf0D == 3 then
      (({ d with pcie := { d.pcie with pmeStatus := true } }).set1 F.HIF_STATUS_pme_sent).emit (.pme false)
    else if d.pcie.pf0D == 4 && d.pcie.l23 then
      (({ d with pcie := { d.pcie with pmeStatus := true } }).set1 F.HIF_STATUS_pme_sent).emit (.pme true)
    else d
  else d

/-- R461: the ring fires; its source is held high until the host re-arms it. -/
def ringFire (d : Device) (n : Nat) : Device :=
  ringPme (d.setRing n { d.ring n with fired := true, modCount := 0, modStart := none }) n

/-- R461: one completion counted; the ring fires when the count is reached. -/
def ringCount (d : Device) (n : Nat) : Device :=
  let r := d.ring n
  if r.fired then d
  else
    let r := { r with modCount := r.modCount + 1, modStart := some (r.modStart.getD d.tm.osc) }
    let d := d.setRing n r
    if max 1 (d.fg (F.HIF_RING_MOD_count n)) ≤ r.modCount then ringFire d n else d

/-- A completion with its phase bit, bit 7 of byte 15 (R442). -/
def withPhase (bs : Bytes) (ph : Bool) : Bytes :=
  let b := padTo 16 bs
  b.take 15 ++ [BitVec.ofNat 8 (byteAt b 15 % 128 + if ph then 128 else 0)]

/-- R442: write the data and the completion into the next CQ slot; the phase flips when the tail wraps. -/
def writeCqe (d : Device) (n : Nat) (bs data : Bytes) : Device :=
  let r := d.ring n
  let ph := d.fb (F.HIF_RING_STATUS_phase n)
  let d := leaveL1 d
  let d := if data.isEmpty then d else d.emit (.dma n data)
  let d := d.emit (.cqe n r.cqTail (withPhase bs ph))
  let tail := (r.cqTail + 1) % ringSize d n
  let d := d.setRing n { r with cqTail := tail }
  let d := if tail == 0 then d.fsb (F.HIF_RING_STATUS_phase n) (!ph) else d
  let d := d.wn (R.HIF_RING_DONE n) ((d.rn (R.HIF_RING_DONE n) + 1) % 2 ^ 32)
  ringCount d n

/-- Complete the descriptor of a slot: written, or held while host memory cannot be written (R464, R467); on a halted ring the
result is discarded and counted (R468). -/
def complete (d : Device) (n slot : Nat) (bs data : Bytes) : Device :=
  let r := d.ring n
  let d := d.setRing n { r with posted := r.posted.filter fun p => !(p.slot == slot) }
  if ringHalted d n then d.cnt K.HIF_HALT_DISCARD
  else if ringMoves d n then writeCqe d n bs data
  else d.setRing n { d.ring n with heldOut := (d.ring n).heldOut ++ [(bs, data)] }

/-- Results held for a ring, written in order once host memory can be written again (R464). -/
def releaseHeld (d : Device) (n : Nat) : Device :=
  if ringMoves d n then
    let h := (d.ring n).heldOut
    h.foldl (fun d e => writeCqe d n e.1 e.2) (d.setRing n { d.ring n with heldOut := [] })
  else d

/-- R469: completions of a stopping ring are written while the CQ has room. -/
def flushFlow (fuel : Nat) (d : Device) (n : Nat) : Device :=
  match fuel, (d.ring n).flush with
  | k + 1, b :: t =>
    if ringMoves d n && decide (unreturned d n < ringSize d n - 1) then
      flushFlow k (writeCqe (d.setRing n { d.ring n with flush := t }) n b []) n
    else d
  | _, _ => d

def ringFlush (d : Device) (n : Nat) : Device := flushFlow (d.ring n).flush.length d n

/-- The same for every ring. -/
def releaseAll (d : Device) : Device := d.rings.foldl (fun d e => ringFlush (releaseHeld d e.1) e.1) d

/-! ### Halting (R468) -/

/-- A halt: halted and err set, HIF_RING_ERR raised, one Ledger record; work in flight is discarded and counted. -/
def ringHalt (d : Device) (n err addr : Nat) : Device :=
  let r := d.ring n
  let d := d.cntN K.HIF_HALT_DISCARD (r.posted.length + r.heldOut.length)
  let d := d.setRing n { r with posted := [], heldOut := [], part := [], partRecs := 0, partStart := none }
  let d := (d.set1 (F.HIF_RING_STATUS_halted n)).fs (F.HIF_RING_STATUS_err n) err
  let d := if err = 2 ∨ err = 3 then d.wn2 (R.HIF_RING_ERR_LO n) (R.HIF_RING_ERR_HI n) addr else d
  (d.pulse S.HIF_RING_ERR).ledger L.ringHalt n err 0

/-! ### Records into posted buffers (R458, R459, R463) -/

/-- The completion of a record buffer. -/
def recordCqe (slot bytes recs flags status nlost : Nat) : Bytes :=
  leBytes 2 slot ++ leBytes 2 bytes ++ leBytes 2 recs ++ leBytes 1 flags ++ leBytes 1 status ++
  leBytes 4 nlost ++ zeros 4

/-- R454: a FRAME_RX completion. -/
def frameRxCqe (stamp : Inst) (len status port reason : Nat) : Bytes :=
  dt96Bytes stamp ++ leBytes 2 (len + status * 2 ^ 14) ++ leBytes 1 port ++ leBytes 1 reason

/-- R456: a STREAM completion. -/
def streamCqe (sid code reason len value slot : Nat) : Bytes :=
  leBytes 4 sid ++ leBytes 1 code ++ leBytes 1 reason ++ leBytes 2 len ++ leBytes 4 value ++ leBytes 2 slot ++ zeros 2

/-- The completion of a posted buffer that carries only a status (R444): BAD_DESC, FLUSHED or DMA_ERR. -/
def bufferCqe (cls slot status nlost : Nat) : Bytes :=
  if cls = 2 then frameRxCqe 0 0 status 0 0
  else if cls = 3 then streamCqe 0 (if status = 2 then 0xF else status) 0 0 0 slot
  else recordCqe slot 0 0 0 status nlost

/-- Malformed buffer descriptors complete with BAD_DESC when they reach the front (R444, R460). -/
def drainBad (fuel : Nat) (d : Device) (n : Nat) : Device :=
  match fuel, (d.ring n).posted with
  | k + 1, p :: _ => if p.bad then drainBad k (complete d n p.slot (bufferCqe (ringClass d n) p.slot 1 0) []) n else d
  | _, _ => d

/-- Post a buffer descriptor on a ring of a buffer class. (DESIGN CHOICE, log entry 19.) -/
def postBuf (d : Device) (n len : Nat) (bad : Bool) : Device :=
  let d := (takeDesc d n len bad).2
  drainBad (d.ring n).posted.length d n

/-- Complete the buffer being filled with what it holds. -/
def closeBuf (d : Device) (n status : Nat) (last : Bool) : Device :=
  let r := d.ring n
  match r.posted with
  | [] => d
  | p :: _ =>
    let flags := (if r.partFirst then 1 else 0) + (if last then 2 else 0) + (if r.nlost = 0 then 0 else 4)
    let bs := recordCqe p.slot r.part.length r.partRecs flags status (min r.nlost (2 ^ 32 - 1))
    let d := d.setRing n { r with part := [], partRecs := 0, partFirst := false, partStart := none, nlost := 0 }
    let d := complete d n p.slot bs r.part
    drainBad (d.ring n).posted.length d n

/-- A result of some bytes can be written, or held in P_HOST (R463, R464). -/
def holdRoom (d : Device) (n k : Nat) : Bool := ringMoves d n || poolRoom d 2 (cellsOf k)

/-- The ring can take a record now. -/
def recordOpen (d : Device) (n c : Nat) : Bool :=
  decide (n < 256) && d.up (.ring n) && (ringClass d n == c) && !ringHalted d n && !(d.ring n).posted.isEmpty &&
  holdRoom d n (((d.ring n).posted.head?.map (·.len)).getD 0)

/-- Append one whole record to the ring's buffers; false when the ring is full for it. -/
def putRecord (d : Device) (n c : Nat) (bs : Bytes) (first : Bool) : Bool × Device :=
  if !recordOpen d n c then (false, d)
  else
    let r := d.ring n
    let cap := (r.posted.head?.map (·.len)).getD 0
    let d := if !r.part.isEmpty && (decide (cap < r.part.length + bs.length) || first) then closeBuf d n 0 false else d
    let r := d.ring n
    match r.posted with
    | [] => (false, d)
    | p :: _ =>
      if p.len < bs.length then (false, d)
      else
        let started := some (r.partStart.getD d.tm.osc)
        (true, d.setRing n { r with part := r.part ++ bs, partRecs := r.partRecs + 1,
                                    partFirst := r.partFirst || first, partStart := started })

/-- Count records lost on a ring. -/
def ringLost (d : Device) (n k : Nat) : Device := d.setRing n { d.ring n with nlost := (d.ring n).nlost + k }

/-- R449: the 32-byte timed-outcome record, on the EVENT ring of HIF_CTL while evt_en is 1.  Refused when the ring is full
or its class does not match; then it is lost (R463). (DESIGN CHOICE, log entry 16.) -/
def outcomeRecord (d : Device) (code kind batch handle tag : Nat) (at_ : Option Inst) : Device :=
  if d.fb F.HIF_CTL_evt_en then
    let at96 := match at_ with | some t => dt96Bytes t | none => zeros 12
    let bs := leBytes 1 0x50 ++ leBytes 1 (code + 16 * kind) ++ leBytes 1 batch ++ zeros 1 ++ leBytes 4 handle ++
              leBytes 4 tag ++ zeros 4 ++ at96 ++ zeros 4
    let n := d.fg F.HIF_CTL_evt_ring
    let (ok, d') := putRecord d n 6 bs false
    if ok then d' else if ringClass d n == 6 then ringLost d' n 1 else d'
  else d

/-! ### Host-bound frames (R453, R454) -/

/-- The lowest-numbered enabled FRAME_RX ring that takes a logical port. -/
def frameRxRing (d : Device) (port : Nat) : Option Nat :=
  (List.range 256).find? fun n =>
    d.up (.ring n) && ringClass d n == 2 && (d.rn (R.HIF_RING_SEL n)).testBit port

/-- R453: deliver a frame (without FCS) of a logical port to the host, or drop and count it. -/
def hostFrame (d : Device) (port : Nat) (stamp : Inst) (bs : Bytes) (reason : Nat) : Device :=
  match frameRxRing d port with
  | none => d.cnt K.CLS_DROP_HOST_FULL
  | some n =>
    match (d.ring n).posted with
    | [] => d.cnt K.CLS_DROP_HOST_FULL
    | p :: _ =>
      if ringHalted d n || !holdRoom d n bs.length then d.cnt K.CLS_DROP_HOST_FULL
      else if p.len < bs.length then d.cnt K.HIF_RX_TOO_BIG
      else
        let d := complete d n p.slot (frameRxCqe stamp bs.length 0 port reason) bs
        drainBad (d.ring n).posted.length d n

/-! ### Stream events (R456) -/

/-- Waiting events take the posted RXBUFs in order. -/
def streamFlow (fuel : Nat) (d : Device) (n : Nat) : Device :=
  match fuel, (d.ring n).events, (d.ring n).posted with
  | k + 1, e :: es, p :: _ =>
    if !holdRoom d n e.data.length then d else
    let d := d.setRing n { d.ring n with events := es }
    let d := complete d n p.slot (streamCqe e.sid e.code e.reason e.data.length e.value p.slot) e.data
    streamFlow k (drainBad (d.ring n).posted.length d n) n
  | _, _, _ => d

/-- A device event of a stream: it takes the next RXBUF, or waits for one. -/
def streamEvent (d : Device) (n : Nat) (e : StreamEv) : Device :=
  let d := d.setRing n { d.ring n with events := (d.ring n).events ++ [e] }
  let d := d.emit (.streamEvent e.sid e.code e.reason e.value e.data)
  streamFlow (d.ring n).events.length d n

/-! ### Ledger delivery (R508) -/

/-- The enabled LEDGER ring, if there is one. -/
def ledgerRing (d : Device) : Option Nat := (List.range 256).find? fun n => d.up (.ring n) && ringClass d n == 5

/-- Deliver records in order of seq from MON_LEDGER_NEXT while the ring takes them. -/
def ledgerFlow (n : Nat) : List (Nat × Bytes) → Device → Device
  | [], d => d
  | (seq, bs) :: t, d =>
    if seq < d.mon.ledgerNext then ledgerFlow n t d
    else
      let (ok, d') := putRecord d n 5 bs false
      if ok then ledgerFlow n t { d' with mon := { d'.mon with ledgerNext := seq + 1 } } else d'

def ledgerDeliver (d : Device) : Device :=
  match ledgerRing d with
  | some n =>
    let d := if d.mon.lostHeld = 0 then d else ringLost { d with mon := { d.mon with lostHeld := 0 } } n d.mon.lostHeld
    ledgerFlow n d.mon.ledger d
  | none => d

end Sys2Proof.Machine
end

