-- ==== Sys2Proof/Machine/Sched.lean ====
section
/-! DEFINITION. Timed actions (R31 to R37): requesting, cancelling, which action executes next, and how one ends. -/

namespace Sys2Proof.Machine

/-! ### Kinds (R31) -/

/-- Minimum lead. -/
def actLead : Act → Inst
  | .regWrite _ _ _ | .snapshot | .histWindow _ _ | .gnssCapture _ | .pairCal => 10000 * nsU
  | .batchApply | .starterRotate _ => 100000000 * nsU
  | .gclChange _ => 1000000 * nsU
  | .outEvent _ _ _ => 5000 * nsU

/-- The horizon of 365 days. -/
def horizon : Inst := 31536000 * secU

/-- Actions that share a pending capacity have the same number here. -/
def actGroup : Act → Nat
  | .regWrite _ _ _ | .snapshot | .histWindow _ _ | .gnssCapture _ | .pairCal => 0
  | .batchApply | .starterRotate _ => 1
  | .gclChange n => 16 + n
  | .outEvent n _ _ => 64 + n

/-- Pending capacity of a group. -/
def groupCap (g : Nat) : Nat := if g = 0 then 4096 else if g = 1 then 16 else if g < 64 then 2 else 64

/-- Order of kinds at one tick (R35). -/
def actOrder : Act → Nat
  | .regWrite _ _ _ => 1
  | .batchApply => 2
  | .starterRotate _ => 3
  | .gclChange _ => 4
  | .snapshot | .gnssCapture _ | .pairCal => 5
  | .histWindow _ _ => 6
  | .outEvent _ _ _ => 7

/-! ### Requesting (R32, R37) -/

/-- The code a request would get: FULL while Device Time is invalid, PAST, TOO_FAR, FULL, or ACCEPTED. -/
def requestCode (d : Device) (a : Act) (t : Inst) : Nat :=
  if d.dtInvalid then T.FULL
  else if t < d.now + actLead a then T.PAST
  else if d.now + horizon < t then T.TOO_FAR
  else if groupCap (actGroup a) ≤ (d.sched.pend.filter fun e => actGroup e.act == actGroup a).length then T.FULL
  else T.ACCEPTED

/-- The next handle, never 0. -/
def nextHandle (h : Nat) : Nat := if h + 1 < 2 ^ 32 then h + 1 else 1

/-- Request a timed action: the code, the handle (0 when refused) and the block. -/
def request (d : Device) (a : Act) (t : Inst) (notify : Bool) (tag : Nat) : Nat × Nat × Device :=
  let c := requestCode d a t
  if c = T.ACCEPTED then
    let h := d.sched.nextHandle
    let e : TimedAct := { handle := h, due := t, act := a, notify, tag, stepped := false }
    (c, h, { d with sched := { pend := d.sched.pend ++ [e], nextHandle := nextHandle h } })
  else (c, 0, d)

/-! ### Ending -/

/-- The action leaves the schedule. -/
def dropAct (d : Device) (h : Nat) : Device :=
  { d with sched := { d.sched with pend := d.sched.pend.filter fun e => !(e.handle == h) } }

/-- Report an action's final outcome: to its requester, and by the record of R449 for a notified request and for every Batch
apply. -/
def reportAct (d : Device) (a : TimedAct) (code batch : Nat) : Device :=
  let d := d.emit (.timedOutcome a.handle code)
  let isBatch := a.act == .batchApply
  if a.notify || isBatch then
    outcomeRecord d code (if isBatch then 1 else 0) batch a.handle a.tag
      (if code = T.DONE ∨ code = T.STEPPED then some d.now else none)
  else d

/-- The action ends with a code. -/
def endAct (d : Device) (a : TimedAct) (code : Nat) : Device := reportAct (dropAct d a.handle) a code 0

/-- R33, R37: cancel the pending action of a handle, among those a test admits. -/
def cancelCode (d : Device) (h : Nat) (p : Act → Bool) : Nat :=
  match d.sched.pend.find? fun e => e.handle == h && p e.act with
  | none => T.NO_SUCH
  | some e => if d.dtInvalid || decide (d.now + actLead e.act ≤ e.due) then T.CANCELLED else T.TOO_LATE

def cancelAct (d : Device) (h : Nat) (p : Act → Bool) : Nat × Device :=
  let c := cancelCode d h p
  if c = T.CANCELLED then
    match d.sched.pend.find? fun e => e.handle == h && p e.act with
    | none => (c, d)
    | some e => (c, endAct d e T.CANCELLED)
  else (c, d)

/-- R37, R75: pending actions of a stopped unit whose instants are still in the future complete with FLUSHED. -/
def flushActs (d : Device) (p : Act → Bool) : Device :=
  (d.sched.pend.filter fun e => p e.act && (d.dtInvalid || decide (d.now < e.due))).foldl
    (fun d e => endAct d e T.FLUSHED) d

/-- R37: actions whose instants passed while Device Time was invalid complete with MISSED. -/
def missActs (d : Device) : Device :=
  (d.sched.pend.filter fun e => decide (e.due ≤ d.now)).foldl (fun d e => endAct d e T.MISSED) d

/-- R36: a forward step marks the actions in the interval it skips. -/
def markStepped (d : Device) (from_ to_ : Inst) : Device :=
  let hit (e : TimedAct) : Bool := decide (from_ < e.due) && decide (e.due ≤ to_)
  { d with sched := { d.sched with pend := mapIf hit (fun e => { e with stepped := true }) d.sched.pend } }

/-! ### Executing (R31, R35, R37) -/

/-- An action is due. -/
def isDue (d : Device) (e : TimedAct) : Bool := !d.dtInvalid && (e.stepped || decide (e.due ≤ d.now))

/-- Its place among the due ones: the tick it executes at, then the order of kinds; acceptance decides the rest. -/
def dueKey (d : Device) (e : TimedAct) : Nat :=
  let lag := if e.stepped then 2 ^ 79 else (d.now - e.due) / max 1 d.tm.tickLen
  (2 ^ 80 - lag) * 8 + actOrder e.act

/-- The action that executes next, if one is due. -/
def firstDue (d : Device) : Option TimedAct := leastBy (dueKey d) (d.sched.pend.filter (isDue d))

/-- The next action, if it is of the kind a command executes. -/
def dueOf (d : Device) (p : Act → Bool) : Option TimedAct := (firstDue d).filter fun e => p e.act

/-- DONE, or STEPPED after a forward step. -/
def doneCode (e : TimedAct) : Nat := if e.stepped then T.STEPPED else T.DONE

end Sys2Proof.Machine
end

