-- ==== Sys2Proof/Machine/Axis.lean ====
section
/-! DEFINITION. The Axis unit (R38 to R45): the model of an external periodic quantity, and requests at an axis position.  A
request made while the axis has no model is refused with AXIS_LOST (DESIGN CHOICE, log entry 12). -/

namespace Sys2Proof.Machine

def Device.axis (d : Device) (n : Nat) : Axis := if n = 0 then d.axis0 else d.axis1

def Device.setAxis (d : Device) (n : Nat) (a : Axis) : Device :=
  if n = 0 then { d with axis0 := a } else { d with axis1 := a }

/-- ENCODER mode: on axis 0 only (R38). -/
def axisEncoder (d : Device) (n : Nat) : Bool := n == 0 && d.fg (F.AXIS_CFG_mode 0) == 1

/-- 2^avg_log2, with 7 treated as 6 (R42). -/
def axisAvg (d : Device) (n : Nat) : Nat := 2 ^ min 6 (d.fg (F.AXIS_CFG_avg_log2 n))

def axisTol (d : Device) (n : Nat) : Nat := d.fg (F.AXIS_CFG_tol n)

/-- Line edges per revolution in ENCODER mode; 1 otherwise. -/
def axisLines (d : Device) (n : Nat) : Nat := if axisEncoder d n then d.rn (R.AXIS_LINES 0) % 65536 + 1 else 1

/-- P in time units, as held to 2^-16 ns (R39). -/
def axisP (d : Device) (n : Nat) : Nat := (d.rn (R.AXIS_PERIOD_NS n) * 65536 + d.rn (R.AXIS_PERIOD_FRAC n)) * subU

/-- The expected interval between two measured edges: P, or P over the lines. -/
def axisStep (d : Device) (n : Nat) : Rat := (axisP d n : Rat) / (axisLines d n : Rat)

def axisState (d : Device) (n : Nat) : Nat := d.fg (F.AXIS_STATUS_state n)

def axisRuns (d : Device) (n : Nat) : Bool := axisState d n == 2 || axisState d n == 3

def axisCycle (d : Device) (n : Nat) : BitVec 32 := d.rd (R.AXIS_CYCLE n)

/-- R39: P is the mean of the last intervals, held to 2^-16 ns. -/
def setPeriod (d : Device) (n : Nat) : Device :=
  let k := axisAvg d n
  let l := (d.axis n).intervals.take k
  let mean : Rat := l.foldl (· + ·) 0 / (max 1 l.length : Nat)
  let sub := (roundQ (mean * (axisLines d n : Rat) / (subU : Rat))).toNat
  (d.wn (R.AXIS_PERIOD_NS n) (sub / 65536)).wn (R.AXIS_PERIOD_FRAC n) (sub % 65536)

def setAxisCycle (d : Device) (n : Nat) (c : BitVec 32) : Device := d.wr (R.AXIS_CYCLE n) c

/-- Return to ACQUIRING; the model's collected edges are dropped. -/
def axisAcquire (d : Device) (n : Nat) : Device :=
  ((d.setAxis n { d.axis n with acq := [], intervals := [] }).fs (F.AXIS_STATUS_state n) 1).fs (F.AXIS_STATUS_misses n) 0

/-- Every pending request of the axis completes with AXIS_LOST. -/
def axisDropReqs (d : Device) (n : Nat) : Device :=
  let d := (d.axis n).reqs.foldl (fun d r => d.emit (.axisOutcome n r.id T.AXIS_LOST)) d
  d.setAxis n { d.axis n with reqs := [] }

/-- LOST (R40): pending requests complete with AXIS_LOST, lost_evt is set, and the axis returns to ACQUIRING. -/
def axisLose (d : Device) (n : Nat) : Device :=
  let d := axisDropReqs d n
  let d := d.setAxis n { d.axis n with afterLost := true }
  axisAcquire (d.set1 (F.AXIS_STATUS_lost_evt n)) n

/-- R40: the last 2^avg_log2 + 1 edges, whose intervals each lie within tol of their mean. -/
def acquired (edges : List Int) (k tol : Nat) : Option (List Rat) :=
  if edges.length < k + 1 then none
  else
    let iv : List Int := ((edges.take k).zip (edges.drop 1)).map fun p => p.1 - p.2
    let sum := iv.foldl (· + ·) 0
    if iv.all (fun i => decide (((i * k - sum).natAbs : Int) * 256 ≤ tol * sum)) && decide (0 < sum) then
      some (iv.map fun (i : Int) => (i : Rat))
    else none

/-- The cycle number when an acquisition completes: 0 on the first, else the extrapolated count, rounded. -/
def acquiredCycle (d : Device) (n : Nat) (t : Int) : BitVec 32 :=
  let a := d.axis n
  let p := axisP d n
  if a.numbered && p ≠ 0 then axisCycle d n + BitVec.ofInt 32 (roundQ (((t - a.cycleEdge : Int) : Rat) / (p : Rat))) else 0

/-- An accepted edge while ACQUIRING. -/
def acquireEdge (d : Device) (n : Nat) (t : Int) : Device :=
  let a := d.axis n
  let k := axisAvg d n
  let acq := (t :: a.acq).take (k + 1)
  match acquired acq k (axisTol d n) with
  | none => d.setAxis n { a with acq }
  | some iv =>
    let cyc := a.cycleSet.getD (acquiredCycle d n t)
    let d := if a.numbered && a.afterLost then d.set1 (F.AXIS_STATUS_renum n) else d
    let d := d.setAxis n { a with acq := [], intervals := iv, lastReal := t, lastEdge := t, cycleEdge := t, lineCnt := 0,
                                  virtZero := false, numbered := true, afterLost := false, cycleSet := none }
    setPeriod ((setAxisCycle d n cyc).fs (F.AXIS_STATUS_state n) 2) n

/-- A good edge while LOCKED or COASTING: the interval enters the mean, once for each of its m + 1 parts (R39). -/
def trackEdge (d : Device) (n : Nat) (t : Int) : Device :=
  let a := d.axis n
  let m := d.fg (F.AXIS_STATUS_misses n)
  let part : Rat := ((t - a.lastReal : Int) : Rat) / ((m + 1 : Nat) : Rat)
  let iv := (List.replicate (m + 1) part ++ a.intervals).take 64
  let enc := axisEncoder d n
  let d := d.setAxis n { a with intervals := iv, lastReal := t, lastEdge := t, lineCnt := if enc then a.lineCnt + 1 else 0,
                                cycleEdge := if enc then a.cycleEdge else t, cycleSet := if enc then a.cycleSet else none }
  let d := if enc then d else setAxisCycle d n (a.cycleSet.getD (axisCycle d n + 1))
  setPeriod ((d.fs (F.AXIS_STATUS_state n) 2).fs (F.AXIS_STATUS_misses n) 0) n

/-- An edge that the axis measures: of AXINn, or the line edge of ENCODER. -/
def axisEdge (d : Device) (n : Nat) (t : Int) : Device :=
  let a := d.axis n
  if axisState d n = 1 then acquireEdge d n t
  else if axisRuns d n then
    if ((t - a.lastEdge : Int) : Rat) * 256 < ((256 - axisTol d n : Nat) : Rat) * axisStep d n then
      d.setAxis n { a with glitches := a.glitches + 1 }
    else trackEdge d n t
  else d

/-- The index edge of ENCODER: phase 0 of a revolution.  After a virtual phase 0 it re-places that one (log entry 12). -/
def axisIndex (d : Device) (t : Int) : Device :=
  let a := d.axis 0
  if axisRuns d 0 then
    let same := a.virtZero && decide (2 * a.lineCnt < axisLines d 0)
    let c := a.cycleSet.getD (if same then axisCycle d 0 else axisCycle d 0 + 1)
    setAxisCycle (d.setAxis 0 { a with cycleEdge := t, lineCnt := 0, virtZero := false, cycleSet := none }) 0 c
  else d

/-! ### Requests at an axis position (R44) -/

/-- t_edge + (1 + φ / 2^32) × P. -/
def axisInstant (edge : Int) (p : Nat) (phase : BitVec 32) : Inst :=
  (edge + ((p * (2 ^ 32 + phase.toNat) / 2 ^ 32 : Nat) : Int)).toNat

/-- Requests whose cycle is the next one are committed to Device Time and passed on as timed actions. -/
def axisCommit (d : Device) (n : Nat) : Device :=
  let a := d.axis n
  let ready := a.reqs.filter fun r => r.fixed.isSome || r.cycle == axisCycle d n + 1
  let d := d.setAxis n { a with reqs := a.reqs.filter fun r => !(r.fixed.isSome || r.cycle == axisCycle d n + 1) }
  ready.foldl (fun d r =>
    let (edge, p) := r.fixed.getD ((d.axis n).cycleEdge, axisP d n)
    let (c, _, d) := request d r.act (axisInstant edge p r.phase) false 0
    d.emit (.axisOutcome n r.id c)) d

/-- R45: the axis stamp of an instant, cycle and phase in 64 bits; none while the axis has no model. -/
def axisStamp (d : Device) (n : Nat) (t : Inst) : Option Nat :=
  if axisRuns d n && axisP d n ≠ 0 then
    let q : Rat := (((t : Int) - (d.axis n).cycleEdge : Int) : Rat) / (axisP d n : Rat)
    some (((axisCycle d n).toNat * 2 ^ 32 + roundQ (q * 2 ^ 32)) % 2 ^ 64).toNat
  else none

/-! ### Commands -/

/-- R39: an edge on AXINn (n = `pin`), rising or falling, at an interpolator bin. -/
def xAxinEdge (pin : Nat) (rising : Bool) (b : Nat) (d : Device) : Device :=
  let n := if axisEncoder d 0 then 0 else pin
  if 2 ≤ pin ∨ d.dtInvalid ∨ !d.fb (F.AXIS_CFG_enable n) ∨ d.fb (F.AXIS_CFG_edge n) == rising then d
  else
    let t : Int := d.stamp (min 124 b) - d.rs (R.AXIS_DELAY n) * nsU
    if axisEncoder d 0 ∧ pin = 1 then axisIndex d t else axisEdge d n t

/-- R40: no edge by (1 + tol) × P after the last: a virtual edge at last + P; the miss counts, and miss_limit of them lose the
axis. -/
def xAxisEdgeTimeout (n : Nat) (d : Device) : Device :=
  let a := d.axis n
  if n < 2 ∧ axisRuns d n ∧ !d.dtInvalid ∧
      ((256 + axisTol d n : Nat) : Rat) * axisStep d n ≤ ((((d.now : Int) - a.lastEdge) : Int) : Rat) * 256 then
    let t : Int := a.lastEdge + (axisStep d n).floor
    let wrap := !axisEncoder d n || decide (axisLines d n ≤ a.lineCnt + 1)
    let m := d.fg (F.AXIS_STATUS_misses n) + 1
    let d := d.setAxis n { a with lastEdge := t, cycleEdge := if wrap then t else a.cycleEdge,
                                  lineCnt := if wrap then 0 else a.lineCnt + 1, virtZero := wrap || a.virtZero }
    let d := if wrap then setAxisCycle d n (axisCycle d n + 1) else d
    let d := (d.fs (F.AXIS_STATUS_state n) 3).fs (F.AXIS_STATUS_misses n) m
    if max 1 (d.fg (F.AXIS_CFG_miss_limit n)) ≤ m then axisLose d n else d
  else d

/-- R42: a write to AXISn_CFG. -/
def xAxisCfgWrite (n : Nat) (w : Word) (d : Device) : Device :=
  if n < 2 then
    let old := d.rn (R.AXIS_CFG n)
    let en := w.getLsbD 31 && !(n == 1 && axisEncoder d 0)
    let new := putBits (w.toNat &&& 0x1FFFFC00) 31 1 (if en then 1 else 0)
    let d := d.wn (R.AXIS_CFG n) new
    let changed := !(bits old 10 6 == bits new 10 6)
    let d :=
      if !en then
        (axisDropReqs (d.setAxis n { Axis.init with reqs := (d.axis n).reqs, glitches := (d.axis n).glitches,
                                                    nextId := (d.axis n).nextId }) n).fs (F.AXIS_STATUS_state n) 0
      else if !(old.testBit 31) then axisAcquire d n
      else if changed then axisAcquire d n
      else d
    if n = 0 ∧ axisEncoder d 0 ∧ d.fb (F.AXIS_CFG_enable 1) then
      (axisDropReqs ((d.clr (F.AXIS_CFG_enable 1)).setAxis 1 { Axis.init with reqs := d.axis1.reqs }) 1).fs
        (F.AXIS_STATUS_state 1) 0
    else d
  else d

/-- R41: a read of AXISn_CYCLE latches the edge's time. -/
def xAxisCycleRead (n : Nat) (d : Device) : Device :=
  if n < 2 then
    let e := (if axisEncoder d n then (d.axis n).cycleEdge else (d.axis n).lastEdge).toNat
    let d := d.wn2 (R.AXIS_EDGE_SEC_LO n) (R.AXIS_EDGE_SEC_HI n) (e / secU % 2 ^ 48)
    let d := d.wn (R.AXIS_EDGE_NS n) (e % secU / nsU)
    d.emit (.hostRead (axisCycle d n))
  else d

/-- R41: a write to AXISn_CYCLE_SET gives its number to the next real edge. -/
def xAxisCycleSet (n : Nat) (w : Word) (d : Device) : Device :=
  if n < 2 then d.setAxis n { d.axis n with cycleSet := some w } else d

/-- R44: a request at axis position (c, φ). -/
def xAxisRequest (n : Nat) (c phase : BitVec 32) (a : Act) (d : Device) : Device :=
  if n < 2 then
    let ax := d.axis n
    let id := ax.nextId
    let ahead := (c - axisCycle d n).toNat
    let code :=
      if !axisRuns d n then T.AXIS_LOST
      else if 2 ^ 31 ≤ ahead ∨ ahead = 0 then T.PAST
      else if 65536 < ahead then T.TOO_FAR
      else if 256 ≤ ax.reqs.length then T.FULL
      else T.ACCEPTED
    if code = T.ACCEPTED then
      let fixed := if ahead = 1 then some (ax.cycleEdge, axisP d n) else none
      (d.setAxis n { ax with reqs := ax.reqs ++ [{ id, cycle := c, phase, act := a, fixed }], nextId := id + 1 }).emit
        (.axisOutcome n id T.ACCEPTED)
    else (d.setAxis n { ax with nextId := id + 1 }).emit (.axisOutcome n id code)
  else d

/-- R44: the requests for the cycle after the current one are committed. -/
def xAxisRequestCommit (n : Nat) (d : Device) : Device := if n < 2 ∧ axisRuns d n then axisCommit d n else d

/-! ### The commands of this file -/

/-- AXIN_EDGE (R39). -/
def execAxinEdge (pin : Nat) (rising : Bool) (b : Nat) (s : State) : Host.Outcome State Fault Refusal :=
  finish s (xAxinEdge pin rising b s.dev)

/-- AXIS_EDGE_TIMEOUT (R40). -/
def execAxisEdgeTimeout (n : Nat) (s : State) : Host.Outcome State Fault Refusal :=
  finish s (xAxisEdgeTimeout n s.dev)

/-- AXIS_CFG_WRITE (R42). -/
def execAxisCfgWrite (n : Nat) (w : Word) (s : State) : Host.Outcome State Fault Refusal :=
  finish s (hostWrite (R.AXIS_CFG n) (xAxisCfgWrite n w) s.dev)

/-- AXIS_CYCLE_READ (R41). -/
def execAxisCycleRead (n : Nat) (s : State) : Host.Outcome State Fault Refusal :=
  finish s (hostRead (R.AXIS_CYCLE n) (xAxisCycleRead n) s.dev)

/-- AXIS_CYCLE_SET (R41). -/
def execAxisCycleSet (n : Nat) (w : Word) (s : State) : Host.Outcome State Fault Refusal :=
  finish s (hostWrite (R.AXIS_CYCLE_SET n) (xAxisCycleSet n w) s.dev)

/-- AXIS_REQUEST_COMMIT (R44). -/
def execAxisRequestCommit (n : Nat) (s : State) : Host.Outcome State Fault Refusal :=
  finish s (xAxisRequestCommit n s.dev)

/-- AXIS_REQUEST (R44). -/
def execAxisRequest (n : Nat) (c phase : BitVec 32) (a : Act) (s : State) : Host.Outcome State Fault Refusal :=
  finish s (xAxisRequest n c phase a s.dev)

end Sys2Proof.Machine
end

