-- ==== Sys2Proof/Config.lean ====
section
/-! DEFINITION. What a part or its environment fixes and the spec leaves open.  Every constant here is opaque: nothing can
evaluate it, so a statement holds whatever its value. -/

namespace Sys2Proof

/-- The n-th draw of the random bit generator (log entry 3). -/
opaque Config.draw : Nat → BitVec 256

/-- The production trim, in ps, of a probe strobe to its ball (R128, R314). -/
opaque Config.strobeTrim : Nat → Int

/-- Whether the flash write of a pending Starter generation succeeds (R157), by the number of the draw it takes. -/
opaque Config.starterFlash : Nat → Bool

/-- The value of π the loop gains are computed with (R250). -/
opaque Config.pi : Rat

/-- The modelled deviation, in ps, of a satellite's combination: system, elevation, C/N0 of both bands (R280; log entry 36). -/
opaque Config.gnssSigma : Nat → Int → Nat → Nat → Rat

/-- arg(sum of exp(j 2π d)) / (2π) of R283, over phases in cycles. -/
opaque Config.lineBias : List Rat → Rat

/-- The root secret in the fuses (R351). (DESIGN CHOICE, log entry 99.) -/
opaque Config.rootSecret : BitVec 256

/-- The device serial, a 48-bit number (R2). -/
opaque Config.serial : BitVec 48

/-- The identity certificate chain of the manufacturing region (R353). -/
opaque Config.identityChain : List Byte

/-- The Melath firmware key, a raw P-384 public key of 96 bytes (R351). -/
opaque Config.melathKey : List Byte

/-- The image the part was delivered with: svn, seq and body hash (log entry 48). -/
opaque Config.factoryImage : Nat × Nat × List Byte

/-- Whether an EXT_MODULE item holds a well-formed module, and the PKE quota it names (R377 gives its parts but no layout; log entry 66). -/
opaque Config.extOk : List Byte → Bool
opaque Config.extQuota : List Byte → Nat

/-- The cause byte of a RESIGN frame, by the model's numbers 0 FAULT_STOP, 1 dt_invalid, 2 host (R421 gives no codes). (DESIGN CHOICE, log entry 68.) -/
opaque Config.resignCause : Nat → Byte

/-- The status of FW_COMMIT, less 1 and modulo 14, when the body hash does not match (R375 gives the check, not its code). -/
opaque Config.fwHashCode : Nat

/-- The R34 code a timed register change reports when SET-UP LOCK refuses it at its instant (R446, R544 give none). -/
opaque Config.timedRefused : BitVec 4

/-- The cause code of the warm reset that EXTEST holds (R536 has none for it). -/
opaque Config.extestCause : BitVec 4

end Sys2Proof
end

