-- ==== Sys2Proof/Machine/Crypto.lean ====
section
/-! DEFINITION. The symmetric primitives the spec names: MD5 (R97), SHA-256, SHA-384 and SHA-512, HMAC and HKDF, AES, CMAC
and AES-SIV-CMAC (R155, R164).  Their definitions are those of their own standards (RFC 1321, FIPS 180-4, RFC 2104, RFC 5869,
FIPS 197, RFC 4493, RFC 5297; PRESUMED, log entry 22). -/

namespace Sys2Proof.Machine

/-! ### Roots, for the constants of FIPS 180-4 -/

/-- The integer part of the k-th root of a number below 2^(k × n). -/
def iroot (k : Nat) : Nat → Nat → Nat
  | 0, _ => 0
  | n + 1, x =>
    (List.range (n + 1)).foldr (fun b r => if (r + 2 ^ b) ^ k ≤ x then r + 2 ^ b else r) 0

def isPrime (n : Nat) : Bool := decide (2 ≤ n) && (List.range n).all fun k => decide (k < 2) || !(n % k == 0)

/-- The first 80 primes. -/
def primes80 : List Nat := (List.range 410).filter isPrime

/-- The first 64 bits of the fractional part of a cube root or square root. -/
def cubeFrac (p : Nat) : Nat := iroot 3 68 (p * 2 ^ 192) % 2 ^ 64
def sqrtFrac (p : Nat) : Nat := iroot 2 70 (p * 2 ^ 128) % 2 ^ 64

/-! ### SHA-2 -/

/-- Rotate a w-bit number right. -/
def rotr (w n x : Nat) : Nat := (x / 2 ^ n + x * 2 ^ (w - n)) % 2 ^ w

/-- The parameters of a SHA-2 family member: word width, rounds, rotations. -/
structure Sha where
  w : Nat
  rounds : Nat
  /-- Σ0, Σ1 rotations; σ0, σ1 rotations and shifts. -/
  s0 : List Nat
  s1 : List Nat
  g0 : List Nat
  g1 : List Nat

def sha256P : Sha := { w := 32, rounds := 64, s0 := [2, 13, 22], s1 := [6, 11, 25], g0 := [7, 18, 3], g1 := [17, 19, 10] }
def sha512P : Sha := { w := 64, rounds := 80, s0 := [28, 34, 39], s1 := [14, 18, 41], g0 := [1, 8, 7], g1 := [19, 61, 6] }

def bigSig (p : Sha) (r : List Nat) (x : Nat) : Nat :=
  rotr p.w (r.getD 0 0) x ^^^ rotr p.w (r.getD 1 0) x ^^^ rotr p.w (r.getD 2 0) x

def smallSig (p : Sha) (r : List Nat) (x : Nat) : Nat :=
  rotr p.w (r.getD 0 0) x ^^^ rotr p.w (r.getD 1 0) x ^^^ (x / 2 ^ r.getD 2 0)

/-- The message schedule, newest word first. -/
def shaSched (p : Sha) (n : Nat) (l : List Nat) : List Nat :=
  (List.range n).foldl (fun l _ =>
    ((smallSig p p.g1 (l.getD 1 0) + l.getD 6 0 + smallSig p p.g0 (l.getD 14 0) + l.getD 15 0) % 2 ^ p.w) :: l) l

def shaRound (p : Sha) (h : List Nat) (kw : Nat × Nat) : List Nat :=
  match h with
  | [a, b, c, d, e, f, g, i] =>
    let ch := (e &&& f) ^^^ ((2 ^ p.w - 1 - e) &&& g)
    let maj := (a &&& b) ^^^ (a &&& c) ^^^ (b &&& c)
    let t1 := i + bigSig p p.s1 e + ch + kw.1 + kw.2
    let t2 := bigSig p p.s0 a + maj
    [(t1 + t2) % 2 ^ p.w, a, b, c, (d + t1) % 2 ^ p.w, e, f, g]
  | _ => h

/-- Compress one block. -/
def shaBlock (p : Sha) (h : List Nat) (blk : Bytes) : List Nat :=
  let m := (List.range 16).map fun i => beAt blk (i * (p.w / 8)) (p.w / 8)
  let ws := (shaSched p (p.rounds - 16) m.reverse).reverse
  let ks := (primes80.take p.rounds).map fun q => cubeFrac q / 2 ^ (64 - p.w)
  let h' := (ks.zip ws).foldl (shaRound p) h
  (h.zip h').map fun x => (x.1 + x.2) % 2 ^ p.w

/-- Blocks of a byte string whose length is a multiple of `n`. -/
def chunks (n : Nat) (bs : Bytes) : List Bytes := (List.range (bs.length / n)).map fun i => slice bs (i * n) n

/-- A SHA-2 digest of `out` bytes. -/
def sha2 (p : Sha) (iv : List Nat) (out : Nat) (msg : Bytes) : Bytes :=
  let blk := p.w * 2
  let len := p.w / 4
  let pad := (blk - (msg.length + 1 + len) % blk) % blk
  let m := msg ++ [0x80] ++ zeros pad ++ beBytes len (msg.length * 8)
  (((chunks blk m).foldl (shaBlock p) iv).flatMap (beBytes (p.w / 8))).take out

def sha256 (m : Bytes) : Bytes := sha2 sha256P ((primes80.take 8).map fun q => sqrtFrac q / 2 ^ 32) 32 m
def sha384 (m : Bytes) : Bytes := sha2 sha512P (((primes80.drop 8).take 8).map sqrtFrac) 48 m
def sha512 (m : Bytes) : Bytes := sha2 sha512P ((primes80.take 8).map sqrtFrac) 64 m

/-! ### MD5 -/

def md5K : List Nat := [0xd76aa478, 0xe8c7b756, 0x242070db, 0xc1bdceee, 0xf57c0faf, 0x4787c62a, 0xa8304613, 0xfd469501] ++
  [0x698098d8, 0x8b44f7af, 0xffff5bb1, 0x895cd7be, 0x6b901122, 0xfd987193, 0xa679438e, 0x49b40821] ++
  [0xf61e2562, 0xc040b340, 0x265e5a51, 0xe9b6c7aa, 0xd62f105d, 0x2441453, 0xd8a1e681, 0xe7d3fbc8] ++
  [0x21e1cde6, 0xc33707d6, 0xf4d50d87, 0x455a14ed, 0xa9e3e905, 0xfcefa3f8, 0x676f02d9, 0x8d2a4c8a] ++
  [0xfffa3942, 0x8771f681, 0x6d9d6122, 0xfde5380c, 0xa4beea44, 0x4bdecfa9, 0xf6bb4b60, 0xbebfbc70] ++
  [0x289b7ec6, 0xeaa127fa, 0xd4ef3085, 0x4881d05, 0xd9d4d039, 0xe6db99e5, 0x1fa27cf8, 0xc4ac5665] ++
  [0xf4292244, 0x432aff97, 0xab9423a7, 0xfc93a039, 0x655b59c3, 0x8f0ccc92, 0xffeff47d, 0x85845dd1] ++
  [0x6fa87e4f, 0xfe2ce6e0, 0xa3014314, 0x4e0811a1, 0xf7537e82, 0xbd3af235, 0x2ad7d2bb, 0xeb86d391]

def md5S : List Nat := [7, 12, 17, 22, 5, 9, 14, 20, 4, 11, 16, 23, 6, 10, 15, 21]

def md5Round (m : List Nat) (s : List Nat) (i : Nat) : List Nat :=
  match s with
  | [a, b, c, d] =>
    let n (x : Nat) : Nat := 2 ^ 32 - 1 - x
    let fg : Nat × Nat :=
      if i < 16 then ((b &&& c) ||| (n b &&& d), i)
      else if i < 32 then ((d &&& b) ||| (n d &&& c), (5 * i + 1) % 16)
      else if i < 48 then (b ^^^ c ^^^ d, (3 * i + 5) % 16)
      else (c ^^^ (b ||| n d), 7 * i % 16)
    let x := (a + fg.1 + md5K.getD i 0 + m.getD fg.2 0) % 2 ^ 32
    [d, (b + rotr 32 (32 - md5S.getD (i / 16 * 4 + i % 4) 0) x) % 2 ^ 32, b, c]
  | _ => s

def md5 (msg : Bytes) : Bytes :=
  let pad := (64 - (msg.length + 9) % 64) % 64
  let m := msg ++ [0x80] ++ zeros pad ++ leBytes 8 (msg.length * 8)
  let st := (chunks 64 m).foldl (fun h blk =>
    let ws := (List.range 16).map fun i => leAt blk (4 * i) 4
    let h' := (List.range 64).foldl (md5Round ws) h
    (h.zip h').map fun x => (x.1 + x.2) % 2 ^ 32) [0x67452301, 0xEFCDAB89, 0x98BADCFE, 0x10325476]
  st.flatMap (leBytes 4)

/-! ### HMAC and HKDF -/

/-- A hash function with its block size. -/
inductive HashFn where
  | s256
  | s384
  | s512
  deriving DecidableEq, Repr

def hashOf : HashFn → Bytes → Bytes
  | .s256, m => sha256 m
  | .s384, m => sha384 m
  | .s512, m => sha512 m

def hashBlk : HashFn → Nat
  | .s256 => 64
  | _ => 128

def hashLen : HashFn → Nat
  | .s256 => 32
  | .s384 => 48
  | .s512 => 64

def xorBytes (a b : Bytes) : Bytes := (a.zip b).map fun p => p.1 ^^^ p.2

def hmac (h : HashFn) (key msg : Bytes) : Bytes :=
  let k := padTo (hashBlk h) (if hashBlk h < key.length then hashOf h key else key)
  let mask (c : Byte) : Bytes := k.map (· ^^^ c)
  hashOf h (mask 0x5C ++ hashOf h (mask 0x36 ++ msg))

def hkdfExtract (h : HashFn) (salt ikm : Bytes) : Bytes := hmac h (if salt.isEmpty then zeros (hashLen h) else salt) ikm

def hkdfExpand (h : HashFn) (prk info : Bytes) (len : Nat) : Bytes :=
  let n := (len + hashLen h - 1) / hashLen h
  let r := (List.range n).foldl (fun (a : Bytes × Bytes) i =>
    let t := hmac h prk (a.1 ++ info ++ beBytes 1 (i + 1))
    (t, a.2 ++ t)) ([], [])
  r.2.take len

/-! ### AES -/

/-- Multiplication by x in GF(2^8). -/
def xtime (a : Nat) : Nat := if 128 ≤ a then (2 * a - 256) ^^^ 0x1B else 2 * a

def gmul (a b : Nat) : Nat :=
  ((List.range 8).foldl (fun (s : Nat × Nat) i => (xtime s.1, if b.testBit i then s.2 ^^^ s.1 else s.2)) (a, 0)).2

def sbox (a : Nat) : Nat :=
  let inv := (List.range 7).foldl (fun (s : Nat × Nat) _ => let q := gmul s.1 s.1; (q, gmul s.2 q)) (a, 1) |>.2
  let r (k : Nat) : Nat := (inv * 2 ^ k + inv / 2 ^ (8 - k)) % 256
  inv ^^^ r 1 ^^^ r 2 ^^^ r 3 ^^^ r 4 ^^^ 0x63

def sub (b : Byte) : Byte := BitVec.ofNat 8 (sbox b.toNat)

/-- Round keys: the expanded key as 4-byte words. -/
def aesExpand (key : Bytes) : List Bytes :=
  let nk := key.length / 4
  let init := (List.range nk).map fun i => slice key (4 * i) 4
  (List.range (4 * (nk + 7) - nk)).foldl (fun (s : List Bytes × Nat) j =>
    let i := nk + j
    let t := s.1.getLastD []
    let t' := if i % nk = 0 then xorBytes ((t.drop 1 ++ t.take 1).map sub) [BitVec.ofNat 8 s.2, 0, 0, 0]
      else if 6 < nk ∧ i % nk = 4 then t.map sub else t
    (s.1 ++ [xorBytes (s.1.getD (i - nk) []) t'], if i % nk = 0 then xtime s.2 else s.2)) (init, 1) |>.1

def shiftRows (s : Bytes) : Bytes := (List.range 16).map fun i => s.getD ((i + 4 * (i % 4)) % 16) 0

def mixCol (c : Bytes) : Bytes :=
  (List.range 4).map fun i =>
    let v (k : Nat) : Nat := byteAt c ((i + k) % 4)
    BitVec.ofNat 8 (gmul (v 0) 2 ^^^ gmul (v 1) 3 ^^^ v 2 ^^^ v 3)

def mixCols (s : Bytes) : Bytes := (chunks 4 s).flatMap mixCol

/-- AES encryption of one block. -/
def aesEnc (key blk : Bytes) : Bytes :=
  let ws := aesExpand key
  let rk (r : Nat) : Bytes := (ws.drop (4 * r)).take 4 |>.flatten
  let n := key.length / 4 + 6
  let s := (List.range (n - 1)).foldl (fun s r => xorBytes (mixCols (shiftRows (s.map sub))) (rk (r + 1)))
    (xorBytes blk (rk 0))
  xorBytes (shiftRows (s.map sub)) (rk n)

/-! ### CMAC, CTR and SIV -/

/-- Doubling in GF(2^128). -/
def dbl (b : Bytes) : Bytes :=
  let v := beVal b
  beBytes 16 (if 2 ^ 127 ≤ v then (2 * v - 2 ^ 128) ^^^ 0x87 else 2 * v)

def cmac (key msg : Bytes) : Bytes :=
  let k1 := dbl (aesEnc key (zeros 16))
  let n := max 1 ((msg.length + 15) / 16)
  let last := msg.drop (16 * (n - 1))
  let last := if last.length = 16 then xorBytes last k1 else xorBytes (padTo 16 (last ++ [0x80])) (dbl k1)
  let x := (chunks 16 (msg.take (16 * (n - 1)))).foldl (fun x b => aesEnc key (xorBytes x b)) (zeros 16)
  aesEnc key (xorBytes x last)

/-- CTR mode from an initial counter block. -/
def ctr (key iv bs : Bytes) : Bytes :=
  let n := (bs.length + 15) / 16
  let ks := (List.range n).flatMap fun i => aesEnc key (beBytes 16 ((beVal iv + i) % 2 ^ 128))
  xorBytes bs ks

/-- S2V of RFC 5297 over the associated strings and the plaintext. -/
def s2v (key : Bytes) (ads : List Bytes) (pt : Bytes) : Bytes :=
  let d := ads.foldl (fun d a => xorBytes (dbl d) (cmac key a)) (cmac key (zeros 16))
  if 16 ≤ pt.length then
    let k := pt.length - 16
    cmac key (pt.take k ++ xorBytes (pt.drop k) d)
  else cmac key (xorBytes (dbl d) (padTo 16 (pt ++ [0x80])))

/-- The counter block of a SIV: bits 31 and 63 cleared. -/
def sivIv (v : Bytes) : Bytes := (List.range 16).map fun i => if i = 8 ∨ i = 12 then v.getD i 0 &&& 0x7F else v.getD i 0

/-- AES-SIV-CMAC: synthetic IV, then ciphertext. -/
def sivSeal (key : Bytes) (ads : List Bytes) (pt : Bytes) : Bytes :=
  let h := key.length / 2
  let v := s2v (key.take h) ads pt
  v ++ ctr (key.drop h) (sivIv v) pt

/-- Open: none when the tag does not match. -/
def sivOpen (key : Bytes) (ads : List Bytes) (ct : Bytes) : Option Bytes :=
  if ct.length < 16 then none
  else
    let h := key.length / 2
    let v := ct.take 16
    let pt := ctr (key.drop h) (sivIv v) (ct.drop 16)
    if s2v (key.take h) ads pt == v then some pt else none

/-! ### AES-GCM (R144, R380) -/

/-- Multiplication in the field of GCM, on 128-bit numbers with bit 127 the first. -/
def gcmMul (x y : Nat) : Nat :=
  ((List.range 128).foldl (fun (s : Nat × Nat) i =>
    (if s.1 % 2 = 1 then s.1 / 2 ^^^ 0xE1000000000000000000000000000000 else s.1 / 2,
     if x.testBit (127 - i) then s.2 ^^^ s.1 else s.2)) (y, 0)).2

def ghash (h : Nat) (bs : Bytes) : Nat :=
  (chunks 16 bs).foldl (fun a b => gcmMul (a ^^^ beVal b) h) 0

def pad16 (bs : Bytes) : Bytes := padTo (roundUp 16 bs.length) bs

/-- Keystream of GCM's CTR mode: the low 32 bits count. -/
def gcmCtr (key : Bytes) (iv : Bytes) (from_ : Nat) (bs : Bytes) : Bytes :=
  let n := (bs.length + 15) / 16
  xorBytes bs ((List.range n).flatMap fun i => aesEnc key (iv.take 12 ++ beBytes 4 (from_ + i)))

def gcmTag (key iv ad ct : Bytes) : Bytes :=
  let h := beVal (aesEnc key (zeros 16))
  let s := ghash h (pad16 ad ++ pad16 ct ++ beBytes 8 (ad.length * 8) ++ beBytes 8 (ct.length * 8))
  xorBytes (beBytes 16 s) (aesEnc key (iv.take 12 ++ beBytes 4 1))

/-- AES-GCM with a 12-byte IV: ciphertext, then tag. -/
def gcmSeal (key iv ad pt : Bytes) : Bytes :=
  let ct := gcmCtr key iv 2 pt
  ct ++ gcmTag key iv ad ct

def gcmOpen (key iv ad ct : Bytes) : Option Bytes :=
  if ct.length < 16 then none
  else
    let c := ct.take (ct.length - 16)
    if gcmTag key iv ad c == ct.drop (ct.length - 16) then some (gcmCtr key iv 2 c) else none

end Sys2Proof.Machine
end

