-- ==== Sys2Proof/Machine/Feed.lean ====
section
/-! DEFINITION. Values the block's own sources hand to the histogram monitors (R496, R497). -/

namespace Sys2Proof.Machine

def Device.hist (d : Device) (h : Nat) : Hist := amGet Hist.init d.mon.hists h

def Device.setHist (d : Device) (h : Nat) (x : Hist) : Device :=
  { d with mon := { d.mon with hists := amSet Hist.init d.mon.hists h x } }

/-- Monitors with en = 1 (R74): the ones whose configuration word is listed with bit 31 set. -/
def liveMonitors (d : Device) : List Nat :=
  d.regs.filterMap fun e =>
    if 0x21000 ≤ e.1 ∧ e.1 < 0x22000 ∧ (e.1 - 0x21000) % 0x10 = 0 ∧ e.2.getLsbD 31 then some ((e.1 - 0x21000) / 0x10) else none

/-- A monitor receives a value: queued behind the one it takes, 64 at most, else dropped; no value while its window is
closed or Device Time is invalid. (DESIGN CHOICE, log entry 21.) -/
def monPush (d : Device) (h : Nat) (v : Int) : Device :=
  let x := d.hist h
  if !x.win.isOpen then d
  else if d.dtInvalid then d.setHist h { x with win := { x.win with invalid := true } }
  else if x.queue.length < 65 then d.setHist h { x with queue := x.queue ++ [v] }
  else d.setHist h { x with win := { x.win with dropped := x.win.dropped + 1 } }

/-- A value of source `src`, instance `arg`; `all` is the arg that takes every instance. -/
def monFeed (d : Device) (src arg all : Nat) (v : Int) : Device :=
  (liveMonitors d).foldl (fun d h =>
    let a := d.fg (F.MON_HIST_CFG_arg h)
    if d.fg (F.MON_HIST_CFG_src h) == src && (a == arg || a == all) then monPush d h v else d) d

/-- The value of a source without instances. -/
def monFeedAll (d : Device) (src : Nat) (v : Int) : Device :=
  (liveMonitors d).foldl (fun d h => if d.fg (F.MON_HIST_CFG_src h) == src then monPush d h v else d) d

end Sys2Proof.Machine
end

