-- ==== Sys2Proof/Machine/Frame.lean ====
section
/-! DEFINITION. Ethernet, IPv4, IPv6, UDP and ICMPv6 frames: reading their parts and building answers.  A frame is its bytes
from the destination address to the last byte before the FCS.  Header layouts are those of the protocols' own standards
(PRESUMED, log entry 20). -/

namespace Sys2Proof.Machine

/-! ### Checksums -/

/-- One byte into the CRC-32C register, least significant bit first (R568). -/
def crcByte (c : BitVec 32) (b : Byte) : BitVec 32 :=
  (List.range 8).foldl (fun c _ => if c.getLsbD 0 then (c >>> 1) ^^^ 0x82F63B78#32 else c >>> 1)
    (c ^^^ b.zeroExtend 32)

/-- R568: crc32c(data, init), without a final XOR. -/
def crc32c (bs : Bytes) (init : BitVec 32) : BitVec 32 := bs.foldl crcByte init

/-- The standard CRC-32C check value (R568). -/
def crcStd (bs : Bytes) : BitVec 32 := crc32c bs 0xFFFFFFFF#32 ^^^ 0xFFFFFFFF#32

/-- Sum of the 16-bit words of a byte string, an odd last byte padded. -/
def sum16 : Bytes → Nat
  | a :: b :: t => a.toNat * 256 + b.toNat + sum16 t
  | [a] => a.toNat * 256
  | [] => 0

/-- The ones' complement sum folded to 16 bits. -/
def fold16 (n : Nat) : Nat :=
  let a := n % 65536 + n / 65536
  let a := a % 65536 + a / 65536
  a % 65536 + a / 65536

/-- The Internet checksum of a byte string with an initial sum. -/
def inetSum (init : Nat) (bs : Bytes) : Nat := 65535 - fold16 (init + sum16 bs)

/-! ### Ethernet -/

/-- The link-layer part of a frame: addresses, VLAN tag, Ethertype and where the payload starts. -/
structure Eth where
  dst : Nat
  src : Nat
  /-- More than one tag, or a provider tag (R90, check 2). -/
  bad : Bool
  tag : Option Nat
  etype : Nat
  off : Nat
  deriving DecidableEq, Repr

def parseEth (f : Bytes) : Eth :=
  let t := beAt f 12 2
  let dst := beAt f 0 6
  let src := beAt f 6 6
  if t = 0x8100 then
    let t2 := beAt f 16 2
    { dst, src, bad := t2 == 0x8100 || t2 == 0x88A8, tag := some (beAt f 14 2), etype := t2, off := 18 }
  else { dst, src, bad := t == 0x88A8, tag := none, etype := t, off := 14 }

/-- An Ethernet header, with a tag when `tci` is given. -/
def ethHdr (dst src : Nat) (tci : Option Nat) (etype : Nat) : Bytes :=
  beBytes 6 dst ++ beBytes 6 src ++
  (match tci with | some t => beBytes 2 0x8100 ++ beBytes 2 t | none => []) ++ beBytes 2 etype

/-! ### IP -/

/-- An IPv4 address in the 16-byte form (R65). -/
def v4mapped (a : Nat) : Nat := 0xFFFF * 2 ^ 32 + a % 2 ^ 32

def isV4 (a : Nat) : Bool := a / 2 ^ 32 == 0xFFFF

/-- The network-layer part: whether check 4 of R90 passes, whether options or extension headers are present, and what
follows. -/
structure Ip where
  ok : Bool
  v6 : Bool
  opt : Bool
  src : Nat
  dst : Nat
  proto : Nat
  hop : Nat
  /-- Offset and length of the payload. -/
  off : Nat
  len : Nat
  deriving DecidableEq, Repr

def parseV4 (f : Bytes) (o : Nat) : Ip :=
  let ihl := byteAt f o % 16 * 4
  let tot := beAt f (o + 2) 2
  let ok := byteAt f o / 16 == 4 && decide (20 ≤ ihl) && decide (ihl ≤ tot) && decide (o + tot ≤ f.length) &&
    inetSum 0 (slice f o ihl) == 0 && beAt f (o + 6) 2 % 0x4000 == 0
  { ok, v6 := false, opt := decide (20 < ihl), src := v4mapped (beAt f (o + 12) 4), dst := v4mapped (beAt f (o + 16) 4),
    proto := byteAt f (o + 9), hop := byteAt f (o + 8), off := o + ihl, len := tot - ihl }

/-- Walk the extension headers: upper protocol, its offset, whether any was met, and whether one was a Fragment header. -/
def walkV6 : Nat → Bytes → Nat → Nat → Bool → Nat × Nat × Bool × Bool
  | 0, _, nh, o, ext => (nh, o, ext, false)
  | k + 1, f, nh, o, ext =>
    if nh = 44 then (nh, o, true, true)
    else if nh = 0 ∨ nh = 43 ∨ nh = 60 then walkV6 k f (byteAt f o) (o + 8 * (byteAt f (o + 1) + 1)) true
    else if nh = 51 then walkV6 k f (byteAt f o) (o + 4 * (byteAt f (o + 1) + 2)) true
    else if nh = 135 ∨ nh = 139 ∨ nh = 140 then walkV6 k f (byteAt f o) (o + 8 * (byteAt f (o + 1) + 1)) true
    else (nh, o, ext, false)

def parseV6 (f : Bytes) (o : Nat) : Ip :=
  let plen := beAt f (o + 4) 2
  let fits := decide (o + 40 + plen ≤ f.length) && decide (o + 40 ≤ f.length)
  let (nh, po, ext, frag) := walkV6 16 (f.take (o + 40 + plen)) (byteAt f (o + 6)) (o + 40) false
  { ok := byteAt f o / 16 == 6 && fits && !frag, v6 := true, opt := ext, src := beAt f (o + 8) 16, dst := beAt f (o + 24) 16,
    proto := nh, hop := byteAt f (o + 7), off := po, len := o + 40 + plen - po }

/-- R90, check 5: a source that is unusable, but for the service addresses themselves. -/
def badSource (v6 : Bool) (a : Nat) : Bool :=
  if v6 then a == 0 || a == 1 || a / 2 ^ 120 == 0xFF || isV4 a
  else
    let x := a % 2 ^ 32
    x == 0 || x / 2 ^ 24 == 127 || decide (224 ≤ x / 2 ^ 24)

/-- Sum of the pseudo header. -/
def pseudoSum (v6 : Bool) (src dst proto len : Nat) : Nat :=
  (if v6 then sum16 (beBytes 16 src) + sum16 (beBytes 16 dst) else sum16 (beBytes 4 src) + sum16 (beBytes 4 dst)) + proto + len

/-- Whether a checksum over the pseudo header and a payload is correct. -/
def l4Ok (f : Bytes) (ip : Ip) (len : Nat) : Bool :=
  inetSum (pseudoSum ip.v6 ip.src ip.dst ip.proto len) (slice f ip.off len) == 0

/-! ### UDP -/

/-- R90, check 7. -/
def udpOk (f : Bytes) (ip : Ip) : Bool :=
  let len := beAt f (ip.off + 4) 2
  decide (8 ≤ ip.len) && decide (8 ≤ len) && decide (len ≤ ip.len) && !(beAt f ip.off 2 == 0) &&
  (if beAt f (ip.off + 6) 2 = 0 then !ip.v6 else l4Ok f ip len)

/-- The UDP payload. -/
def udpPayload (f : Bytes) (ip : Ip) : Bytes := slice f (ip.off + 8) (beAt f (ip.off + 4) 2 - 8)

/-! ### Building -/

/-- An IPv4 header without options: DF set, identification 0. -/
def ipv4Hdr (dscp ttl proto src dst len : Nat) : Bytes :=
  let h (c : Nat) : Bytes := beBytes 1 0x45 ++ beBytes 1 (dscp * 4) ++ beBytes 2 (20 + len) ++ beBytes 2 0 ++ beBytes 2 0x4000 ++
    beBytes 1 ttl ++ beBytes 1 proto ++ beBytes 2 c ++ beBytes 4 src ++ beBytes 4 dst
  h (inetSum 0 (h 0))

/-- An IPv6 header with flow label 0. -/
def ipv6Hdr (dscp hop nh src dst len : Nat) : Bytes :=
  beBytes 4 (6 * 2 ^ 28 + dscp * 2 ^ 22) ++ beBytes 2 len ++ beBytes 1 nh ++ beBytes 1 hop ++ beBytes 16 src ++ beBytes 16 dst

def ipHdr (v6 : Bool) (dscp ttl proto src dst len : Nat) : Bytes :=
  if v6 then ipv6Hdr dscp ttl proto src dst len else ipv4Hdr dscp ttl proto src dst len

/-- A UDP datagram with its checksum; a computed 0 is sent as 0xFFFF. -/
def udpMsg (v6 : Bool) (src dst sport dport : Nat) (pl : Bytes) : Bytes :=
  let len := 8 + pl.length
  let h (c : Nat) : Bytes := beBytes 2 sport ++ beBytes 2 dport ++ beBytes 2 len ++ beBytes 2 c ++ pl
  let c := inetSum (pseudoSum v6 src dst 17 len) (h 0)
  h (if c = 0 then 0xFFFF else c)

/-- A whole UDP frame. -/
def udpFrame (dmac smac : Nat) (tci : Option Nat) (v6 : Bool) (dscp ttl src dst sport dport : Nat) (pl : Bytes) : Bytes :=
  let u := udpMsg v6 src dst sport dport pl
  ethHdr dmac smac tci (if v6 then 0x86DD else 0x0800) ++ ipHdr v6 dscp ttl 17 src dst u.length ++ u

/-- An ICMPv6 message with its checksum. -/
def icmp6 (src dst type code : Nat) (body : Bytes) : Bytes :=
  let h (c : Nat) : Bytes := beBytes 1 type ++ beBytes 1 code ++ beBytes 2 c ++ body
  h (inetSum (pseudoSum true src dst 58 (4 + body.length)) (h 0))

end Sys2Proof.Machine
end

