-- ==== Sys2Proof/Machine/Time.lean ====
section
/-! DEFINITION. Device Time: the tick, the increment, and the latch of a reading (R11 to R16). -/

namespace Sys2Proof.Machine

/-- The nominal increment, 1.25 ns in units of 2^-48 ns. -/
def incrNominal : Nat := 0x1400000000000

/-- R332: an increment within 1.25 ns × (1 ± 2 × 10^-5). -/
def incrInRange (v : Nat) : Bool :=
  decide ((incrNominal - v) * 50000 ≤ incrNominal) && decide ((v - incrNominal) * 50000 ≤ incrNominal)

/-- R11: the counter after `k` ticks of an increment. -/
def TimeSt.advance (t : TimeSt) (k : Nat) (incr : BitVec 56) : TimeSt := t.setNow (t.now + k * incr.toNat * 125)

/-- R11, R15: n ticks.  The first ends with the increment in force until then; a committed value is in force from the tick
that begins at its edge.  While Device Time is invalid the counter stands and only OSC_IN is counted, while it is present (log
entry 9).  Nothing runs while PD_TIME is off or in reset. (UNVERIFIED, log entry 9.) -/
def xTimeTick (n : Nat) (d : Device) : Device :=
  if n = 0 ∨ ¬ d.powered 8 then d
  else if d.dtInvalid then { d with tm := { d.tm with osc := d.tm.osc + if (d.fg F.PWR_PLL_STATUS).testBit 16 then n else 0 } }
  else
    let t := d.tm.advance 1 d.tm.incr
    let incr := d.tm.commit.getD d.tm.incr
    let t := t.advance (n - 1) incr
    let run := t.run + d.tm.incr.toNat * 125 + (n - 1) * incr.toNat * 125
    { d with tm := { t with incr, commit := none, ticks := t.ticks + n, run, osc := t.osc + n } }

/-- R15, R332: a host write to TB_INCR_LO stages the low word, in MANUAL only. -/
def xTbIncrLoWrite (w : Word) (d : Device) : Device :=
  if d.fb F.TB_TBC_manual then { d with tm := { d.tm with stagedLo := w } } else d

/-- R15, R332: a host write to TB_INCR_HI commits both words at the next tick edge, in MANUAL only; a value out of range
is ignored and sets incr_err. -/
def xTbIncrHiWrite (w : Word) (d : Device) : Device :=
  if d.fb F.TB_TBC_manual then
    let v : BitVec 56 := BitVec.ofNat 56 (bits w.toNat 0 24 * 2 ^ 32 + d.tm.stagedLo.toNat)
    if incrInRange v.toNat then { d with tm := { d.tm with commit := some v } } else d.set1 F.TB_TBS_incr_err
  else d

/-- R16: a read of TB_NOW_SEC_LO latches all 126 bits of Device Time into PF0's latch and returns the low word. -/
def xTbNowRead (d : Device) : Device :=
  let t := d.tm
  let d := d.wn2 R.TB_NOW_SEC_LO R.TB_NOW_SEC_HI t.sec.toNat
  let d := d.wn R.TB_NOW_NS t.ns.toNat
  let d := d.wn2 R.TB_NOW_FRAC_LO R.TB_NOW_FRAC_HI t.frac.toNat
  d.emit (.hostRead (BitVec.ofNat 32 t.sec.toNat))

/-! ### The commands of this file -/

/-- TB_INCR_LO_WRITE (R15). -/
def execTbIncrLoWrite (w : Word) (s : State) : Host.Outcome State Fault Refusal :=
  finish s (hostWrite R.TB_INCR_LO (xTbIncrLoWrite w) s.dev)

/-- TB_INCR_HI_WRITE (R15). -/
def execTbIncrHiWrite (w : Word) (s : State) : Host.Outcome State Fault Refusal :=
  finish s (hostWrite R.TB_INCR_HI (xTbIncrHiWrite w) s.dev)

/-- TB_NOW_READ (R16). -/
def execTbNowRead (s : State) : Host.Outcome State Fault Refusal :=
  finish s (hostRead R.TB_NOW_SEC_LO xTbNowRead s.dev)

/-- TIME_TICK (R11). -/
def execTimeTick (n : Nat) (s : State) : Host.Outcome State Fault Refusal :=
  finish s (xTimeTick n s.dev)

end Sys2Proof.Machine
end

