-- ==== Sys2Proof/Machine/Leap.lean ====
section
/-! DEFINITION. Time scales and leap seconds: the table and its commit (R21 to R28), satellite UTC parameters (R27, R285),
the NTP conversion (R20), and the leap smear (R29, R30). -/

namespace Sys2Proof.Machine

/-! ### The table and the offset in force -/

/-- R22: the staged valid entries in ascending order of eff_sec. -/
def stagedLeap (d : Device) : List LeapEntry :=
  sortBy (·.eff) ((List.range 32).filterMap fun n =>
    if d.fb (F.TB_LEAP_HI_valid n) then
      some { eff := d.rn (R.TB_LEAP_LO n) + 2 ^ 32 * d.fg (F.TB_LEAP_HI_eff_hi n),
             taiUtc := d.fg (F.TB_LEAP_HI_tai_utc n) }
    else none)

/-- R26: the offset of the entry with the greatest eff_sec at or below a second. -/
def offsetAt (tbl : List LeapEntry) (s : Nat) : Option Nat :=
  tbl.foldl (fun r e => if e.eff ≤ s then some e.taiUtc else r) none

/-- The most frequent value, when more than half of the list carries it. -/
def majority (l : List (Nat × Nat × Nat)) : Option (Nat × Nat × Nat) :=
  l.find? fun v => decide (l.length < 2 * (l.filter (· == v)).length)

/-- R285: the satellite parameters chosen across systems, each item by itself: the common or majority value, else that of GPS
(the lowest system decoded). (DESIGN CHOICE, log entry 13.) -/
def utcChosen (d : Device) : Option UtcParams :=
  match d.tm.utc with
  | [] => none
  | u :: us =>
    let all := u :: us
    let cur := (majority (all.map fun p => (p.taiUtc, 0, 0))).getD (u.taiUtc, 0, 0)
    let ann := (majority (all.map fun p => (p.nextTaiUtc, p.effSec, 0))).getD (u.nextTaiUtc, u.effSec, 0)
    some { sys := u.sys, taiUtc := cur.1, nextTaiUtc := ann.1, effSec := ann.2.1 }

/-- Any two systems decoded disagree (R285). -/
def utcConflict (d : Device) : Bool :=
  match d.tm.utc with
  | [] => false
  | u :: us => us.any fun p => !(p.taiUtc == u.taiUtc && p.nextTaiUtc == u.nextTaiUtc && p.effSec == u.effSec)

/-- TB_LEAP_CTL.src with 3 treated as 1 (R24). -/
def leapSrc (d : Device) : Nat := let v := d.fg F.TB_LEAP_CTL_src; if v = 3 then 1 else v

/-- The entries that govern the offset: under GNSS the decoded parameters once there are any; else the table in force with the
entries adopted from satellites (R26, R27). -/
def leapTable (d : Device) : List LeapEntry :=
  match (if leapSrc d = 2 then utcChosen d else none) with
  | some u =>
    let base : List LeapEntry := [{ eff := 0, taiUtc := u.taiUtc }]
    if u.nextTaiUtc = u.taiUtc then base else base ++ [{ eff := u.effSec, taiUtc := u.nextTaiUtc }]
  | none => sortBy (·.eff) ((d.tm.leap.getD []) ++ d.tm.leapAdopted)

/-- The offset in force, if any (R26). -/
def offsetNow (d : Device) : Option Nat := offsetAt (leapTable d) d.nowSec

/-- Entries with the offset before them: eff_sec, old offset, new offset. -/
def leapsOf : List LeapEntry → List (Nat × Nat × Nat)
  | a :: b :: t => (b.eff, a.taiUtc, b.taiUtc) :: leapsOf (b :: t)
  | _ => []

/-! ### Conversions -/

/-- R20: L for NTP in TAI second `s`: during an inserted leap second already the new offset; 0 when none is in force. -/
def offsetNtp (tbl : List LeapEntry) (s : Nat) : Nat :=
  match (leapsOf tbl).find? fun e => e.1 == s + 1 && e.2.2 == e.2.1 + 1 with
  | some e => e.2.2
  | none => (offsetAt tbl s).getD 0

/-- Seconds and fraction of a UTC count in 2^-16 ns, as a 64-bit NTP timestamp with the era dropped (R20). -/
def ntpOfCount (utcSec sub : Nat) : Nat :=
  let f := divNear (sub * 2 ^ 32) (65536 * 1000000000)
  let sec := utcSec + 2208988800 + f / 2 ^ 32
  sec % 2 ^ 32 * 2 ^ 32 + f % 2 ^ 32

/-- R19, R20: the NTP timestamp of an instant. -/
def ntpOf (d : Device) (t : Inst) : Nat :=
  let n := dtSub t
  let s := n / (65536 * 1000000000)
  ntpOfCount (s - offsetNtp (leapTable d) s) (n % (65536 * 1000000000))

/-! ### Smear -/

/-- S and S + W of a leap at eff_sec E (R29). -/
def smearSpan (d : Device) (e : Nat) : Inst × Inst :=
  let w := d.fg F.TB_SMEAR_WIN * secU
  let s := e * secU - if d.fb F.TB_SMEAR_CTL_mode then w / 2 else w
  (s, s + w)

/-- The leap whose window holds an instant, with `early` time units before S counted in. -/
def smearLeap (d : Device) (t early : Inst) : Option (Nat × Nat × Nat) :=
  (leapsOf (leapTable d)).find? fun e =>
    decide ((smearSpan d e.1).1 ≤ t + early) && decide (t < (smearSpan d e.1).2)

/-- R29: the smeared NTP timestamp of an instant. -/
def ntpSmeared (d : Device) (t : Inst) : Nat :=
  match smearLeap d t 0 with
  | none => ntpOf d t
  | some (e, l0, l1) =>
    let (s, s') := smearSpan d e
    let q : Rat := ((t - s : Nat) : Rat) / ((s' - s : Nat) : Rat)
    let dir : Rat := ((l1 : Int) - (l0 : Int) : Int)
    let x : Int := roundQ ((t : Rat) / (subU : Rat) - (l0 : Rat) * 65536000000000 - dir * q * 65536000000000)
    ntpOfCount (x.toNat / (65536 * 1000000000)) (x.toNat % (65536 * 1000000000))

/-- From 1 s before S until the window ends (R30). -/
def smearDenied (d : Device) : Bool := (smearLeap d d.now secU).isSome

/-- TB_STATUS.smear_active as R14 and R29 give it. -/
def smearNow (d : Device) : Bool := d.fb F.TB_SMEAR_CTL_enable && (smearLeap d d.now 0).isSome

/-! ### Status fields -/

/-- A leap the satellites announce that is still ahead. -/
def announced (d : Device) : Option (Nat × Nat) :=
  match utcChosen d with
  | some u => if !(u.nextTaiUtc == u.taiUtc) && decide (d.nowSec < u.effSec) then some (u.effSec, u.nextTaiUtc) else none
  | none => none

/-- tai_utc_now, utc_valid and table_valid follow the offset in force; gnss_pending ends with the announced leap. -/
def refreshOffset (d : Device) : Device :=
  let o := offsetNow d
  let d := d.fs F.TB_LEAP_STATUS_tai_utc_now (o.getD 0)
  let d := d.fsb F.TB_STATUS_utc_valid o.isSome
  let d := d.fsb F.TB_LEAP_STATUS_gnss_pending (announced d).isSome
  d.fsb F.TB_LEAP_STATUS_table_valid d.tm.leap.isSome

/-- The next leap: eff_sec, old and new offset. -/
def nextLeap (d : Device) : Option (Nat × Nat × Nat) := (leapsOf (leapTable d)).find? fun e => decide (d.nowSec < e.1)

/-- R14: leap_pending from 00:00:00 UTC of the last UTC day before the next entry takes effect, and its direction; with none pending the direction
reads 0. (DEDUCED, log entry 15.) -/
def refreshPending (d : Device) : Device :=
  match nextLeap d with
  | some (e, l0, l1) =>
    if e + l0 - l1 - 86400 ≤ d.nowSec then (d.set1 F.TB_STATUS_leap_pending).fsb F.TB_STATUS_leap_dir (decide (l1 < l0))
    else (d.clr F.TB_STATUS_leap_pending).clr F.TB_STATUS_leap_dir
  | none => (d.clr F.TB_STATUS_leap_pending).clr F.TB_STATUS_leap_dir

/-- R25, R28: stale while Device Time is past a non-zero expiry. (DEDUCED, log entry 15.) -/
def refreshStale (d : Device) : Device :=
  d.fsb F.TB_LEAP_STATUS_stale (!(d.tm.expiry == 0) && decide (d.tm.expiry * secU < d.now))

def refreshSmear (d : Device) : Device := d.fsb F.TB_STATUS_smear_active (smearNow d)

/-- Every field that follows the table and Device Time. -/
def refreshLeap (d : Device) : Device := refreshSmear (refreshStale (refreshPending (refreshOffset d)))

/-! ### Commit (R22, R23) -/

def gapsOk : List LeapEntry → Bool
  | a :: b :: t => decide (a.eff + 2419200 ≤ b.eff) && gapsOk (b :: t)
  | _ => true

def stepsOk : List LeapEntry → Bool
  | a :: b :: t => (a.taiUtc == b.taiUtc + 1 || b.taiUtc == a.taiUtc + 1) && stepsOk (b :: t)
  | _ => true

def midnightOk (l : List LeapEntry) : Bool :=
  l.all fun e => decide (e.taiUtc ≤ e.eff) && (e.eff - e.taiUtc) % 86400 == 0

/-- The two tables give the same offset for every instant up to Device Time plus 2 s. -/
def pastSame (d : Device) (old new : List LeapEntry) : Bool :=
  (old ++ new).all fun e => !decide (e.eff * secU ≤ d.now + 2 * secU) || offsetAt old e.eff == offsetAt new e.eff

/-- Either table has an entry after Device Time and no later than 2 s on. -/
def leapSoon (d : Device) (old new : List LeapEntry) : Bool :=
  (old ++ new).any fun e => decide (d.now < e.eff * secU) && decide (e.eff * secU ≤ d.now + 2 * secU)

/-- R22: the checks but SEALED, in order: 0 passed, 1 ORDER, 2 STEP, 3 NOT_MIDNIGHT, 4 PAST_CHANGE. -/
def leapCheck (d : Device) (new : List LeapEntry) (force : Bool) : Nat :=
  if !gapsOk new then 1
  else if !stepsOk new then 2
  else if !midnightOk new then 3
  else match d.tm.leap with
    | none => 0
    | some old => if pastSame d old new || (force && !leapSoon d old new) then 0 else 4

/-- A commit write: the staged table waits for the next second boundary, or the first failure is recorded and counted. -/
def leapCommit (d : Device) (force : Bool) : Device :=
  let new := stagedLeap d
  let e := if d.fb F.TB_LEAP_CTL_sealed_only then 5 else leapCheck d new force
  let d := d.fs F.TB_LEAP_STATUS_commit_err e
  if e = 0 then { d with tm := { d.tm with leapNext := some (new, d.nowSec + 1, force) } }
  else d.cnt K.TB_LEAP_REFUSED

/-- A table comes into force; a forced one that changes the offset in force writes a Ledger record and sets stepped (R23). -/
def putLeapTable (d : Device) (new : List LeapEntry) (forced : Bool) : Device :=
  let old := offsetNow d
  let d := { d with tm := { d.tm with leap := some new, leapNext := none, leapAdopted := [] } }
  let d := if forced && !(offsetNow d == old) then
      (d.ledger L.leapForced 0 (old.getD 0) ((offsetNow d).getD 0)).set1 F.TB_STATUS_stepped
    else d
  refreshLeap d

/-! ### Comparison with satellite parameters (R27) -/

/-- The mismatch between the table in force and the chosen parameters, if there is one. -/
def leapMismatch (d : Device) : Option (Nat × Nat × Nat) :=
  match d.tm.leap, utcChosen d with
  | some tbl, some u =>
    let curBad := !((offsetAt tbl d.nowSec).getD 0 == u.taiUtc)
    let annBad := match announced d with
      | some (e, l) => !(tbl.any fun x => x.eff == e && x.taiUtc == l)
      | none => false
    if curBad || annBad then some (u.taiUtc, u.nextTaiUtc, u.effSec) else none
  | _, _ => none

/-- R27: compare; under HOST no comparison is made; under HOST_CHECKED with a stale table a later announced leap is adopted. -/
def leapCompare (d : Device) : Device :=
  if leapSrc d = 0 then d
  else
    let d := match leapMismatch d with
      | some m =>
        let d := d.set1 F.TB_LEAP_STATUS_leapdis
        if d.tm.leapSeen.contains m then d
        else ({ d with tm := { d.tm with leapSeen := m :: d.tm.leapSeen } }).ledger L.leapDisagree 0
          (((d.tm.leap.map fun t => offsetAt t d.nowSec).getD none).getD 0) m.1
      | none => d
    match announced d with
    | some (e, l) =>
      if leapSrc d = 1 && d.fb F.TB_LEAP_STATUS_stale && decide (d.tm.expiry < e) then
        { d with tm := { d.tm with leapAdopted :=
          (d.tm.leapAdopted.filter fun x => decide (x.eff ≤ d.nowSec)) ++ [{ eff := e, taiUtc := l }] } }
      else d
    | none => d

/-! ### Commands -/

/-- R22: a write of 1 to TB_LEAP_CTL.commit. -/
def xLeapCommit (d : Device) : Device := leapCommit d false

/-- R22, R23: commit together with force. -/
def xLeapForceCommit (d : Device) : Device := leapCommit d true

/-- R22: at its second boundary the accepted table replaces the table in force. -/
def xLeapTableInForce (d : Device) : Device :=
  match d.tm.leapNext with
  | some (t, s, f) => if !d.dtInvalid && decide (s ≤ d.nowSec) then putLeapTable d t f else d
  | none => d

/-- R26: Device Time has reached an entry's eff_sec: its offset is in force and leap_pending clears. -/
def xLeapOffsetChange (d : Device) : Device := if d.dtInvalid then d else refreshPending (refreshOffset d)

/-- R14: leap_pending and leap_dir from the last UTC day before the next entry. -/
def xLeapPendingStart (d : Device) : Device := if d.dtInvalid then d else refreshPending d

/-- An ignored write to a SEAL field that would change it counts (R8). -/
def sealCount (d : Device) (differs : Bool) : Device :=
  if differs then d.wn R.SEC_SEAL_WRITES (min (2 ^ 32 - 1) (d.rn R.SEC_SEAL_WRITES + 1)) else d

/-- R28: a write to TB_LEAP_EXPIRY_LO stages the low word, or is ignored and counted while sealed_only is 1. -/
def xLeapExpiryLoWrite (w : Word) (d : Device) : Device :=
  if d.fb F.TB_LEAP_CTL_sealed_only then sealCount d (!(w.toNat == d.tm.expiry % 2 ^ 32))
  else { d with tm := { d.tm with expiryStaged := w } }

/-- R28: a write to TB_LEAP_EXPIRY_HI puts both words in force. -/
def xLeapExpiryHiWrite (w : Word) (d : Device) : Device :=
  let hi := bits w.toNat 0 16
  if d.fb F.TB_LEAP_CTL_sealed_only then sealCount d (!(hi == d.tm.expiry / 2 ^ 32))
  else refreshStale { d with tm := { d.tm with expiry := hi * 2 ^ 32 + d.tm.expiryStaged.toNat } }

/-- R25, R27: Device Time passes the expiry; the satellites' announcement is judged again. -/
def xLeapTableStale (d : Device) : Device :=
  if d.dtInvalid then d
  else
    let d := refreshStale d
    if d.fb F.TB_LEAP_STATUS_stale then refreshLeap (leapCompare d) else d

/-- R27, R285: newly decoded parameters of one system. -/
def xGnssUtcDecode (p : UtcParams) (d : Device) : Device :=
  if p.sys < 3 then
    let utc := sortBy (·.sys) (p :: d.tm.utc.filter fun q => !(q.sys == p.sys))
    let d := { d with tm := { d.tm with utc } }
    let f : Fld := if p.sys = 0 then F.GNSS_UTC_gps else if p.sys = 1 then F.GNSS_UTC_gal else F.GNSS_UTC_bds
    let d := d.fs f p.taiUtc
    let d := d.fsb F.GNSS_STATUS_utc_conflict (utcConflict d)
    let d := if utcConflict d then d.pulse S.GNSS_UTC else d
    let d := d.fs F.TB_LEAP_STATUS_gnss_tai_utc (((utcChosen d).map (·.taiUtc)).getD 0)
    refreshLeap (leapCompare d)
  else d

/-- R30: a write to TB_SMEAR_CTL. -/
def xSmearCtlWrite (w : Word) (d : Device) : Device :=
  if smearDenied d && (d.fb F.TB_SMEAR_CTL_enable || w.getLsbD 31) then d.cnt K.TB_SMEAR_DENIED
  else refreshSmear ((d.fsb F.TB_SMEAR_CTL_enable (w.getLsbD 31)).fsb F.TB_SMEAR_CTL_mode (w.getLsbD 8))

/-- R30: a write to TB_SMEAR_WIN; out-of-range values are ignored. -/
def xSmearWinWrite (w : Word) (d : Device) : Device :=
  let v := bits w.toNat 0 18
  if smearDenied d && d.fb F.TB_SMEAR_CTL_enable then d.cnt K.TB_SMEAR_DENIED
  else if 3600 ≤ v ∧ v ≤ 172800 then refreshSmear (d.fs F.TB_SMEAR_WIN v)
  else d

/-- R29: at S with smearing enabled, smear_active becomes 1. -/
def xSmearWindowStart (d : Device) : Device := if smearNow d && !d.dtInvalid then d.set1 F.TB_STATUS_smear_active else d

/-- R29: at S + W, smear_active becomes 0. -/
def xSmearWindowEnd (d : Device) : Device := if smearNow d || d.dtInvalid then d else d.clr F.TB_STATUS_smear_active

/-! ### The commands of this file -/

/-- LEAP_COMMIT (R22). -/
def execLeapCommit (s : State) : Host.Outcome State Fault Refusal :=
  finish s (hostWrite R.TB_LEAP_CTL xLeapCommit s.dev)

/-- LEAP_FORCE_COMMIT (R23). -/
def execLeapForceCommit (s : State) : Host.Outcome State Fault Refusal :=
  finish s (hostWrite R.TB_LEAP_CTL xLeapForceCommit s.dev)

/-- LEAP_TABLE_IN_FORCE (R22). -/
def execLeapTableInForce (s : State) : Host.Outcome State Fault Refusal :=
  finish s (xLeapTableInForce s.dev)

/-- LEAP_OFFSET_CHANGE (R26). -/
def execLeapOffsetChange (s : State) : Host.Outcome State Fault Refusal :=
  finish s (xLeapOffsetChange s.dev)

/-- LEAP_PENDING_START (R14). -/
def execLeapPendingStart (s : State) : Host.Outcome State Fault Refusal :=
  finish s (xLeapPendingStart s.dev)

/-- LEAP_EXPIRY_LO_WRITE (R28). -/
def execLeapExpiryLoWrite (w : Word) (s : State) : Host.Outcome State Fault Refusal :=
  finish s (hostWrite R.TB_LEAP_EXPIRY_LO (xLeapExpiryLoWrite w) s.dev)

/-- LEAP_EXPIRY_HI_WRITE (R28). -/
def execLeapExpiryHiWrite (w : Word) (s : State) : Host.Outcome State Fault Refusal :=
  finish s (hostWrite R.TB_LEAP_EXPIRY_HI (xLeapExpiryHiWrite w) s.dev)

/-- LEAP_TABLE_STALE (R25). -/
def execLeapTableStale (s : State) : Host.Outcome State Fault Refusal :=
  finish s (xLeapTableStale s.dev)

/-- GNSS_UTC_DECODE (R27). -/
def execGnssUtcDecode (p : UtcParams) (s : State) : Host.Outcome State Fault Refusal :=
  finish s (xGnssUtcDecode p s.dev)

/-- SMEAR_CTL_WRITE (R30). -/
def execSmearCtlWrite (w : Word) (s : State) : Host.Outcome State Fault Refusal :=
  finish s (hostWrite R.TB_SMEAR_CTL (xSmearCtlWrite w) s.dev)

/-- SMEAR_WIN_WRITE (R30). -/
def execSmearWinWrite (w : Word) (s : State) : Host.Outcome State Fault Refusal :=
  finish s (hostWrite R.TB_SMEAR_WIN (xSmearWinWrite w) s.dev)

/-- SMEAR_WINDOW_START (R29). -/
def execSmearWindowStart (s : State) : Host.Outcome State Fault Refusal :=
  finish s (xSmearWindowStart s.dev)

/-- SMEAR_WINDOW_END (R29). -/
def execSmearWindowEnd (s : State) : Host.Outcome State Fault Refusal :=
  finish s (xSmearWindowEnd s.dev)

end Sys2Proof.Machine
end

