-- ==== Sys2Proof/Machine/Serve.lean ====
section
/-! DEFINITION. Serving requests, the parts lanes and classifiers share: service addresses and VLANs (R86 to R89), the client
table (R99 to R102), KoD (R105), the NTP response (R96, R97), steering and placing (R65, R66), and the admission meter
(R107 to R110). -/

namespace Sys2Proof.Machine

/-! ### Service addresses, VLANs, MACs -/

def SaEntry.valid (e : SaEntry) : Bool := e.attr.getLsbD 31
def SaEntry.owned (e : SaEntry) : Bool := e.attr.getLsbD 30
def SaEntry.vlan (e : SaEntry) : Nat := bits e.attr.toNat 24 6
def SaEntry.macSel (e : SaEntry) : Nat := bits e.attr.toNat 20 4
def SaEntry.prof (e : SaEntry) : Nat := bits e.attr.toNat 16 4
def SaEntry.onPort (e : SaEntry) (p : Nat) : Bool := decide (p < 16) && e.attr.getLsbD p
def SaEntry.hop (e : SaEntry) : Nat := let h := bits e.svc.toNat 24 8; if h = 0 then 64 else h
def SaEntry.dscp (e : SaEntry) : Nat := bits e.svc.toNat 16 6
def SaEntry.arp (e : SaEntry) : Bool := e.svc.getLsbD 4
def SaEntry.smear (e : SaEntry) : Bool := e.svc.getLsbD 3
def SaEntry.ptp (e : SaEntry) : Bool := e.svc.getLsbD 2
def SaEntry.nts (e : SaEntry) : Bool := e.svc.getLsbD 1
def SaEntry.ntp (e : SaEntry) : Bool := e.svc.getLsbD 0

/-- R418: while the member is FENCED the classifiers treat every entry as not owned. -/
def ownedNow (d : Device) (e : SaEntry) : Bool := e.owned && !(d.fg F.PAIR_STATUS_role == 4)

def saOf (d : Device) (i : Nat) : SaEntry := amGet SaEntry.init d.cls.sa i

/-- R89: the index of the VLAN entry a frame matches. -/
def matchVlan (d : Device) (tag : Option Nat) : Option Nat :=
  let vid := (tag.map (· % 4096)).getD 0
  if vid = 0 then
    (List.range 64).find? fun v => d.fb (F.CLS_VLAN_valid v) && d.fb (F.CLS_VLAN_untagged v)
  else
    (List.range 64).find? fun v => d.fb (F.CLS_VLAN_valid v) && !d.fb (F.CLS_VLAN_untagged v) && d.fg (F.CLS_VLAN_vid v) == vid

/-- The tag of answers on a VLAN entry: its PCP and VID, or none for an untagged entry. -/
def vlanTci (d : Device) (v : Nat) : Option Nat :=
  if d.fb (F.CLS_VLAN_untagged v) then none else some (d.fg (F.CLS_VLAN_pcp v) * 8192 + d.fg (F.CLS_VLAN_vid v))

/-- A port's own MAC address. -/
def portMac (d : Device) (p : Nat) : Nat := bits (d.rn (R.PORT_MAC_HI p)) 0 16 * 2 ^ 32 + d.rn (R.PORT_MAC_LO p)

/-- CLS_MACm. -/
def clsMac (d : Device) (m : Nat) : Nat := bits (d.rn (R.CLS_MAC_HI m)) 0 16 * 2 ^ 32 + d.rn (R.CLS_MAC_LO m)

/-- The source MAC of an entry's answers on a port (R88). -/
def saMac (d : Device) (e : SaEntry) (port : Nat) : Nat := if e.macSel = 0 then portMac d port else clsMac d e.macSel

/-- The valid, owned entry of an address on a VLAN entry and port. -/
def findSa (d : Device) (a vlan port : Nat) : Option (Nat × SaEntry) :=
  d.cls.sa.find? fun e => e.2.valid && ownedNow d e.2 && e.2.addr.toNat == a && e.2.vlan == vlan && e.2.onPort port

/-- Any valid entry of an address. -/
def isService (d : Device) (a : Nat) : Bool := d.cls.sa.any fun e => e.2.valid && e.2.addr.toNat == a

/-- R85: not_ready. -/
def notReady (d : Device) : Bool := !d.fb F.TB_STATUS_dt_set || d.dtInvalid

/-! ### Rate profiles and the client table -/

/-- R104: the preferred prefix of a source: the longest match, the lowest index among equals. -/
def prefOf (d : Device) (a : Nat) : Option Nat :=
  let hit (p : Nat) : Bool :=
    let len := min 128 (d.fg (F.CLS_PREF_CTL_len p))
    let w := beVal ((List.range 4).flatMap fun i => beBytes 4 (d.rn (R.CLS_PREF_ADDR p i)))
    d.fb (F.CLS_PREF_CTL_valid p) && a / 2 ^ (128 - len) == w / 2 ^ (128 - len)
  leastBy (fun p => 128 - min 128 (d.fg (F.CLS_PREF_CTL_len p))) ((List.range 16).filter hit)

/-- R99: index and tag of a client. -/
def ctIndex (d : Device) (a : Nat) : Nat :=
  (crc32c (beBytes 16 a) (d.rd R.CLS_CT_SEED) ^^^ 0xFFFFFFFF#32).toNat % 2 ^ 26

def ctTag (d : Device) (a : Nat) : BitVec 32 :=
  crc32c (beBytes 16 a) (d.rd R.CLS_CT_SEED ^^^ 0xFFFFFFFF#32) ^^^ 0xFFFFFFFF#32

/-- An instant in units of 62.5 ns (R101). -/
def in62 (t : Inst) : Nat := t / secU * 16000000 + t % secU / nsU * 16 / 1000

/-- What a fold answers. -/
inductive FoldRes where
  | within
  | overBudget
  | overKodOk
  deriving DecidableEq, Repr

/-- The entry a fold starts from: the client's own, or a new one (R101). -/
def foldEntry (d : Device) (a : Nat) (t2 : Inst) : CtEntry × Bool :=
  let e := amGet CtEntry.init d.cls.ct (ctIndex d a)
  let sec := BitVec.ofNat 32 (t2 / secU)
  let old := decide (max 1 (d.fg F.CLS_CT_CTL_expire) < (sec - e.lastSec).toNat)
  if e.valid && e.tag == ctTag d a && !old then (e, false)
  else ({ CtEntry.init with valid := true, tag := ctTag d a, firstSec := sec, tat := BitVec.ofNat 64 (in62 t2) },
        e.valid && !(e.tag == ctTag d a) && !old)

/-- R101: charge one NTP request of a client. -/
def foldClient (d : Device) (a : Nat) (t2 : Inst) (prof : Nat) (pref nts : Bool) : FoldRes × Device :=
  let now := in62 t2
  let kq := now / 62500
  let (e, evict) := foldEntry d a t2
  let d := if evict then
      let d := d.cnt K.CLS_CT_EVICT
      (d.wn (R.TROUGH_POOL_DROPS 3) (satU 32 (d.rn (R.TROUGH_POOL_DROPS 3) + 1))).set1 F.TROUGH_STATUS_drop_evt
    else d
  let e := { e with lastSec := BitVec.ofNat 32 (t2 / secU), prof := BitVec.ofNat 4 prof, pref, nts,
                    req := BitVec.ofNat 32 (satU 32 (e.req.toNat + 1)) }
  let t := d.rn (R.CLS_RATE_INT prof)
  let b := max 1 (bits (d.rn (R.CLS_RATE_BURST prof)) 0 16)
  let gap := d.fg F.CLS_KOD_CTL_gap
  let (r, e) : FoldRes × CtEntry :=
    if t = 0 ∨ !d.fb F.CLS_CT_CTL_en then (.within, e)
    else if now + (b - 1) * t < e.tat.toNat then
      let e := { e with overBudget := BitVec.ofNat 16 (satU 16 (e.overBudget.toNat + 1)) }
      if gap = 0 ∨ !e.kodValid ∨ gap * 256 / 100 ≤ (BitVec.ofNat 32 kq - e.kodLast).toNat then
        (.overKodOk, { e with kodLast := BitVec.ofNat 32 kq, kodValid := true })
      else (.overBudget, e)
    else (.within, { e with tat := BitVec.ofNat 64 (max e.tat.toNat now + t) })
  (r, { d with cls := { d.cls with ct := amSet CtEntry.init d.cls.ct (ctIndex d a) e } })

/-- R105: take a token of the global KoD bucket, which holds at most 1 ms of refill and never less than 1 token. -/
def kodToken (d : Device) : Bool × Device :=
  let rate := d.fg F.CLS_KOD_CTL_rate
  let cap := max 1 rate * secU
  let lvl := min cap (d.cls.kodLevel + rate * 1000 * (d.now - d.cls.kodAt))
  let ok := d.fb F.CLS_KOD_CTL_en && !(rate == 0) && decide (secU ≤ lvl)
  (ok, { d with cls := { d.cls with kodLevel := if ok then lvl - secU else lvl, kodAt := d.now } })

/-- A KoD was sent to a client: counted, and in its entry (R105). -/
def kodSent (d : Device) (a : Nat) : Device :=
  let i := ctIndex d a
  let e := amGet CtEntry.init d.cls.ct i
  let d := d.cnt K.CLS_KOD_SENT
  if e.valid && e.tag == ctTag d a then
    { d with cls := { d.cls with ct := amSet CtEntry.init d.cls.ct i { e with kods := BitVec.ofNat 8 (satU 8 (e.kods.toNat + 1)) } } }
  else d

/-! ### The NTP response -/

/-- ASCII text of up to four characters as a reference ID (R234). -/
def refChars (s : String) : Nat := beVal (padTo 4 (ascii s))

/-- The reference ID of an upstream address (R97). -/
def addrRefId (a : Nat) : Nat := if isV4 a then a % 2 ^ 32 else beVal ((md5 (beBytes 16 a)).take 4)

/-- The upstream address of a PTP instance or an NTP slot. -/
def ntpUpstream (d : Device) (n : Nat) : Nat := beVal ((List.range 4).flatMap fun j => beBytes 4 (d.rn (R.REF_NTP_ADDR n j)))

def ptpUpstream (d : Device) (i : Nat) : Nat := beVal ((List.range 4).flatMap fun j => beBytes 4 (d.rn (R.CLS_PTP_UP i j)))

/-- The automatic reference ID of a slot by its type (R97, R234). -/
def autoRefId (d : Device) (n : Nat) : Nat :=
  match d.fg (F.REF_CFG_type n) with
  | 1 => (["GNSS", "GPS", "GAL", "BDS"].map refChars).getD (d.fg (F.REF_CFG_src n)) 0
  | 2 => refChars "PPS"
  | 3 => refChars "PPS"
  | 4 => refChars "FREQ"
  | 5 => refChars "SYNC"
  | 6 =>
    match (List.range 8).find? fun i => d.fg (F.CLS_PTP_SA_refslot i) == n && d.fb (F.CLS_PTP_PORTS_client i) with
    | some i => if d.fg (F.CLS_PTP_CFG_transport i) = 0 then refChars "PTP" else addrRefId (ptpUpstream d i)
    | none => refChars "PTP"
  | 7 => addrRefId (ntpUpstream d n)
  | 8 => d.refs.partnerNtp.2.1
  | _ => 0

/-- Stratum, reference ID and root delay of a selected slot (R97). -/
def slotIdent (d : Device) (n : Nat) : Nat × Nat × Nat :=
  if n = 31 then d.refs.partnerNtp
  else
    let st := max 1 (d.fg (F.CLS_REF_STRAT n))
    let id := d.rn (R.CLS_REF_ID n)
    let delay := 2 * amGet 0 d.refs.delay n
    (st, if id = 0 then autoRefId d n else id, if st = 1 then 0 else (delay * 65536 + 999999999999) / 1000000000000)

/-- LI, stratum, reference ID and root delay of responses now; none where none is sent (R97). -/
def ntpIdent (d : Device) (smeared : Bool) : Option (Nat × Nat × Nat × Nat) :=
  let li := if smeared || !d.fb F.TB_STATUS_leap_pending then 0 else if d.fb F.TB_STATUS_leap_dir then 2 else 1
  let mode := d.fg F.TB_SEL_STATUS_mode
  if !d.fb F.TB_STATUS_utc_valid || !d.fb F.TB_STATUS_time_valid then
    let rid := if mode = 1 ∨ mode = 2 then (slotIdent d (d.fg F.TB_SEL_STATUS_slot)).2.1
      else (d.cls.lastSel.map (·.2.1)).getD 0x494E4954
    if d.unsync then some (3, 16, rid, 0) else none
  else if mode = 1 ∨ mode = 2 then
    let s := slotIdent d (d.fg F.TB_SEL_STATUS_slot)
    some (li, s.1, s.2.1, s.2.2)
  else
    let s := d.cls.lastSel.getD (16, 0x494E4954, 0)
    some (li, s.1, s.2.1, s.2.2)

/-- The poll octet clamped (R96). -/
def clampPoll (d : Device) (p : Nat) : Nat :=
  (max ((d.fg F.CLS_NTP_CTL_poll_min : Nat) : Int) (min ((d.fg F.CLS_NTP_CTL_poll_max : Nat) : Int) (signed 8 p))).toNat

/-- ceil(log2(T in seconds)), never below 0. -/
def ceilLog2Sec (t : Nat) : Nat := ((List.range 40).find? fun k => decide (t ≤ 16000000 * 2 ^ k)).getD 40

/-- The smeared scale serves this entry (R29, R96). -/
def smears (d : Device) (e : SaEntry) : Bool := e.smear && d.fb F.TB_SMEAR_CTL_enable

def ntpTime (d : Device) (e : SaEntry) (t : Inst) : Nat := if smears d e then ntpSmeared d t else ntpOf d t

/-- Root dispersion: e + disp_floor in 2^-16 s, rounded up (R96). -/
def rootDisp (d : Device) : Nat :=
  satU 32 ((d.refs.errEst * 65536 + 999999999999) / 1000000000000 + d.fg F.CLS_NTP_CTL_disp_floor)

/-- R96, R105: the 48-byte response to a request, launched at `t3`; `kod` carries the profile's T. -/
def ntpBody (d : Device) (e : SaEntry) (req : Bytes) (t2 t3 : Inst) (id : Nat × Nat × Nat × Nat) (kod : Option Nat) : Bytes :=
  let vn := byteAt req 0 / 8 % 8
  let poll := clampPoll d (byteAt req 2)
  let (li, st, rid, poll) := match kod with
    | some t => (3, 0, refChars "RATE", clampPoll d (min 127 (max poll (ceilLog2Sec t))))
    | none => (id.1, id.2.1, id.2.2.1, poll)
  beBytes 1 (li * 64 + vn * 8 + 4) ++ beBytes 1 st ++ beBytes 1 poll ++ beBytes 1 0xDF ++ beBytes 4 id.2.2.2 ++
  beBytes 4 (rootDisp d) ++ beBytes 4 rid ++
  beBytes 8 (if d.cls.refTime = 0 then 0 else ntpTime d e d.cls.refTime) ++ slice req 40 8 ++
  beBytes 8 (ntpTime d e t2) ++ beBytes 8 (ntpTime d e t3)

/-- The whole answer frame to a request frame: to its source MAC, from the entry's MAC, ports swapped (R96). -/
def udpAnswer (d : Device) (e : SaEntry) (port vlan : Nat) (req : Bytes) (pl : Bytes) : Bytes :=
  let eth := parseEth req
  let ip := if eth.etype = 0x86DD then parseV6 req eth.off else parseV4 req eth.off
  udpFrame eth.src (saMac d e port) (vlanTci d vlan) ip.v6 e.dscp e.hop ip.dst ip.src 123 (beAt req ip.off 2) pl

/-! ### Steering and placing -/

/-- Slots of a work class in quarter-slots (R64). -/
def workCost : Work → Nat
  | .ntp => 4
  | .nts => 15
  | .ptp _ => 6
  | .sync _ _ _ _ => 6
  | .arp => 4
  | .nd => 4
  | .host _ => 2

/-- A slice's power domain is on (R78). -/
def slcPowered (d : Device) (s : Nat) : Bool := d.powered (if s < 6 then 3 else 4)

/-- A slice that takes work: enabled, powered, with a lane enabled (R65, R68). -/
def slcActive (d : Device) (s : Nat) : Bool :=
  d.up (.slc s) && slcPowered d s && !(d.fg (F.SLC_CTL_lanes s) == 0)

def activeSlices (d : Device) : List Nat := (List.range 12).filter (slcActive d)

def Device.slcOf (d : Device) (s : Nat) : Slice := amGet Slice.init d.slices s

def Device.setSlc (d : Device) (s : Nat) (x : Slice) : Device := { d with slices := amSet Slice.init d.slices s x }

/-- Queued quarter-slots of a slice. -/
def slcDepth (d : Device) (s : Nat) : Nat := (d.slcOf s).queue.foldl (fun a i => a + i.cost) 0

/-- R65: the home slice of a source. -/
def homeSlice (d : Device) (a : Nat) : Option Nat :=
  let act := activeSlices d
  let h := (crc32c (beBytes 16 a) (d.rd R.SLC_STEER_SEED) ^^^ 0xFFFFFFFF#32).toNat
  act[(h / 65536 * act.length) / 65536]?

/-- The next active slice, and the one before (R66). -/
def succSlice (act : List Nat) (s : Nat) : Nat := ((act.find? fun x => decide (s < x)).or act.head?).getD s

def predSlice (act : List Nat) (s : Nat) : Nat := (((act.filter fun x => decide (x < s)).getLast?).or act.getLast?).getD s

/-- R66: where an item of a cost goes, and whether it spilled. -/
def placeIn (d : Device) (home cost : Nat) : Option (Nat × Bool) :=
  let act := activeSlices d
  let fits (s : Nat) : Bool := decide (slcDepth d s + cost ≤ bits (d.rn (R.SLC_SPILL s)) 0 7)
  if fits home then some (home, false)
  else if fits (succSlice act home) then some (succSlice act home, !(succSlice act home == home))
  else if fits (predSlice act home) then some (predSlice act home, !(predSlice act home == home))
  else if slcDepth d home + cost ≤ 128 then some (home, false)
  else none

/-- Put an item at the tail of a slice queue. -/
def enqueue (d : Device) (s : Nat) (i : Item) : Device :=
  let x := d.slcOf s
  d.setSlc s { x with queue := x.queue ++ [i], peak := max x.peak (slcDepth d s + i.cost) }

/-- R109: place an admitted item; one that fits nowhere is dropped and counted. -/
def place (d : Device) (i : Item) : Device :=
  match homeSlice d i.src.toNat with
  | none => d.cnt (K.CLS_C_OVERFLOW i.cls)
  | some h =>
    match placeIn d h i.cost with
    | none => d.cnt (K.CLS_C_OVERFLOW i.cls)
    | some (s, spill) =>
      let d := if spill then (d.cnt (K.CLS_C_SPILLED i.cls)).cnt (K.SLC_SPILL_IN s) else d
      enqueue (d.cnt (K.CLS_C_ADMITTED i.cls)) s i

/-! ### The admission meter -/

/-- R109: the value of CLS_SHED_SUBNET. -/
def shedSubnet (d : Device) (a : Nat) : Nat :=
  let bs := beBytes 16 a
  (crc32c (if isV4 a then bs.take 15 else bs.take 6) (d.rd R.CLS_CT_SEED) ^^^ 0xFFFFFFFF#32).toNat % 64

/-- R108: the class may still take a cost in this window. -/
def quotaOk (d : Device) (c cost : Nat) : Bool :=
  match d.cls.meter.quota.getD c none with
  | none => true
  | some q => decide (d.cls.meter.admitted.getD c 0 + cost ≤ q)

def addAt (l : List Nat) (c n : Nat) : List Nat := l.set c (l.getD c 0 + n)

/-- R108, R109: meter an item, then place it or shed it. -/
def admitItem (d : Device) (i : Item) : Device :=
  let m := d.cls.meter
  let d := { d with cls := { d.cls with meter := { m with offered := addAt m.offered i.cls i.cost } } }
  let d := d.cnt (K.CLS_C_OFFERED i.cls)
  if quotaOk d i.cls i.cost then
    let m := d.cls.meter
    place { d with cls := { d.cls with meter := { m with admitted := addAt m.admitted i.cls i.cost } } } i
  else
    let d := d.cnt (K.CLS_C_SHED i.cls)
    let d := if i.saIdx < 256 then d.cnt (K.SA_SHED i.saIdx) else d
    monFeed d 6 i.cls 7 (shedSubnet d i.src.toNat)

/-- The pseudocode of R108: the boundary class (7 for none) and the quotas of the next window. -/
def quotaLoop (offered carry : List Nat) (f : Nat) : List Nat → Nat → Nat × List (Option Nat)
  | [], _ => (7, [none, none, none, none, none])
  | c :: cs, rem =>
    let need := offered.getD c 0 - if c = 4 then f else 0
    if need ≤ rem then quotaLoop offered carry f cs (rem - need)
    else if c = 0 then quotaLoop offered carry f cs 0
    else
      (c, (List.range 5).map fun k =>
        if k < c then none
        else if k = c then some (rem + carry.getD c 0 + if c = 4 then f else 0)
        else some (if k = 4 then f else 0))

/-- Lanes enabled in active slices. -/
def activeLanes (d : Device) : Nat :=
  (activeSlices d).foldl (fun n s => n + (setBits (d.fg (F.SLC_CTL_lanes s)) 4).length) 0

/-- R108: the end of a window of the admission meter; the slice depths are sampled (R496). -/
def xAdmissionWindowEnd (d : Device) : Device :=
  let d := (List.range 12).foldl (fun d s => monFeed d 4 s s (slcDepth d s)) d
  let act := activeSlices d
  let q := act.foldl (fun n s => n + slcDepth d s) 0
  let tgt := min (d.fg F.CLS_ADM_CTL_q_tgt) (128 * act.length)
  let b := activeLanes d * 40 - (q - tgt)
  let m := d.cls.meter
  let f := min (m.offered.getD 4 0) (d.fg F.CLS_ADM_CTL_c4_floor)
  let bnd := d.fg F.CLS_STATUS_boundary
  let carry := (List.range 5).map fun c =>
    if c = bnd then min 15 (((m.quota.getD c none).getD 0) - m.admitted.getD c 0) else 0
  let (bnd', quota) := quotaLoop m.offered carry f [0, 1, 2, 3, 4] (b - f)
  let meter : Meter := { offered := [0, 0, 0, 0, 0], admitted := [0, 0, 0, 0, 0], quota, carry }
  (({ d with cls := { d.cls with meter } }).fs F.CLS_STATUS_boundary bnd').fsb F.CLS_STATUS_shedding (!(bnd' == 7))

/-! ### The commands of this file -/

/-- ADMISSION_WINDOW_END (R108). -/
def execAdmissionWindowEnd (s : State) : Host.Outcome State Fault Refusal :=
  finish s (xAdmissionWindowEnd s.dev)

end Sys2Proof.Machine
end

