-- ==== Sys2Proof/Machine/Stat.lean ====
section
/-! DEFINITION. Port statistics (R214, R215): counters modulo 2^40, their half-range flags, and the counters of a
transmitted frame. -/

namespace Sys2Proof.Machine

/-- Add to counter `k` of a port; when its bit 39 rises the half-range flag is set (R215). -/
def statAdd (d : Device) (n k v : Nat) : Device :=
  if n = 16 ∧ (k = 23 ∨ k = 24 ∨ k = 40) then d
  else
    let old := amGet 0 d.stats (64 * n + k)
    let new := (old + v) % 2 ^ 40
    let d := { d with stats := amSet 0 d.stats (64 * n + k) new }
    if !old.testBit 39 && new.testBit 39 then
      let r := if k < 32 then R.PORT_HALF_LO n else R.PORT_HALF_HI n
      d.wn r (putBits (d.rn r) (k % 32) 1 1)
    else d

/-- Destination type: 0 unicast, 1 multicast, 2 broadcast. -/
def dstType (f : Bytes) : Nat :=
  if beAt f 0 6 = 2 ^ 48 - 1 then 2 else if byteAt f 0 % 2 = 1 then 1 else 0

/-- Size bucket of a frame length with FCS: 0 to 6. -/
def sizeBucket (len : Nat) : Nat :=
  if len ≤ 64 then 0 else if len ≤ 127 then 1 else if len ≤ 255 then 2 else if len ≤ 511 then 3
  else if len ≤ 1023 then 4 else if len ≤ 1518 then 5 else 6

/-- The counters of a transmitted frame (R214). -/
def statTx (d : Device) (n : Nat) (f : Bytes) : Device :=
  let len := max 60 f.length + 4
  statAdd (statAdd (statAdd (statAdd d n P.TX_OCTETS len) n P.TX_FRAMES 1) n (P.TX_UCAST + dstType f) 1) n
    (P.TX_64 + sizeBucket len) 1

end Sys2Proof.Machine
end

