-- ==== Sys2Proof/Machine/Peel.lean ====
section
/-! DEFINITION. The Peel (spec/04_peel.md): launch points (R114), booking (R116, R122 to R125), gates (R130 to R134), commits and
missed slots (R117, R119, R120), launches (R115, R126), the wheels, egress calibration (R128, R129), and what stops a port's
bookings (R136 to R138). -/

namespace Sys2Proof.Machine

/-! ### Grids (R114) -/

/-- Mode of a port's group: 0 1 × 100G, 1 4 × 25G, 2 4 × 10G. -/
def portMode (d : Device) (n : Nat) : Nat := d.fg (F.PORT_MODE_grp (n / 4 * 4))

/-- The port's mode uses this logical port (R199). -/
def portUsed (d : Device) (n : Nat) : Bool := decide (n ≤ 16) && (n == 16 || !(portMode d n == 0) || n % 4 == 0)

/-- Physical lanes of a port. -/
def lanesOf (d : Device) (n : Nat) : List Nat := if portMode d n = 0 then nats (n / 4 * 4) 4 else [n]

/-- Octet time in units of 10 ps, and octets between launch points. -/
def octBins (mode : Nat) : Nat := if mode = 0 then 8 else if mode = 1 then 32 else 80
def ptOctets (mode : Nat) : Nat := if mode = 2 then 4 else 8

/-- The grid period in ps (R140). -/
def gridPeriod (mode : Nat) : Nat := if mode = 0 then 209715200 else if mode = 1 then 2560 else 6400

/-- 100G: launch points of one alignment-marker period: 60 in its first codeword, 80 in each of the other 4,095. -/
def amPoints : Nat := 60 + 4095 * 80

/-- 100G: codeword and block of point `r` of a period. -/
def cwOf (r : Nat) : Nat × Nat := if r < 60 then (0, 20 + r) else (1 + (r - 60) / 80, (r - 60) % 80)

/-- Message position of the first payload bit of block `k`, in the 256b/257b transcoding of Clause 91 (PRESUMED, log entry 23). -/
def msgPos (k : Nat) : Nat := 257 * (k / 4) + 1 + 64 * (k % 4)

/-- An instant rounded to 10 ps, never before the epoch. -/
def toBin (t : Int) : Inst := (divNearI t binU * binU).toNat

/-- The instant of launch point `ord` of a grid with the given lane offsets. -/
def ptTime (mode : Nat) (offs : List Int) (ord : Nat) : Inst :=
  if mode = 0 then
    let (c, k) := cwOf (ord % amPoints)
    let p := msgPos k
    let ui := p / 40 * 10 + p % 10
    toBin (offs.getD (p / 10 % 4) 0 + ((ord / amPoints * 20971520 + c * 5120) * binU + ui * 5120 * binU / 1320 : Nat))
  else toBin (offs.getD 0 0 + (ord * octBins mode * ptOctets mode * binU : Nat))

/-- A launch point at or a little before an instant. -/
def ptBefore (mode : Nat) (offs : List Int) (t : Inst) : Nat :=
  let x := ((t : Int) - offs.getD 0 0).toNat
  if mode = 0 then
    let q := x / (20971520 * binU)
    let c := x % (20971520 * binU) / (5120 * binU)
    (q * amPoints + (if c < 2 then 0 else 60 + (c - 2) * 80)) - 1
  else x / (octBins mode * ptOctets mode * binU) - 2

/-! ### Wire occupancy (R122) -/

/-- Start block and end of a frame's occupancy, in octets of the grid. -/
def spanOf (mode : Nat) (pt len : Nat) : Nat × Nat := (pt * ptOctets mode - 8, pt * ptOctets mode + len)

/-- R122: gaps of at least 9 octets, and over any run at least 12 a gap less 3; spans in order from the last frame sent. -/
def gapsRun : Option (Nat × Nat) → List (Nat × Nat) → Bool
  | _, [] => true
  | none, (_, e) :: t => gapsRun (some (e, 0)) t
  | some (pe, dic), (s, e) :: t =>
    let gap := s - pe
    decide (pe + 9 ≤ s) && decide (dic + 12 - gap ≤ 3) && gapsRun (some (e, dic + 12 - gap)) t

def portBookings (d : Device) (n : Nat) : List Booking := d.peel.bookings.filter fun b => b.port == n

/-- Spans booked on a port, in order. -/
def portSpans (d : Device) (n : Nat) : List (Nat × Nat) :=
  sortBy (·.1) ((portBookings d n).map fun b => spanOf (portMode d n) b.pt b.len)

def gapOk (d : Device) (n : Nat) (spans : List (Nat × Nat)) (pt len : Nat) : Bool :=
  gapsRun ((d.peel.lastEnd.find? fun e => e.1 == n).map (·.2)) (insBy (·.1) (spanOf (portMode d n) pt len) spans)

/-! ### Gates (R130, R131) -/

/-- The entry in force at an offset into the cycle, and the offset at which it ends. -/
def gateAt (cycle : Nat) (o : Nat) : Nat → List (Nat × Nat) → Nat × Nat
  | _, [] => (0, cycle)
  | _, [(_, g)] => (g, cycle)
  | pos, (iv, g) :: t => if o < pos + iv * 65536 then (g, min cycle (pos + iv * 65536)) else gateAt cycle o (pos + iv * 65536) t

/-- The list in force at an instant, and the next change instant after it. -/
def listAt (d : Device) (n : Nat) (t : Inst) : Option GateList × Option Inst :=
  let pend := amGet [] d.peel.gatePend n
  let past := pend.filter fun p => decide (p.2.1 ≤ t)
  let next := leastBy id ((pend.filter fun p => decide (t < p.2.1)).map (·.2.1))
  let cur := (d.peel.gates.find? fun e => e.1 == n).map (·.2)
  (((sortBy (·.2.1) past).getLast?.map (·.2.2)).or cur, next)

/-- R130: gate `c` is open throughout [a, b). -/
def gateOpen (d : Device) (n c : Nat) : Nat → Inst → Inst → Bool
  | 0, _, _ => false
  | k + 1, a, b =>
    if b ≤ a then true
    else
      match listAt d n a with
      | (none, none) => true
      | (none, some nx) => if b ≤ nx then true else gateOpen d n c k nx b
      | (some g, nx) =>
        let cyc := g.cycle * subU
        let o := (((a : Int) - (g.base * subU : Nat)) % (cyc : Int)).toNat
        let (st, fin) := gateAt g.cycle (o / subU) 0 g.entries
        let e := a - o + fin * subU
        let e := match nx with | some x => min e x | none => e
        st.testBit c && gateOpen d n c k e b

/-- Start block to last octet, as instants. -/
def spanTimes (mode : Nat) (t : Inst) (len : Nat) : Inst × Inst := (t - 8 * octBins mode * binU, t + len * octBins mode * binU)

/-- A launch point qualifies under the gates. -/
def gateOk (d : Device) (n gcls : Nat) (t : Inst) (len : Nat) : Bool :=
  !d.fb (F.PEEL_P_CTL_gate_en n) ||
    (let (a, b) := spanTimes (portMode d n) t len; gateOpen d n gcls 4096 a b)

/-- R130: the gate class of a frame. -/
def gateClass (d : Device) (n : Nat) (tci : Option Nat) : Nat :=
  match tci with
  | some t => t / 8192 % 8
  | none => d.fg (F.PEEL_P_CTL_untag_tc n)

/-! ### Booking (R116) -/

def gLead (d : Device) : Nat := d.fg F.PEEL_GUARD_g_lead * nsU
def gCommit (d : Device) : Nat := d.fg F.PEEL_GUARD_g_commit * nsU

/-- The port takes bookings as far as its enable words and its link go (R136). -/
def portOpen (d : Device) (n : Nat) : Bool :=
  decide (n < 16) && portUsed d n && d.up (.port n) && d.up .peel && d.fb (F.PORT_STATUS_link_up n)

/-- The first point of the grid in [t0, tl] that qualifies. -/
def searchPt (d : Device) (n len gcls : Nat) (spans : List (Nat × Nat)) (t0 tl : Inst) : Nat → Nat → Option (Nat × Inst)
  | 0, _ => none
  | k + 1, ord =>
    let t := ptTime (portMode d n) (amGet [] d.peel.laneOff n) ord
    if tl < t then none
    else if decide (t0 ≤ t) && gapOk d n spans ord len && gateOk d n gcls t len then some (ord, t)
    else searchPt d n len gcls spans t0 tl k (ord + 1)

/-- The earliest instant a booking may take (R116, R135). -/
def bookFrom (d : Device) (n : Nat) (te : Inst) : Inst :=
  let t := max te (d.now + gLead d)
  if d.fb (F.PORT_STATUS_tx_lpi n) then max t (d.now + d.fg (F.PORT_LPI_tw n) * nsU + gCommit d) else t

/-- The wheel level of an instant, and its tick (the wheels of R125). -/
def wheelPlace (d : Device) (t : Inst) : Nat × Nat :=
  let k := (t - d.now) / max 1 d.tm.tickLen
  (if k < 2 ^ 10 then 0 else if k < 2 ^ 20 then 1 else if k ≤ 800000000 then 2 else 3, d.tm.ticks + k)

/-- Bookings in a port's wheels. -/
def nearOf (d : Device) (n : Nat) : Nat := ((portBookings d n).filter fun b => b.level < 3).length

/-- The code and point a booking gets (R116, R128, R136 to R138). -/
def bookCode (d : Device) (n : Nat) (te tl : Inst) (len gcls : Nat) : Nat × Nat × Inst :=
  if !portOpen d n then (T.FLUSHED, 0, 0)
  else if d.dtInvalid || !(d.fg (F.PEEL_P_STATUS_cal n) == 2) then (T.FULL, 0, 0)
  else if tl < d.now + gLead d then (T.PAST, 0, 0)
  else if d.now + 60 * secU < te then (T.TOO_FAR, 0, 0)
  else
    let t0 := bookFrom d n te
    let mode := portMode d n
    let offs := amGet [] d.peel.laneOff n
    let o0 := ptBefore mode offs t0
    match searchPt d n len gcls (portSpans d n) t0 tl (ptBefore mode offs tl + 400 - o0) o0 with
    | none => (T.FULL, 0, 0)
    | some (ord, t) =>
      match d.refs.stepAt with
      | some (s, _) => if s < (spanTimes mode t len).2 then (T.TOO_FAR, 0, 0) else (T.ACCEPTED, ord, t)
      | none => (T.ACCEPTED, ord, t)

/-- Book a launch: the code, the handle and the launch point. -/
def peelBook (d : Device) (n : Nat) (te tl : Inst) (len gcls : Nat) (mayRp again : Bool) (o : Owner) : Nat × Nat × Inst × Device :=
  let (c, ord, t) := bookCode d n te tl len gcls
  if c = T.ACCEPTED then
    let (level, tick) := wheelPlace d t
    if level < 3 && decide (32768 ≤ nearOf d n) then (T.FULL, 0, 0, d)
    else if level == 3 && farUsed d % 4 == 0 && !poolRoom d 7 1 then
      (T.FULL, 0, 0, (poolDrop d 7).set1 F.PEEL_STATUS_far_full)
    else
      let h := d.sched.nextHandle
      let b : Booking := { handle := h, port := n, due := t, len, gcls, mayRp, again, frame := none, owner := o, resp := none,
                           pt := ord, guardC := d.fg F.PEEL_GUARD_g_commit, level, tick, pinned := false }
      (T.ACCEPTED, h, t, { d with sched := { d.sched with nextHandle := nextHandle h },
                                  peel := { d.peel with bookings := d.peel.bookings ++ [b] } })
  else (c, 0, 0, d)

/-! ### Ending a booking (R119, R139) -/

def findBooking (d : Device) (h : Nat) : Option Booking := d.peel.bookings.find? fun b => b.handle == h

def dropBooking (d : Device) (h : Nat) : Device :=
  { d with peel := { d.peel with bookings := d.peel.bookings.filter fun b => !(b.handle == h) } }

def setBooking (d : Device) (b : Booking) : Device :=
  { d with peel := { d.peel with bookings := mapIf (fun x => x.handle == b.handle) (fun _ => b) d.peel.bookings } }

/-- R452: a FRAME_TX completion. -/
def frameTxCqe (stamp : Inst) (slot code status port : Nat) : Bytes :=
  (if stamp = 0 then zeros 12 else dt96Bytes stamp) ++ leBytes 2 slot ++ leBytes 1 (code + 16 * status) ++ leBytes 1 port

/-- Tell a booking's requester how it ended: an R34 code, the instant where one belongs, and a HIF status. -/
def tellOwner (d : Device) (b : Booking) (code status : Nat) (t : Inst) : Device :=
  match b.owner with
  | .lane _ _ => d
  | .host r slot => complete d r slot (frameTxCqe t slot code status b.port) []
  | .engine _ => d.emit (.peelReply b.handle code t)

/-- A lane's frame is lost: a Sync instant without a launch (R195). -/
def laneLost (d : Device) (r : Option LaneResp) : Device :=
  match r with
  | some { item := { work := .sync i _ _ _, .. }, .. } => d.cnt (K.PTP_SYNC_MISSED i)
  | _ => d

/-- A booking is discarded or cancelled: counted and its requester told. -/
def endBooking (d : Device) (ctr code : Nat) (b : Booking) : Device :=
  tellOwner (laneLost ((dropBooking d b.handle).cnt ctr) b.resp) b code 0 0

/-- Hand a lane's response back for one re-promise, or drop it when its slice holds 16 (R120). -/
def repromLane (d : Device) (r : LaneResp) (port : Nat) : Device :=
  let x := d.slcOf r.slice
  if x.reprom.length < 16 then
    ((d.setSlc r.slice { x with reprom := x.reprom ++ [r] }).cnt (K.PEEL_REPROMISED port)).cnt (K.SLC_REPROMISE r.slice)
  else laneLost (d.cnt (K.PEEL_DROP_MISS port)) (some r)

/-- R119: the slot of a booking is missed. (DEDUCED, log entry 24.) -/
def missSlot (d : Device) (b : Booking) : Device :=
  let d := dropBooking d b.handle
  if b.mayRp && !b.again then
    match b.owner, b.resp with
    | .lane _ _, some r => repromLane d r b.port
    | .lane _ _, none => { d with peel := { d.peel with voided := d.peel.voided ++ [(b.handle, b.port)] } }
    | .host _ _, _ => tellOwner (d.cnt (K.PEEL_REPROMISED b.port)) b T.PAST 4 b.due
    | .engine _, _ => tellOwner (d.cnt (K.PEEL_REPROMISED b.port)) b T.PAST 4 b.due
  else tellOwner (laneLost (d.cnt (K.PEEL_DROP_MISS b.port)) b.resp) b T.PAST 0 0

/-! ### Committing, pins and launching (R117, R126, R115) -/

/-- Front-buffer cells pinned (R54): 65,536 at most. -/
def pinnedCells (d : Device) : Nat := sumOf (fun b => if b.pinned then cellsOf ((b.frame.getD []).length) else 0) d.peel.bookings

/-- Pin a committed frame's cells, or be refused. -/
def pinFrame (d : Device) (b : Booking) : Device :=
  match b.frame with
  | some f =>
    if b.pinned then d
    else if pinnedCells d + cellsOf f.length ≤ 65536 then setBooking d { b with pinned := true }
    else d.set1 F.TROUGH_STATUS_pin_full
  | none => d

/-- R117: commit a frame to a booking; false when it is too late and the slot is missed. -/
def peelCommit (d : Device) (h : Nat) (f : Bytes) (r : Option LaneResp) : Bool × Device :=
  match findBooking d h with
  | none => (false, d)
  | some b =>
    let d := monFeed d 5 b.port 16 (((b.due : Int) - d.now) / nsU)
    if b.due < d.now + b.guardC * nsU then (false, missSlot d { b with resp := r })
    else
      let b := { b with frame := some f, resp := r }
      let d := setBooking d b
      (true, if b.level = 0 then pinFrame d b else d)

/-- What a launched lane response counts and feeds (R105, R195, R496). -/
def laneLaunched (d : Device) (r : LaneResp) (b : Booking) : Device :=
  let v : Int := ((b.due : Int) - r.item.stamp) / nsU
  let d := if r.kind = 0 then monFeed d 1 b.port 16 v else if r.kind = 1 then monFeed d 2 b.port 16 v else d
  match r.item.work with
  | .sync i _ _ _ => d.cnt (K.PTP_SYNC_SENT i)
  | .ptp i => d.cnt (if r.kind = 2 then K.PTP_DRESP_SENT i else K.PTP_PDRESP_SENT i)
  | _ => d

/-- A frame launched on the port is still on the wire (R136, R205). -/
def wireBusy (d : Device) (n : Nat) : Bool := decide (d.tm.osc < amGet 0 d.peel.outUntil n)

/-- When a frame of `len` octets that leaves at `due` has finished on the wire, counted by OSC_IN. -/
def wireEnd (d : Device) (n : Nat) (due : Inst) (len : Nat) : Nat :=
  d.tm.osc + (due - d.now + len * octBins (portMode d n) * binU + 125 * binU - 1) / (125 * binU)

/-- R115: the frame leaves at its instant; the wire's state for R122 moves on. -/
def launchBooking (d : Device) (b : Booking) (f : Bytes) : Device :=
  let mode := portMode d b.port
  let (s, e) := spanOf mode b.pt b.len
  let dic := match (d.peel.lastEnd.find? fun x => x.1 == b.port).map (·.2) with
    | some (pe, dic) => dic + 12 - (s - pe)
    | none => 0
  let d := dropBooking d b.handle
  let out := amSet 0 d.peel.outUntil b.port (wireEnd d b.port b.due b.len)
  let d := { d with peel := { d.peel with lastEnd := amIns (amDel d.peel.lastEnd b.port) b.port (e, dic), outUntil := out } }
  let d := (d.emit (.frame b.port b.due f)).cnt (K.PEEL_LAUNCHED b.port)
  let d := statTx d b.port f
  let d := match b.resp with | some r => laneLaunched d r b | none => d
  match b.owner with
  | .engine (some i) => if 0x10000 ≤ i then statAdd d b.port (i - 0x10000) 1 else d.cnt i
  | .host r slot => complete d r slot (frameTxCqe b.due slot T.DONE 0 b.port) []
  | _ => d

/-! ### Calibration (R128, R129) -/

/-- The probe channel holds a valid table (R316). -/
def probeValid (d : Device) : Bool := (d.fg F.TIC_STATUS_valid).testBit 8

/-- Forget the probe's measurements of a list of strobes. -/
def clearProbe (d : Device) (l : List Nat) : Device :=
  { d with peel := { d.peel with probe := d.peel.probe.filter fun e => !(l.contains e.1) } }

/-- Begin a port's egress calibration: R128 step 1; it waits for the probe's table before it measures (R316). -/
def peelCalStart (d : Device) (n : Nat) : Device := clearProbe (d.fs (F.PEEL_P_STATUS_cal n) 1) (lanesOf d n)

/-- Count and sum of a strobe's measurements. -/
def probeOf (d : Device) (s : Nat) : Nat × Int := amGet (0, 0) d.peel.probe s

/-- Each listed strobe has at least `k` measurements. -/
def probeHas (d : Device) (l : List Nat) (k : Nat) : Bool := l.all fun s => decide (k ≤ (probeOf d s).1)

/-- Mean of a strobe's measurements at the ball, in time units: the production trim is added (R128). -/
def probeMean (d : Device) (s : Nat) : Int :=
  let (c, sum) := probeOf d s
  divNearI (sum * psU) (max 1 c) + Config.strobeTrim s * psU

/-- Discard every booking of a port: one counter, one code (R129, R136, R137, R138). -/
def discardPort (d : Device) (n ctr code : Nat) : Device := (portBookings d n).foldl (fun d b => endBooking d ctr code b) d

/-- Discard every booking of a port under R136, and forget its calibration. -/
def peelPortDown (d : Device) (n : Nat) : Device :=
  (discardPort d n (K.PEEL_DROP_DISABLED n) T.FLUSHED).fs (F.PEEL_P_STATUS_cal n) 0

/-- R137: a step is scheduled; bookings whose span ends after it are cancelled. -/
def peelStepHold (d : Device) (at_ : Inst) : Device :=
  let d := d.set1 F.PEEL_STATUS_step_hold
  (d.peel.bookings.filter fun b => decide (at_ < (spanTimes (portMode d b.port) b.due b.len).2)).foldl
    (fun d b => endBooking d (K.PEEL_DROP_STEP b.port) T.CANCELLED b) d

/-- R137: after a step of `by_` the launch points are recomputed and the hold ends. -/
def peelStepped (d : Device) (by_ : Int) : Device :=
  let p := d.peel
  ({ d with peel := { p with laneOff := p.laneOff.map fun (e : Nat × List Int) => (e.1, e.2.map (· + by_)) } }).clr F.PEEL_STATUS_step_hold

/-- R138: Device Time was restored: bookings whose instants passed end with MISSED, the others with CANCELLED, and every
port with its link up calibrates again. -/
def peelRestored (d : Device) : Device :=
  let d := d.clr F.PEEL_STATUS_invalid
  let d := d.peel.bookings.foldl (fun d b =>
    endBooking d (K.PEEL_DROP_INVALID b.port) (if b.due ≤ d.now then T.MISSED else T.CANCELLED) b) d
  (List.range 16).foldl (fun d n => if d.fb (F.PORT_STATUS_link_up n) && d.up (.port n) then peelCalStart d n else d) d

/-! ### Gate list changes (R132 to R134) -/

def gclPort (d : Device) : Nat := d.fg F.PEEL_GCL_IDX_port
def gclLen (d : Device) : Nat := min 256 (max 1 (d.fg F.PEEL_GCL_CMD_len))

/-- The staged entry of the selected port. -/
def gclEntry (d : Device) (n e : Nat) : Nat × Nat := amGet (0, 0) d.peel.staged (256 * n + e)

/-- The staged list of a port. -/
def gclStaged (d : Device) (n : Nat) : GateList :=
  { base := dtSub (ofDt96 (d.rn3 (R.PEEL_GCL_BASE_W 0))),
    cycle := d.rn R.PEEL_GCL_CYCLE_NS * 65536 + d.fg F.PEEL_GCL_CYCLE_FRAC,
    entries := (List.range (gclLen d)).map (gclEntry d n) }

/-- First instant base + j × cycle at or after `at_`, in 2^-16 ns. -/
def gclFirst (g : GateList) (at_ : Nat) : Nat :=
  let r := (((at_ : Int) - g.base) % (max 1 g.cycle : Nat)).toNat
  if r = 0 then at_ else at_ + (g.cycle - r)

/-- Changes still scheduled on a port (a cancelled one has left the schedule). -/
def gclPrune (d : Device) (n : Nat) : Device :=
  let l := (amGet [] d.peel.gatePend n).filter fun p => d.sched.pend.any fun e => e.handle == p.1
  { d with peel := { d.peel with gatePend := amSet [] d.peel.gatePend n l } }

/-- R133: bookings that reach past the change instant and that the lists now in view no longer permit. -/
def gateConflicts (d : Device) (n : Nat) (ch : Inst) : List Booking :=
  (portBookings d n).filter fun b =>
    decide (ch < (spanTimes (portMode d n) b.due b.len).2) && !gateOk d n b.gcls b.due b.len

/-- R132, R134: REQUEST a change. -/
def gclRequest (d : Device) : Device :=
  let n := gclPort d
  let d := gclPrune d n
  let g := gclStaged d n
  let at_ := dtSub (ofDt96 (d.rn3 (R.PEEL_GCL_AT_W 0)))
  let bad := g.entries.any (fun e => decide (e.1 < 40)) || decide (d.rn R.PEEL_GCL_CYCLE_NS < 1000)
  let code := requestCode d (.gclChange n) (ofDtSub at_)
  let code := if code = T.ACCEPTED ∧ bad then T.PAST else code
  if code = T.ACCEPTED then
    let due := ofDtSub (gclFirst g at_)
    let h := d.sched.nextHandle
    let e : TimedAct := { handle := h, due, act := .gclChange n, notify := false, tag := 0, stepped := false }
    let d := { d with sched := { pend := d.sched.pend ++ [e], nextHandle := nextHandle h },
                      peel := { d.peel with gatePend := amSet [] d.peel.gatePend n (amGet [] d.peel.gatePend n ++ [(h, due, g)]) } }
    let d := (gateConflicts d n due).foldl (fun d b => endBooking d (K.PEEL_GATE_CANCEL n) T.CANCELLED b) d
    (d.fs F.PEEL_GCL_RESULT code).wn R.PEEL_GCL_HANDLE h
  else (d.fs F.PEEL_GCL_RESULT code).wn R.PEEL_GCL_HANDLE 0

/-- The command word's len field is stored by every op. -/
def gclLenWrite (w : Word) (d : Device) : Device := d.fs F.PEEL_GCL_CMD_len (bits w.toNat 0 9)

/-- R116: an engine books a launch; the answer names the code, the handle and the point. -/
def xPeelBook (port : Nat) (te tl : Inst) (len gcls : Nat) (mayRp : Bool) (d : Device) : Device :=
  let (c, h, t, d) := peelBook d port te tl len (gcls % 8) mayRp false (.engine none)
  d.emit (.peelReply h c t)

/-- R117: an engine commits the frame of its booking; a host frame commits when its fetch has ended (R451). -/
def xPeelCommit (handle : Nat) (frame : Bytes) (d : Device) : Device :=
  match findBooking d handle with
  | some b =>
    match b.owner, b.frame with
    | .lane _ _, _ => d
    | _, none => (peelCommit d handle frame none).2
    | _, some _ => d
  | none => d

/-- R117: no commit has arrived by T − g_commit: the booking is void and its slot missed. -/
def xBookingVoid (handle : Nat) (d : Device) : Device :=
  match findBooking d handle with
  | some b => if b.frame.isNone && decide (b.due < d.now + b.guardC * nsU) && !d.dtInvalid then missSlot d b else d
  | none => d

/-- R119: at T − 40 ns a committed frame's first cell has not reached the transmit stage. -/
def xPeelFetchMiss (handle : Nat) (d : Device) : Device :=
  match findBooking d handle with
  | some b =>
    if b.frame.isSome && decide (b.due < d.now + 40 * nsU + d.tm.tickLen) && !d.dtInvalid then
      missSlot (d.cnt (K.PEEL_MISS_FETCH b.port)) b
    else d
  | none => d

/-- R115: a committed frame's instant lies in the tick in progress. -/
def xPeelLaunch (handle : Nat) (d : Device) : Device :=
  match findBooking d handle with
  | some b =>
    match b.frame with
    | some f => if decide (b.due < d.now + d.tm.tickLen) && !d.dtInvalid then launchBooking d b f else d
    | none => d
  | none => d

/-- The wheels: entries of the level-1 and level-2 slots the current tick has entered move down; a frame committed before
it reached level 0 is pinned then (R125, R126). -/
def xWheelSlotCascade (port : Nat) (d : Device) : Device :=
  let lower (b : Booking) : Nat :=
    if b.level = 2 ∧ b.tick / 2 ^ 20 ≤ d.tm.ticks / 2 ^ 20 then (if b.tick / 2 ^ 10 ≤ d.tm.ticks / 2 ^ 10 then 0 else 1)
    else if b.level = 1 ∧ b.tick / 2 ^ 10 ≤ d.tm.ticks / 2 ^ 10 then 0
    else b.level
  (portBookings d port).foldl (fun d b =>
    let b' := { b with level := lower b }
    let d := setBooking d b'
    if b'.level = 0 ∧ b.level ≠ 0 then pinFrame d b' else d) d

/-- The far list releases entries within 1 s and 1.31072 ms of their instants into the port's wheel (R125). -/
def xFarListRelease (port : Nat) (d : Device) : Device :=
  (portBookings d port).foldl (fun d b =>
    if b.level = 3 ∧ b.due ≤ d.now + secU + 1310720 * nsU then setBooking d { b with level := 2 } else d) d

/-- R118: a write to PEEL_GUARD. -/
def xPeelGuardWrite (w : Word) (d : Device) : Device :=
  let c := clamp 200 1000 (bits w.toNat 16 16)
  let l := clamp 250 4000 (bits w.toNat 0 16)
  if l ≤ c then d else d.wn R.PEEL_GUARD (c * 65536 + l)

/-- R128, step 3: 1,024 measurements of each lane are in; the grid phase and lane offsets are set. -/
def xPeelCalDone (port : Nat) (d : Device) : Device :=
  let ls := lanesOf d port
  if port < 16 ∧ d.fg (F.PEEL_P_STATUS_cal port) = 1 ∧ probeValid d ∧ probeHas d ls 1024 then
    let adj := signed 16 (d.fg (F.PEEL_P_EGR_ADJ port))
    let offs := ls.map fun s => probeMean d s + adj * psU
    let period := gridPeriod (portMode d port)
    let base := (offs.getD 0 0) / (period * psU : Nat) * (period * psU : Nat)
    let offs := offs.map (· - base)
    let d := { d with peel := { d.peel with laneOff := amIns (amDel d.peel.laneOff port) port offs,
                                            lastEnd := amDel d.peel.lastEnd port,
                                            calAt := amIns (amDel d.peel.calAt port) port d.tm.osc,
                                            egrAdj := amSet 0 d.peel.egrAdj port adj } }
    let d := clearProbe d ls
    (d.wn (R.PEEL_P_EGR_PHASE port) (divNearI (offs.getD 0 0) binU).toNat).fs (F.PEEL_P_STATUS_cal port) 2
  else d

/-- R129: the periodic check of a port, one second after the last: a lane more than 50 ps away is a slip. -/
def xPeelCalCheck (port : Nat) (d : Device) : Device :=
  let ls := lanesOf d port
  if port < 16 ∧ d.fg (F.PEEL_P_STATUS_cal port) = 2 ∧ probeHas d ls 16 ∧
      amGet 0 d.peel.calAt port + 800000000 ≤ d.tm.osc then
    let offs := amGet [] d.peel.laneOff port
    let period : Int := (gridPeriod (portMode d port) * psU : Nat)
    let adj := amGet 0 d.peel.egrAdj port
    let far (i : Nat) (s : Nat) : Bool :=
      let x := (probeMean d s + adj * psU - offs.getD i 0) % period
      let x := if period < 2 * x then period - x else x
      decide ((50 * psU : Nat) < x)
    let slip := (ls.zipIdx).any fun e => far e.2 e.1
    let d := { d with peel := { d.peel with calAt := amIns (amDel d.peel.calAt port) port d.tm.osc } }
    let d := clearProbe d ls
    if slip then
      let d := (d.set1 (F.PEEL_P_STATUS_slip port)).ledger L.egrSlip port 0 0
      peelCalStart (discardPort d port (K.PEEL_DROP_CAL port) T.FLUSHED) port
    else d
  else d

/-- R314, R315: one measurement of a strobe by the probe channel, in ps of Device Time. -/
def xProbeMeasurement (strobe : Nat) (ps : Int) (d : Device) : Device :=
  if probeValid d && !d.dtInvalid then
    let (c, s) := probeOf d strobe
    { d with peel := { d.peel with probe := amIns (amDel d.peel.probe strobe) strobe (c + 1, s + ps) } }
  else d

/-- R134: WRITE the staged entry. -/
def xGclWrite (w : Word) (d : Device) : Device :=
  let d := gclLenWrite w d
  let k := 256 * gclPort d + d.fg F.PEEL_GCL_IDX_entry
  { d with peel := { d.peel with staged := amSet (0, 0) d.peel.staged k (d.rn R.PEEL_GCL_LO, d.fg F.PEEL_GCL_HI) } }

/-- R134: READ a staged entry into PEEL_GCL_LO and PEEL_GCL_HI. -/
def xGclRead (w : Word) (d : Device) : Device :=
  let d := gclLenWrite w d
  let e := gclEntry d (gclPort d) (d.fg F.PEEL_GCL_IDX_entry)
  (d.wn R.PEEL_GCL_LO e.1).fs F.PEEL_GCL_HI e.2

def xGclRequest (w : Word) (d : Device) : Device := gclRequest (gclLenWrite w d)

/-- R134, R33: cancel the pending change named in PEEL_GCL_HANDLE. -/
def xGclCancel (w : Word) (d : Device) : Device :=
  let d := gclLenWrite w d
  let (c, d) := cancelAct d (d.rn R.PEEL_GCL_HANDLE) fun a => match a with | .gclChange _ => true | _ => false
  (List.range 16).foldl gclPrune (d.fs F.PEEL_GCL_RESULT c)

/-- R131, R132: a change instant: the new list is in force. -/
def xGclChange (port : Nat) (d : Device) : Device :=
  match dueOf d fun a => a == .gclChange port with
  | some e =>
    let d := match (amGet [] d.peel.gatePend port).find? fun p => p.1 == e.handle with
      | some p => (({ d with peel := { d.peel with gates := amIns (amDel d.peel.gates port) port p.2.2 } }).set1
          (F.PEEL_P_STATUS_gate_active port)).fs (F.PEEL_P_GCL_STATUS_len port) p.2.2.entries.length
      | none => d
    gclPrune (endAct d e (doneCode e)) port
  | none => d

/-- R135: the port is signalled to wake for its next booking. -/
def xPeelLpiWake (port : Nat) (d : Device) : Device :=
  let tw := d.fg (F.PORT_LPI_tw port)
  if d.fb (F.PORT_STATUS_tx_lpi port) && (portBookings d port).any fun b => decide (b.due ≤ d.now + (tw + 100) * nsU + d.tm.tickLen) then
    (d.clr (F.PORT_STATUS_tx_lpi port)).emit (.portWake port)
  else d

/-! ### The commands of this file -/

/-- PEEL_BOOK (R116). -/
def execPeelBook (port : Nat) (te tl : Inst) (len gcls : Nat) (mayRp : Bool) (s : State) : Host.Outcome State Fault Refusal :=
  finish s (xPeelBook port te tl len gcls mayRp s.dev)

/-- PEEL_COMMIT (R117). -/
def execPeelCommit (handle : Nat) (frame : Bytes) (s : State) : Host.Outcome State Fault Refusal :=
  finish s (xPeelCommit handle frame s.dev)

/-- BOOKING_VOID (R117). -/
def execBookingVoid (handle : Nat) (s : State) : Host.Outcome State Fault Refusal :=
  finish s (xBookingVoid handle s.dev)

/-- PEEL_FETCH_MISS (R119). -/
def execPeelFetchMiss (handle : Nat) (s : State) : Host.Outcome State Fault Refusal :=
  finish s (xPeelFetchMiss handle s.dev)

/-- PEEL_LAUNCH (R115). -/
def execPeelLaunch (handle : Nat) (s : State) : Host.Outcome State Fault Refusal :=
  finish s (xPeelLaunch handle s.dev)

/-- WHEEL_SLOT_CASCADE (R125). -/
def execWheelSlotCascade (port : Nat) (s : State) : Host.Outcome State Fault Refusal :=
  finish s (xWheelSlotCascade port s.dev)

/-- FAR_LIST_RELEASE (R125). -/
def execFarListRelease (port : Nat) (s : State) : Host.Outcome State Fault Refusal :=
  finish s (xFarListRelease port s.dev)

/-- PEEL_GUARD_WRITE (R118). -/
def execPeelGuardWrite (w : Word) (s : State) : Host.Outcome State Fault Refusal :=
  finish s (hostWrite R.PEEL_GUARD (xPeelGuardWrite w) s.dev)

/-- PEEL_CAL_DONE (R128). -/
def execPeelCalDone (port : Nat) (s : State) : Host.Outcome State Fault Refusal :=
  finish s (xPeelCalDone port s.dev)

/-- PEEL_CAL_CHECK (R129). -/
def execPeelCalCheck (port : Nat) (s : State) : Host.Outcome State Fault Refusal :=
  finish s (xPeelCalCheck port s.dev)

/-- PROBE_MEASUREMENT (R315). -/
def execProbeMeasurement (strobe : Nat) (ps : Int) (s : State) : Host.Outcome State Fault Refusal :=
  finish s (xProbeMeasurement strobe ps s.dev)

/-- GCL_WRITE (R134). -/
def execGclWrite (w : Word) (s : State) : Host.Outcome State Fault Refusal :=
  finish s (hostWrite R.PEEL_GCL_CMD (xGclWrite w) s.dev)

/-- GCL_READ (R134). -/
def execGclRead (w : Word) (s : State) : Host.Outcome State Fault Refusal :=
  finish s (hostWrite R.PEEL_GCL_CMD (xGclRead w) s.dev)

/-- GCL_REQUEST (R132). -/
def execGclRequest (w : Word) (s : State) : Host.Outcome State Fault Refusal :=
  finish s (hostWrite R.PEEL_GCL_CMD (xGclRequest w) s.dev)

/-- GCL_CANCEL (R134). -/
def execGclCancel (w : Word) (s : State) : Host.Outcome State Fault Refusal :=
  finish s (hostWrite R.PEEL_GCL_CMD (xGclCancel w) s.dev)

/-- GCL_CHANGE (R132). -/
def execGclChange (port : Nat) (s : State) : Host.Outcome State Fault Refusal :=
  finish s (xGclChange port s.dev)

/-- PEEL_LPI_WAKE (R135). -/
def execPeelLpiWake (port : Nat) (s : State) : Host.Outcome State Fault Refusal :=
  finish s (xPeelLpiWake port s.dev)

end Sys2Proof.Machine
end

