-- ==== Sys2Proof/Machine/Refs.lean ====
section
/-! DEFINITION. References, selection and holdover (spec/08_references.md): measurements (R228 to R230), ranks (R231 to R234),
states (R235 to R238), the selector (R239, R240), agreement and majority (R241 to R243), drift and the oscillator model (R244 to
R246), build-out and steps (R247, R248), the DPLL (R249, R250), the error estimate and TIME_VALID (R251 to R254).  Frequencies
are rationals in ns/s; phases are in 2^-16 ns. -/

namespace Sys2Proof.Machine

/-! ### Slots -/

def Device.slot (d : Device) (n : Nat) : RefSlot := amGet RefSlot.init d.refs.slots n

def Device.setSlot (d : Device) (n : Nat) (s : RefSlot) : Device :=
  { d with refs := { d.refs with slots := amSet RefSlot.init d.refs.slots n s } }

def refType (d : Device) (n : Nat) : Nat := d.fg (F.REF_CFG_type n)

/-- A time reference (R226). -/
def timeType (t : Nat) : Bool := t == 1 || t == 2 || t == 3 || t == 6 || t == 7 || t == 8

def refState (d : Device) (n : Nat) : Nat := d.fg (F.REF_STATUS_state n)

def refEn (d : Device) (n : Nat) : Bool := d.fb (F.REF_CFG_en n)

/-- Elapsed seconds of the oscillator count, step-free and running on through a gap. -/
def elapsed (d : Device) : Nat := d.tm.osc / 800000000

/-- A phase as a length in time units, and back. -/
def subLen (x : Int) : Int := x * subU
def lenSub (x : Int) : Int := divNearI x subU

/-- W of R229 in seconds. -/
def agreeW (d : Device) : Nat := d.fg F.TB_AGREE_win

/-! ### Phase, frequency and noise (R229) -/

/-- xbar(t): the mean of the values of t − 9 to t; none when there is none. -/
def xbar (h : List (Nat × Int)) (t : Nat) : Option Rat :=
  let l := (h.filter fun e => decide (e.1 ≤ t) && decide (t < e.1 + 10)).map (·.2)
  if l.isEmpty then none else some ((l.foldl (· + ·) 0 : Int) / (l.length : Rat))

/-- Span of a history in seconds. -/
def histSpan (h : List (Nat × Int)) : Nat :=
  match h.head?, h.getLast? with
  | some a, some b => a.1 - b.1 + 1
  | _, _ => 0

/-- y over the last `tau` seconds, in ns/s. -/
def yOver (h : List (Nat × Int)) (tau : Nat) : Option Rat :=
  match h.head? with
  | none => none
  | some (t, _) =>
    if tau < 60 then none
    else
      match xbar h t, xbar h (t - tau) with
      | some a, some b => some ((a - b) / 65536 / (tau : Rat))
      | _, _ => none

def slotTau (d : Device) (n : Nat) : Nat := min (agreeW d) (histSpan (d.slot n).hist - 10)

def slotY (d : Device) (n : Nat) : Option Rat := yOver (d.slot n).hist (slotTau d n)

/-- n: rms of x(k) − xbar(k) over the window, in 2^-16 ns, rounded down. -/
def slotNoise (d : Device) (n : Nat) : Nat :=
  let h := (d.slot n).hist
  match h.head? with
  | none => 0
  | some (t, _) =>
    let l := h.filter fun e => decide (t < e.1 + agreeW d)
    let sq := l.foldl (fun (a : Rat) e => let r := (e.2 : Rat) - (xbar h e.1).getD 0; a + r * r) 0
    isqrt (sq / (max 1 l.length : Nat)).floor.toNat

def absQ (q : Rat) : Rat := if q < 0 then -q else q

/-- excess(dy, tau, n_a, n_b), in ns/s; noise in 2^-16 ns. -/
def excess (dy : Rat) (tau na nb : Nat) : Rat := max 0 (absQ dy - 2 * (na + nb : Nat) / 65536 / (max 1 tau : Nat))

/-- The common span of two slots, Δy over it, and its excess; none without an estimate. -/
def pairDy (d : Device) (a b : Nat) : Option (Nat × Rat × Rat) :=
  let tau := min (slotTau d a) (slotTau d b)
  match yOver (d.slot a).hist tau, yOver (d.slot b).hist tau with
  | some ya, some yb => some (tau, ya - yb, excess (ya - yb) tau (slotNoise d a) (slotNoise d b))
  | _, _ => none

/-- R241: the pair disagrees: excess × τ > lim × W. -/
def disagree (d : Device) (a b : Nat) : Bool :=
  match pairDy d a b with
  | some (tau, _, ex) => decide ((d.fg F.TB_AGREE_lim : Rat) / 10000 * (agreeW d : Nat) < ex * (tau : Nat))
  | none => false

/-! ### Signal and rank (R230 to R233) -/

/-- The port whose recovered clock feeds a slot (R220). -/
def syncePort (d : Device) (n : Nat) : Option Nat :=
  (List.range 16).find? fun p => d.fb (F.PORT_SYNCE_ref_en p) && d.fg (F.PORT_SYNCE_refslot p) == n

/-- The received QL of a port is DNU, DUS or failed. -/
def qlBad (d : Device) (p : Nat) : Bool :=
  !d.fb (F.PORT_ESMC_RX_valid p) || d.fg (F.PORT_ESMC_RX_ssm p) == 15

/-- The instance whose client ports feed a slot (R193). -/
def ptpOf (d : Device) (n : Nat) : Option Nat :=
  (List.range 8).find? fun i => d.fg (F.CLS_PTP_SA_refslot i) == n && d.up (.ptp i) && d.fb (F.CLS_PTP_PORTS_client i)

/-- R299: the TIN channel a slot names is enabled; a FREQIN input needs none. -/
def tinOn (d : Device) (n : Nat) : Bool := let src := d.fg (F.REF_CFG_src n); decide (8 ≤ src) || d.fb (F.TIC_CH_CFG_en src)

/-- The signal of an enabled slot is present (R230). (DEDUCED, log entry 29.) -/
def sigPresent (d : Device) (n : Nat) : Bool :=
  let s := d.slot n
  let within (k : Nat) : Bool := match s.heard with | some h => decide (d.tm.osc ≤ h + k) | none => false
  match refType d n with
  | 1 => within 2400000000 && d.powered 7
  | 2 => tinOn d n && within 1600000000 && decide (s.badLabels < 3) && s.lastX.isSome
  | 3 => tinOn d n && within 1600000000
  | 4 => tinOn d n && within 88000
  | 5 =>
    match syncePort d n with
    | some p => within 88000 && d.fb (F.PORT_STATUS_link_up p) && !(d.fb (F.PORT_SYNCE_esmc_en p) && qlBad d p)
    | none => false
  | 6 =>
    match ptpOf d n with
    | some i => (amGet PtpInst.init d.ptp.insts i).best.isSome && s.lastX.isSome
    | none => false
  | 7 =>
    let e := saOf d (d.fg (F.REF_NTP_CTL_sa n))
    decide (s.missed < 8) && s.lastX.isSome && e.valid && e.owned
  | 8 => d.fg F.PAIR_STATUS_link == 4 && s.lastX.isSome && (within 8000000 || d.pair.cal.any fun c => !(c.stage == 0) && decide (d.now < c.at_ + 2020000000 * nsU))
  | _ => false

/-- FREQ: a frequency outside ±2 × 10^-5 of nominal over the last second (R230). -/
def freqOff (d : Device) (n : Nat) : Bool :=
  match (d.slot n).hist with
  | (t, a) :: (t', b) :: _ => refType d n == 4 && t == t' + 1 && decide (20000 * 65536 < (a - b).natAbs)
  | _ => false

/-- The SSM codes of R232. -/
def ssmRank (opt1 : Bool) (ssm : Nat) : Nat :=
  if opt1 then
    match ssm with | 2 => 8 | 4 => 9 | 8 => 10 | 11 => 11 | _ => 15
  else
    match ssm with | 1 => 8 | 7 => 9 | 4 => 9 | 13 => 10 | 0 => 11 | 10 => 11 | 12 => 11 | 14 => 11 | _ => 15

/-- R232: the derived rank. -/
def derivedRank (d : Device) (n : Nat) : Nat :=
  let s := d.slot n
  let decl := d.fg (F.REF_QUAL_decl n)
  let freqDecl := if decl = 0 then 15 else if decl < 8 then 8 else decl
  match refType d n with
  | 1 | 8 => s.qual
  | 2 | 3 => if decl = 0 then 15 else if 8 ≤ decl ∧ decl ≤ 14 then 7 else decl
  | 4 => freqDecl
  | 5 =>
    match syncePort d n with
    | none => 15
    | some p =>
      if d.fb (F.PORT_SYNCE_esmc_en p) then
        if d.fb (F.PORT_ESMC_RX_ext p) && [0x20, 0x21, 0x23].contains (d.fg (F.PORT_ESMC_RX_essm p)) then 8
        else if d.fb (F.PORT_ESMC_RX_ext p) && d.fg (F.PORT_ESMC_RX_essm p) == 0x22 then 11
        else ssmRank (!d.fb F.PORT_ESMC_CTL_opt) (d.fg (F.PORT_ESMC_RX_ssm p))
      else freqDecl
  | 6 =>
    match s.adv with
    | 6 => 1 | 7 => 2 | 135 => 2 | 13 => 3 | 14 => 3
    | 52 => 5 | 58 => 5 | 140 => 5 | 150 => 5 | 160 => 5 | 165 => 5 | 248 => 5
    | _ => 15
  | 7 => if s.adv = 1 then 3 else if s.adv = 2 ∨ s.adv = 3 then 4 else if 4 ≤ s.adv ∧ s.adv ≤ 15 then 5 else 15
  | _ => 15

/-- R233: the rank in use. -/
def rankOf (d : Device) (n : Nat) : Nat := max (derivedRank d n) (max 1 (d.fg (F.REF_QUAL_floor n)))

/-- The advertised code of REFn_RANK. -/
def advCode (d : Device) (n : Nat) : Nat :=
  match refType d n with
  | 5 => match syncePort d n with | some p => d.fg (F.PORT_ESMC_RX_ssm p) | none => 0
  | 6 => (d.slot n).adv
  | 7 => (d.slot n).adv
  | _ => 0

/-- R234: the slot's own error, with REFn_ERR, in ps. -/
def slotErr (d : Device) (n : Nat) : Nat := (d.slot n).own + d.rn (R.REF_ERR n)

/-! ### The timebase state (R330) -/

/-- The first state whose condition holds. -/
def tbStateNow (d : Device) : Nat :=
  if d.dtInvalid then 6
  else if !(d.fg F.PWR_PLL_STATUS).testBit 16 then 0
  else if !d.tb.warm then 1
  else if d.fb F.TB_TBC_manual then 3
  else
    let m := d.fg F.TB_SEL_STATUS_mode
    if m = 1 ∨ m = 2 then 4 else if m = 3 then 5 else 2

/-- A change of state raises TB_STATE and writes a Ledger record. -/
def refreshTbs (d : Device) : Device :=
  let old := d.fg F.TB_TBS_state
  let new := tbStateNow d
  if old = new then d else ((d.fs F.TB_TBS_state new).pulse S.TB_STATE).ledger L.tbState 0 old new

/-- The selector's pick and the DPLL act (R326, R332). -/
def steering (d : Device) : Bool := d.tb.warm && !d.fb F.TB_TBC_manual && !d.dtInvalid

/-! ### TIME_VALID (R254) -/

/-- TB_HOLD_BUDGET in ps. -/
def holdBudget (d : Device) : Nat := max 1 (d.rn R.TB_HOLD_BUDGET) * 1000

def refreshTimeValid (d : Device) : Device :=
  let old := d.fb F.TB_STATUS_time_valid
  let ok := !d.dtInvalid && decide (d.refs.errEst ≤ holdBudget d)
  let new := if old then ok else ok && d.fb F.TB_STATUS_dt_set && d.fg F.TB_SEL_STATUS_mode == 1
  if old == new then d
  else ((d.fsb F.TB_STATUS_time_valid new).pulse S.TIME_VALID).ledger L.timeValid 0 (if new then 1 else 0) 0

/-! ### The oscillator model (R245) -/

/-- a, Δa (ns/s per day) and f_n (ns/s). -/
def oscA (d : Device) : Rat := (d.rs R.TB_OSC_AGE : Rat) / 100000
def oscTol (d : Device) : Rat := (d.rn R.TB_OSC_AGE_TOL : Rat) / 100000
def oscNoise (d : Device) : Rat := (d.rn R.TB_OSC_NOISE : Rat) / 100000

/-- m(t). -/
def modelM (d : Device) (t : Nat) : Rat :=
  match d.refs.anchor with
  | some (a, o) => o + oscA d * (t - a : Nat) / 86400
  | none => 0

/-- env(t). -/
def modelEnv (d : Device) (t : Nat) : Rat :=
  match d.refs.anchor with
  | some (a, _) => oscNoise d + oscTol d * (t - a : Nat) / 86400
  | none => oscNoise d

/-- s averaged over 10 s. -/
def steer10 (d : Device) : Rat :=
  let l := (d.refs.sHist.take 10).map (·.2)
  if l.isEmpty then d.refs.steer else l.foldl (· + ·) 0 / (l.length : Rat)

/-- o = −s − y. -/
def slotO (d : Device) (n : Nat) : Rat := -(steer10 d) - (slotY d n).getD 0

def meanQ (l : List Rat) : Rat := if l.isEmpty then 0 else l.foldl (· + ·) 0 / (l.length : Rat)

/-- Set the anchor from the newest 10 s of TRACK_TIME. -/
def setAnchor (d : Device) : Device :=
  match d.refs.last10 with
  | some (t, l) =>
    ({ d with refs := { d.refs with anchor := some (t, meanQ l), firstDone := true, sinceAnchor := 0, reanchor := false } }).set1
      F.TB_OSC_CTL_anchored
  | none => d

/-! ### Drift (R244, R246) -/

def qualified (d : Device) (n : Nat) : Bool := refEn d n && (refState d n == 2 || refState d n == 3)

def qualSlots (d : Device) : List Nat := (List.range 32).filter (qualified d)

/-- The mean of the two middle values of a sorted list, or the middle one. -/
def medianQ (l : List Rat) : Rat :=
  let s := l.foldl (fun acc a => (acc.takeWhile (fun b => decide (b ≤ a))) ++ [a] ++ (acc.dropWhile (fun b => decide (b ≤ a)))) []
  let k := s.length / 2
  if s.length % 2 = 1 then s.getD k 0 else (s.getD (k - 1) 0 + s.getD k 0) / 2

/-- D of a slot, in ns/s. -/
def driftOf (d : Device) (n : Nat) : Rat :=
  let peers := (qualSlots d).filter (!· == n)
  if 2 ≤ peers.length then medianQ (peers.map fun p => match pairDy d n p with | some (_, _, ex) => ex | none => 0)
  else if d.refs.anchor.isNone then 0
  else
    let t := elapsed d
    max 0 (absQ (slotO d n - modelM d t) - modelEnv d t)

/-- A drift limit in ns/s. -/
def driftLim (v : Nat) : Rat := (v : Rat) / 10000

def softD (d : Device) : Rat := driftLim (d.fg F.TB_DRIFT_soft)
def hardD (d : Device) : Rat := driftLim (d.fg F.TB_DRIFT_hard)

/-- A frequency in units of 10^-15, saturated to 32 signed bits. -/
def femto (q : Rat) : Nat := unsigned 32 (satS 32 (roundQ (q * 1000000)))

/-! ### Changes of state (R235) -/

/-- NTP identity kept when a slot leaves SELECTED (R97). -/
def keepIdent (d : Device) (n : Nat) : Device := { d with cls := { d.cls with lastSel := some (slotIdent d n) } }

/-- A slot's state changes: REF_STATE and a Ledger record; a slot that leaves SELECTED no longer steers. -/
def setState (d : Device) (n st reason : Nat) : Device :=
  let old := refState d n
  let oldR := d.fg (F.REF_STATUS_dq_reason n)
  if old = st ∧ oldR = reason then d
  else
    let d := if old = 3 then keepIdent d n else d
    let d := if old = 3 ∧ st ≠ 3 then { d with refs := { d.refs with sel := none } } else d
    let d := ((d.fs (F.REF_STATUS_state n) st).fs (F.REF_STATUS_dq_reason n) reason).set1 (F.REF_EVT_state_chg n)
    let d := if st = 1 then d.fs (F.REF_PROOF_T_secs n) 0 else d
    let d := if st = 2 ∨ st = 3 ∨ st = 4 then d else d.clr (F.REF_STATUS_drift n)
    let d := if st = 5 ∧ reason = 1 then d.setSlot n { d.slot n with dqAt := d.tm.osc } else d
    let d := if st = 4 then d else d.setSlot n { d.slot n with agree := 0, side := [] }
    (d.cnt (K.REF_STATE_CHG n)).ledger L.refState n (old + 256 * oldR) (st + 256 * reason)

/-- Where a slot goes when its signal is present (R235). -/
def enterState (d : Device) (n : Nat) : Device :=
  if d.fb (F.REF_CFG_hold n) then setState d n 5 3
  else if rankOf d n < 15 then setState d n 1 0
  else setState d n 5 2

/-- To PROOFING at the end of a hold, or to ABSENT without a signal. -/
def holdEnds (d : Device) (n : Nat) : Device := if (d.slot n).present then setState d n 1 0 else setState d n 0 0

/-- DRIFT holds last dq_hold seconds. -/
def dqHold (d : Device) : Nat := max 60 (d.fg F.TB_SEL_CTL_dq_hold) * 800000000

/-- R237: restart Proofing from 0, counted when a second had been completed (R235). -/
def restartProof (d : Device) (n : Nat) : Device :=
  if d.fg (F.REF_PROOF_T_secs n) = 0 then d
  else
    let d := (d.fs (F.REF_PROOF_T_restarts n) (satU 16 (d.fg (F.REF_PROOF_T_restarts n) + 1))).fs (F.REF_PROOF_T_secs n) 0
    (d.set1 (F.REF_EVT_proof_restart n)).cnt (K.REF_PROOF_RESTART n)

/-- Length of Proofing of a slot (R237). -/
def proofLen (d : Device) (n : Nat) : Nat :=
  let f := max 10 (d.fg (F.REF_PROOF_freq_s n))
  if timeType (refType d n) then max f (max 10 (d.fg (F.REF_PROOF_time_s n))) else f

/-- The checks of R237 for one second. -/
def proofOk (d : Device) (n : Nat) : Bool :=
  let s := d.slot n
  let o := slotO d n
  let time := timeType (refType d n)
  let phase := match d.refs.sel with
    | some m =>
      if time && timeType (refType d m) then
        decide ((s.lastX.getD 0).natAbs * 1000 ≤ (d.refs.errEst + slotErr d n + d.rn R.TB_XTOL) * 65536)
      else true
    | none => true
  !s.glitch && decide (rankOf d n < 15) && decide (absQ o ≤ 20000) && decide (driftOf d n < hardD d) &&
    (!time || (d.fb F.TB_STATUS_dt_set && phase))

/-! ### Steps (R36, R137, R229, R248) -/

/-- The emitters resume at the first nominal instant after now, and no Announce or request counts as sent later than now (R192). (DEDUCED,
log entry 104.) -/
def ptpStepped (d : Device) : Device :=
  let back (l : List (Nat × Inst)) := l.map fun (e : Nat × Inst) => (e.1, min e.2 d.now)
  let inst (x : PtpInst) : PtpInst :=
    { x with lastSync := x.lastSync.map fun (e : Nat × Inst) => (e.1, d.now), lastAnn := back x.lastAnn, lastReq := back x.lastReq }
  let grant (g : Grant) : Grant := { g with lastSync := d.now, lastAnn := min g.lastAnn d.now }
  { d with ptp := { d.ptp with grants := d.ptp.grants.map fun (e : Nat × Grant) => (e.1, grant e.2),
                               insts := d.ptp.insts.map fun (e : Nat × PtpInst) => (e.1, inst e.2) } }

/-- A step of Device Time by `by_`: the counter, the histories, the slots' stamps, the launch points, the pending actions and the
marks of everything that spans it. -/
def applyStep (d : Device) (by_ : Int) : Device :=
  let d := d.secSplit
  let old := d.now
  let new := ((old : Int) + by_).toNat
  let shift := lenSub by_
  let mv (s : RefSlot) : RefSlot :=
    { s with hist := s.hist.map fun (e : Nat × Int) => (e.1, e.2 - shift), lastX := s.lastX.map (· - shift), sum := s.sum - shift * s.count,
             lastEdge := s.lastEdge.map fun t => ((t : Int) + by_).toNat, waiting := s.waiting.map fun t => ((t : Int) + by_).toNat }
  let d := { d with tm := d.tm.setNow new,
                    refs := { d.refs with slots := d.refs.slots.map fun (e : Nat × RefSlot) => (e.1, mv e.2), evalSec := new / secU, stepOsc := some d.tm.osc },
                    mon := { d.mon with secStepped := true,
                                        hists := d.mon.hists.map fun (e : Nat × Hist) => (e.1, { e.2 with win := { e.2.win with stepped := true } }) },
                    tic := { d.tic with chans := d.tic.chans.map fun (e : Nat × TicCh) => (e.1, { e.2 with stepped := true }),
                                        pairs := d.tic.pairs.map fun (e : Nat × TicPair) =>
                                          (e.1, if e.2.st = 2 then { e.2 with stepped := true } else e.2) } }
  let d := ptpStepped d.secMark
  let d := peelStepped (if by_ > 0 then markStepped d old new else d) by_
  refreshLeap (d.set1 F.TB_STATUS_stepped)

/-- Signed nanoseconds of a step, as the two words of a Ledger record. -/
def stepArgs (by_ : Int) : Nat × Nat := let v := unsigned 64 (divNearI by_ nsU); (v % 2 ^ 32, v / 2 ^ 32)

/-- R248: the offset x of a newly followed time reference: a step is scheduled, or the offset becomes the build-out. -/
def judgeOffset (d : Device) (n : Nat) (x : Int) : Device :=
  let thr := max 1 (bits d.stepCtl.toNat 0 20) * 1000 * 65536
  let big := decide (thr < x.natAbs)
  let d := { d with refs := { d.refs with b := x, bAt := d.tm.osc } }
  if big && d.stepCtl.getLsbD 31 then
    let at_ := ((d.now + 2 * secU + secU - 1) / secU) * secU
    let size := divNearI (subLen x) nsU * nsU
    let (lo, hi) := stepArgs size
    let d := { d with refs := { d.refs with stepAt := some (at_, size) } }
    peelStepHold (((d.set1 F.TB_SEL_STATUS_step_pending).pulse S.STEP).ledger L.stepSched n lo hi) at_
  else if big then
    let (lo, hi) := stepArgs (subLen x)
    d.ledger L.stepRefused n lo hi
  else d

/-! ### The DPLL (R247, R249, R250, R331) -/

/-- Bandwidths of R249 in mHz. -/
def bwTable : List Nat :=
  [1, 2, 5, 10, 20, 50, 100, 200, 500, 1000, 2000, 5000, 10000, 20000, 50000, 100000, 200000, 500000, 1000000]

/-- The largest code whose bandwidth is at or below `num / den` mHz. -/
def bwAtMost (num den : Nat) : Nat := ((List.range 19).filter fun c => decide (bwTable.getD c 0 * den ≤ num)).getLast?.getD 0

/-- The bandwidth cap of a slot (R230). -/
def bwCap (d : Device) (n : Nat) : Nat :=
  match refType d n with
  | 1 | 2 | 3 => 6
  | 4 => 18
  | 5 => 12
  | 6 =>
    match ptpOf d n with
    | some i =>
      let lg := signed 8 (d.fg (F.CLS_PTP_RATES_sync i))
      min 12 (if lg ≤ 0 then bwAtMost (100 * 2 ^ lg.natAbs) 1 else bwAtMost 100 (2 ^ lg.natAbs))
    | none => 12
  | 7 => bwAtMost 100 (2 ^ clamp 4 10 (d.fg (F.REF_NTP_CTL_poll n)))
  | _ => 15

/-- ζ and c of R250, in thousandths. -/
def dampOf (d : Device) : Nat × Nat :=
  match d.fg F.TB_DPLL_CTL_damp with
  | 1 => (1000, 2482)
  | 2 => (2000, 4249)
  | 3 => (4000, 8125)
  | 4 => (500, 1817)
  | _ => (707, 2058)

/-- Slew limit in ns/s. -/
def slewLim (d : Device) : Nat := clamp 1 5 (bits d.stepCtl.toNat 24 3)

/-- b now: for a time reference |b| falls at `slew` ns/s, but not while a step is pending (R247, R248). (DEDUCED, log entry 30.) -/
def bNow (d : Device) : Int :=
  match d.refs.sel with
  | some n =>
    if timeType (refType d n) && d.refs.stepAt.isNone then
      let k := (d.tm.osc - d.refs.bAt) * slewLim d * 65536 / 800000000
      if d.refs.b < 0 then min 0 (d.refs.b + k) else max 0 (d.refs.b - k)
    else d.refs.b
  | none => d.refs.b

/-- R331: TB_INCR for a correction in ns/s. -/
def incrFor (s : Rat) : Nat := (roundQ ((incrNominal : Rat) * (1 + s / 1000000000))).toNat

/-- The DPLL writes TB_INCR; the value commits at one tick edge. -/
def writeIncr (d : Device) (s : Rat) : Device :=
  let s := max (-20000) (min 20000 s)
  ({ d with tm := { d.tm with commit := some (BitVec.ofNat 56 (incrFor s)) }, refs := { d.refs with steer := s } }).wn R.TB_STEER (femto s)

/-- π in the gains of R250: some rational within 10⁻¹⁵ of it, which one is left open. (DEDUCED, log entry 28.) -/
def piQ : Rat := max (3141592653589793 / 1000000000000000) (min (3141592653589794 / 1000000000000000) Config.pi)

/-- R250: one update of the loop on x − b. (DEDUCED, log entry 28.) -/
def dpllUpdate (d : Device) (n : Nat) (x : Int) : Device :=
  let b := bNow d
  let r := d.refs
  let err : Rat := ((x - b : Int) : Rat) / 65536
  let dt : Rat := ((d.tm.osc - r.lastUpd : Nat) : Rat) / 800000000
  let cap := bwCap d n
  let own := min (min 18 (d.fg (F.REF_CFG_bw n))) cap
  let code := if r.acq then min cap (max own (min 18 (d.fg F.TB_DPLL_CTL_acq_bw))) else own
  let (zeta, c) := dampOf d
  let w : Rat := 2 * piQ * (bwTable.getD code 0 : Nat) / 1000 / ((c : Rat) / 1000)
  let kp := 2 * ((zeta : Rat) / 1000) * w
  let next := r.integ + w * w * err * dt
  let lim : Rat := slewLim d
  let raw := kp * err
  let clipped := decide (lim < absQ raw)
  let out := if clipped then (if raw < 0 then -lim else lim) else raw
  let integ := if clipped then r.integ else max (-20000) (min 20000 next)
  let small := decide ((x - b).natAbs < d.fg F.TB_DPLL_CTL_acq_thr * 65536)
  let run := if small then r.acqRun + 1 else 0
  let d := monFeedAll d 8 (roundQ (err * 1000))
  let d := { d with refs := { r with b, bAt := d.tm.osc, integ, lastUpd := d.tm.osc, acqRun := run,
                                     acq := r.acq && decide (run < 10) } }
  let d := d.fsb (F.REF_STATUS_bw_cap n) (decide (cap < min 18 (d.fg (F.REF_CFG_bw n))))
  writeIncr d (integ + out)

/-- R247, R248: the first comparison of a new pick. -/
def takeOver (d : Device) (n : Nat) (x : Int) : Device :=
  let d := { d with refs := { d.refs with build := false, lastUpd := d.tm.osc, acqRun := 0, acq := d.fb F.TB_DPLL_CTL_acq_en } }
  if timeType (refType d n) then judgeOffset d n x
  else { d with refs := { d.refs with b := x, bAt := d.tm.osc } }

/-- R228: a raw comparison of a slot, in 2^-16 ns. -/
def refRaw (d : Device) (n : Nat) (x : Int) : Device :=
  if !refEn d n || d.dtInvalid then d
  else
    let s := d.slot n
    let d := d.setSlot n { s with heard := some d.tm.osc, sum := s.sum + x, count := s.count + 1, lastX := some x }
    if d.refs.sel == some n && steering d then
      let d := if d.refs.build then takeOver d n x else dpllUpdate d n x
      { d with cls := { d.cls with refTime := d.nowSec * secU } }
    else d

/-! ### PPS edges and labels (R228, R230, R260) -/

/-- A glitch is counted and otherwise ignored. -/
def refGlitch (d : Device) (n : Nat) : Device :=
  ((d.setSlot n { d.slot n with glitch := true }).set1 (F.REF_EVT_glitch n)).cnt (K.REF_GLITCH n)

/-- x of an edge of a label: label + REFn_DELAY − stamp. -/
def ppsX (d : Device) (n label : Nat) (t : Inst) : Int :=
  lenSub ((label * secU : Nat) + d.rs (R.REF_DELAY n) * psU - t)

/-- A label for an edge of a PPS_TOD slot: one that is not the last label plus 1 is a glitch; three in a row count as loss. (DEDUCED, log entry 27.) -/
def useLabel (d : Device) (n label : Nat) (t : Inst) : Device :=
  let s := d.slot n
  let bad := match s.lastLabel with | some l => !(label == l + 1) | none => false
  if bad then refGlitch (d.setSlot n { s with badLabels := s.badLabels + 1, lastLabel := some label }) n
  else refRaw (d.setSlot n { s with badLabels := 0, lastLabel := some label }) n (ppsX d n label t)

/-- An edge on the TIN input of a PPS or PPS_TOD slot. -/
def refEdge (d : Device) (n : Nat) (t : Inst) : Device :=
  let s := d.slot n
  let off := match s.lastEdge with
    | some p => let dt := t - p; decide (dt + 100000 * nsU < secU) || decide (secU + 100000 * nsU < dt)
    | none => false
  let stale := match s.heard with | some h => decide (h + 1600000000 < d.tm.osc) | none => true
  if off && !stale then refGlitch d n
  else
    let d := d.setSlot n { s with lastEdge := some t, heard := some d.tm.osc }
    if refType d n = 3 then refRaw d n (ppsX d n ((t + secU / 2) / secU) t)
    else
      match s.label with
      | some l => useLabel (d.setSlot n { d.slot n with label := none }) n l t
      | none => d.setSlot n { d.slot n with waiting := some t }

/-! ### The selector (R239, R240, R252, R253) -/

/-- Rank, then priority. -/
def selKey (d : Device) (n : Nat) : Nat := rankOf d n * 16 + d.fg (F.REF_CFG_prio n)

/-- R239: the pick. -/
def pickOf (d : Device) : Option Nat :=
  let cand := qualSlots d
  let f := d.fg F.TB_SEL_CTL_force_slot
  if d.fb F.TB_SEL_CTL_force_en && cand.contains f then some f
  else
    match leastBy (selKey d) cand with
    | none => none
    | some best =>
      match d.refs.sel with
      | some i =>
        if cand.contains i && selKey d i == selKey d best then some i
        else if cand.contains i && !d.fb F.TB_SEL_CTL_revert &&
            !(!timeType (refType d i) && cand.any fun c => timeType (refType d c)) then some i
        else some best
      | none => some best

/-- Averaging span of s_h. -/
def holdAvg (d : Device) : Nat := clamp 60 3600 (bits d.holdCtl.toNat 0 16)

/-- R252, R253: s_h and u_h of a holdover entered now, after a slot that carried the DRIFT flag in the span or left under
the hard limit (`tainted`). -/
def holdRate (d : Device) (tainted : Bool) : Rat × Rat :=
  let t := elapsed d
  let l := (d.refs.sHist.filter fun e => decide (e.1 + 10 ≤ t) && decide (t ≤ e.1 + 10 + holdAvg d)).map (·.2)
  let model := (-(modelM d t), modelEnv d t)
  if d.refs.anchor.isSome && (tainted || l.isEmpty) then model
  else if l.isEmpty then (d.refs.steer, oscNoise d)
  else (meanQ l, oscNoise d)

/-- The slot that leaves carried the DRIFT flag in the averaging span, or left under the hard limit. -/
def taintedBy (d : Device) (n : Nat) : Bool :=
  (match (d.slot n).driftAt with | some t => decide (d.tm.osc ≤ t + (holdAvg d + 10) * 800000000) | none => false) ||
  (refState d n == 5 && d.fg (F.REF_STATUS_dq_reason n) == 1)

/-- The mode becomes HOLDOVER (R252). -/
def enterHoldover (d : Device) (last : Nat) : Device :=
  let (sH, uH) := holdRate d (taintedBy d last)
  let d := { d with refs := { d.refs with sH, uH, modeAt := d.tm.osc, build := false, oRun := [], wDis := 0, wDrift := 0,
                                          lastPrim := d.fg F.TB_SEL_STATUS_rank == 1 } }
  let d := writeIncr (d.fs F.TB_SEL_STATUS_mode 3) sH
  let d := (d.clr F.TB_SEL_STATUS_slewing).fs F.TB_SEL_STATUS_rank 15
  (d.pulse S.HOLDOVER).ledger L.holdover last 0 0

/-- Make a slot the SELECTED one. -/
def selectSlot (d : Device) (n : Nat) : Device :=
  let d := match d.refs.sel with | some m => setState d m 2 0 | none => d
  let d := (setState d n 3 0).cnt K.REF_SWITCH
  let time := timeType (refType d n)
  let mode := if time then 1 else 2
  let modeAt := if d.fg F.TB_SEL_STATUS_mode = mode then d.refs.modeAt else d.tm.osc
  let d := { d with refs := { d.refs with sel := some n, build := true, modeAt, everSel := true, lastType := refType d n,
                                          oRun := if time then d.refs.oRun else [] } }
  let d := if time then d.fsb F.TB_SEL_STATUS_primary (rankOf d n == 1) else d
  ((d.fs F.TB_SEL_STATUS_mode mode).fs F.TB_SEL_STATUS_slot n).fs F.TB_SEL_STATUS_rank (rankOf d n)

/-- R239, R240: run the selector and apply its pick, unless in WARMUP or MANUAL. -/
def runSelector (d : Device) : Device :=
  if !steering d then d
  else
    match pickOf d with
    | some n => if d.refs.sel == some n then d else selectSlot d n
    | none =>
      let m := d.fg F.TB_SEL_STATUS_mode
      if m = 1 ∨ m = 2 then enterHoldover d (d.fg F.TB_SEL_STATUS_slot) else d

/-! ### The error estimate (R251, R253) -/

/-- ps of a phase in 2^-16 ns, rounded up. -/
def subPs (x : Nat) : Nat := (x * 1000 + 65535) / 65536

/-- e after a holdover of `t` seconds at rates u (ns/s) and Δa. -/
def holdErr (d : Device) (e0 : Nat) (u : Rat) (t : Nat) : Nat :=
  e0 + (u * 1000 * (t : Rat) + oscTol d * 1000 / 86400 * (t : Rat) * (t : Rat) / 2).ceil.toNat

/-- The frequency uncertainty of a rank, in ns/s (R231). -/
def rankU (r : Nat) : Rat := if r = 8 then 1 / 100 else if r = 9 then 1 / 10 else if r = 10 then 1 else 4600

/-- Seconds since the mode was entered. -/
def modeSecs (d : Device) : Nat := (d.tm.osc - d.refs.modeAt) / 800000000

/-- R251: e now. -/
def errNow (d : Device) : Nat :=
  let r := d.refs
  satU 48 <|
  if d.fb F.TB_TBC_manual then holdErr d d.tb.manE (holdRate d false).2 ((d.tm.osc - d.tb.manAt) / 800000000)
  else
    match d.fg F.TB_SEL_STATUS_mode with
    | 1 =>
      let n := d.fg F.TB_SEL_STATUS_slot
      let b := bNow d
      slotErr d n + subPs (((d.slot n).lastX.getD 0) - b).natAbs + subPs b.natAbs + r.wDis + r.wDrift
    | 2 => r.eH + (rankU (d.fg F.TB_SEL_STATUS_rank) * 1000 * (modeSecs d : Rat)).ceil.toNat
    | 3 => holdErr d r.eH r.uH (modeSecs d)
    | _ => 2 ^ 48 - 1

/-- Seconds until e reaches the budget, in HOLDOVER and TRACK_FREQ. -/
def holdLeft (d : Device) : Nat :=
  let m := d.fg F.TB_SEL_STATUS_mode
  let e (t : Nat) : Nat := if m = 3 then holdErr d d.refs.eH d.refs.uH (modeSecs d + t)
    else d.refs.eH + (rankU (d.fg F.TB_SEL_STATUS_rank) * 1000 * ((modeSecs d + t : Nat) : Rat)).ceil.toNat
  if m = 2 ∨ m = 3 then
    (List.range 32).foldr (fun k t => if e (t + 2 ^ k) < holdBudget d then t + 2 ^ k else t) 0 + (if e 0 < holdBudget d then 1 else 0)
  else 2 ^ 32 - 1

/-- Bring e and what shows it up to date. -/
def refreshErr (d : Device) : Device :=
  let d := { d with refs := { d.refs with errEst := errNow d } }
  let m := d.fg F.TB_SEL_STATUS_mode
  let d := if m = 1 then { d with refs := { d.refs with eH := d.refs.errEst } } else d
  let d := d.wn R.TB_ERR_WIDEN (satU 32 (d.refs.wDis + d.refs.wDrift))
  let d := (d.wn R.TB_HOLD_TIME (if m = 3 then satU 32 (modeSecs d) else 0)).wn R.TB_HOLD_LEFT (satU 32 (holdLeft d))
  refreshTimeValid d

/-! ### The second (R236) -/

/-- x(k) of the second just ended, the labels of R238, and what REFn shows. -/
def slotSecond (d : Device) (n : Nat) : Device :=
  let s := d.slot n
  let k := elapsed d
  let d :=
    if s.count = 0 then d
    else
      let x := divNearI s.sum s.count
      let near := match s.hist with
        | (k', x') :: _ => decide ((x - x').natAbs ≤ 1000 * 65536) && (refType d n == 7 || k == k' + 1)
        | [] => false
      let keep := s.hist.takeWhile fun e => decide (k ≤ e.1 + agreeW d + 10)
      let d := monFeed d 7 n n (divNearI (x * 1000) 65536)
      let d := d.wn2 (R.REF_PHASE_LO n) (R.REF_PHASE_HI n) (unsigned 64 x)
      d.setSlot n { s with hist := (k, x) :: keep, run := if near then s.run + 1 else 1, sum := 0, count := 0 }
  let d := d.wn (R.REF_FREQ n) (femto ((slotY d n).getD 0))
  let d := d.wn (R.REF_NOISE n) (satU 32 (subPs (slotNoise d n)))
  let d := d.wn (R.REF_DRIFT n) (femto (driftOf d n))
  let d := d.wn (R.REF_ERR_RPT n) (satU 32 (d.slot n).own)
  let d := d.wn (R.REF_CODE n) (autoRefId d n)
  let d := d.fsb (F.REF_STATUS_time_kind n) (timeType (refType d n))
  d.wn (R.REF_RANK n) (advCode d n * 256 + derivedRank d n * 16 + rankOf d n)

/-- Steps 1 to 4 of R236 for a slot: the block, and whether it took a transition. -/
def slotFirst (D : Nat → Rat) (d : Device) (n : Nat) : Bool × Device :=
  let s := d.slot n
  let was := s.present
  let here := sigPresent d n && !freqOff d n
  let d := d.setSlot n { s with present := here }
  let d := if was && !here then (d.set1 (F.REF_EVT_loss n)).cnt (K.REF_LOSS n) else d
  let st := refState d n
  let why := d.fg (F.REF_STATUS_dq_reason n)
  let hold := d.fb (F.REF_CFG_hold n)
  if st = 0 then (if here then (true, enterState d n) else (false, d))
  else if !here && !(st == 5) then (true, setState d n 0 0)
  else if hold && !(st == 5) then (true, setState d n 5 3)
  else if st = 5 ∧ why = 3 then (if hold then (false, d) else (true, holdEnds d n))
  else if (st = 2 ∨ st = 3 ∨ st = 4) ∧ rankOf d n = 15 then (true, setState d n 5 2)
  else if st = 5 ∧ why = 2 then (if rankOf d n < 15 then (true, holdEnds d n) else (false, d))
  else if (st = 2 ∨ st = 3 ∨ st = 4) ∧ hardD d ≤ D n then (true, setState d n 5 1)
  else if st = 5 ∧ why = 1 then (if s.dqAt + dqHold d ≤ d.tm.osc then (true, holdEnds d n) else (false, d))
  else (false, d)

/-- The disagreeing pairs of qualified slots of equal rank (R241), lower number first. -/
def disPairs (d : Device) : List (Nat × Nat) :=
  let q := qualSlots d
  q.flatMap fun a => (q.filter fun b => decide (a < b) && rankOf d a == rankOf d b && disagree d a b).map fun b => (a, b)

/-- REFDIS for the pairs that begin to disagree (R241). -/
def noteDis (d : Device) (ps : List (Nat × Nat)) : Device :=
  let d := ps.foldl (fun d p =>
    if (d.slot p.1).dis.contains p.2 then d
    else ((d.set1 (F.REF_EVT_refdis p.1)).set1 (F.REF_EVT_refdis p.2)).ledger L.refdis p.1 p.2 0) d
  (List.range 32).foldl (fun d n =>
    let l := ps.filterMap fun p => if p.1 = n then some p.2 else if p.2 = n then some p.1 else none
    (d.setSlot n { d.slot n with dis := l }).fsb (F.REF_STATUS_refdis n) (!l.isEmpty)) d

/-- R242: the members of the pairs a majority is against, each with the majority side. -/
def outvoted (d : Device) (ps : List (Nat × Nat)) : List (Nat × List Nat) :=
  let q := qualSlots d
  ps.filterMap fun (a, b) =>
    let others := q.filter fun c => !(c == a) && !(c == b)
    let na := others.filter fun c => !disagree d a c && disagree d b c
    let nb := others.filter fun c => !disagree d b c && disagree d a c
    if na.length < nb.length then some (a, b :: nb) else if nb.length < na.length then some (b, a :: na) else none

/-- Step 5 of R236: majority. -/
def majorityStep (moved : List Nat) (d : Device) : List Nat × Device :=
  let ps := disPairs d
  let out := (outvoted d ps).filter fun e => !moved.contains e.1
  let d := noteDis d ps
  out.foldl (fun acc e =>
    if acc.1.contains e.1 then acc
    else
      let d := setState acc.2 e.1 4 0
      (e.1 :: acc.1, d.setSlot e.1 { d.slot e.1 with agree := 0, side := e.2 })) (moved, d)

/-- Step 6 of R236: one second of Proofing, or of a SUSPECT's re-agreement. (DEDUCED, log entry 26.) -/
def completeStep (d : Device) (n : Nat) : Device :=
  let st := refState d n
  if st = 1 then
    if proofOk d n then
      let k := d.fg (F.REF_PROOF_T_secs n) + 1
      let d := d.fs (F.REF_PROOF_T_secs n) (satU 16 k)
      if proofLen d n ≤ k then setState d n 2 0 else d
    else restartProof d n
  else if st = 4 then
    let s := d.slot n
    if s.side.any fun m => disagree d n m then d.setSlot n { s with agree := 0 }
    else if proofLen d n ≤ s.agree + 1 then setState d n 2 0
    else d.setSlot n { s with agree := s.agree + 1 }
  else d

/-- Step 7 of R236: the soft drift flag. -/
def softStep (D : Nat → Rat) (d : Device) (n : Nat) : Device :=
  let st := refState d n
  if st = 2 ∨ st = 3 ∨ st = 4 then
    let up := decide (softD d ≤ D n)
    let was := d.fb (F.REF_STATUS_drift n)
    let d := d.fsb (F.REF_STATUS_drift n) up
    let d := if up then d.setSlot n { d.slot n with driftAt := some d.tm.osc } else d
    if up && !was then (d.set1 (F.REF_EVT_drift n)).ledger L.drift n (femto (D n)) 0 else d
  else d

/-- R243, R246: the widenings of e, in ps. -/
def widen (D : Nat → Rat) (d : Device) : Device :=
  match d.refs.sel with
  | none => { d with refs := { d.refs with wDis := 0, wDrift := 0 } }
  | some n =>
    let ps := (disPairs d).filter fun p => p.1 == n || p.2 == n
    let w := ps.foldl (fun m p => match pairDy d p.1 p.2 with | some (_, dy, _) => max m (absQ dy * (agreeW d : Nat) * 1000) | none => m) (0 : Rat)
    let wd := if d.fb (F.REF_STATUS_drift n) then D n * (agreeW d : Nat) * 1000 else 0
    { d with refs := { d.refs with wDis := w.ceil.toNat, wDrift := wd.ceil.toNat } }

/-- What the second leaves for the model, the average of s and the status. -/
def secondMarks (d : Device) : Device :=
  let k := elapsed d
  let m := d.fg F.TB_SEL_STATUS_mode
  let r := d.refs
  let d :=
    if m = 1 then
      let n := d.fg F.TB_SEL_STATUS_slot
      let run := (slotO d n :: r.oRun).take 10
      let since := if d.fb (F.REF_STATUS_drift n) then 0 else r.sinceAnchor + 1
      { d with refs := { d.refs with oRun := run, last10 := if run.length = 10 then some (k, run) else r.last10,
                                     selSecs := r.selSecs + 1, sinceAnchor := since } }
    else { d with refs := { d.refs with oRun := [], sinceAnchor := 0 } }
  let d := if m = 1 ∨ m = 2 then { d with refs := { d.refs with sHist := (k, d.refs.steer) :: d.refs.sHist.take 3700 } } else d
  let d := if m = 1 then d.fsb F.TB_SEL_STATUS_primary (rankOf d (d.fg F.TB_SEL_STATUS_slot) == 1) else d
  let d := if (m = 1 ∨ m = 2) ∧ r.sel.isSome ∧ r.build = false ∧ d.tm.osc < r.lastUpd + 800000000 then
      { d with cls := { d.cls with refTime := d.nowSec * secU } } else d
  let d := if m = 1 ∨ m = 2 then d.fs F.TB_SEL_STATUS_rank (rankOf d (d.fg F.TB_SEL_STATUS_slot)) else d.fs F.TB_SEL_STATUS_rank 15
  let d := d.fsb F.TB_SEL_STATUS_slewing (m == 1 && !(bNow d == 0))
  let d := (d.fsb F.TB_SEL_STATUS_widen_dis (!(d.refs.wDis == 0))).fsb F.TB_SEL_STATUS_widen_drift (!(d.refs.wDrift == 0))
  if m = 3 ∧ steering d then writeIncr d (d.refs.sH - oscA d * (modeSecs d : Rat) / 86400) else d

/-- R236: evaluate the slots and run the selector. -/
def evalSecond (d : Device) : Device :=
  let en := (List.range 32).filter (refEn d)
  let d := en.foldl slotSecond d
  let D := fun n => driftOf d n
  let (moved, d) := en.foldl (fun acc n =>
    let (m, d) := slotFirst D acc.2 n
    (if m then n :: acc.1 else acc.1, d)) (([] : List Nat), d)
  let (moved, d) := majorityStep moved d
  let d := (en.filter (!moved.contains ·)).foldl completeStep d
  let d := en.foldl (softStep D) d
  let d := en.foldl (fun d n => d.setSlot n { d.slot n with glitch := false }) d
  let d := runSelector d
  let d := widen D d
  refreshTbs (secondMarks (refreshErr d))

/-- R228: a raw comparison arrives. -/
def xRefRawComparison (n : Nat) (x : Int) (d : Device) : Device := if n < 32 then refRaw d n x else d

/-- R236: a second of Device Time has ended. -/
def xRefSecondEval (d : Device) : Device :=
  if d.dtInvalid ∨ d.nowSec = d.refs.evalSec then d
  else evalSecond { d with refs := { d.refs with evalSec := d.nowSec } }

/-- R240: the SELECTED slot has left SELECTED. -/
def xSelectorRerun (d : Device) : Device :=
  if d.refs.sel.isNone && (d.fg F.TB_SEL_STATUS_mode == 1 || d.fg F.TB_SEL_STATUS_mode == 2) then refreshTbs (refreshErr (runSelector d)) else d

/-- Slots ready to set Device Time (R238). -/
def readyToSet (d : Device) (n : Nat) : Bool :=
  let t := refType d n
  refEn d n && refState d n == 1 && (t == 1 || t == 2 || t == 6 || t == 7 || t == 8) && decide (3 ≤ (d.slot n).run) &&
  !(t == 2 && d.fg (F.REF_TOD_fmt n) != 1 && !d.fb F.TB_STATUS_utc_valid)

/-- R238: the first ready time reference sets Device Time; Proofing restarts in every time-reference slot;
bookings still pending on the unset scale are cancelled (R137). (DEDUCED, log entry 105.) -/
def xDeviceTimeSet (d : Device) : Device :=
  if d.fb F.TB_STATUS_dt_set || d.dtInvalid then d
  else
    match leastBy (selKey d) ((List.range 32).filter (readyToSet d)) with
    | none => d
    | some n =>
      let x := (d.slot n).lastX.getD 0
      let target := ofDtSub (dtSub ((d.now : Int) + subLen x).toNat)
      let d := applyStep (peelStepHold d d.now) ((target : Int) - d.now)
      let d := (d.set1 F.TB_STATUS_dt_set).ledger L.timeSet n 0 0
      let d := (List.range 32).foldl (fun d m =>
        if timeType (refType d m) && refState d m == 1 then d.fs (F.REF_PROOF_T_secs m) 0 else d) d
      refreshLeap (refreshTimeValid d)

/-- R248: the scheduled boundary: Device Time steps, the remainder stays as the build-out. -/
def xDeviceTimeStep (d : Device) : Device :=
  match d.refs.stepAt with
  | some (at_, size) =>
    if d.dtInvalid ∨ d.now < at_ then d
    else
      let d := applyStep d size
      let d := { d with refs := { d.refs with stepAt := none, b := d.refs.b - lenSub size, bAt := d.tm.osc } }
      let (lo, hi) := stepArgs size
      (d.clr F.TB_SEL_STATUS_step_pending).ledger L.stepDone (d.fg F.TB_SEL_STATUS_slot) lo hi
  | none => d

/-- Inputs an enabled slot names: TIN 0 to 7, FREQIN as 8 and 9 (R227). -/
def refInputs (d : Device) (n : Nat) : List Nat :=
  let src := d.fg (F.REF_CFG_src n)
  match refType d n with
  | 2 => [src, d.fg (F.REF_TOD_tin n)]
  | 3 => [src]
  | 4 => [src]
  | _ => []

/-- The code of a refused enable: 1 BAD_TYPE, 3 BAD_SRC, 2 IN_USE, or 0. -/
def refEnableErr (d : Device) (n : Nat) : Nat :=
  let t := refType d n
  let src := d.fg (F.REF_CFG_src n)
  if t = 0 ∨ 9 ≤ t ∨ (t = 8 ∧ n ≠ 31) ∨ (n = 31 ∧ t ≠ 8) then 1
  else if (t = 1 ∧ 4 ≤ src) ∨ ((t = 2 ∨ t = 3) ∧ 8 ≤ src) ∨ (t = 4 ∧ 10 ≤ src) then 3
  else if (List.range 32).any fun m => !(m == n) && refEn d m && (refInputs d m).any fun i => (refInputs d n).contains i then 2
  else 0

/-- R227: a write that sets en. -/
def xRefEnable (n : Nat) (d : Device) : Device :=
  if 32 ≤ n ∨ refEn d n then d
  else
    let e := refEnableErr d n
    let d := d.fs (F.REF_STATUS_err n) e
    if e = 0 then
      (((d.setSlot n RefSlot.init).set1 (F.REF_CFG_en n)).clr (F.REF_CFG_drained n)).fsb (F.REF_STATUS_time_kind n) (timeType (refType d n))
    else d

/-- R227: clearing en: ABSENT at once, the measurements discarded, the selector run when the slot was SELECTED. -/
def refStop (d : Device) (n : Nat) : Device :=
  let was := d.refs.sel == some n
  let d := setState (d.clr (F.REF_CFG_en n)) n 0 0
  let d := d.setSlot n RefSlot.init
  let d := (d.clr (F.REF_STATUS_refdis n)).clr (F.REF_STATUS_bw_cap n)
  let d := { d with stopping := (d.stopping.filter fun e => !(e.1 == R.REF_CFG n)) ++ [(R.REF_CFG n, false)] }
  if was then refreshTbs (refreshErr (runSelector d)) else d

/-- R227: a write that clears en; DRAIN and CUT act alike. -/
def xRefDisable (n : Nat) (cut : Bool) (d : Device) : Device :=
  if n < 32 ∧ refEn d n then refStop (d.fsb (F.REF_CFG_stop n) cut) n else d

/-- R258: requal ends a DRIFT hold at once. -/
def xRefRequal (n : Nat) (d : Device) : Device :=
  if n < 32 ∧ refState d n = 5 ∧ d.fg (F.REF_STATUS_dq_reason n) = 1 then holdEnds d n else d

/-- R245: reanchor, now or once 10 seconds of TRACK_TIME have passed. -/
def xOscReanchor (d : Device) : Device :=
  if d.refs.last10.isSome then setAnchor d else { d with refs := { d.refs with reanchor := true } }

/-- R245: the anchor is due: a held reanchor, the first W seconds of tracking, or 86,400 s without a DRIFT flag. -/
def xOscAnchor (d : Device) : Device :=
  let r := d.refs
  if (r.reanchor && decide (10 ≤ r.oRun.length)) || (!r.firstDone && decide (agreeW d ≤ r.selSecs) && decide (10 ≤ r.oRun.length)) ||
      (r.firstDone && decide (86400 ≤ r.sinceAnchor)) then setAnchor d
  else d

/-- A write to TB_OSC_AGE, TB_OSC_AGE_TOL or TB_OSC_NOISE begins the first W seconds anew (R245). -/
def oscModelWritten (d : Device) : Device := { d with refs := { d.refs with selSecs := 0, firstDone := false } }

/-- R261: e is latched. -/
def xTbErrEstRead (d : Device) : Device :=
  let e := d.refs.errEst
  let d := d.wn2 R.TB_ERR_EST_LO R.TB_ERR_EST_HI e
  d.emit (.hostRead (BitVec.ofNat 32 e))

/-- R257: x is latched: the low word is returned, the high word is held for REFn_PHASE_HI. -/
def xRefPhaseRead (n : Nat) (d : Device) : Device :=
  let x := unsigned 64 (match (d.slot n).hist with | (_, x) :: _ => x | [] => 0)
  (d.wn2 (R.REF_PHASE_LO n) (R.REF_PHASE_HI n) x).emit (.hostRead (BitVec.ofNat 32 x))

/-! ### NTP upstreams (R256) -/

/-- The poll request of a slot launched at `t1`. -/
def ntpPoll (d : Device) (n : Nat) (t1 : Inst) : Bytes :=
  let e := saOf d (d.fg (F.REF_NTP_CTL_sa n))
  let port := d.fg (F.REF_NTP_CTL_port n)
  let up := ntpUpstream d n
  let mac := bits (d.rn (R.REF_NTP_MAC_HI n)) 0 16 * 2 ^ 32 + d.rn (R.REF_NTP_MAC_LO n)
  let body := beBytes 1 0x23 ++ zeros 1 ++ beBytes 1 (clamp 4 10 (d.fg (F.REF_NTP_CTL_poll n))) ++ beBytes 1 0xDF ++ zeros 36 ++
    beBytes 8 (ntpOf d t1)
  udpFrame mac (saMac d e port) (vlanTci d e.vlan) (!isV4 up) e.dscp e.hop e.addr.toNat up 123 123 body

/-- R256: a poll is due: it is booked through the Peel and committed; T1 is the booked instant. -/
def xNtpPollSend (n : Nat) (d : Device) : Device :=
  let s := d.slot n
  let iv := 2 ^ clamp 4 10 (d.fg (F.REF_NTP_CTL_poll n)) * 800000000
  let e := saOf d (d.fg (F.REF_NTP_CTL_sa n))
  let due : Bool := match s.polledAt with | some t => decide (t + iv ≤ d.tm.osc) | none => true
  if n < 32 ∧ refEn d n ∧ refType d n = 7 ∧ due ∧ e.valid ∧ e.owned then
    let d := d.setSlot n { s with polledAt := some d.tm.osc, missed := if s.ntpT1.isSome then s.missed + 1 else s.missed, ntpT1 := none }
    let port := d.fg (F.REF_NTP_CTL_port n)
    let len := max 60 (ntpPoll d n 0).length + 4
    let (c, h, t, d) := peelBook d port (d.now + gLead d) (d.now + gLead d + d.rn R.PEEL_SEARCH * nsU) len
      (gateClass d port (vlanTci d e.vlan)) false false (.engine none)
    if c = T.ACCEPTED then
      let d := d.setSlot n { d.slot n with ntpT1 := some t }
      (peelCommit d h (ntpPoll d n t) none).2
    else d
  else d

/-- Signed difference of two NTP timestamps (2^-32 s) in 2^-16 ns. -/
def ntpDiff (a b : Nat) : Int := divNearI (signed 64 (unsigned 64 ((a : Int) - b)) * 1000000000 * 65536) (2 ^ 32)

/-- R256: a response from the upstream with a matching origin timestamp, received at `t4`: a sample; of the last 8 the one of
least δ is the measurement. -/
def xNtpUpstreamResponse (n port src sport : Nat) (msg : Bytes) (t4 : Inst) (d : Device) : Device :=
  let s := d.slot n
  match s.ntpT1 with
  | none => d
  | some t1 =>
    let o := ntpOf d t1
    if n < 32 ∧ refEn d n ∧ refType d n = 7 ∧ byteAt msg 0 % 8 = 4 ∧ port = d.fg (F.REF_NTP_CTL_port n) ∧ src = ntpUpstream d n ∧
        sport = 123 ∧ 48 ≤ msg.length ∧ beAt msg 24 8 = o then
      let t2 := beAt msg 32 8
      let t3 := beAt msg 40 8
      let r4 := ntpOf d t4
      let th := divNearI (ntpDiff t2 o + ntpDiff t3 r4) 2
      let de := ntpDiff r4 o - ntpDiff t3 t2
      let samples := ((th, de) :: s.samples).take 8
      let best := (leastBy (fun e : Int × Int => (e.2 + 2 ^ 62).toNat) samples).getD (th, de)
      let li3 := byteAt msg 0 / 64 == 3
      let own := (beAt msg 4 4 * 1000000000000 / 2 + beAt msg 8 4 * 1000000000000) / 65536 + subPs (best.2.natAbs) / 2
      let d := d.setSlot n { s with ntpT1 := none, missed := 0, samples, adv := if li3 then 16 else byteAt msg 1, own }
      let d := { d with refs := { d.refs with delay := amSet 0 d.refs.delay n (subPs best.2.natAbs / 2) } }
      refRaw d n (best.1 - lenSub (d.rs (R.REF_DELAY n) * psU))
    else d

/-! ### Time-of-day messages (R260, R340) -/

/-- CRC-16, polynomial 0x1021, initial value 0xFFFF, not reflected (R340). -/
def crc16 (bs : Bytes) : Nat :=
  (bs.foldl (fun (c : BitVec 16) b =>
    (List.range 8).foldl (fun c _ => if c.getLsbD 15 then (c <<< 1) ^^^ 0x1021#16 else c <<< 1) (c ^^^ (BitVec.ofNat 16 (b.toNat * 256)))) 0xFFFF#16).toNat

/-- The label of a Tamco time message: TAI seconds; none when it is rejected. -/
def tamcoLabel (m : Bytes) : Option Nat :=
  if m.length = 32 ∧ byteAt m 0 = 0x54 ∧ byteAt m 1 = 0xAC ∧ byteAt m 2 = 0x11 ∧ leAt m 30 2 = crc16 (m.take 30) then
    some (leAt m 4 6) else none

/-- Decimal digits. -/
def decDigits (bs : Bytes) : Option Nat :=
  bs.foldl (fun acc b => acc.bind fun a => if 48 ≤ b.toNat ∧ b.toNat ≤ 57 then some (a * 10 + (b.toNat - 48)) else none) (some 0)

/-- Fields of a sentence between commas. -/
def splitComma (bs : Bytes) : List Bytes :=
  let (cur, acc) := bs.foldl (fun (st : Bytes × List Bytes) b => if b.toNat = 44 then ([], st.1.reverse :: st.2) else (b :: st.1, st.2)) ([], [])
  (cur.reverse :: acc).reverse

/-- Days from 1970-01-01 to a date. -/
def daysFromCivil (y m dd : Nat) : Nat :=
  let y' := if m ≤ 2 then y - 1 else y
  let mp := (m + 9) % 12
  let doy := (153 * mp + 2) / 5 + dd - 1
  y' * 365 + y' / 4 - y' / 100 + y' / 400 + doy - 719468

/-- UTC seconds since 1970 of an NMEA ZDA sentence; none when it is malformed. -/
def zdaUtc (m : Bytes) : Option Nat :=
  let body := m.takeWhile fun b => !(b.toNat == 42)
  let f := splitComma body
  let hms := f.getD 1 []
  match decDigits (hms.take 6), decDigits (f.getD 2 []), decDigits (f.getD 3 []), decDigits (f.getD 4 []) with
  | some t, some dd, some mo, some y =>
    let id := f.getD 0 []
    let sum := (body.drop 1).foldl (fun (a : BitVec 8) b => a ^^^ b) 0
    let hex (b : Byte) : Nat := if b.toNat ≤ 57 then b.toNat - 48 else (b.toNat - 55) % 32
    let given := (m.drop (body.length + 1)).take 2
    if hms.length < 6 ∨ id.length ≠ 6 ∨ id.drop 3 ≠ ascii "ZDA" ∨ mo = 0 ∨ 12 < mo ∨ y < 1970 ∨
        (given.length = 2 ∧ hex (given.getD 0 0) * 16 + hex (given.getD 1 0) ≠ sum.toNat) then none
    else some (daysFromCivil y mo dd * 86400 + t / 10000 * 3600 + t / 100 % 100 * 60 + t % 100)
  | _, _, _, _ => none

/-- The TAI second a UTC count names with the offset in force (R260). -/
def utcToTai (d : Device) (u : Nat) : Option Nat := (offsetNow d).map (u + ·)

/-- R260: a message on a TIN input labels the next edge, or the previous one; a rejected one counts as a bad label. -/
def xTodMessageReceive (tin : Nat) (msg : Bytes) (d : Device) : Device :=
  (List.range 32).foldl (fun d n =>
    if refEn d n && refType d n == 2 && d.fg (F.REF_TOD_tin n) == tin then
      let lab := if d.fg (F.REF_TOD_fmt n) = 1 then tamcoLabel msg else (zdaUtc msg).bind (utcToTai d)
      let s := d.slot n
      match lab with
      | none =>
        let d := refGlitch d n
        d.setSlot n { d.slot n with badLabels := s.badLabels + 1 }
      | some l =>
        if d.fb (F.REF_TOD_label n) then
          match s.waiting with
          | some t => useLabel (d.setSlot n { s with waiting := none }) n l t
          | none => d
        else d.setSlot n { s with label := some l }
    else d) d

/-! ### The commands of this file -/

/-- DEVICE_TIME_STEP (R248). -/
def execDeviceTimeStep (s : State) : Host.Outcome State Fault Refusal :=
  finish s (xDeviceTimeStep s.dev)

/-- REF_RAW_COMPARISON (R228). -/
def execRefRawComparison (n : Nat) (x : Int) (s : State) : Host.Outcome State Fault Refusal :=
  finish s (xRefRawComparison n x s.dev)

/-- REF_SECOND_EVAL (R236). -/
def execRefSecondEval (s : State) : Host.Outcome State Fault Refusal :=
  finish s (xRefSecondEval s.dev)

/-- SELECTOR_RERUN (R240). -/
def execSelectorRerun (s : State) : Host.Outcome State Fault Refusal :=
  finish s (xSelectorRerun s.dev)

/-- DEVICE_TIME_SET (R238). -/
def execDeviceTimeSet (s : State) : Host.Outcome State Fault Refusal :=
  finish s (xDeviceTimeSet s.dev)

/-- REF_ENABLE (R227). -/
def execRefEnable (n : Nat) (s : State) : Host.Outcome State Fault Refusal :=
  finish s (hostWrite (R.REF_CFG n) (xRefEnable n) s.dev)

/-- REF_DISABLE (R227). -/
def execRefDisable (n : Nat) (cut : Bool) (s : State) : Host.Outcome State Fault Refusal :=
  finish s (hostWrite (R.REF_CFG n) (xRefDisable n cut) s.dev)

/-- REF_REQUAL (R258). -/
def execRefRequal (n : Nat) (s : State) : Host.Outcome State Fault Refusal :=
  finish s (hostWrite (R.REF_CFG n) (xRefRequal n) s.dev)

/-- OSC_REANCHOR (R245). -/
def execOscReanchor (s : State) : Host.Outcome State Fault Refusal :=
  finish s (hostWrite R.TB_OSC_CTL xOscReanchor s.dev)

/-- OSC_ANCHOR (R245). -/
def execOscAnchor (s : State) : Host.Outcome State Fault Refusal :=
  finish s (xOscAnchor s.dev)

/-- TB_ERR_EST_READ (R261). -/
def execTbErrEstRead (s : State) : Host.Outcome State Fault Refusal :=
  finish s (hostRead R.TB_ERR_EST_LO xTbErrEstRead s.dev)

/-- REF_PHASE_READ (R257). -/
def execRefPhaseRead (n : Nat) (s : State) : Host.Outcome State Fault Refusal :=
  finish s (hostRead (R.REF_PHASE_LO n) (xRefPhaseRead n) s.dev)

/-- NTP_POLL_SEND (R256). -/
def execNtpPollSend (n : Nat) (s : State) : Host.Outcome State Fault Refusal :=
  finish s (xNtpPollSend n s.dev)

/-- NTP_UPSTREAM_RESPONSE (R256). -/
def execNtpUpstreamResponse (n port src sport : Nat) (msg : Bytes) (t4 : Inst) (s : State) : Host.Outcome State Fault Refusal :=
  finish s (xNtpUpstreamResponse n port src sport msg t4 s.dev)

/-- TOD_MESSAGE_RECEIVE (R260). -/
def execTodMessageReceive (tin : Nat) (msg : Bytes) (s : State) : Host.Outcome State Fault Refusal :=
  finish s (xTodMessageReceive tin msg s.dev)

end Sys2Proof.Machine
end

