-- ==== Sys2Proof/Machine/Ptp.lean ====
section
/-! DEFINITION. The PTP service (spec/06_ptp.md): instances and profiles (R176 to R179), message building (R184, R185), the Sync
emitter (R183), unicast negotiation (R186 to R188), Announce and clock quality (R189 to R192), client ports (R193), and stopping
(R194).  Message layouts are those of IEEE 1588-2019 (log entry 20). -/

namespace Sys2Proof.Machine

/-! ### Instances -/

def Device.ptpInst (d : Device) (i : Nat) : PtpInst := amGet PtpInst.init d.ptp.insts i

def Device.setPtpInst (d : Device) (i : Nat) (x : PtpInst) : Device :=
  { d with ptp := { d.ptp with insts := amSet PtpInst.init d.ptp.insts i x } }

def ptpProfile (d : Device) (i : Nat) : Nat := d.fg (F.CLS_PTP_CFG_profile i)
def ptpTransport (d : Device) (i : Nat) : Nat := d.fg (F.CLS_PTP_CFG_transport i)
def ptpDomain (d : Device) (i : Nat) : Nat := d.fg (F.CLS_PTP_CFG_domain i)
def ptpUnicast (d : Device) (i : Nat) : Bool := d.fb (F.CLS_PTP_CFG_unicast i)
def ptpServer (d : Device) (i p : Nat) : Bool := decide (p < 16) && (d.fg (F.CLS_PTP_PORTS_server i)).testBit p
def ptpClient (d : Device) (i p : Nat) : Bool := decide (p < 16) && (d.fg (F.CLS_PTP_PORTS_client i)).testBit p
def ptpId (d : Device) (i : Nat) : Nat := d.rn (R.CLS_PTP_ID_HI i) * 2 ^ 32 + d.rn (R.CLS_PTP_ID_LO i)
def ptpRefslot (d : Device) (i : Nat) : Nat := d.fg (F.CLS_PTP_SA_refslot i)

/-- The profiles of G.8275. -/
def g8275 (d : Device) (i : Nat) : Bool := ptpProfile d i == 1 || ptpProfile d i == 2

/-- R192: SERVER ports send nothing, and grants are denied. -/
def ptpSilent (d : Device) : Bool := notReady d || (!d.fb F.TB_STATUS_time_valid && !d.unsync)

/-- Delay mechanism of a port: 0 E2E, 1 P2P, 2 NONE. -/
def ptpDelay (d : Device) (p : Nat) : Nat := let v := d.fg (F.CLS_PTPP_CTL_delay p); if v = 3 then 0 else v

/-- 2^log seconds. -/
def logDur (lg : Int) : Inst := if lg < 0 then secU / 2 ^ lg.natAbs else secU * 2 ^ lg.natAbs

def rateLog (d : Device) (f : Fld) : Int := signed 8 (d.fg f)

/-! ### Configuration checks (R177, R179) -/

/-- Ranges of a profile: domain, Sync log, Announce log, request log, announceReceiptTimeout. -/
structure ProfRange where
  dom : Nat × Nat
  sync : Int × Int
  ann : Int × Int
  req : Int × Int
  tmo : Nat × Nat

def profRange (p : Nat) : ProfRange :=
  match p with
  | 1 => { dom := (24, 43), sync := (-4, -4), ann := (-3, -3), req := (-4, -4), tmo := (3, 3) }
  | 2 => { dom := (44, 63), sync := (-7, 0), ann := (-3, 0), req := (-7, 0), tmo := (2, 10) }
  | 3 => { dom := (0, 254), sync := (0, 0), ann := (0, 0), req := (0, 0), tmo := (3, 3) }
  | 4 => { dom := (0, 127), sync := (-7, -1), ann := (-3, 1), req := (-7, -1), tmo := (2, 10) }
  | _ => { dom := (0, 127), sync := (-7, 1), ann := (-3, 4), req := (-7, 5), tmo := (2, 10) }

/-- Default rates of a profile: Sync, Announce, request log, timeout. -/
def profRates (p : Nat) : Int × Int × Int × Nat :=
  match p with
  | 1 => (-4, -3, -4, 3)
  | 2 => (0, 0, 0, 3)
  | 3 => (0, 0, 0, 3)
  | 4 => (-3, -2, -3, 3)
  | _ => (0, 1, 0, 3)

/-- Transport and unicast settings a profile permits. -/
def transportOk (p t : Nat) (uni : Bool) : Bool :=
  match p with
  | 0 => decide (t < 3) && (!uni || !(t == 0))
  | 1 => t == 0 && !uni
  | 2 => (t == 1 || t == 2) && uni
  | 3 => t == 0 && !uni
  | _ => t == 1

def inR (r : Int × Int) (v : Int) : Bool := decide (r.1 ≤ v) && decide (v ≤ r.2)

/-- Ports of an instance. -/
def ptpPorts (d : Device) (i : Nat) : Nat := d.fg (F.CLS_PTP_PORTS_server i) ||| d.fg (F.CLS_PTP_PORTS_client i)

/-- The VLAN entry of an instance. -/
def ptpVlan (d : Device) (i : Nat) : Nat :=
  if ptpTransport d i = 0 then d.fg (F.CLS_PTP_SA_vlan i) else (saOf d (d.fg (F.CLS_PTP_SA_sa i))).vlan

/-- R179: the reason an enable is refused; 0 for none. -/
def ptpCheck (d : Device) (i : Nat) : Nat :=
  let p := ptpProfile d i
  let t := ptpTransport d i
  let r := profRange p
  let dom := ptpDomain d i
  let e := saOf d (d.fg (F.CLS_PTP_SA_sa i))
  let clash (j : Nat) : Bool :=
    !(j == i) && d.fb (UnitId.ptp j).en && !(ptpPorts d i &&& ptpPorts d j == 0) && ptpVlan d i == ptpVlan d j &&
    t == ptpTransport d j && dom == ptpDomain d j
  if 5 ≤ p then 1
  else if !transportOk p t (ptpUnicast d i) then 2
  else if dom < r.dom.1 ∨ r.dom.2 < dom ∨ (p = 3 ∧ 127 < dom ∧ dom ≠ 254) then 3
  else if !(inR r.sync (rateLog d (F.CLS_PTP_RATES_sync i)) && inR r.ann (rateLog d (F.CLS_PTP_RATES_ann i)) &&
      inR r.req (rateLog d (F.CLS_PTP_RATES_dreq i)) && decide (r.tmo.1 ≤ d.fg (F.CLS_PTP_RATES_timeout i)) &&
      decide (d.fg (F.CLS_PTP_RATES_timeout i) ≤ r.tmo.2)) then 4
  else if !(d.fg (F.CLS_PTP_PORTS_server i) &&& d.fg (F.CLS_PTP_PORTS_client i) == 0) || (List.range 8).any clash then 5
  else if (if t = 0 then !d.fb (F.CLS_VLAN_valid (d.fg (F.CLS_PTP_SA_vlan i))) else !(e.valid && e.owned && e.ptp)) then 6
  else if ptpId d i = 0 then 7
  else 0

/-- R179: setting en. -/
def xPtpInstanceEnable (i : Nat) (d : Device) : Device :=
  if 8 ≤ i ∨ d.fb (UnitId.ptp i).en then d
  else
    let e := ptpCheck d i
    if e ≠ 0 then d.fs (F.CLS_PTP_STATUS_err i) e
    else
      let d := (d.set1 (UnitId.ptp i).en).clr (UnitId.ptp i).drained
      let from_ := d.now + 2000 * nsU
      let ports := setBits (ptpPorts d i) 16
      d.setPtpInst i { PtpInst.init with seqs := (d.ptpInst i).seqs, lastSync := ports.map fun p => (p, from_) }

/-- R196: a write of the profile field resets the rates. -/
def xPtpProfileWrite (i p : Nat) (d : Device) : Device :=
  if 8 ≤ i ∨ d.fb (UnitId.ptp i).en then d
  else
    let (s, a, r, t) := profRates (p % 8)
    let d := d.fs (F.CLS_PTP_CFG_profile i) (p % 8)
    d.wn (R.CLS_PTP_RATES i) (unsigned 8 s + unsigned 8 a * 256 + unsigned 8 r * 65536 + t * 16777216)

/-! ### Clock quality (R189 to R191) -/

/-- The instance whose client ports feed the SELECTED slot, and the body of its upstream's Announce. -/
def upstreamSel (d : Device) : Option (Nat × Option Foreign) :=
  match d.refs.sel with
  | some n =>
    if refType d n = 6 then
      match ptpOf d n with
      | some i =>
        let x := d.ptpInst i
        some (i, match x.best with
          | some (p, c, k) => x.foreign.find? fun f => f.port == p && f.clockId == c && f.portNum == k
          | none => none)
      | none => none
    else none
  | none => none

/-- Row of R190. (DEDUCED, log entry 44.) -/
def qualRow (d : Device) : Nat :=
  if !d.refs.everSel then 4
  else if (upstreamSel d).isSome then 5
  else if !d.fb F.TB_STATUS_time_valid then 3
  else if (d.fg F.TB_SEL_STATUS_mode == 1 || d.fg F.TB_SEL_STATUS_mode == 2) then (if d.fg F.TB_SEL_STATUS_rank = 1 then 0 else 1)
  else 2

/-- "After primary" for rows C and D. -/
def afterPrimary (d : Device) : Bool :=
  if d.fg F.TB_SEL_STATUS_mode == 1 || d.fg F.TB_SEL_STATUS_mode == 2 then d.fg F.TB_SEL_STATUS_rank == 1 else d.refs.lastPrim

/-- A byte of the upstream's Announce body, which starts at offset 44 of the message. -/
def upByte (d : Device) (k len dflt : Nat) : Nat :=
  match upstreamSel d with
  | some (_, some f) => beAt f.body k len
  | _ => dflt

/-- R190: clockClass of an instance. -/
def clockClass (d : Device) (i : Nat) : Nat :=
  let g := g8275 d i
  match qualRow d with
  | 0 => 6
  | 1 => if g then 248 else 13
  | 2 => if afterPrimary d then 7 else if g then (if d.refs.lastType = 6 then 135 else 248) else 14
  | 3 =>
    if g then
      if d.refs.lastType = 6 then 165
      else match d.fg (F.CLS_PTP_CFG_osc_cat i) with | 1 => 140 | 2 => 150 | _ => 160
    else if afterPrimary d then 52 else 58
  | 4 => 248
  | _ => upByte d 4 1 248

/-- Bounds of Table 5 of IEEE 1588-2019 from code 0x20, in ps. -/
def accBounds : List Nat :=
  [25000, 100000, 250000, 1000000, 2500000, 10000000, 25000000, 100000000, 250000000, 1000000000, 2500000000, 10000000000,
   25000000000, 100000000000, 250000000000, 1000000000000, 10000000000000]

/-- The smallest code whose bound is at or above an error. -/
def accCode (e : Nat) : Nat := 0x20 + ((accBounds.findIdx? fun b => decide (e ≤ b)).getD 17)

/-- R191: clockAccuracy of an instance. -/
def clockAcc (d : Device) (i : Nat) : Nat :=
  let row := qualRow d
  if row = 5 then upByte d 5 1 0xFE
  else if g8275 d i then (if row = 0 then (if d.fb (F.CLS_PTP_CFG_prtc_b i) then 0x20 else 0x21) else 0xFE)
  else if row = 4 then 0xFE
  else if d.refs.wDis = 0 then accCode d.refs.errEst
  else min 0xFE (accCode (d.refs.errEst - d.refs.wDis) + 1)

/-- R189, R234: timeSource. -/
def timeSource (d : Device) : Nat :=
  if !d.refs.everSel then 0xA0
  else
    let n := d.fg F.TB_SEL_STATUS_slot
    match refType d n with
    | 1 => 0x20
    | 2 | 3 | 4 => if d.fb (F.REF_CFG_atomic n) then 0x10 else 0x90
    | 6 => 0x40
    | 7 => 0x50
    | 8 => (d.slot n).adv
    | _ => 0x90

/-- A reference is selected. -/
def refSelected (d : Device) : Bool := d.fg F.TB_SEL_STATUS_mode == 1 || d.fg F.TB_SEL_STATUS_mode == 2

def prio1 (d : Device) (i : Nat) : Nat := if g8275 d i then 128 else d.fg (F.CLS_PTP_PRIO_p1 i)

/-- The grandmaster fields of an Announce: priority1, class, accuracy, variance, priority2, identity, stepsRemoved, timeSource. -/
def gmFields (d : Device) (i : Nat) : Bytes :=
  match upstreamSel d with
  | some (_, some f) => slice f.body 3 14 ++ beBytes 2 (beAt f.body 17 2 + 1) ++ beBytes 1 0x40
  | _ =>
    beBytes 1 (prio1 d i) ++ beBytes 1 (clockClass d i) ++ beBytes 1 (clockAcc d i) ++
    beBytes 2 (if refSelected d then d.fg (F.CLS_PTP_VAR_locked i) else d.fg (F.CLS_PTP_VAR_holdover i)) ++
    beBytes 1 (d.fg (F.CLS_PTP_PRIO_p2 i)) ++ beBytes 8 (ptpId d i) ++ beBytes 2 0 ++ beBytes 1 (timeSource d)

/-- The second flag octet: leap, UTC, timescale and traceability. -/
def timeFlags (d : Device) : Nat :=
  let b (x : Bool) (k : Nat) : Nat := if x then 2 ^ k else 0
  let lp := d.fb F.TB_STATUS_leap_pending
  let dir := d.fb F.TB_STATUS_leap_dir
  let tr := qualRow d == 0 || (qualRow d == 2 && afterPrimary d)
  b (lp && !dir) 0 + b (lp && dir) 1 + b (d.fb F.TB_STATUS_utc_valid) 2 + 8 + b tr 4 + b tr 5

/-! ### Messages (R184, R185) -/

/-- A header of 34 bytes: type, length, flag octets (first × 256 + second), correction, sourcePortIdentity, sequenceId, log. -/
def ptpHdr (d : Device) (i port type len flags : Nat) (corr : Int) (seq : Nat) (log : Int) : Bytes :=
  let ctl := match type with | 0 => 0 | 1 => 1 | 8 => 2 | 9 => 3 | 13 => 4 | _ => 5
  beBytes 1 type ++ beBytes 1 0x12 ++ beBytes 2 len ++ beBytes 1 (ptpDomain d i) ++ zeros 1 ++ beBytes 2 flags ++
  beBytes 8 (unsigned 64 corr) ++ zeros 4 ++ beBytes 8 (ptpId d i) ++ beBytes 2 (port + 1) ++ beBytes 2 seq ++ beBytes 1 ctl ++
  beBytes 1 (unsigned 8 log)

/-- R185: an egress or ingress value, in 2^-16 ns. -/
def egrVal (d : Device) (port : Nat) (t : Inst) : Int := divNearI ((t : Int) + d.rs (R.CLS_PTPP_EGR_LAT port) * psU) subU
def ingVal (d : Device) (port : Nat) (t : Inst) : Int := divNearI ((t : Int) - d.rs (R.CLS_PTPP_ING_LAT port) * psU) subU

/-- A timestamp's ten bytes: whole nanoseconds of a value in 2^-16 ns. -/
def tsBytes (v : Int) : Bytes := let ns := (v / 65536).toNat; beBytes 6 (ns / 1000000000 % 2 ^ 48) ++ beBytes 4 (ns % 1000000000)

/-- The ten bytes of a timestamp as 2^-16 ns. -/
def tsVal (m : Bytes) (off : Nat) : Int := ((beAt m off 6 * 1000000000 + beAt m (off + 6) 4) * 65536 : Nat)

/-- A correctionField, as 2^-16 ns. -/
def corrOf (m : Bytes) : Int := signed 64 (beAt m 8 8)

def msgType (m : Bytes) : Nat := byteAt m 0 % 16
def msgSeq (m : Bytes) : Nat := beAt m 30 2
def srcClock (m : Bytes) : Nat := beAt m 20 8
def srcPortNum (m : Bytes) : Nat := beAt m 28 2
def twoStep (m : Bytes) : Bool := (byteAt m 6).testBit 1

/-- The flag octets: unicastFlag, then the second octet. -/
def flagOctets (uni : Bool) (snd : Nat) : Nat := (if uni then 4 * 256 else 0) + snd

/-- (PRESUMED, log entry 42.) -/
def syncMsg (d : Device) (i port seq : Nat) (log : Int) (uni : Bool) (t : Inst) : Bytes :=
  let v := egrVal d port t
  ptpHdr d i port 0 44 (flagOctets uni 0) (v % 65536) seq log ++ tsBytes v

def announceMsg (d : Device) (i port seq : Nat) (log : Int) (uni : Bool) (t : Inst) : Bytes :=
  let c37 := if ptpProfile d i = 3 then
      beBytes 2 3 ++ beBytes 2 18 ++ beBytes 3 0x1C129D ++ beBytes 3 2 ++ beBytes 2 (d.fg (F.CLS_PTP_C37_gm i)) ++
      beBytes 4 (satU 32 ((d.refs.errEst + 999) / 1000)) ++ beBytes 4 0 ++ beBytes 2 0 else []
  let n := min 48 (d.fg (F.CLS_PTP_C37_atoi_len i))
  let atoi := if ptpProfile d i = 3 then
      ((List.range 12).flatMap fun j => beBytes 4 (d.rn (R.CLS_PTP_ATOI i j))).take n else []
  let tail := c37 ++ atoi
  ptpHdr d i port 11 (64 + tail.length) (flagOctets uni (timeFlags d)) 0 seq log ++ tsBytes (egrVal d port t) ++
  beBytes 2 (d.fg F.TB_LEAP_STATUS_tai_utc_now) ++ zeros 1 ++ gmFields d i ++ tail

def delayRespMsg (d : Device) (i port : Nat) (req : Bytes) (stamp : Inst) (log : Int) : Bytes :=
  let v := ingVal d port stamp
  ptpHdr d i port 9 54 (flagOctets ((byteAt req 6).testBit 2) 0) (corrOf req - v % 65536) (msgSeq req) log ++ tsBytes v ++
  slice req 20 10

def pdelayRespMsg (d : Device) (i port : Nat) (req : Bytes) (stamp t : Inst) : Bytes :=
  ptpHdr d i port 3 54 0 (corrOf req + (egrVal d port t - ingVal d port stamp)) (msgSeq req) 127 ++ zeros 10 ++ slice req 20 10

/-- A Delay_Req (or Pdelay_Req) of a client or P2P port. -/
def requestMsg (d : Device) (i port : Nat) (peer uni : Bool) (seq : Nat) (log : Int) : Bytes :=
  let asym := signed 32 (d.rn (R.CLS_PTPP_ASYM port))
  ptpHdr d i port (if peer then 2 else 1) (if peer then 54 else 44) (flagOctets uni 0) (-asym) seq log ++ zeros 10 ++
  if peer then zeros 10 else []

/-! ### Frames (R181) -/

def groupMac (a : Nat) : Nat := if isV4 a then 0x01005E000000 + a % 2 ^ 23 else 0x333300000000 + a % 2 ^ 32

/-- The frame of a message: to a MAC and address, or to the transport's group; event or general port. -/
def ptpFrame (d : Device) (i port vlan : Nat) (dest : Option (Nat × Nat)) (event pd : Bool) (pl : Bytes) : Bytes :=
  if ptpTransport d i = 0 then
    let dst := match dest with
      | some (m, _) => m
      | none => if pd || d.fb (F.CLS_PTP_CFG_l2_addr i) then 0x0180C200000E else 0x011B19000000
    padTo 60 (ethHdr dst (portMac d port) (if ptpProfile d i = 1 then none else vlanTci d vlan) 0x88F7 ++ pl)
  else
    let v6 := ptpTransport d i == 2
    let e := saOf d (d.fg (F.CLS_PTP_SA_sa i))
    let grp := if v6 then (if pd then 0xFF02000000000000000000000000006B else 0xFF0E0000000000000000000000000181)
      else v4mapped (if pd then 0xE000006B else 0xE0000181)
    let (mac, dst) := dest.getD (groupMac grp, grp)
    let p := if event then 319 else 320
    padTo 60 (udpFrame mac (saMac d e port) (vlanTci d vlan) v6 e.dscp e.hop e.addr.toNat dst p p pl)

/-- The tag a frame of the instance carries, for its gate class. -/
def ptpTci (d : Device) (i vlan : Nat) : Option Nat := if ptpTransport d i = 0 ∧ ptpProfile d i = 1 then none else vlanTci d vlan

/-- PE0–PE3 book and commit a message made for its launch instant; the instant when it was accepted. -/
def ptpSend (d : Device) (i port vlan : Nat) (dest : Option (Nat × Nat)) (event pd : Bool) (ctr : Option Nat) (win : Inst)
    (mk : Inst → Bytes) : Option Inst × Device :=
  let fr (t : Inst) : Bytes := ptpFrame d i port vlan dest event pd (mk t)
  let (c, h, t, d') := peelBook d port d.now (d.now + win) ((fr d.now).length + 4) (gateClass d port (ptpTci d i vlan)) false false
    (.engine ctr)
  if c = T.ACCEPTED then
    let (ok, d') := peelCommit d' h (fr t) none
    (if ok then some t else none, d')
  else (none, d')

/-- Next sequenceId of a kind on a port: 1 Announce, 2 Delay_Req, 3 Pdelay_Req, 4 Signaling; 0 the multicast Sync. -/
def seqOf (x : PtpInst) (port kind : Nat) : Nat := amGet 0 x.seqs (port + 32 * kind)
def bumpSeq (d : Device) (i port kind : Nat) : Device :=
  let x := d.ptpInst i
  d.setPtpInst i { x with seqs := amSet 0 x.seqs (port + 32 * kind) ((seqOf x port kind + 1) % 65536) }

/-! ### The Sync emitter (R183) -/

def Device.grant (d : Device) (g : Nat) : Option Grant := (d.ptp.grants.find? fun e => e.1 == g).map (·.2)

def setGrant (d : Device) (g : Nat) (x : Grant) : Device :=
  { d with ptp := { d.ptp with grants := amIns (amDel d.ptp.grants g) g x } }

def dropGrant (d : Device) (g : Nat) : Device := { d with ptp := { d.ptp with grants := amDel d.ptp.grants g } }

/-- The 16 bytes an item of an instance is steered by (R182). -/
def ptpSteer (d : Device) (i port : Nat) (client : Option Nat) : Nat :=
  if ptpTransport d i = 0 then port
  else match client with | some a => a | none => (saOf d (d.fg (F.CLS_PTP_SA_sa i))).addr.toNat

/-- The last nominal instant within the emitter's lead: 2,000 ns ahead of the tick in progress. (DEDUCED, log entry 47.) -/
def nominalAt (d : Device) (iv phase : Inst) : Inst :=
  let lim := d.now + 2000 * nsU + d.tm.tickLen
  if lim < phase + 1 then 0 else (lim - 1 - phase) / iv * iv + phase

/-- Nominal instants after `a` and up to `b`. -/
def nominals (iv phase a b : Inst) : Nat :=
  let upTo (t : Inst) : Nat := if t < phase then 0 else (t - phase) / iv + 1
  upTo b - upTo a

/-- Device Time is back, `a` being where it stood: every Sync instant that passed since then had no launch (R37, R195), and the emitters
go on from now. (DEDUCED, log entry 104.) -/
def ptpRestored (a : Inst) (d : Device) : Device :=
  let inst (d : Device) (i : Nat) : Device :=
    if !d.up (.ptp i) then d
    else
      let iv := logDur (rateLog d (F.CLS_PTP_RATES_sync i))
      let ports := if ptpUnicast d i then [] else (List.range 16).filter (ptpServer d i)
      let own := ports.map fun p => nominals iv (d.rn (R.CLS_PTP_PHASE i) * nsU % iv) (max a (amGet 0 (d.ptpInst i).lastSync p)) d.now
      let granted := (d.ptp.grants.filter fun e => e.2.inst == i && e.2.granted.testBit 1 && decide (d.nowSec < e.2.expSync)).map fun e =>
        nominals (logDur e.2.logSync) (e.2.phase * nsU) (max a e.2.lastSync) d.now
      d.cntN (K.PTP_SYNC_MISSED i) ((own ++ granted).foldl (· + ·) 0)
  ptpStepped ((List.range 8).foldl inst d)

/-- R183: a Sync item is put into its slice queue: of a unicast grant, or of a SERVER port. (DEDUCED, log entry 43.) -/
def xSyncEmit (i port : Nat) (grant : Option Nat) (d : Device) : Device :=
  let sa := d.fg (F.CLS_PTP_SA_sa i)
  let item (t : Inst) (vlan src : Nat) : Item :=
    { work := .sync i port grant t, cls := 0, cost := 6, port, stamp := d.now, bytes := [],
      saIdx := if ptpTransport d i = 0 then 256 else sa, sa := saOf d sa, vlan,
      src := BitVec.ofNat 128 src, prof := 0, pref := false }
  if 8 ≤ i ∨ ¬ d.up (.ptp i) ∨ ptpSilent d ∨ d.dtInvalid then d
  else
    match grant with
    | none =>
      let x := d.ptpInst i
      let iv := logDur (rateLog d (F.CLS_PTP_RATES_sync i))
      let t := nominalAt d iv (d.rn (R.CLS_PTP_PHASE i) * nsU % iv)
      if ptpServer d i port ∧ ¬ ptpUnicast d i ∧ amGet 0 x.lastSync port < t ∧ d.now ≤ t then
        admitItem (d.setPtpInst i { x with lastSync := amIns (amDel x.lastSync port) port t })
          (item t (ptpVlan d i) (ptpSteer d i port none))
      else d
    | some g =>
      match d.grant g with
      | some e =>
        let t := nominalAt d (logDur e.logSync) (e.phase * nsU)
        if e.inst = i ∧ e.lport = port ∧ e.granted.testBit 1 ∧ d.nowSec < e.expSync ∧ e.lastSync < t ∧ d.now ≤ t then
          admitItem (setGrant d g { e with lastSync := t }) (item t e.vlan (ptpSteer d i port (some e.addr)))
        else d
      | none => d

/-! ### Announces and requests (R182, R189) -/

/-- R189: an Announce on a SERVER port at its interval: to a grant, or to the group. -/
def xPtpAnnounceSend (i port : Nat) (grant : Option Nat) (d : Device) : Device :=
  if 8 ≤ i ∨ ¬ d.up (.ptp i) ∨ ptpSilent d ∨ d.dtInvalid ∨ ¬ ptpServer d i port then d
  else
    match grant with
    | none =>
      let x := d.ptpInst i
      let lg := rateLog d (F.CLS_PTP_RATES_ann i)
      let due : Bool := match x.lastAnn.find? fun e => e.1 == port with | some e => decide (e.2 + logDur lg ≤ d.now) | none => true
      if ptpUnicast d i || !due then d
      else
        let seq := seqOf x port 1
        let d := d.setPtpInst i { x with lastAnn := amIns (amDel x.lastAnn port) port d.now }
        let (t, d) := ptpSend d i port (ptpVlan d i) none false false (some (K.PTP_ANN_SENT i)) (logDur lg)
          (announceMsg d i port seq lg false)
        if t.isSome then bumpSeq d i port 1 else d
    | some g =>
      match d.grant g with
      | some e =>
        if e.inst = i ∧ e.lport = port ∧ e.granted.testBit 0 ∧ d.nowSec < e.expAnn ∧ e.lastAnn + logDur e.logAnn ≤ d.now then
          let d := setGrant d g { e with lastAnn := d.now }
          let (t, d) := ptpSend d i port e.vlan (some (e.dstMac, e.addr)) false false (some (K.PTP_ANN_SENT i)) (logDur e.logAnn)
            (announceMsg d i port e.seqAnn e.logAnn true)
          if t.isSome then setGrant d g { e with lastAnn := d.now, seqAnn := (e.seqAnn + 1) % 65536 } else d
        else d
      | none => d

/-- The upstream's MAC and address, under unicast. -/
def upstreamTo (d : Device) (i : Nat) : Option (Nat × Nat) :=
  if ptpUnicast d i then some (d.fg (F.CLS_PTP_UPMAC_HI i) * 2 ^ 32 + d.rn (R.CLS_PTP_UPMAC_LO i), ptpUpstream d i) else none

/-- A client-side grant of a message type is in force. -/
def upGranted (d : Device) (i mtype : Nat) : Bool :=
  (d.ptpInst i).up.any fun u => u.mtype == mtype && decide (d.now < u.at_ + u.dur * secU)

/-- R182: a Delay_Req of a client port, or a Pdelay_Req of a P2P port, at its interval. -/
def xPtpRequestSend (i port : Nat) (d : Device) : Device :=
  let peer := ptpDelay d port == 1 || (ptpProfile d i == 3)
  let lg := if peer then rateLog d (F.CLS_PTPP_CTL_pd_log port) else rateLog d (F.CLS_PTP_RATES_dreq i)
  let x := d.ptpInst i
  let due : Bool := match x.lastReq.find? fun e => e.1 == port with | some e => decide (e.2 + logDur lg ≤ d.now) | none => true
  let may := if peer then ptpServer d i port || ptpClient d i port
    else ptpDelay d port == 0 && ptpClient d i port && x.best.isSome && (!ptpUnicast d i || upGranted d i 9)
  if decide (8 ≤ i) || !d.up (.ptp i) || d.dtInvalid || !may || !due then d
  else
    let kind := if peer then 3 else 2
    let seq := seqOf x port kind
    let dest := if peer then none else upstreamTo d i
    let d := d.setPtpInst i { x with lastReq := amIns (amDel x.lastReq port) port d.now }
    let (t, d) := ptpSend d i port (ptpVlan d i) dest true peer none (logDur lg)
      fun _ => requestMsg d i port peer dest.isSome seq lg
    match t with
    | some t =>
      let d := bumpSeq d i port kind
      let x := d.ptpInst i
      let r : DelayTx := { peer, port, seq, sent := egrVal d port t, back := none }
      d.setPtpInst i { x with delays := (x.delays.filter fun e => !(e.peer == peer && e.port == port)) ++ [r] }
    | none => d

/-! ### Signaling (R186, R187) -/

/-- The TLVs of a Signaling message from an offset: type and value. -/
def tlvs : Nat → Bytes → List (Nat × Bytes)
  | 0, _ => []
  | k + 1, b => if b.length < 4 then [] else (beAt b 0 2, slice b 4 (beAt b 2 2)) :: tlvs k (b.drop (4 + beAt b 2 2))

def signalTlvs (m : Bytes) : List (Nat × Bytes) := tlvs 16 (m.drop 44)

/-- A Signaling message with TLVs to a port identity. -/
def signalMsg (d : Device) (i port seq tclk tport : Nat) (body : Bytes) : Bytes :=
  ptpHdr d i port 12 (44 + body.length) (flagOctets true 0) 0 seq 127 ++ beBytes 8 tclk ++ beBytes 2 tport ++ body

def sendSignal (d : Device) (i port vlan mac addr tclk tport : Nat) (body : Bytes) : Device :=
  if body.isEmpty then d
  else
    let seq := seqOf (d.ptpInst i) port 4
    let (t, d) := ptpSend d i port vlan (some (mac, addr)) false false none secU fun _ => signalMsg d i port seq tclk tport body
    if t.isSome then bumpSeq d i port 4 else d

def requestTlv (mtype : Nat) (log : Int) (dur : Nat) : Bytes :=
  beBytes 2 4 ++ beBytes 2 6 ++ beBytes 1 (mtype * 16) ++ beBytes 1 (unsigned 8 log) ++ beBytes 4 dur
def grantTlv (mtype : Nat) (log : Int) (dur : Nat) : Bytes :=
  beBytes 2 5 ++ beBytes 2 8 ++ beBytes 1 (mtype * 16) ++ beBytes 1 (unsigned 8 log) ++ beBytes 4 dur ++ zeros 1 ++
  beBytes 1 (if dur = 0 then 0 else 1)
def cancelTlv (mtype : Nat) : Bytes := beBytes 2 6 ++ beBytes 2 2 ++ beBytes 1 (mtype * 16) ++ zeros 1
def ackTlv (mtype : Nat) : Bytes := beBytes 2 7 ++ beBytes 2 2 ++ beBytes 1 (mtype * 16) ++ zeros 1

/-- The granted bit of a message type: Announce, Sync, Delay_Resp. -/
def grantBit (mtype : Nat) : Option Nat := match mtype with | 11 => some 0 | 0 => some 1 | 9 => some 2 | _ => none

/-- The entry of a client (R187). -/
def grantOf (d : Device) (m : PtpMsg) : Option (Nat × Grant) :=
  d.ptp.grants.find? fun e => e.2.inst == m.inst && e.2.lport == m.port && e.2.addr == m.src && e.2.peerId == srcClock m.msg &&
    e.2.peerPort == srcPortNum m.msg

/-- Syncs per 128 s of a grant's rate. -/
def sync128 (lg : Int) : Nat := if lg < 0 then 128 * 2 ^ lg.natAbs else 128 / 2 ^ lg.natAbs

/-- All Syncs granted, per 128 s, but for one entry. -/
def syncLoad (d : Device) (but : Option Nat) : Nat :=
  d.ptp.grants.foldl (fun n e => if e.2.granted.testBit 1 && !(but == some e.1) then n + sync128 e.2.logSync else n) 0

/-- The range of a requested period (R177, R186). -/
def reqRange (d : Device) (i b : Nat) : Int × Int :=
  let r := profRange (ptpProfile d i)
  match b with
  | 0 => (max r.ann.1 (rateLog d (F.CLS_PTP_RATES_ann i)), r.ann.2)
  | 1 => (max r.sync.1 (rateLog d (F.CLS_PTP_RATES_sync i)), r.sync.2)
  | _ => (max r.req.1 (rateLog d (F.CLS_PTP_RATES_dreq i)), r.req.2)

/-- Entries an instance uses. -/
def instGrants (d : Device) (i : Nat) : Nat := (d.ptp.grants.filter fun e => e.2.inst == i).length

def emptyGrant (m : PtpMsg) : Grant :=
  { inst := m.inst, lport := m.port, addr := m.src, peerId := srcClock m.msg, peerPort := srcPortNum m.msg, vlan := m.vlan,
    dstMac := m.mac, granted := 0, logAnn := 0, logSync := 0, logDresp := 0, expAnn := 0, expSync := 0, expDresp := 0, seqSync := 0,
    seqAnn := 0, phase := 0, sent := 0, negs := [], lastSync := 0, lastAnn := 0, cancelAt := none }

/-- A negotiation record of 48 bytes (R188). -/
def negRecord (m : PtpMsg) (tlv mtype log reqDur dur : Nat) : Bytes :=
  dt96Bytes m.stamp ++ leBytes 2 tlv ++ leBytes 1 mtype ++ leBytes 1 log ++ leBytes 4 reqDur ++ leBytes 4 dur ++ zeros 24

/-- R186, R187: one request: the duration granted (0 for a denial) and the block. -/
def takeRequest (d : Device) (m : PtpMsg) (v : Bytes) : Nat × Device :=
  let i := m.inst
  let mtype := byteAt v 0 / 16
  let lg := signed 8 (byteAt v 1)
  let want := beAt v 2 4
  let old := grantOf d m
  let deny (d : Device) : Nat × Device := (0, d.cnt (K.PTP_GRANT_DENIED i))
  match grantBit mtype with
  | none => deny d
  | some b =>
    let room := old.isSome || (decide (instGrants d i < d.fg (F.CLS_PTP_UNI_max_grants i)) && decide (d.ptp.grants.length < 65536))
    let fits := old.isSome || poolRoom d 8 8
    let load := if b = 1 then syncLoad d (old.map (·.1)) + sync128 lg else 0
    if !d.up (.ptp i) || !ptpUnicast d i || !ptpServer d i m.port || ptpSilent d || !inR (reqRange d i b) lg || decide (want < 10) ||
        decide (8388608 * 128 < load) then deny d
    else if !room || !fits then deny (if !fits || decide (65536 ≤ d.ptp.grants.length) then poolDrop d 8 else d)
    else
      let dur := min want (clamp 10 1000 (d.fg (F.CLS_PTP_UNI_max_dur i)))
      let g := match old with
        | some e => e.1
        | none => ((List.range 65536).find? fun k => !(d.ptp.grants.any fun e => e.1 == k)).getD 0
      let e := (old.map (·.2)).getD (emptyGrant m)
      let e := { e with dstMac := m.mac, vlan := m.vlan, granted := putBits e.granted b 1 1, cancelAt := none,
                        negs := (e.negs ++ [negRecord m 4 mtype (byteAt v 1) want dur]).drop (e.negs.length - 19) }
      let exp := d.nowSec + dur
      let e := match b with
        | 0 => { e with logAnn := lg, expAnn := exp }
        | 1 => { e with logSync := lg, expSync := exp, lastSync := max e.lastSync d.now,
                        phase := g * (logDur lg / nsU) / 65536 }
        | _ => { e with logDresp := lg, expDresp := exp }
      (dur, (setGrant d g e).cnt (K.PTP_GRANTS i))

/-- A message type of an entry ends; the entry is freed when none remains (R187). -/
def endGrant (d : Device) (g b : Nat) : Device :=
  match d.grant g with
  | some e =>
    let e := { e with granted := putBits e.granted b 1 0 }
    if e.granted = 0 then dropGrant d g else setGrant d g e
  | none => d

/-- One TLV of a received Signaling message: the TLV it is answered with, if any. -/
def takeTlv (m : PtpMsg) (d : Device) (t : Nat × Bytes) : Bytes × Device :=
  let mtype := byteAt t.2 0 / 16
  let i := m.inst
  match t.1 with
  | 4 =>
    let (dur, d) := takeRequest d m t.2
    (grantTlv mtype (signed 8 (byteAt t.2 1)) dur, d)
  | 5 =>
    let x := d.ptpInst i
    if ptpClient d i m.port && m.src == ptpUpstream d i then
      let dur := beAt t.2 2 4
      let u : UpGrant := { mtype, dur, at_ := d.now, log := signed 8 (byteAt t.2 1), asked := false }
      let rest := x.up.filter fun e => !(e.mtype == mtype)
      ([], d.setPtpInst i { x with up := if dur = 0 then rest else rest ++ [u] })
    else ([], d)
  | 6 =>
    match grantOf d m, grantBit mtype with
    | some (g, _), some b => (ackTlv mtype, endGrant d g b)
    | _, _ =>
      if ptpClient d i m.port && m.src == ptpUpstream d i then
        let x := d.ptpInst i
        (ackTlv mtype, d.setPtpInst i { x with up := x.up.filter fun e => !(e.mtype == mtype) })
      else (ackTlv mtype, d)
  | 7 =>
    match grantOf d m, grantBit mtype with
    | some (g, e), some b => ([], if e.cancelAt.isSome then endGrant d g b else d)
    | _, _ => ([], d)
  | _ => ([], d)

/-- The whole Signaling message, with one answer that carries every answering TLV. -/
def takeSignal (d : Device) (m : PtpMsg) : Device :=
  let (ans, d) := (signalTlvs m.msg).foldl (fun (acc : Bytes × Device) t => let (a, d) := takeTlv m acc.2 t; (acc.1 ++ a, d)) ([], d)
  sendSignal d m.inst m.port m.vlan m.mac m.src (srcClock m.msg) (srcPortNum m.msg) ans

/-- Take the first waiting message that meets a test off the intake. (DESIGN CHOICE, log entry 45.) -/
def takeIntake (d : Device) (p : PtpMsg → Bool) : Option (PtpMsg × Device) :=
  match d.ptp.intake.findIdx? p with
  | some k => (d.ptp.intake[k]?).map fun m => (m, { d with ptp := { d.ptp with intake := d.ptp.intake.eraseIdx k } })
  | none => none

/-- A Signaling message whose first TLV is of a type. -/
def isSignal (tlv : Nat) (m : PtpMsg) : Bool := msgType m.msg == 12 && ((signalTlvs m.msg).head?.map (·.1)) == some tlv

def onSignal (d : Device) (tlv : Nat) : Device :=
  match takeIntake d (isSignal tlv) with | some (m, d) => takeSignal d m | none => d

/-- R186: a waiting request is granted or denied. -/
def xPtpUnicastRequest (d : Device) : Device := onSignal d 4

/-- R187: a waiting cancel ends a grant and is acknowledged. -/
def xPtpCancelUnicast (d : Device) : Device := onSignal d 6

/-- R193: a waiting grant of the upstream. -/
def xPtpGrantReceive (d : Device) : Device := onSignal d 5

/-- R194: a waiting acknowledgement of a cancel of ours. -/
def xPtpCancelAckReceive (d : Device) : Device := onSignal d 7

/-- R187: a grant reaches its expiry. -/
def xPtpGrantExpire (g b : Nat) (d : Device) : Device :=
  match d.grant g with
  | some e =>
    let exp := match b with | 0 => e.expAnn | 1 => e.expSync | _ => e.expDresp
    if b < 3 ∧ e.granted.testBit b ∧ exp ≤ d.nowSec ∧ ¬ d.dtInvalid then endGrant d g b else d
  | none => d

/-- R193: the instance asks its upstream for the types it lacks, and for those half used up. -/
def xPtpUnicastRenew (i : Nat) (d : Device) : Device :=
  let x := d.ptpInst i
  match (List.range 16).find? fun p => ptpClient d i p with
  | some port =>
    if 8 ≤ i ∨ ¬ d.up (.ptp i) ∨ ¬ ptpUnicast d i ∨ d.dtInvalid then d
    else
      let want (mtype : Nat) : Bool :=
        match x.up.find? fun u => u.mtype == mtype with
        | some u => decide (u.at_ + u.dur * secU ≤ d.now) || (!u.asked && decide (u.at_ + u.dur * secU / 2 ≤ d.now))
        | none => true
      let asks := [11, 0, 9].filter want
      let logOf (mtype : Nat) : Int := rateLog d (if mtype = 11 then F.CLS_PTP_RATES_ann i else if mtype = 0 then F.CLS_PTP_RATES_sync i
        else F.CLS_PTP_RATES_dreq i)
      let body := asks.flatMap fun (t : Nat) => requestTlv t (logOf t) (clamp 10 1000 (d.fg (F.CLS_PTP_UNI_max_dur i)))
      let d := d.setPtpInst i { x with up := x.up.map fun (u : UpGrant) => if asks.contains u.mtype then { u with asked := true } else u }
      match upstreamTo d i with
      | some (mac, a) => sendSignal d i port (ptpVlan d i) mac a (2 ^ 64 - 1) 65535 body
      | none => d
  | none => d

/-! ### Foreign masters (R193) -/

/-- The data set a candidate is compared by; less is better. -/
def bmcaKey (d : Device) (i : Nat) (f : Foreign) : Nat :=
  let b (k len : Nat) : Nat := beAt f.body k len
  let parts : List Nat :=
    if g8275 d i then
      [b 4 1, b 5 1, b 6 2, b 8 1, d.fg (F.CLS_PTP_PRIO_local i)] ++ (if b 4 1 ≤ 127 then [b 17 2, 0] else [b 9 8, b 17 2])
    else [b 3 1, b 4 1, b 5 1, b 6 2, b 8 1, b 9 8, b 17 2]
  parts.foldl (fun a v => a * 2 ^ 64 + v) 0

/-- Candidates: a unicast upstream at once, a multicast one from its second Announce. -/
def candidates (d : Device) (i : Nat) : List Foreign :=
  (d.ptpInst i).foreign.filter fun f => ptpUnicast d i || decide (2 ≤ f.count)

/-- Choose the best candidate; on a tie the incumbent stays. -/
def runBmca (d : Device) (i : Nat) : Device :=
  let x := d.ptpInst i
  let ident (f : Foreign) : Nat × Nat × Nat := (f.port, f.clockId, f.portNum)
  let c := candidates d i
  let best := match leastBy (bmcaKey d i) c with
    | none => none
    | some f =>
      match c.find? fun g => some (ident g) == x.best with
      | some g => if bmcaKey d i g ≤ bmcaKey d i f then some (ident g) else some (ident f)
      | none => some (ident f)
  let n := ptpRefslot d i
  let d := if best == x.best then d
    else
      let d := d.setPtpInst i { x with best, sync := none, delays := x.delays.filter (·.peer), ms := none, mpd := none }
      if best.isNone then d.setSlot n { d.slot n with lastX := none } else d
  let d := d.fsb (F.CLS_PTP_STATUS_upstream i) best.isSome
  match best with
  | some b =>
    match c.find? fun f => ident f == b with
    | some f => d.setSlot n { d.slot n with adv := beAt f.body 4 1 }
    | none => d
  | none => d

/-- R193: a waiting Announce. -/
def xPtpAnnounceReceive (d : Device) : Device :=
  match takeIntake d fun m => msgType m.msg == 11 with
  | none => d
  | some (m, d) =>
    let i := m.inst
    if ptpServer d i m.port then (d.set1 (F.CLS_PTP_STATUS_foreign i)).cnt (K.PTP_FOREIGN_ON_SERVER i)
    else if ptpClient d i m.port ∧ d.up (.ptp i) ∧ srcClock m.msg ≠ ptpId d i ∧ beAt m.msg 61 2 < 255 ∧
        (¬ ptpUnicast d i ∨ m.src = ptpUpstream d i) then
      let x := d.ptpInst i
      let same (f : Foreign) : Bool := f.port == m.port && f.clockId == srcClock m.msg && f.portNum == srcPortNum m.msg
      let old := ((x.foreign.find? same).map (·.count)).getD 0
      let f : Foreign := { port := m.port, clockId := srcClock m.msg, portNum := srcPortNum m.msg, body := m.msg.drop 44,
                           flags := beAt m.msg 6 2, src := m.src, mac := m.mac, heard := m.stamp, count := min 65535 (old + 1) }
      runBmca (d.setPtpInst i { x with foreign := (x.foreign.filter fun g => !same g) ++ [f] }) i
    else d

/-- R193: upstreams silent for announceReceiptTimeout intervals are removed. -/
def xPtpAnnounceTimeout (i : Nat) (d : Device) : Device :=
  let x := d.ptpInst i
  let lg := match x.up.find? fun u => u.mtype == 11 with
    | some u => if ptpUnicast d i then u.log else rateLog d (F.CLS_PTP_RATES_ann i)
    | none => rateLog d (F.CLS_PTP_RATES_ann i)
  let span := d.fg (F.CLS_PTP_RATES_timeout i) * logDur lg
  if 8 ≤ i ∨ ¬ d.up (.ptp i) ∨ d.dtInvalid then d
  else runBmca (d.setPtpInst i { x with foreign := x.foreign.filter fun f => decide (d.now < f.heard + span) }) i

/-! ### Offset and delay (R193) -/

/-- The error bound of a clockAccuracy code, in ps. -/
def accBound (c : Nat) : Nat := if c < 0x20 then 25000 else accBounds.getD (c - 0x20) 1000000000000000

/-- One measurement passed to the slot: `ms` is t2 − t1 with the corrections, in 2^-16 ns. -/
def ptpOffset (d : Device) (i port : Nat) (ms : Int) : Device :=
  let x := d.ptpInst i
  let d := d.setPtpInst i { x with ms := some ms }
  let mpd : Option Int :=
    if ptpDelay d port = 1 then (let v := d.rn (R.CLS_PTPP_MLD port); if v = 0xFFFFFFFF then none else some v)
    else if ptpDelay d port = 2 then some 0 else x.mpd
  let n := ptpRefslot d i
  match mpd with
  | some p =>
    let acc := match x.best with
      | some (q, c, k) =>
        match x.foreign.find? fun f => f.port == q && f.clockId == c && f.portNum == k with
        | some f => beAt f.body 5 1
        | none => 0xFE
      | none => 0xFE
    let ps := (divNearI (p * 1000) 65536).natAbs
    let d := { d with refs := { d.refs with delay := amSet 0 d.refs.delay n ps } }
    let d := d.setSlot n { d.slot n with own := accBound acc + ps / 2 }
    if refType d n = 6 then refRaw d n (-(ms - p) - divNearI (d.rs (R.REF_DELAY n) * 65536) 1000) else d
  | none => d

/-- The Sync awaited is complete: t2 − t1. -/
def syncDone (d : Device) (i : Nat) (s : SyncRx) (t1 : Int) : Device :=
  let asym := signed 32 (d.rn (R.CLS_PTPP_ASYM s.port))
  ptpOffset d i s.port (ingVal d s.port s.t2 - (t1 + s.corr + asym))

/-- R182: a lane's stamp record of a Sync from the chosen upstream. -/
def syncRx (d : Device) (i port : Nat) (stamp : Inst) (m : Bytes) : Device :=
  let x := d.ptpInst i
  if d.up (.ptp i) && ptpClient d i port && x.best == some (port, srcClock m, srcPortNum m) then
    let s : SyncRx := { port, clockId := srcClock m, portNum := srcPortNum m, seq := msgSeq m, t2 := stamp, t1 := none, corr := corrOf m }
    if twoStep m then d.setPtpInst i { x with sync := some s }
    else syncDone (d.setPtpInst i { x with sync := none }) i s (tsVal m 34)
  else d

/-- Peer delay known: meanLinkDelay. -/
def peerDone (d : Device) (i port : Nat) (v : Int) : Device :=
  let x := d.ptpInst i
  let mld := v / 2
  let d := d.setPtpInst i { x with delays := x.delays.filter fun e => !(e.peer && e.port == port) }
  d.wn (R.CLS_PTPP_MLD port) (unsigned 32 mld)

/-- R182: a lane's stamp record of a Pdelay_Resp that answers a request of ours. -/
def pdelayRx (d : Device) (i port : Nat) (stamp : Inst) (m : Bytes) : Device :=
  let x := d.ptpInst i
  match x.delays.find? fun e => e.peer && e.port == port && e.seq == msgSeq m with
  | some r =>
    if beAt m 44 8 = ptpId d i ∧ beAt m 52 2 = port + 1 then
      let t4 := ingVal d port stamp
      let corr := corrOf m + signed 32 (d.rn (R.CLS_PTPP_ASYM port))
      if twoStep m then
        let r' := { r with back := some (t4, tsVal m 34, corr) }
        d.setPtpInst i { x with delays := (x.delays.filter fun e => !(e.peer && e.port == port)) ++ [r'] }
      else peerDone d i port (t4 - r.sent - corr)
    else d
  | none => d

/-- R182: a waiting Follow_Up, Delay_Resp or Pdelay_Resp_Follow_Up. -/
def xPtpGeneralReceive (d : Device) : Device :=
  match takeIntake d fun m => msgType m.msg == 8 || msgType m.msg == 9 || msgType m.msg == 10 with
  | none => d
  | some (m, d) =>
    let i := m.inst
    let x := d.ptpInst i
    match msgType m.msg with
    | 8 =>
      match x.sync with
      | some s =>
        if s.port = m.port ∧ s.clockId = srcClock m.msg ∧ s.portNum = srcPortNum m.msg ∧ s.seq = msgSeq m.msg then
          syncDone (d.setPtpInst i { x with sync := none }) i { s with corr := s.corr + corrOf m.msg } (tsVal m.msg 34)
        else d
      | none => d
    | 9 =>
      match x.delays.find? fun e => !e.peer && e.port == m.port && e.seq == msgSeq m.msg with
      | some r =>
        if beAt m.msg 44 8 = ptpId d i ∧ beAt m.msg 52 2 = m.port + 1 ∧ x.best = some (m.port, srcClock m.msg, srcPortNum m.msg) then
          let x := { x with delays := x.delays.filter fun e => !(!e.peer && e.port == m.port) }
          match x.ms with
          | some ms => d.setPtpInst i { x with mpd := some ((ms + (tsVal m.msg 34 - corrOf m.msg - r.sent)) / 2) }
          | none => d.setPtpInst i x
        else d
      | none => d
    | _ =>
      match x.delays.find? fun e => e.peer && e.port == m.port && e.seq == msgSeq m.msg with
      | some r =>
        match r.back with
        | some (t4, t2, corr) => peerDone d i m.port ((t4 - r.sent) - (tsVal m.msg 34 - t2) - corr - corrOf m.msg)
        | none => d
      | none => d

/-! ### Management (R176) -/

/-- The portState of a port: MASTER, SLAVE, UNCALIBRATED or LISTENING. -/
def portState (d : Device) (i port : Nat) : Nat :=
  if ptpServer d i port then 6
  else match (d.ptpInst i).best with
    | some (p, _, _) => if p = port then (if (d.ptpInst i).mpd.isSome then 9 else 8) else 4
    | none => 4

/-- The data of a GET, by managementId. -/
def mgmtData (d : Device) (i port id : Nat) : Option Bytes :=
  let x := d.ptpInst i
  let gm := gmFields d i
  let best := x.best
  match id with
  | 0x2000 => some (beBytes 1 (if ptpPorts d i = d.fg (F.CLS_PTP_PORTS_client i) then 2 else 0) ++ zeros 1 ++
      beBytes 2 (setBits (ptpPorts d i) 16).length ++ gm.take 6 ++ beBytes 8 (ptpId d i) ++ beBytes 1 (ptpDomain d i) ++ zeros 1)
  | 0x2001 => some (slice gm 14 2 ++
      beBytes 8 (unsigned 64 (match x.ms, x.mpd with | some a, some b => a - b | _, _ => 0)) ++
      beBytes 8 (unsigned 64 (x.mpd.getD 0)))
  | 0x2002 => some ((match best with
      | some (_, c, k) => beBytes 8 c ++ beBytes 2 k
      | none => beBytes 8 (ptpId d i) ++ beBytes 2 0) ++ zeros 2 ++ beBytes 2 0xFFFF ++ beBytes 4 0x7FFFFFFF ++ gm.take 14)
  | 0x2003 => some (beBytes 2 (d.fg F.TB_LEAP_STATUS_tai_utc_now) ++ beBytes 1 (timeFlags d) ++ slice gm 16 1)
  | 0x2004 => some (beBytes 8 (ptpId d i) ++ beBytes 2 (port + 1) ++ beBytes 1 (portState d i port) ++
      beBytes 1 (d.fg (F.CLS_PTP_RATES_dreq i)) ++ beBytes 8 (let v := d.rn (R.CLS_PTPP_MLD port); if v = 0xFFFFFFFF then 0 else v) ++
      beBytes 1 (d.fg (F.CLS_PTP_RATES_ann i)) ++ beBytes 1 (d.fg (F.CLS_PTP_RATES_timeout i)) ++
      beBytes 1 (d.fg (F.CLS_PTP_RATES_sync i)) ++ beBytes 1 (match ptpDelay d port with | 0 => 1 | 1 => 2 | _ => 0xFE) ++
      beBytes 1 (d.fg (F.CLS_PTPP_CTL_pd_log port)) ++ beBytes 1 2)
  | _ => none

/-- R176: a waiting Management message is answered. -/
def xPtpManagement (d : Device) : Device :=
  match takeIntake d fun m => msgType m.msg == 13 with
  | none => d
  | some (m, d) =>
    let i := m.inst
    let act := byteAt m.msg 46 % 16
    let id := beAt m.msg 52 2
    if !d.up (.ptp i) || decide (3 < act) || act == 2 then d
    else
      let tlv := match (if act = 0 then mgmtData d i m.port id else none) with
        | some data => beBytes 2 1 ++ beBytes 2 (2 + data.length) ++ beBytes 2 id ++ data
        | none => beBytes 2 2 ++ beBytes 2 8 ++ beBytes 2 6 ++ beBytes 2 id ++ zeros 4
      let body := slice m.msg 20 10 ++ zeros 2 ++ beBytes 1 (if act = 3 then 4 else 2) ++ zeros 1 ++ tlv
      (ptpSend d i m.port m.vlan (some (m.mac, m.src)) false false none secU fun _ =>
        ptpHdr d i m.port 13 (34 + body.length) (flagOctets true 0) 0 (msgSeq m.msg) 127 ++ body).2

/-! ### Stopping (R194) -/

/-- Bookings of an instance. (DESIGN CHOICE, log entry 46.) -/
def ptpBooking (i : Nat) (b : Booking) : Bool :=
  match b.owner with
  | .engine (some k) => k == K.PTP_ANN_SENT i
  | .lane _ _ =>
    match b.resp with
    | some r => match r.item.work with | .sync j _ _ _ => j == i | .ptp j => j == i | _ => false
    | none => false
  | _ => false

/-- Client ports stop and the slot loses its reference. -/
def ptpClientStop (d : Device) (i : Nat) : Device :=
  let x := d.ptpInst i
  let had := !(d.fg (F.CLS_PTP_PORTS_client i) == 0)
  let d := d.setPtpInst i { x with foreign := [], best := none, up := [], sync := none, delays := [], ms := none, mpd := none }
  let d := d.clr (F.CLS_PTP_STATUS_upstream i)
  let n := ptpRefslot d i
  if had then d.setSlot n { d.slot n with lastX := none } else d

/-- DRAIN: a cancel for every type of every grant. -/
def ptpDrain (d : Device) (i : Nat) : Device :=
  let d := ptpClientStop d i
  (d.ptp.grants.filter fun e => e.2.inst == i).foldl (fun d e =>
    let g := e.2
    let body := ([(11, 0), (0, 1), (9, 2)].filter fun (t : Nat × Nat) => g.granted.testBit t.2).flatMap fun (t : Nat × Nat) => cancelTlv t.1
    sendSignal (setGrant d e.1 { g with cancelAt := some d.now }) i g.lport g.vlan g.dstMac g.addr g.peerId g.peerPort body) d

/-- CUT: bookings are cancelled, entries freed without a message. -/
def ptpCut (d : Device) (i : Nat) : Device :=
  let d := ptpClientStop d i
  let d := (d.peel.bookings.filter (ptpBooking i)).foldl (fun d b =>
    match b.owner with
    | .lane _ _ =>
      let d := dropBooking d b.handle
      match b.resp with
      | some { item := { work := .sync _ _ _ _, .. }, .. } => d.cnt (K.PTP_SYNC_MISSED i)
      | _ => d.cnt (K.PTP_DROP_FLUSHED i)
    | _ => tellOwner (dropBooking d b.handle) b T.CANCELLED 0 0) d
  { d with ptp := { d.ptp with grants := d.ptp.grants.filter fun e => !(e.2.inst == i),
                               intake := d.ptp.intake.filter fun m => !(m.inst == i) } }

/-- An instance holds no more work. -/
def ptpIdle (d : Device) (i : Nat) : Bool :=
  !(d.ptp.grants.any fun e => e.2.inst == i) && !(d.peel.bookings.any (ptpBooking i))

/-- R194: under DRAIN, an entry is freed 3 s after its cancel. -/
def xPtpCancelAckTimeout (g : Nat) (d : Device) : Device :=
  match d.grant g with
  | some e =>
    match e.cancelAt with
    | some t => if t + 3 * secU ≤ d.now ∧ ¬ d.dtInvalid then dropGrant d g else d
    | none => d
  | none => d

/-! ### The commands of this file -/

/-- SYNC_EMIT (R183). -/
def execSyncEmit (i port : Nat) (grant : Option Nat) (s : State) : Host.Outcome State Fault Refusal :=
  finish s (xSyncEmit i port grant s.dev)

/-- PTP_ANNOUNCE_SEND (R189). -/
def execPtpAnnounceSend (i port : Nat) (grant : Option Nat) (s : State) : Host.Outcome State Fault Refusal :=
  finish s (xPtpAnnounceSend i port grant s.dev)

/-- PTP_REQUEST_SEND (R182). -/
def execPtpRequestSend (i port : Nat) (s : State) : Host.Outcome State Fault Refusal :=
  finish s (xPtpRequestSend i port s.dev)

/-- PTP_UNICAST_REQUEST (R186). -/
def execPtpUnicastRequest (s : State) : Host.Outcome State Fault Refusal :=
  finish s (xPtpUnicastRequest s.dev)

/-- PTP_CANCEL_UNICAST (R187). -/
def execPtpCancelUnicast (s : State) : Host.Outcome State Fault Refusal :=
  finish s (xPtpCancelUnicast s.dev)

/-- PTP_GRANT_EXPIRE (R187). -/
def execPtpGrantExpire (g b : Nat) (s : State) : Host.Outcome State Fault Refusal :=
  finish s (xPtpGrantExpire g b s.dev)

/-- PTP_UNICAST_RENEW (R193). -/
def execPtpUnicastRenew (i : Nat) (s : State) : Host.Outcome State Fault Refusal :=
  finish s (xPtpUnicastRenew i s.dev)

/-- PTP_ANNOUNCE_RECEIVE (R193). -/
def execPtpAnnounceReceive (s : State) : Host.Outcome State Fault Refusal :=
  finish s (xPtpAnnounceReceive s.dev)

/-- PTP_GENERAL_RECEIVE (R182). -/
def execPtpGeneralReceive (s : State) : Host.Outcome State Fault Refusal :=
  finish s (xPtpGeneralReceive s.dev)

/-- PTP_MANAGEMENT (R176). -/
def execPtpManagement (s : State) : Host.Outcome State Fault Refusal :=
  finish s (xPtpManagement s.dev)

/-- PTP_ANNOUNCE_TIMEOUT (R193). -/
def execPtpAnnounceTimeout (i : Nat) (s : State) : Host.Outcome State Fault Refusal :=
  finish s (xPtpAnnounceTimeout i s.dev)

/-- PTP_CANCEL_ACK_TIMEOUT (R194). -/
def execPtpCancelAckTimeout (g : Nat) (s : State) : Host.Outcome State Fault Refusal :=
  finish s (xPtpCancelAckTimeout g s.dev)

/-- PTP_INSTANCE_ENABLE (R179). -/
def execPtpInstanceEnable (i : Nat) (s : State) : Host.Outcome State Fault Refusal :=
  finish s (hostWrite (R.CLS_PTP_CFG i) (xPtpInstanceEnable i) s.dev)

/-- PTP_PROFILE_WRITE (R196). -/
def execPtpProfileWrite (i p : Nat) (s : State) : Host.Outcome State Fault Refusal :=
  finish s (hostWrite (R.CLS_PTP_CFG i) (xPtpProfileWrite i p) s.dev)

/-- PTP_GRANT_RECEIVE (R193). -/
def execPtpGrantReceive (s : State) : Host.Outcome State Fault Refusal :=
  finish s (xPtpGrantReceive s.dev)

/-- PTP_CANCEL_ACK_RECEIVE (R194). -/
def execPtpCancelAckReceive (s : State) : Host.Outcome State Fault Refusal :=
  finish s (xPtpCancelAckReceive s.dev)

end Sys2Proof.Machine
end

