-- ==== Sys2Proof/Machine/Keys.lean ====
section
/-! DEFINITION. The derived keys (R352) and the key store (R356): sealing a record, opening it, the record in force for a kind and
slot, and wiping.  Vault slots other than 0 to 2 are the model's choice (log entry 49). -/

namespace Sys2Proof.Machine

/-! ### Derived keys (R352) -/

def hkdf (ikm info : Bytes) (len : Nat) : Bytes := hkdfExpand .s384 (hkdfExtract .s384 [] ikm) info len

def rootKey : Bytes := beBytes 32 Config.rootSecret.toNat

def wrapKey (d : Device) : Bytes :=
  hkdf rootKey (ascii "ILX-WRAP" ++ leBytes 4 (d.fg F.SEC_FUSE_EPOCH) ++ leBytes 4 (d.fg F.SEC_FUSE_ZCNT)) 32

def ownerSealKey (d : Device) : Bytes := hkdf rootKey (ascii "ILX-OWNR" ++ leBytes 4 (d.fg F.SEC_FUSE_EPOCH)) 32

/-- The order of P-384. -/
def p384N : Nat := 0xffffffffffffffffffffffffffffffffffffffffffffffffc7634d81f4372ddf581a0db248b0a77aecec196accc52973

/-- The identity key's scalar: the first counter whose output lies in 1..n−1. -/
def dikFrom : Nat → Nat → Nat
  | 0, _ => 1
  | k + 1, c =>
    let v := beVal (hkdf rootKey (ascii "ILX-DIK" ++ beBytes 1 c) 48)
    if 1 ≤ v ∧ v < p384N then v else dikFrom k (c + 1)

def dikScalar : Nat := dikFrom 256 0

/-! ### Records (R356) -/

def keyKind (r : Bytes) : Nat := byteAt r 2
def keySlot (r : Bytes) : Nat := byteAt r 3
def keySeq (r : Bytes) : Nat := leAt r 12 8

/-- The key a kind is sealed under. -/
def sealKeyOf (d : Device) (kind : Nat) : Bytes := if kind = 1 then ownerSealKey d else wrapKey d

def keyRecord (d : Device) (kind slot seq : Nat) (data : Bytes) : Bytes :=
  let h := leBytes 2 0x524B ++ leBytes 1 kind ++ leBytes 1 slot ++ leBytes 4 (d.fg F.SEC_FUSE_EPOCH) ++
    leBytes 4 (d.fg F.SEC_FUSE_ZCNT) ++ leBytes 8 seq ++ leBytes 2 data.length ++ zeros 2
  h ++ sivSeal (sealKeyOf d kind) [h] data

/-- Open a record: none when it does not open under the keys in force. -/
def keyOpen (d : Device) (r : Bytes) : Option Bytes :=
  if leAt r 0 2 = 0x524B then sivOpen (sealKeyOf d (keyKind r)) [r.take 24] (r.drop 24) else none

/-- Records in force: for each kind and slot, the valid one of the highest seq. -/
def keysInForce (d : Device) : List Bytes :=
  d.trust.records.filter fun r => (keyOpen d r).isSome &&
    !(d.trust.records.any fun q => keyKind q == keyKind r && keySlot q == keySlot r && decide (keySeq r < keySeq q) && (keyOpen d q).isSome)

/-- The data in force of a kind and slot. -/
def keyLatest (d : Device) (kind slot : Nat) : Option Bytes :=
  ((keysInForce d).find? fun r => keyKind r == kind && keySlot r == slot).bind (keyOpen d)

/-- Half of the 1 MiB key store: what one half holds. -/
def keyHalf : Nat := 524288

/-- Append a record; a full half is copied without what is no longer in force. -/
def keySave (d : Device) (kind slot : Nat) (data : Bytes) : Device :=
  let seq := d.trust.recSeq + 1
  let r := keyRecord d kind slot seq data
  let held := d.trust.records.foldl (fun n x => n + x.length) 0
  let old := if keyHalf < held + r.length then keysInForce d else d.trust.records
  { d with trust := { d.trust with records := old ++ [r], recSeq := seq } }

/-- Wipe the records of a kind and slot. -/
def keyWipe (d : Device) (kind slot : Nat) : Device :=
  { d with trust := { d.trust with records := d.trust.records.filter fun r => !(keyKind r == kind && keySlot r == slot) } }

/-! ### Slots of the vault (log entry 49) -/

def slotOwner : Nat := 3
def slotTls : Nat := 4
def slotTlsNext : Nat := 5
def slotPair : Nat := 6
def slotGen (role : Nat) : Nat := 32 + role

end Sys2Proof.Machine
end

