-- ==== Sys2Proof/Machine/Starter.lean ====
section
/-! DEFINITION. The Starter (R156 to R161): its generations, making one, the schedule of rotations, rotating, deferring, wiping
what retired, and the status it shows. -/

namespace Sys2Proof.Machine

def Device.starter (d : Device) : Starter := d.nts.starter

def Device.setStarter (d : Device) (s : Starter) : Device := { d with nts := { d.nts with starter := s } }

def purging (d : Device) : Bool := d.fb F.OVN_STARTER_STATUS_purging

/-- Generations a cookie may be opened under (R155), the current one first. -/
def heldGens (s : Starter) : List Gen := s.current.toList ++ s.prior1.toList ++ s.prior2.toList

/-- The generations in force for a job that starts now (R158). -/
def gensNow (d : Device) : List Gen := if purging d then [] else heldGens d.starter

/-- The highest number held. -/
def topGen (s : Starter) : Nat := (s.pending.toList ++ heldGens s ++ s.retired).foldl (fun n g => max n g.num) 0

def autoRot (d : Device) : Bool := d.fb F.OVN_STARTER_POLICY_auto

/-- The period in force; values outside 3,600 to 604,800 act as the nearest limit. -/
def starterPeriod (d : Device) : Nat := clamp 3600 604800 (d.fg F.OVN_STARTER_PERIOD)

/-- The next automatic instant, in seconds: the first multiple of the period after now. -/
def nextAuto (d : Device) : Nat := (d.nowSec / starterPeriod d + 1) * starterPeriod d

/-- Rotations scheduled, the earliest first. -/
def earliestRot (d : Device) : Option Rotation := leastBy (·.due) d.starter.rotations

/-- What OVN_STARTER_NEXT shows: the next rotation instant; 0 when none is scheduled. (DEDUCED, log entry 50.) -/
def starterNext (d : Device) : Inst :=
  let auto := if autoRot d && d.starter.current.isSome && !(d.starter.rotations.any (·.auto)) then [nextAuto d * secU] else []
  (leastBy id (d.starter.rotations.map (·.due) ++ auto)).getD 0

/-- OVN_STARTER_STATUS and OVN_STARTER_GEN follow the generations held. -/
def starterShow (d : Device) : Device :=
  let s := d.starter
  let d := d.fsb F.OVN_STARTER_STATUS_ready s.current.isSome
  let d := d.fsb F.OVN_STARTER_STATUS_pending s.pending.isSome
  let d := d.fs F.OVN_STARTER_STATUS_priors (s.prior1.toList.length + s.prior2.toList.length)
  d.wn R.OVN_STARTER_GEN ((s.current.map (·.num)).getD 0)

/-- A generation as its key record holds it: number and key; a pending one with the second of its rotation. -/
def genData (g : Gen) (sec : Nat) : Bytes := leBytes 4 g.num ++ g.key ++ leBytes 8 sec

/-- Keep one role's record in step with the generation held in it. -/
def storeGen (role : Nat) (d : Device) (old new : Option Gen) (sec : Nat) : Device :=
  if old == new then d
  else
    match new with
    | some g =>
      if g.inFlash then keySave (keyWipe d 5 (slotGen role)) 5 (slotGen role) (genData g sec)
      else keyWipe d 5 (slotGen role)
    | none => keyWipe d 5 (slotGen role)

/-- The Starter takes new generations; the key store and the status follow. -/
def setGens (d : Device) (p c p1 p2 : Option Gen) (retired : List Gen) : Device :=
  let s := d.starter
  let sec := ((earliestRot d).map fun r => r.due / secU).getD 0
  let d := d.setStarter { s with pending := p, current := c, prior1 := p1, prior2 := p2, retired }
  starterShow (storeGen 3 (storeGen 2 (storeGen 1 (storeGen 0 d s.pending p sec) s.current c 0) s.prior1 p1 0) s.prior2 p2 0)

/-- A new generation, numbered one above the highest held (R156). -/
def newGen (d : Device) : Gen × Device :=
  let (n, d) := d.draw
  ({ num := (topGen d.starter + 1) % 2 ^ 32, key := beBytes 32 (Config.draw n).toNat, inFlash := true }, d)

/-- Write a generation to flash; whether it stands there is left open (R157). (DESIGN CHOICE, log entry 101.) -/
def flashGen (d : Device) (g : Gen) : Gen × Device := let (n, d) := d.draw; ({ g with inFlash := Config.starterFlash n }, d)

/-- Create the pending generation unless one is held, and write it to flash (R157). -/
def makePending (d : Device) : Device :=
  if d.starter.pending.isSome then d
  else
    let (g, d) := newGen d
    let (g, d) := flashGen d g
    let s := d.starter
    setGens (d.setStarter { s with offered := false }) (some g) s.current s.prior1 s.prior2 s.retired

/-- Wipe the pending generation. -/
def dropPending (d : Device) : Device :=
  let s := d.starter
  setGens d none s.current s.prior1 s.prior2 s.retired

/-! ### The schedule -/

/-- Schedule a rotation: the code and the handle. -/
def scheduleRot (d : Device) (t : Inst) (auto : Bool) : Nat × Nat × Device :=
  let (c, h, d) := request d (.starterRotate auto) t false 0
  if c = T.ACCEPTED then
    (c, h, d.setStarter { d.starter with rotations := d.starter.rotations ++ [{ handle := h, due := t, auto, deferrals := 0 }] })
  else (c, h, d)

def dropRot (d : Device) (h : Nat) : Device :=
  d.setStarter { d.starter with rotations := d.starter.rotations.filter fun r => !(r.handle == h) }

/-- Rotations whose action has left the schedule: a host one that owned the pending generation wipes it (R159). -/
def starterPrune (d : Device) : Device :=
  let gone (r : Rotation) : Bool := !(r.handle == 0) && !(d.sched.pend.any fun e => e.handle == r.handle)
  let mine := (earliestRot d).any fun r => gone r && !r.auto
  let d := d.setStarter { d.starter with rotations := d.starter.rotations.filter fun r => !gone r }
  if mine then dropPending d else d

/-- R159: an automatic rotation that was missed is scheduled again for 1 s after Device Time was restored. -/
def starterRestored (d : Device) : Device :=
  let lost := d.starter.rotations.any fun r => r.auto && !(r.handle == 0) && !(d.sched.pend.any fun e => e.handle == r.handle)
  let d := starterPrune d
  if lost then (scheduleRot d (d.now + secU) true).2.2 else d

/-! ### Rotating (R157, R158) -/

/-- R158: the generations move in one tick. -/
def rotateGens (d : Device) : Device :=
  let s := d.starter
  let d := setGens d none s.pending s.current s.prior1 (s.retired ++ s.prior2.toList)
  let d := d.set1 F.OVN_STARTER_STATUS_rotated
  d.ledger L.starterRotate 0 ((s.pending.map (·.num)).getD 0) ((s.prior2.map (·.num)).getD 0)

/-- The pending generation is written to flash once more (R157). -/
def flashRetry (d : Device) : Device :=
  let s := d.starter
  match s.pending with
  | some g => let (g, d) := flashGen d g; setGens d (some g) s.current s.prior1 s.prior2 s.retired
  | none => d

/-- R157: the rotation is deferred by 1 s, and the write to flash tried again. (DEDUCED, log entries 51 and 101.) -/
def deferRot (d : Device) (r : Rotation) : Device :=
  let r' : Rotation := { r with due := r.due + secU, deferrals := r.deferrals + 1 }
  let s := d.starter
  let d := d.setStarter { s with rotations := mapIf (fun x : Rotation => x.handle == r.handle) (fun _ => r') s.rotations }
  let hit (e : TimedAct) : Bool := e.handle == r.handle
  let d := { d with sched := { d.sched with pend := mapIf hit (fun e => { e with due := r'.due, stepped := false }) d.sched.pend } }
  flashRetry ((d.set1 F.OVN_STARTER_STATUS_fault).ledger L.starterDefer 0 ((s.pending.map (·.num)).getD 0) r'.deferrals)

/-- The pending generation stands in flash. -/
def pendingReady (d : Device) : Bool := match d.starter.pending with | some g => g.inFlash | none => false

/-- R158: jobs that started before the instant have ended; what retired is wiped. -/
def wipeRetired (d : Device) : Device :=
  let used (g : Gen) : Bool := d.nts.jobs.any fun j => j.gens.any fun x => x.num == g.num
  d.setStarter { d.starter with retired := d.starter.retired.filter used }

/-! ### PURGE (R160) -/

/-- Step 1: nothing held is accepted any more. -/
def purgeBegin (d : Device) : Device := d.set1 F.OVN_STARTER_STATUS_purging

/-- Steps 2 and 3: a new generation, one above the highest held, is current and every other one is wiped. -/
def purgeEnd (d : Device) : Device :=
  let had := d.starter.pending.isSome
  let (g, d) := newGen d
  let d := (setGens d none (some g) none none []).clr F.OVN_STARTER_STATUS_purging
  if had && !d.starter.rotations.isEmpty then makePending d else d

/-! ### Loading (R161) -/

def genOf (bs : Bytes) : Gen := { num := leAt bs 0 4, key := slice bs 4 32, inFlash := true }

/-- Reload the generations in force in the key store; without a current one, generation 1 is made. -/
def starterLoad (d : Device) : Device :=
  let get (role : Nat) : Option Gen := (keyLatest d 5 (slotGen role)).map genOf
  let sec := ((keyLatest d 5 (slotGen 0)).map fun bs => leAt bs 36 8).getD 0
  let s : Starter := { Starter.init with pending := get 0, current := get 1, prior1 := get 2, prior2 := get 3 }
  let s := if s.pending.isSome ∧ sec ≠ 0 then { s with rotations := [{ handle := 0, due := sec * secU, auto := true, deferrals := 0 }] } else s
  let d := d.setStarter s
  if s.current.isSome then starterShow d
  else
    let (g, d) := newGen d
    setGens d s.pending (some g) s.prior1 s.prior2 []

end Sys2Proof.Machine
end

