-- ==== Sys2Proof/Machine/Lane.lean ====
section
/-! DEFINITION. Lanes and Ovens: choosing T3 (R121), plain NTP answers and KoD (R96, R105), ARP and ND answers (R94), PTP answers
and Syncs (R183, R184), NTS requests from their checks to the sealed response (R162 to R168), placing a job in an Oven (R69), and
re-promises (R119, R120). -/

namespace Sys2Proof.Machine

/-! ### Booking and committing a response (R117, R121, R163) -/

/-- A build time of PEEL_BUILD; below g_lead it acts as g_lead. -/
def buildTime (d : Device) (f : Fld) : Inst := max (d.fg f * 20 * nsU) (gLead d)

/-- The lanes' booking window (R124). -/
def searchLen (d : Device) : Inst := clamp 100 8000 (d.fg F.PEEL_SEARCH) * nsU

/-- t_e of R121 for a promise register and a build time. -/
def promiseAt (d : Device) (stamp : Inst) (promise build : Fld) : Inst :=
  max (stamp + max 200 (d.fg promise) * nsU) (d.now + buildTime d build)

/-- Book a response of `len` bytes for a lane; a refusal is counted. -/
def laneBook (d : Device) (s kind port : Nat) (tci : Option Nat) (te : Inst) (len : Nat) (mayRp again : Bool) :
    Option (Nat × Inst) × Device :=
  let (c, h, t, d') := peelBook d port te (te + searchLen d) (len + 4) (gateClass d port tci) mayRp again (.lane s kind)
  if c = T.ACCEPTED then (some (h, t), d') else (none, d'.cnt (K.PEEL_DROP_NOSLOT port))

/-- A missed booking whose response was still being built: its record. -/
def voidedHere (d : Device) (h : Nat) : Option Nat := (d.peel.voided.find? fun v => v.1 == h).map (·.2)

def dropVoided (d : Device) (h : Nat) : Device :=
  { d with peel := { d.peel with voided := d.peel.voided.filter fun v => !(v.1 == h) } }

/-- Commit a built response; when its slot was missed meanwhile it is handed back (R119); a booking that was discarded takes the
response with it. -/
def laneCommit (d : Device) (h : Nat) (r : LaneResp) : Device :=
  match findBooking d h with
  | some _ => (peelCommit d h r.frame (some r)).2
  | none =>
    match voidedHere d h with
    | some port => repromLane (dropVoided d h) r port
    | none => d

/-- R163: the lane sends nothing: the booking is cancelled, or, too late for that, voided and counted. -/
def laneAbandon (d : Device) (h port : Nat) : Device :=
  match findBooking d h with
  | some b => if d.now + gLead d ≤ b.due then dropBooking d h else (dropBooking d h).cnt (K.PEEL_DROP_MISS port)
  | none =>
    match voidedHere d h with
    | some p => (dropVoided d h).cnt (K.PEEL_DROP_MISS p)
    | none => d

/-- The instant a booking launches at; now, when its slot was missed meanwhile. -/
def bookedAt (d : Device) (h : Nat) : Inst := ((findBooking d h).map (·.due)).getD d.now

/-! ### Plain NTP -/

def ipOf (f : Bytes) : Ip := let e := parseEth f; if e.etype = 0x86DD then parseV6 f e.off else parseV4 f e.off

/-- The UDP payload of a frame. -/
def udpOf (f : Bytes) : Bytes := udpPayload f (ipOf f)

/-- The frame with another UDP payload of the same length, its checksum anew. -/
def withUdp (f pl : Bytes) : Bytes :=
  let ip := ipOf f
  let (s, t) := if ip.v6 then (ip.src, ip.dst) else (ip.src % 2 ^ 32, ip.dst % 2 ^ 32)
  padTo 60 (f.take ip.off ++ udpMsg ip.v6 s t (beAt f ip.off 2) (beAt f (ip.off + 2) 2) pl)

/-- An answer frame of an item around a payload. -/
def answerFrame (d : Device) (i : Item) (pl : Bytes) : Bytes := padTo 60 (udpAnswer d i.sa i.port i.vlan i.bytes pl)

def itemTci (d : Device) (i : Item) : Option Nat := vlanTci d i.vlan

/-- T of the item's rate profile (R101). -/
def profT (d : Device) (i : Item) : Nat := d.rn (R.CLS_RATE_INT i.prof)

/-- A per-address counter; frames to no service address have none. -/
def saCnt (d : Device) (i : Item) (k : Nat → Nat) : Device := if i.saIdx < 256 then d.cnt (k i.saIdx) else d

/-- Book, build at T3 and commit a plain response or a KoD. -/
def sendNtp (d : Device) (s : Nat) (i : Item) (id : Nat × Nat × Nat × Nat) (kod : Option Nat) : Device :=
  let body (t : Inst) : Bytes := answerFrame d i (ntpBody d i.sa (udpOf i.bytes) i.stamp t id kod)
  let te := promiseAt d i.stamp F.PEEL_PROMISE_NTP F.PEEL_BUILD_plain
  match laneBook d s 0 i.port (itemTci d i) te (body d.now).length true false with
  | (none, d) => d
  | (some (h, t), d) =>
    let d := if kod.isSome then saCnt (kodSent d i.src.toNat) i K.SA_KOD_SENT else saCnt d i K.SA_NTP_ANSWERED
    laneCommit d h { slice := s, kind := 0, item := i, frame := body t, kod := kod.isSome, sealCtx := none }

/-- R96 to R105: a plain request of mode 3. -/
def serveNtp (d : Device) (s : Nat) (i : Item) : Device :=
  match ntpIdent d (smears d i.sa) with
  | none => d.cnt K.CLS_DROP_SILENT
  | some id =>
    match foldClient d i.src.toNat i.stamp i.prof i.pref false with
    | (.within, d) => sendNtp d s i id none
    | (.overBudget, d) => d.cnt K.CLS_KOD_SUPPRESSED
    | (.overKodOk, d) =>
      let (ok, d) := kodToken d
      if ok then sendNtp d s i id (some (profT d i)) else d.cnt K.CLS_KOD_SUPPRESSED

/-! ### ARP and ND (R94) -/

/-- The reply to an ARP request. -/
def arpReply (d : Device) (i : Item) : Bytes :=
  let o := (parseEth i.bytes).off
  let mac := saMac d i.sa i.port
  padTo 60 (ethHdr (beAt i.bytes (o + 8) 6) mac (itemTci d i) 0x0806 ++
    beBytes 2 1 ++ beBytes 2 0x0800 ++ beBytes 1 6 ++ beBytes 1 4 ++ beBytes 2 2 ++
    beBytes 6 mac ++ slice i.bytes (o + 24) 4 ++ slice i.bytes (o + 8) 6 ++ slice i.bytes (o + 14) 4)

/-- A Neighbor Advertisement for a service address; `s` is its S bit. -/
def naMsg (target mac src dst : Nat) (s : Bool) : Bytes :=
  icmp6 src dst 136 0 (beBytes 4 (0x20000000 + if s then 0x40000000 else 0) ++ beBytes 16 target ++
    beBytes 1 2 ++ beBytes 1 1 ++ beBytes 6 mac)

def naFrame (d : Device) (e : SaEntry) (port : Nat) (tci : Option Nat) (dest : Option (Nat × Nat)) : Bytes :=
  let mac := saMac d e port
  let (dmac, dst) := dest.getD (0x333300000001, 0xFF020000000000000000000000000001)
  let m := naMsg e.addr.toNat mac e.addr.toNat dst dest.isSome
  padTo 60 (ethHdr dmac mac tci 0x86DD ++ ipv6Hdr e.dscp 255 58 e.addr.toNat dst m.length ++ m)

def ndReply (d : Device) (i : Item) : Bytes :=
  let src := (ipOf i.bytes).src
  naFrame d i.sa i.port (itemTci d i) (if src = 0 then none else some ((parseEth i.bytes).src, src))

def sendArpNd (d : Device) (s : Nat) (i : Item) (f : Bytes) : Device :=
  match laneBook d s 3 i.port (itemTci d i) (d.now + gLead d) f.length false false with
  | (none, d) => d
  | (some (h, _), d) =>
    laneCommit (saCnt d i K.SA_ARP_ND) h { slice := s, kind := 3, item := i, frame := f, kod := false, sealCtx := none }

/-! ### PTP (R182 to R184) -/

/-- The PTP message of a frame: over Ethernet or in its UDP datagram. -/
def ptpBytes (f : Bytes) : Bytes := let e := parseEth f; if e.etype = 0x88F7 then f.drop e.off else udpOf f

/-- The sender's address as the grants know it; its MAC over Ethernet. -/
def ptpSrc (f : Bytes) : Nat := let e := parseEth f; if e.etype = 0x88F7 then e.src else (ipOf f).src

def ptpMsgOf (i : Nat) (it : Item) : PtpMsg :=
  { inst := i, port := it.port, stamp := it.stamp, vlan := it.vlan, src := ptpSrc it.bytes, mac := (parseEth it.bytes).src,
    msg := ptpBytes it.bytes }

/-- A message sent to the device alone. -/
def ptpToMe (it : Item) : Bool := (byteAt (ptpBytes it.bytes) 6).testBit 2 || !(byteAt it.bytes 0 % 2 == 1)

/-- Where an answer goes: to the requester, or to the group. -/
def ptpBackTo (it : Item) : Option (Nat × Nat) := if ptpToMe it then some ((parseEth it.bytes).src, ptpSrc it.bytes) else none

/-- R184: 16 M requests a second on a port. -/
def reqTake (d : Device) (port : Nat) : Bool × Device :=
  let (sec, n) := amGet (0, 0) d.ptp.reqRate port
  let n := if sec = d.nowSec then n else 0
  if n < 16000000 then (true, { d with ptp := { d.ptp with reqRate := amSet (0, 0) d.ptp.reqRate port (d.nowSec, n + 1) } })
  else (false, d)

/-- The live Delay_Resp grant of the requester. -/
def drespGrant (d : Device) (m : PtpMsg) : Option Grant :=
  ((grantOf d m).map (·.2)).filter fun g => g.granted.testBit 2 && decide (d.nowSec < g.expDresp)

/-- The frame of a Sync, a Delay_Resp or a Pdelay_Resp launched at an instant; `seq` is a Sync's. (DEDUCED, log entry 55.) -/
def ptpAnswer (d : Device) (it : Item) (seq : Nat) (t : Inst) : Bytes :=
  match it.work with
  | .sync i port g _ =>
    match g.bind d.grant with
    | some e => ptpFrame d i port it.vlan (some (e.dstMac, e.addr)) true false (syncMsg d i port seq e.logSync true t)
    | none => ptpFrame d i port it.vlan none true false (syncMsg d i port seq (rateLog d (F.CLS_PTP_RATES_sync i)) false t)
  | .ptp i =>
    let m := ptpBytes it.bytes
    if msgType m = 2 then ptpFrame d i it.port it.vlan (ptpBackTo it) true true (pdelayRespMsg d i it.port m it.stamp t)
    else
      let log := ((drespGrant d (ptpMsgOf i it)).map (·.logDresp)).getD (rateLog d (F.CLS_PTP_RATES_dreq i))
      ptpFrame d i it.port it.vlan (ptpBackTo it) false false (delayRespMsg d i it.port m it.stamp log)
  | _ => []

def ptpItemTci (d : Device) (it : Item) : Option Nat :=
  match it.work with
  | .sync i _ _ _ => ptpTci d i it.vlan
  | .ptp i => ptpTci d i it.vlan
  | _ => none

/-- The instance still answers: enabled, or draining. -/
def ptpServes (d : Device) (i : Nat) : Bool := d.up (.ptp i) || d.stopOf (.ptp i) == some false

/-- R183: the lane books a Sync at its nominal instant and builds it for the launch it got. (DEDUCED, log entry 25.) -/
def serveSync (d : Device) (s : Nat) (it : Item) (i port : Nat) (g : Option Nat) (tk : Inst) : Device :=
  if !ptpServes d i || ptpSilent d then d.cnt (K.PTP_SYNC_MISSED i)
  else
    let seq := match g.bind d.grant with | some e => e.seqSync | none => seqOf (d.ptpInst i) port 0
    let te := max tk (d.now + buildTime d F.PEEL_BUILD_ptp)
    let (c, h, t, d') := peelBook d port te (tk + d.fg (F.CLS_PTP_SYNC_win i) * nsU) ((ptpAnswer d it seq te).length + 4)
      (gateClass d port (ptpItemTci d it)) true false (.lane s 2)
    if c = T.ACCEPTED then
      let r : LaneResp := { slice := s, kind := 2, item := it, frame := ptpAnswer d it seq t, kod := false, sealCtx := none }
      let d' := laneCommit d' h r
      match g with
      | some n => (match d'.grant n with | some e => setGrant d' n { e with seqSync := (e.seqSync + 1) % 65536 } | none => d')
      | none => bumpSeq d' i port 0
    else (d'.cnt (K.PEEL_DROP_NOSLOT port)).cnt (K.PTP_SYNC_MISSED i)

/-- Book, build and commit the answer to a delay request. -/
def sendPtp (d : Device) (s : Nat) (it : Item) (kind : Nat) : Device :=
  let te := promiseAt d it.stamp F.PEEL_PROMISE_PTP F.PEEL_BUILD_ptp
  match laneBook d s kind it.port (ptpItemTci d it) te (ptpAnswer d it 0 te).length true false with
  | (none, d) => d
  | (some (h, t), d) =>
    laneCommit d h
      { slice := s, kind, item := it, frame := ptpAnswer d it 0 t, kod := false, sealCtx := none }

/-- R182: an event message of an instance; one that came to an entry's address counts there. (DEDUCED, log entry 103.) -/
def servePtp (d : Device) (s : Nat) (it : Item) (i : Nat) : Device :=
  let m := ptpBytes it.bytes
  let d := saCnt d it K.SA_PTP_EVENT
  if !ptpServes d i then d.cnt (K.PTP_DROP_FLUSHED i)
  else if msgType m = 0 then syncRx d i it.port it.stamp m
  else if msgType m = 3 then pdelayRx d i it.port it.stamp m
  else if msgType m = 1 ∨ msgType m = 2 then
    let (ok, d) := reqTake d it.port
    if !ok then d.cnt (K.PTP_DROP_REQ_RATE i)
    else if msgType m = 2 then (if d.dtInvalid then d else sendPtp d s it 4)
    else if !ptpServer d i it.port || ptpSilent d then d
    else if ptpToMe it && (drespGrant d (ptpMsgOf i it)).isNone then d.cnt (K.PTP_DROP_NO_GRANT i)
    else sendPtp d s it 2
  else d

/-! ### Ovens (R69, R170 to R172) -/

/-- The Oven takes jobs: its bit is set, it is in service, its slice is powered and the service is enabled. -/
def ovenOk (d : Device) (k : Nat) : Bool :=
  d.up .ovn && slcPowered d (k / 2) && (d.fg F.OVN_CTL_ovens).testBit k && !(d.fg F.OVN_FAULT).testBit k &&
  !(d.nts.kat.contains k) && !(d.nts.dead.contains k)

/-- Jobs an Oven holds. -/
def ovenLoad (d : Device) (k : Nat) : Nat := (d.nts.jobs.filter fun j => j.oven == k).length

/-- The Oven of a slice that takes a job: the one with fewer jobs, Oven 0 on a tie; none with 4 or more. -/
def ovenIn (d : Device) (s : Nat) : Option Nat :=
  leastBy (ovenLoad d) ([2 * s, 2 * s + 1].filter fun k => ovenOk d k && decide (ovenLoad d k < 4))

/-- R69: an own Oven, or one borrowed from the successor, then the predecessor, among slices with Ovens powered. (DESIGN CHOICE, log entry 56.) -/
def ovenFor (d : Device) (s : Nat) : Option Nat :=
  let near := (List.range 12).filter (slcPowered d)
  let borrow (n : Nat) : Option Nat :=
    if n = s ∨ !d.fb F.OVN_BORROW_enable ∨ d.fg F.OVN_BORROW_quota = 0 then none else ovenIn d n
  ((ovenIn d s).or (borrow (succSlice near s))).or (borrow (predSlice near s))

/-- R170: the Oven a KE session's MINT goes to: the fewest jobs among enabled Ovens of powered slices. -/
def ovenForMint (d : Device) : Option Nat := leastBy (ovenLoad d) ((List.range 24).filter (ovenOk d))

/-- Put a job into an Oven, with the generations in force (R158). -/
def ovenPut (d : Device) (k : Nat) (w : OvenWork) (retried : Bool) : Device :=
  let j : OvenJob := { id := d.nts.nextJob, oven := k, work := w, gens := gensNow d, retried, since := d.tm.osc }
  { d with nts := { d.nts with jobs := d.nts.jobs ++ [j], nextJob := d.nts.nextJob + 1 } }

/-- A lane's job finds an Oven, or its request is dropped (R69). -/
def laneJob (d : Device) (s h port : Nat) (w : OvenWork) : Device :=
  match ovenFor d s with
  | some k => ovenPut d k w false
  | none => laneAbandon (d.cnt (K.CLS_C_RETURNED 1)) h port

def ceil16 (n : Nat) : Nat := (n + 15) / 16

/-- Blocks of verifying a request (R172). -/
def verifyBlocks (r : NtsReq) : Nat :=
  let p := r.ctext.length - 16
  2 + ceil16 r.ad.length + ceil16 r.nonce.length + if p = 0 then 1 else 2 * ceil16 p

/-- Blocks of sealing k cookies' fields under associated data of `ar` bytes. -/
def sealBlocks (ar k : Nat) : Nat := 2 + ceil16 ar + 1 + 2 * ceil16 (96 * k)

/-! ### NTS requests (R162 to R168) -/

/-- The extension fields after the header: type, offset and whole length. -/
def efList : Nat → Bytes → Nat → List (Nat × Nat × Nat)
  | 0, _, _ => []
  | k + 1, p, o =>
    let len := beAt p (o + 2) 2
    if o + 4 ≤ p.length ∧ 4 ≤ len ∧ o + len ≤ p.length then (beAt p o 2, o, len) :: efList k p (o + len) else []

def efBody (p : Bytes) (e : Nat × Nat × Nat) : Bytes := slice p (e.2.1 + 4) (e.2.2 - 4)

/-- Nonce and ciphertext of an authenticator field's body: both padded to words, any further padding zero. -/
def authParts (b : Bytes) : Option (Bytes × Bytes) :=
  let n := beAt b 0 2
  let c := beAt b 2 2
  let fin := 4 + roundUp 4 n + roundUp 4 c
  let zero (l : Bytes) : Bool := l.all (· == 0)
  if 16 ≤ n ∧ n ≤ 64 ∧ 16 ≤ c ∧ c ≤ 784 ∧ fin ≤ b.length ∧ zero (slice b (4 + n) (roundUp 4 n - n)) ∧
      zero (slice b (4 + roundUp 4 n + c) (roundUp 4 c - c)) ∧ zero (b.drop fin) then
    some (slice b 4 n, slice b (4 + roundUp 4 n) c)
  else none

/-- Checks 1 to 3 of R162: what the lane keeps of a request. -/
def ntsParse (d : Device) (s : Nat) (i : Item) : Option NtsReq :=
  let p := udpOf i.bytes
  let es := efList 64 p 48
  let of (t : Nat) : List (Nat × Nat × Nat) := es.filter fun e => e.1 == t
  match of 0x0104, of 0x0204, of 0x0404, es.getLast? with
  | [u], [c], [a], some l =>
    match authParts (efBody p a) with
    | some (nonce, ctext) =>
      let ulen := (efBody p u).length
      if 32 ≤ ulen ∧ ulen ≤ 64 ∧ l = a ∧ (ctext.length = 16 ∨ d.fb F.OVN_NTS_CTL_enc_ef) then
        some { item := i, slice := s, booking := 0, uid := slice p u.2.1 u.2.2, cookie := efBody p c, ad := p.take a.2.1, nonce,
               ctext, clearPh := (of 0x0304).map fun e => (efBody p e).length, maxPh := d.fg F.OVN_NTS_CTL_max_ph }
      else none
    | none => none
  | _, _, _, _ => none

/-- Placeholders that are honoured (R166). -/
def honoured (maxPh : Nat) (phs : List Nat) : Nat := min maxPh (phs.filter fun n => 92 ≤ n).length

/-- The authenticator field around a nonce and what follows it. -/
def authField (nonce ct : Bytes) : Bytes :=
  beBytes 2 0x0404 ++ beBytes 2 (8 + nonce.length + ct.length) ++ beBytes 2 nonce.length ++ beBytes 2 ct.length ++ nonce ++ ct

/-- R163, steps 1 to 3: check, book for the longest response the request can earn, and send the OPEN job. (DEDUCED, log entry 52.) -/
def serveNts (d : Device) (s : Nat) (i : Item) : Device :=
  if (ntpIdent d (smears d i.sa)).isNone then d.cnt K.CLS_DROP_SILENT
  else
    match ntsParse d s i with
    | none => d.cnt K.NTS_DROP_FORMAT
    | some r =>
      let clear := (r.clearPh.filter fun n => 92 ≤ n).length
      let bound := min r.maxPh (clear + (r.ctext.length - 16) / 96)
      let len := (answerFrame d i (zeros (48 + r.uid.length + 40 + 96 * (1 + bound)))).length
      let te := promiseAt d i.stamp F.PEEL_PROMISE_NTS F.PEEL_BUILD_nts
      match laneBook d s 1 i.port (itemTci d i) te len true false with
      | (none, d) => d
      | (some (h, _), d) => laneJob d s h i.port (.openJob { r with booking := h })

/-- R167: take a token of the global NAK bucket. -/
def nakToken (d : Device) : Bool × Device :=
  let rate := d.fg F.OVN_NAK_RATE
  let cap := max 1 rate * secU
  let lvl := min cap (d.nts.nakLevel + rate * 1000 * (d.now - d.nts.nakAt))
  let ok := d.fb F.OVN_NTS_CTL_nak_en && decide (secU ≤ lvl)
  (ok, { d with nts := { d.nts with nakLevel := if ok then lvl - secU else lvl, nakAt := d.now } })

/-- R167: a NAK under the same booking, or nothing. -/
def sendNak (d : Device) (r : NtsReq) : Device :=
  let i := r.item
  match ntpIdent d (smears d i.sa) with
  | none => laneAbandon (d.cnt K.CLS_DROP_SILENT) r.booking i.port
  | some id =>
    let (ok, d) := nakToken d
    if ok then
      let body := ntpBody d i.sa (udpOf i.bytes) i.stamp (bookedAt d r.booking) (3, 0, refChars "NTSN", id.2.2.2) none ++ r.uid
      laneCommit (d.cnt K.NTS_NAK_SENT) r.booking
        { slice := r.slice, kind := 1, item := i, frame := answerFrame d i body, kod := false, sealCtx := none }
    else laneAbandon (d.cnt K.NTS_NAK_SUPPRESSED) r.booking i.port

/-- Check 4: the generation a cookie names, and its place: 0 current, 1 prior 1, 2 prior 2. -/
def cookieGen (gens : List Gen) (cookie : Bytes) : Option (Nat × Gen) :=
  if cookie.length = 92 ∧ byteAt cookie 0 / 16 = 1 then
    match gens.find? fun g => g.num % 65536 == beAt cookie 2 2 with
    | some g => some (min 2 (((gens.head?.map (·.num)).getD 0) - g.num), g)
    | none => none
  else none

/-- Checks 4 to 6 as an OPEN job makes them: its blocks, and the keys and decrypted fields. -/
inductive OpenRes where
  | unknown
  | bad
  | unverified (place : Nat)
  | opened (place : Nat) (c2s s2c inner : Bytes)
  deriving DecidableEq, Repr

def openRes (gens : List Gen) (r : NtsReq) : OpenRes :=
  match cookieGen gens r.cookie with
  | none => .unknown
  | some (n, g) =>
    match sivOpen g.key [r.cookie.take 12] (r.cookie.drop 12) with
    | none => .bad
    | some keys =>
      match sivOpen (keys.take 32) [r.ad, r.nonce] r.ctext with
      | none => .unverified n
      | some pt => .opened n (keys.take 32) (keys.drop 32) pt

def openBlocks (r : NtsReq) : OpenRes → Nat
  | .unknown => 0
  | .bad => 9
  | _ => 9 + verifyBlocks r

/-- Count a cookie opened under a generation (R155, R169). -/
def countCookie (d : Device) (r : NtsReq) (place : Nat) : Device :=
  let d := d.cnt (K.NTS_COOKIE_CUR + place)
  if (byteAt r.cookie 0).testBit 3 == d.fb F.OVN_STARTER_STATUS_member then d else d.cnt K.NTS_COOKIE_PARTNER

/-- Send the SEAL job of a response whose header the lane builds for its booking. -/
def sendSeal (d : Device) (r : NtsReq) (id : Nat × Nat × Nat × Nat) (c2s s2c : Bytes) (k : Nat) (kod : Bool) : Device :=
  let i := r.item
  let hdr := ntpBody d i.sa (udpOf i.bytes) i.stamp (bookedAt d r.booking) id (if kod then some (profT d i) else none)
  laneJob d r.slice r.booking i.port (.sealJob r hdr c2s s2c k kod)

/-- R163, steps 4 and 5, once the request has authenticated. -/
def ntsOpened (d : Device) (r : NtsReq) (c2s s2c inner : Bytes) : Device :=
  let i := r.item
  match ntpIdent d (smears d i.sa) with
  | none => laneAbandon (d.cnt K.CLS_DROP_SILENT) r.booking i.port
  | some id =>
    let phs := r.clearPh ++ ((efList 64 inner 0).filter fun e => e.1 == 0x0304).map fun e => e.2.2 - 4
    let h := honoured r.maxPh phs
    match foldClient d i.src.toNat i.stamp i.prof i.pref true with
    | (.within, d) => sendSeal (d.cntN K.NTS_PH_UNHONORED (phs.length - h)) r id c2s s2c (1 + h) false
    | (.overBudget, d) => laneAbandon (d.cnt K.CLS_KOD_SUPPRESSED) r.booking i.port
    | (.overKodOk, d) =>
      let (ok, d) := kodToken d
      if ok then sendSeal d r id c2s s2c 1 true else laneAbandon (d.cnt K.CLS_KOD_SUPPRESSED) r.booking i.port

/-- An OPEN job ends. -/
def openDone (d : Device) (r : NtsReq) : OpenRes → Device
  | .unknown => sendNak (d.cnt K.NTS_COOKIE_UNKNOWN) r
  | .bad => sendNak (d.cnt K.NTS_COOKIE_BAD) r
  | .unverified n => laneAbandon ((countCookie d r n).cnt K.NTS_DROP_AUTH) r.booking r.item.port
  | .opened n c2s s2c inner => ntsOpened (countCookie d r n) r c2s s2c inner

/-- R154: mint a cookie under a generation. -/
def mintCookie (d : Device) (g : Gen) (c2s s2c : Bytes) : Bytes × Device :=
  let (n, d) := d.draw
  let h := beBytes 1 (16 + 8 * d.fg F.OVN_STARTER_STATUS_member) ++ zeros 1 ++ beBytes 2 (g.num % 65536) ++
    (beBytes 32 (Config.draw n).toNat).take 8
  (h ++ sivSeal g.key [h] (c2s ++ s2c), d.cnt K.NTS_COOKIES_ISSUED)

def mintMany (g : Gen) (c2s s2c : Bytes) : Nat → Device → List Bytes × Device
  | 0, d => ([], d)
  | k + 1, d =>
    let (c, d) := mintCookie d g c2s s2c
    let (cs, d) := mintMany g c2s s2c k d
    (c :: cs, d)

def cookieField (c : Bytes) : Bytes := beBytes 2 0x0204 ++ beBytes 2 (4 + c.length) ++ c

/-- R164, R165: header and Unique Identifier field sealed with the new cookies' fields. -/
def sealResponse (d : Device) (hdr uid s2c plain : Bytes) : Bytes × Device :=
  let (n, d) := d.draw
  let nonce := (beBytes 32 (Config.draw n).toNat).take 16
  (hdr ++ uid ++ authField nonce (sivSeal s2c [hdr ++ uid, nonce] plain), d)

/-- A SEAL job ends: the response is committed. -/
def sealDone (d : Device) (gens : List Gen) (r : NtsReq) (hdr c2s s2c : Bytes) (k : Nat) (kod : Bool) : Device :=
  let i := r.item
  match gens.head? with
  | none => sendNak d r
  | some g =>
    let (cs, d) := mintMany g c2s s2c k d
    let plain := cs.flatMap cookieField
    let (pl, d) := sealResponse d hdr r.uid s2c plain
    let d := if kod then saCnt (kodSent d i.src.toNat) i K.SA_KOD_SENT else saCnt (d.cnt K.NTS_ANSWERED) i K.SA_NTS_ANSWERED
    laneCommit d r.booking { slice := r.slice, kind := 1, item := i, frame := answerFrame d i pl, kod,
                             sealCtx := some { s2c, uid := r.uid, plain } }

/-! ### Re-promises (R119, R120) -/

/-- T3 written anew into an NTP response. -/
def newT3 (d : Device) (r : LaneResp) (t : Inst) : Bytes := withUdp r.frame (patch (udpOf r.frame) 40 (beBytes 8 (ntpTime d r.item.sa t)))

/-- A reseal ends: the new launch instant stands under a fresh seal over the cookies already minted. -/
def resealDone (d : Device) (r : LaneResp) (h : Nat) : Device :=
  match r.sealCtx with
  | none => laneAbandon d h r.item.port
  | some c =>
    let hdr := (patch (udpOf r.frame) 40 (beBytes 8 (ntpTime d r.item.sa (bookedAt d h)))).take 48
    let (pl, d) := sealResponse d hdr c.uid c.s2c c.plain
    laneCommit d h { r with frame := answerFrame d r.item pl }

/-- The build time a re-promise of a kind books with. -/
def kindBuild (kind : Nat) : Fld := if kind = 0 then F.PEEL_BUILD_plain else if kind = 1 then F.PEEL_BUILD_nts else F.PEEL_BUILD_ptp

def kindTci (d : Device) (r : LaneResp) : Option Nat := if r.kind < 2 then itemTci d r.item else ptpItemTci d r.item

def kindPort (r : LaneResp) : Nat := match r.item.work with | .sync _ p _ _ => p | _ => r.item.port

/-- A re-promise item: booked again, built for the new instant, committed. (DEDUCED, log entry 53.) -/
def rePromise (d : Device) (s : Nat) (r : LaneResp) : Device :=
  let te := d.now + buildTime d (kindBuild r.kind)
  match laneBook d s r.kind (kindPort r) (kindTci d r) te r.frame.length true true with
  | (none, d) => laneLost d (some r)
  | (some (h, t), d) =>
    if r.kind = 1 ∧ r.sealCtx.isSome then laneJob d s h r.item.port (.resealJob r h)
    else if r.kind < 2 then laneCommit d h { r with frame := newT3 d r t }
    else laneCommit d h { r with frame := ptpAnswer d r.item (msgSeq (ptpBytes r.frame)) t }

/-! ### Taking an item (R67) -/

/-- A lane's time on work of a number of quarter-slots: 25 cycles each (R64). -/
def laneSpent (d : Device) (s q : Nat) : Device :=
  ((d.cnt (K.SLC_ITEMS s)).cntN (K.SLC_QSLOTS s) q).cntN (K.SLC_BUSY_CYCLES s) (25 * q)

def serveItem (d : Device) (s : Nat) (i : Item) : Device :=
  match i.work with
  | .ntp => serveNtp d s i
  | .nts => serveNts d s i
  | .ptp n => servePtp d s i n
  | .arp => sendArpNd d s i (arpReply d i)
  | .nd => sendArpNd d s i (ndReply d i)
  | .host reason => hostFrame (saCnt d i K.SA_HOST) i.port i.stamp i.bytes reason
  | .sync n port g t => serveSync d s i n port g t

/-- The slice's lanes work: enabled or draining, powered, with a lane enabled. -/
def lanesRun (d : Device) (s : Nat) : Bool :=
  decide (s < 12) && (d.up (.slc s) || d.stopOf (.slc s) == some false) && slcPowered d s && !(d.fg (F.SLC_CTL_lanes s) == 0)

/-- R67: a free lane of a slice takes the item at the head, re-promise items first. -/
def xLaneTakeItem (s : Nat) (d : Device) : Device :=
  let x := d.slcOf s
  if !lanesRun d s then d
  else
    match x.reprom, x.queue with
    | r :: t, _ => rePromise (laneSpent (d.setSlc s { x with reprom := t }) s (if r.kind = 1 then 7 else 1)) s r
    | [], i :: t =>
      let d := laneSpent (d.setSlc s { x with queue := t }) s i.cost
      let d := match i.work with
        | .sync _ _ _ _ => d
        | _ => monFeed d 3 s 15 (((d.now : Int) - i.stamp) / nsU)
      serveItem d s i
    | [], [] => d

/-! ### The commands of this file -/

/-- LANE_TAKE_ITEM (R67). -/
def execLaneTakeItem (slice : Nat) (s : State) : Host.Outcome State Fault Refusal :=
  finish s (xLaneTakeItem slice s.dev)

end Sys2Proof.Machine
end

