-- ==== Sys2Proof/Machine/Classify.lean ====
section
/-! DEFINITION. The classifier: header checks and destinations (R90 to R93), ARP and ND (R94, R95), PTP (R181), the service-address
table's commands (R86, R87), and what stopping the classifiers discards (R84). -/

namespace Sys2Proof.Machine

/-! ### Items -/

/-- An item of a frame; `src` is the 16-byte address it is steered by (R65). -/
def mkItem (w : Work) (cls port : Nat) (stamp : Inst) (f : Bytes) (sa : Option (Nat × SaEntry)) (vlan src prof : Nat) (pref : Bool) : Item :=
  { work := w, cls, cost := workCost w, port, stamp, bytes := f, saIdx := (sa.map (·.1)).getD 256,
    sa := (sa.map (·.2)).getD SaEntry.init, vlan, src := BitVec.ofNat 128 src, prof, pref }

/-- A host-bound frame under a policy bit (R92). -/
def toHost (d : Device) (bit : Fld) (reason port : Nat) (stamp : Inst) (f : Bytes) (sa : Option (Nat × SaEntry)) (vlan src : Nat) : Device :=
  if d.fb bit then admitItem d (mkItem (.host reason) 4 port stamp f sa vlan src 0 false) else d.cnt K.CLS_DROP_POLICY

/-! ### NTP (R90 checks 8 to 11, R91, R104) -/

/-- Check 9: extension fields of 16 bytes or more, a multiple of 4 each, filling the payload: their types. -/
def efTypes : Nat → Bytes → Option (List Nat)
  | 0, _ => none
  | k + 1, b =>
    if b.isEmpty then some []
    else
      let len := beAt b 2 2
      if 4 ≤ b.length ∧ 16 ≤ len ∧ len % 4 = 0 ∧ len ≤ b.length then (efTypes k (b.drop len)).map (beAt b 0 2 :: ·) else none

/-- A request that passed checks 1 to 10, for its work. -/
def ntpItem (d : Device) (w : Work) (port : Nat) (stamp : Inst) (f : Bytes) (sa : Nat × SaEntry) (vlan src : Nat) : Device :=
  if notReady d then d.cnt K.CLS_DROP_NOT_READY
  else
    let p := prefOf d src
    let prof := match p with | some p => d.fg (F.CLS_PREF_CTL_prof p) | none => sa.2.prof
    let cls := if w = .nts then 1 else if p.isSome then 2 else 3
    admitItem d (mkItem w cls port stamp f (some sa) vlan src prof p.isSome)

def classifyNtp (d : Device) (port : Nat) (stamp : Inst) (f : Bytes) (ip : Ip) (sa : Nat × SaEntry) (vlan : Nat) : Device :=
  let p := udpPayload f ip
  let mode := byteAt p 0 % 8
  let vn := byteAt p 0 / 8 % 8
  let host (bit : Fld) (reason : Nat) : Device := toHost d bit reason port stamp f (some sa) vlan ip.src
  if p.isEmpty then d.cnt K.CLS_DROP_BAD_NTP
  else if mode = 7 then d.cnt K.CLS_DROP_MODE7
  else if mode = 6 then host F.CLS_POLICY_m6_host 1
  else if mode = 1 ∨ mode = 2 then host F.CLS_POLICY_sym_host 2
  else if mode ≠ 3 ∨ p.length < 48 ∨ 1472 < p.length ∨ (vn ≠ 3 ∧ vn ≠ 4) then d.cnt K.CLS_DROP_BAD_NTP
  else if p.length = 68 ∨ p.length = 72 then host F.CLS_POLICY_legacy_host 3
  else
    match efTypes 128 (p.drop 48) with
    | none => d.cnt K.CLS_DROP_BAD_EF
    | some ts =>
      if ts.contains 0x0104 && ts.contains 0x0204 && sa.2.nts then ntpItem d .nts port stamp f sa vlan ip.src
      else if sa.2.ntp then ntpItem d .ntp port stamp f sa vlan ip.src
      else d.cnt K.CLS_DROP_NO_SERVICE

/-! ### PTP (R181, R182) -/

/-- The instance takes frames: enabled, or draining (R194). -/
def ptpTakes (d : Device) (i : Nat) : Bool := ptpServes d i

/-- A PTP message for an instance, by its type. -/
def ptpPass (d : Device) (i port : Nat) (stamp : Inst) (f : Bytes) (sa : Option (Nat × SaEntry)) (vlan src : Nat) : Device :=
  let it := mkItem (.ptp i) 0 port stamp f sa vlan src 0 false
  let t := msgType (ptpBytes f)
  if t < 4 then admitItem d it
  else if t = 13 ∧ d.fb F.CLS_POLICY_ptpm_host then admitItem d (mkItem (.host 10) 4 port stamp f sa vlan src 0 false)
  else { d with ptp := { d.ptp with intake := d.ptp.intake ++ [ptpMsgOf i it] } }

/-- The message's domain and kind meet what it came on: event messages on port 319, general ones on 320, either over Ethernet. -/
def ptpMatch (d : Device) (f : Bytes) (dport i : Nat) : Bool :=
  let m := ptpBytes f
  decide (34 ≤ m.length) && byteAt m 4 == ptpDomain d i &&
  (dport == 0 || (dport == 319 && decide (msgType m < 4)) || (dport == 320 && decide (8 ≤ msgType m)))

def classifyPtpL2 (d : Device) (port : Nat) (stamp : Inst) (f : Bytes) (e : Eth) (v : Nat) : Device :=
  let toUs := e.dst == 0x011B19000000 || e.dst == 0x0180C200000E || e.dst == portMac d port
  let mine (i : Nat) : Bool := ptpTakes d i && ptpTransport d i == 0 && (ptpPorts d i).testBit port && ptpVlan d i == v
  match (List.range 8).find? fun i => toUs && mine i && ptpMatch d f 0 i with
  | some i => ptpPass d i port stamp f none v port
  | none => d.cnt (K.PTP_DROP_NO_INSTANCE 0)

/-- The multicast groups of R181. -/
def ptpGroup (a : Nat) : Bool :=
  [v4mapped 0xE0000181, v4mapped 0xE000006B, 0xFF0E0000000000000000000000000181, 0xFF02000000000000000000000000006B].contains a

/-- Instances of a UDP transport bound to the port and VLAN (R181). -/
def ptpBound (d : Device) (v6 : Bool) (port v : Nat) : List Nat :=
  (List.range 8).filter fun i => ptpTakes d i && ptpTransport d i == (if v6 then 2 else 1) && (ptpPorts d i).testBit port && ptpVlan d i == v

def classifyPtpUdp (d : Device) (port : Nat) (stamp : Inst) (f : Bytes) (ip : Ip) (sa : Option (Nat × SaEntry)) (v dport : Nat) : Device :=
  let mine (i : Nat) : Bool := match sa with | some e => d.fg (F.CLS_PTP_SA_sa i) == e.1 | none => true
  match (ptpBound d ip.v6 port v).find? fun i => mine i && ptpMatch d f dport i with
  | some i =>
    let k := d.fg (F.CLS_PTP_SA_sa i)
    ptpPass d i port stamp f (some (k, saOf d k)) v ip.src
  | none => d.cnt (K.PTP_DROP_NO_INSTANCE 0)

/-! ### ARP and ND (R94, R95) -/

/-- R95: a conflict over an entry's address. -/
def addrConflict (d : Device) (k : Nat) : Device :=
  let d := (d.set1 F.CLS_STATUS_conflict).cnt K.CLS_ADDR_CONFLICT
  if amGet (2 ^ 48) d.cls.conflictSec k == d.nowSec then d
  else ({ d with cls := { d.cls with conflictSec := amSet (2 ^ 48) d.cls.conflictSec k d.nowSec } }).ledger L.addrConflict k 0 0

/-- The valid, owned entry of an address on a VLAN entry. -/
def vlanSa (d : Device) (a v : Nat) : Option (Nat × SaEntry) :=
  d.cls.sa.find? fun e => e.2.valid && ownedNow d e.2 && e.2.addr.toNat == a && e.2.vlan == v

/-- The station at `mac` claims an address (R95). -/
def claims (d : Device) (port a v mac : Nat) : Device :=
  match vlanSa d a v with
  | some e => if mac == saMac d e.2 port then d else addrConflict d e.1
  | none => d

/-- R94: answers of ARP and ND: 2 M a second on a port. -/
def ndAdmit (d : Device) (it : Item) : Device :=
  let (sec, n) := amGet (0, 0) d.cls.ndCount it.port
  let n := if sec = d.nowSec then n else 0
  if n < 2000000 then
    admitItem { d with cls := { d.cls with ndCount := amSet (0, 0) d.cls.ndCount it.port (d.nowSec, n + 1) } } it
  else d.cnt K.CLS_DROP_ND_RATE

def classifyArp (d : Device) (port : Nat) (stamp : Inst) (f : Bytes) (o v : Nat) : Device :=
  let src := v4mapped (beAt f (o + 14) 4)
  let shape := beAt f o 6 == 0x000108000604
  let d := if shape then claims d port src v (beAt f (o + 8) 6) else d
  let sa := findSa d (v4mapped (beAt f (o + 24) 4)) v port
  match sa.filter fun e => shape && beAt f (o + 6) 2 == 1 && e.2.arp with
  | some e => ndAdmit d (mkItem .arp 0 port stamp f (some e) v src 0 false)
  | none => toHost d F.CLS_POLICY_arp_host 6 port stamp f sa v src

/-- The target link-layer address option of a Neighbor Advertisement; the frame's source without one. -/
def naMac (f : Bytes) (ip : Ip) : Nat := if byteAt f (ip.off + 24) = 2 ∧ 32 ≤ ip.len then beAt f (ip.off + 26) 6 else (parseEth f).src

def classifyNd (d : Device) (port : Nat) (stamp : Inst) (f : Bytes) (ip : Ip) (v : Nat) : Device :=
  let t := byteAt f ip.off
  let good := ip.ok && ip.hop == 255 && decide (24 ≤ ip.len) && l4Ok f ip ip.len
  let target := beAt f (ip.off + 8) 16
  let d :=
    if good && t == 136 then claims d port target v (naMac f ip)
    else if good && t == 135 && ip.src == 0 then (match vlanSa d target v with | some e => addrConflict d e.1 | none => d)
    else d
  let sa := findSa d target v port
  match sa.filter fun e => good && t == 135 && e.2.arp with
  | some e => ndAdmit d (mkItem .nd 0 port stamp f (some e) v ip.src 0 false)
  | none => toHost d F.CLS_POLICY_arp_host 6 port stamp f sa v ip.src

/-! ### IP (R90, checks 4 to 10) -/

/-- (DEDUCED, log entry 62.) -/
def classifyIp (d : Device) (port : Nat) (stamp : Inst) (f : Bytes) (e : Eth) (ip : Ip) (v : Nat) : Device :=
  let dport := if ip.proto = 17 then beAt f (ip.off + 2) 2 else 0
  let sa := findSa d ip.dst v port
  let ptpMc := (dport == 319 || dport == 320) && ptpGroup ip.dst && !(ptpBound d ip.v6 port v).isEmpty
  if !ip.ok then d.cnt K.CLS_DROP_BAD_IP
  else if badSource ip.v6 ip.src || isService d ip.src then d.cnt K.CLS_DROP_BAD_SRC
  else if sa.isNone && !ptpMc then
    if e.dst == portMac d port then toHost d F.CLS_POLICY_other_host 8 port stamp f none v ip.src else d.cnt K.CLS_DROP_NO_SA
  else if ip.opt then toHost d F.CLS_POLICY_opt_host 7 port stamp f sa v ip.src
  else if ip.proto = 6 then toHost d F.CLS_POLICY_tcp_host 4 port stamp f sa v ip.src
  else if ip.proto = (if ip.v6 then 58 else 1) then toHost d F.CLS_POLICY_icmp_host 5 port stamp f sa v ip.src
  else if ip.proto ≠ 17 then d.cnt K.CLS_DROP_NO_SERVICE
  else if !udpOk f ip then d.cnt K.CLS_DROP_BAD_UDP
  else if dport = 319 ∨ dport = 320 then
    if (sa.map (·.2.ptp)).getD true then classifyPtpUdp d port stamp f ip sa v dport else d.cnt K.CLS_DROP_NO_SERVICE
  else
    match sa with
    | some s => if dport = 123 then classifyNtp d port stamp f ip s v else d.cnt K.CLS_DROP_NO_SERVICE
    | none => d.cnt K.CLS_DROP_NO_SERVICE

/-- Neighbor discovery: ICMPv6 types 133 to 137. -/
def isNd (f : Bytes) (ip : Ip) : Bool := ip.v6 && ip.proto == 58 && decide (133 ≤ byteAt f ip.off) && decide (byteAt f ip.off ≤ 137)

/-- R90: a frame of ports 0 to 15. -/
def classify (d : Device) (port : Nat) (stamp : Inst) (f : Bytes) : Device :=
  let e := parseEth f
  if !d.up .cls then d.cnt K.CLS_DROP_DISABLED
  else if e.bad then d.cnt K.CLS_DROP_BAD_L2
  else
    match matchVlan d e.tag with
    | none => d.cnt K.CLS_DROP_NO_VLAN
    | some v =>
      if e.etype = 0x0800 then classifyIp d port stamp f e (parseV4 f e.off) v
      else if e.etype = 0x86DD then
        let ip := parseV6 f e.off
        if isNd f ip then classifyNd d port stamp f ip v else classifyIp d port stamp f e ip v
      else if e.etype = 0x0806 then classifyArp d port stamp f e.off v
      else if e.etype = 0x88F7 then classifyPtpL2 d port stamp f e v
      else if e.dst == portMac d port then toHost d F.CLS_POLICY_other_host 8 port stamp f none v port
      else d.cnt K.CLS_DROP_NO_SA

/-! ### The service-address table (R86 to R88) -/

def saBusy (d : Device) : Bool := d.fb F.CLS_SA_CMD_busy

/-- The staged entry. -/
def saStaged (d : Device) : SaEntry :=
  { attr := d.rd R.CLS_SA_ATTR, svc := d.rd R.CLS_SA_SVC,
    addr := BitVec.ofNat 128 (beVal ((List.range 4).flatMap fun i => beBytes 4 (d.rn (R.CLS_SA_ADDR i)))) }

/-- R87: why a WRITE of an entry in use is refused; 0 when it is not. -/
def saRefusal (d : Device) (i : Nat) (e : SaEntry) : Nat :=
  if !e.valid then 0
  else if d.cls.sa.any fun x => !(x.1 == i) && x.2.valid && x.2.addr == e.addr && x.2.vlan == e.vlan then 1
  else if !d.fb (F.CLS_VLAN_valid e.vlan) then 2
  else if e.macSel ≠ 0 ∧ clsMac d e.macSel = 0 then 3
  else if badSource (!isV4 e.addr.toNat) e.addr.toNat then 4
  else 0

/-- A command begins: busy, its index, and the change it makes at its completion. -/
def saBegin (d : Device) (i : Nat) (p : Option (Nat × SaEntry)) : Device :=
  ({ d with cls := { d.cls with saPend := p } }.fs F.CLS_SA_CMD_index i).set1 F.CLS_SA_CMD_busy

/-- R87: WRITE. -/
def xSaWrite (i : Nat) (d : Device) : Device :=
  if saBusy d then d
  else
    let i := i % 256
    let e := saStaged d
    let err := saRefusal d i e
    saBegin (d.fs F.CLS_SA_CMD_err err) i (if err = 0 then some (i, e) else none)

/-- R86: READ. -/
def xSaRead (i : Nat) (d : Device) : Device :=
  if saBusy d then d
  else
    let i := i % 256
    let e := saOf d i
    let d := saBegin ((d.wr R.CLS_SA_ATTR e.attr).wr R.CLS_SA_SVC e.svc) i none
    (List.range 4).foldl (fun d j => d.wn (R.CLS_SA_ADDR j) (bits e.addr.toNat (96 - 32 * j) 32)) d

/-- R86: INVALIDATE. -/
def xSaInvalidate (i : Nat) (d : Device) : Device :=
  if saBusy d then d
  else
    let i := i % 256
    let e := saOf d i
    saBegin d i (some (i, { e with attr := e.attr &&& 0x7FFFFFFF#32 }))

/-- R86: the command completes. -/
def xSaCmdComplete (d : Device) : Device :=
  if saBusy d then
    let d := match d.cls.saPend with
      | some (i, e) => { d with cls := { d.cls with sa := amSet SaEntry.init d.cls.sa i e, saPend := none } }
      | none => d
    d.clr F.CLS_SA_CMD_busy
  else d

/-! ### Stopping the classifiers (R84) -/

/-- An item of the classifiers: any but a Sync. -/
def clsItem (i : Item) : Bool := match i.work with | .sync _ _ _ _ => false | _ => true

/-- A lane's Oven job, and the booking its response has. -/
def laneJobBooking : OvenWork → Option (Nat × Nat)
  | .openJob r => some (r.booking, r.item.port)
  | .sealJob r _ _ _ _ _ => some (r.booking, r.item.port)
  | .resealJob r h => some (h, r.item.port)
  | .mintJob _ _ _ => none

/-- CUT: items in slice queues and responses not with the Peel are discarded and counted. (DEDUCED, log entry 63.) -/
def clsCut (d : Device) : Device :=
  let cut (d : Device) (e : Nat × Slice) : Device :=
    let n := (e.2.queue.filter clsItem).length + (e.2.reprom.filter fun r => clsItem r.item).length
    (d.setSlc e.1 { e.2 with queue := e.2.queue.filter fun i => !clsItem i, reprom := e.2.reprom.filter fun r => !clsItem r.item }).cntN
      K.CLS_DROP_DISABLED n
  let d := d.slices.foldl cut d
  let js := d.nts.jobs.filter fun j => (laneJobBooking j.work).isSome
  let d := { d with nts := { d.nts with jobs := d.nts.jobs.filter fun j => (laneJobBooking j.work).isNone } }
  js.foldl (fun d j =>
    let d := d.cnt K.CLS_DROP_DISABLED
    match laneJobBooking j.work with
    | some (h, _) => dropVoided (dropBooking d h) h
    | none => d) d

/-- The classifiers hold no more work. -/
def clsIdle (d : Device) : Bool :=
  !(d.slices.any fun e => e.2.queue.any clsItem || e.2.reprom.any fun r => clsItem r.item) &&
  !(d.nts.jobs.any fun j => (laneJobBooking j.work).isSome)

/-! ### The commands of this file -/

/-- SA_WRITE (R87). -/
def execSaWrite (i : Nat) (s : State) : Host.Outcome State Fault Refusal :=
  finish s (hostWrite R.CLS_SA_CMD (xSaWrite i) s.dev)

/-- SA_READ (R86). -/
def execSaRead (i : Nat) (s : State) : Host.Outcome State Fault Refusal :=
  finish s (hostWrite R.CLS_SA_CMD (xSaRead i) s.dev)

/-- SA_INVALIDATE (R86). -/
def execSaInvalidate (i : Nat) (s : State) : Host.Outcome State Fault Refusal :=
  finish s (hostWrite R.CLS_SA_CMD (xSaInvalidate i) s.dev)

/-- SA_CMD_COMPLETE (R86). -/
def execSaCmdComplete (s : State) : Host.Outcome State Fault Refusal :=
  finish s (xSaCmdComplete s.dev)

end Sys2Proof.Machine
end

