-- ==== Sys2Proof/Machine/Doorbell.lean ====
section
/-! DEFINITION. Doorbells, posted buffers, moderation, enabling and resuming rings, and the conditions of the PCIe endpoint
(R437, R440 to R443, R453, R456, R459, R461, R462, R464 to R468). -/

namespace Sys2Proof.Machine

/-- R441, R468: a write to HIFDB_SQ_TAIL. -/
def xSqDoorbell (n : Nat) (w : Word) (d : Device) : Device :=
  if n < 256 then
    let d := d.setRing n { d.ring n with dbSq := w }
    if d.up (.ring n) && !ringHalted d n then
      let r := d.ring n
      let size := ringSize d n
      let tail := bits w.toNat 0 16
      if size ≤ tail ∨ (tail + size - r.sqHead) % size < (r.sqTail + size - r.sqHead) % size then ringHalt d n 1 0
      else d.setRing n { r with sqTail := tail }
    else d
  else d

/-- R442, R461, R468: a write to HIFDB_CQ_HEAD returns slots, and with arm lowers and re-arms the interrupt. -/
def xCqDoorbell (n : Nat) (w : Word) (d : Device) : Device :=
  if n < 256 then
    let d := d.setRing n { d.ring n with dbCq := w }
    if d.up (.ring n) && !ringHalted d n || (d.stopOf (.ring n)).isSome && !ringHalted d n then
      let r := d.ring n
      let size := ringSize d n
      let head := bits w.toNat 0 16
      if size ≤ head ∨ (r.cqTail + size - r.cqHead) % size < (head + size - r.cqHead) % size then ringHalt d n 1 0
      else if w.getLsbD 31 then
        let d := d.setRing n { r with cqHead := head, fired := false, modCount := 0, modStart := none }
        ringFlush (if head == r.cqTail then d else ringFire d n) n
      else ringFlush (d.setRing n { r with cqHead := head }) n
    else d
  else d

/-- R440: a doorbell write of a bad size or alignment. -/
def xDoorbellBadSize (d : Device) : Device := d.cnt K.HIF_DB_BAD

/-- R453: a FRAME_RX BUF descriptor; `bad` when its op, flags or reserved bytes break the table. -/
def xFrameRxBuf (n len : Nat) (bad : Bool) (d : Device) : Device :=
  if canTake d n 2 then postBuf d n (len % 65536) bad else d

/-- R456: a STREAM RXBUF descriptor of 4,096 bytes or more. -/
def xStreamRxbuf (n len : Nat) (bad : Bool) (d : Device) : Device :=
  if canTake d n 3 then
    let d := postBuf d n (len % 65536) (bad || decide (len % 65536 < 4096))
    streamFlow (d.ring n).events.length d n
  else d

/-- The delay after which a record buffer completes: time of HIF_RINGn_MOD, or 100 µs (R459), in 1.25 ns. -/
def recordDelay (d : Device) (n : Nat) : Nat :=
  (if d.fg (F.HIF_RING_MOD_time n) = 0 then 100 else d.fg (F.HIF_RING_MOD_time n)) * 800

/-- R459: a partly filled record buffer completes. -/
def xBufferTimeout (n : Nat) (d : Device) : Device :=
  match (d.ring n).partStart with
  | some t => if n < 256 ∧ t + recordDelay d n ≤ d.tm.osc then closeBuf d n 0 false else d
  | none => d

/-- R461: the moderation timer of a ring expires. (DESIGN CHOICE, log entry 14.) -/
def xRingModTimer (n : Nat) (d : Device) : Device :=
  match (d.ring n).modStart with
  | some t =>
    let time := d.fg (F.HIF_RING_MOD_time n)
    if n < 256 ∧ !(d.ring n).fired ∧ time ≠ 0 ∧ t + time * 800 ≤ d.tm.osc then ringFire d n else d
  | none => d

/-! ### Enabling and resuming -/

/-- R437: what setting en does to a ring. -/
def ringStart (d : Device) (n : Nat) : Device :=
  let r := d.ring n
  let d := d.setRing n { Ring.init with dbSq := r.dbSq, dbCq := r.dbCq }
  let d := (d.set1 (F.HIF_RING_STATUS_phase n)).clr (F.HIF_RING_STATUS_halted n)
  let d := (d.fs (F.HIF_RING_STATUS_err n) 0).clr (F.HIF_RING_STATUS_paused n)
  ((d.wn (R.HIF_RING_DONE n) 0).set1 (F.HIF_RING_CTL_en n)).clr (F.HIF_RING_CTL_drained n)

/-- Another LEDGER ring is enabled. -/
def ledgerTaken (d : Device) (n : Nat) : Bool :=
  (List.range 256).any fun m => !(m == n) && d.fb (F.HIF_RING_CTL_en m) && ringClass d m == 5

/-- R437: setting en of a ring; a second LEDGER enable is refused with BAD_CFG; during a stop it waits (R76). -/
def xRingEnable (n : Nat) (d : Device) : Device :=
  if n < 256 ∧ !d.fb (F.HIF_RING_CTL_en n) then
    if ringClass d n == 5 && ledgerTaken d n then d.fs (F.HIF_RING_STATUS_err n) 4
    else if (d.stopOf (.ring n)).isSome then d.set1 (F.HIF_RING_CTL_en n)
    else ringStart d n
  else d

/-- R467: HIF_CTL.resume clears paused in every ring; held results are then written. -/
def xRingResume (d : Device) : Device :=
  releaseAll ((List.range 256).foldl (fun d n => if ringPaused d n then d.clr (F.HIF_RING_STATUS_paused n) else d) d)

/-- The paused bit of every enabled ring, and perst_seen (R467, R472). -/
def pauseRings (d : Device) : Device :=
  let on := (List.range 256).filter fun n => d.fb (F.HIF_RING_CTL_en n)
  if on.isEmpty then d else (on.foldl (fun d n => d.set1 (F.HIF_RING_STATUS_paused n)) d).set1 F.HIF_STATUS_perst_seen

/-! ### The endpoint -/

/-- HIF_STATUS shows the link and the D-states (R472). -/
def pcieShow (d : Device) (speed width : Nat) : Device :=
  let d := (d.fs F.HIF_STATUS_speed speed).fs F.HIF_STATUS_width width
  let d := (d.fsb F.HIF_STATUS_bme d.pcie.bme).fs F.HIF_STATUS_pf0_d (min 3 d.pcie.pf0D)
  (d.fs F.HIF_STATUS_pf1_d (min 3 d.pcie.pf1D)).fsb F.HIF_STATUS_l1 d.pcie.l1

/-- R464: PF0's D-state (0 D0, 3 D3hot), Bus Master Enable, PME_En, the MSI-X function mask and the ASPM L1 enable as they
stand after a configuration write. (DESIGN CHOICE, log entry 18.) -/
def xPf0DStateChange (dst : Nat) (bme pmeEn fnMask aspm : Bool) (d : Device) : Device :=
  if d.pcie.linkUp && !d.pcie.perstLow && (dst == 0 || dst == 3) then
    let d := leaveL1 d
    let d := { d with pcie := { d.pcie with pf0D := dst, bme, pmeEn, fnMask, aspmL1En := aspm } }
    releaseAll (pcieShow d (d.fg F.HIF_STATUS_speed) (d.fg F.HIF_STATUS_width))
  else d

/-- R462: the last masking condition of a vector has ended: each message held for it goes out if its target still has a source
offered. -/
def xMsixHoldRelease (vec : Nat) (d : Device) : Device :=
  if vec < 16 ∧ !msgHeld d vec then
    let ks := d.intc.held.filter fun k => d.fg (F.INTC_TGT_CTL_vec (16 + k)) == vec
    let d := { d with intc := { d.intc with held := d.intc.held.filter fun k => !ks.contains k } }
    let d := d.wn (R.MSIX_PBA 0) (putBits (d.rn (R.MSIX_PBA 0)) vec 1 0)
    ks.foldl (fun d k => if (offeredTo d (16 + k)).isEmpty then d else sendMsg d k) d
  else d

/-- R466: PME_Turn_Off is acknowledged and the link enters L2/L3 Ready. -/
def xPmeTurnOff (d : Device) : Device :=
  if d.pcie.linkUp && !d.pcie.perstLow then
    ({ leaveL1 d with pcie := { (leaveL1 d).pcie with l23 := true } }).emit .pmeToAck
  else d

/-- R467: PCIE_PERST_N low resets the configuration space; the rings keep their contexts.  PME_En and PME_Status are kept, as
PME from D3cold needs them (PRESUMED, log entry 17). -/
def xPerstAssert (d : Device) : Device :=
  let p := d.pcie
  let d := { d with pcie := { p with perstLow := true, linkUp := false, bme := false, fnMask := false, aspmL1En := false,
                                     l1 := false, pf0D := if p.l23 then 4 else 0, pf1D := if p.l23 then 4 else 0 } }
  pcieShow d 0 0

/-- R467: PCIE_PERST_N rises and the link trains: perst_seen, and every enabled ring pauses. -/
def xPerstRelease (speed width : Nat) (d : Device) : Device :=
  if d.pcie.perstLow then
    let d := { d with pcie := { d.pcie with perstLow := false, linkUp := true, l23 := false, pf0D := 0, pf1D := 0 } }
    pauseRings (pcieShow d speed width)
  else d

/-- R467: the link goes down with PCIE_PERST_N high. -/
def xPcieLinkDown (d : Device) : Device :=
  if d.pcie.linkUp && !d.pcie.perstLow then
    pcieShow { d with pcie := { d.pcie with linkUp := false, l1 := false } } 0 0
  else d

/-- R467: the link returns to L0 after a down with PCIE_PERST_N high. -/
def xPcieLinkReturn (speed width : Nat) (d : Device) : Device :=
  if !d.pcie.linkUp && !d.pcie.perstLow then
    let d := { d with pcie := { d.pcie with linkUp := true, l23 := false } }
    pauseRings (pcieShow d speed width)
  else d

/-- R466: both functions idle with ASPM L1 enabled: the link enters L1. -/
def xAspmL1Entry (d : Device) : Device :=
  if d.pcie.aspmL1En && d.pcie.linkUp && !d.pcie.perstLow && !d.pcie.l23 then
    ({ d with pcie := { d.pcie with l1 := true } }).set1 F.HIF_STATUS_l1
  else d

/-- R470: a function level reset of PF1 resets only its configuration space. -/
def xPf1Flr (d : Device) : Device :=
  ({ d with pcie := { d.pcie with pf1D := 0 } }).fs F.HIF_STATUS_pf1_d 0

/-! ### The commands of this file -/

/-- SQ_DOORBELL (R441). -/
def execSqDoorbell (n : Nat) (w : Word) (s : State) : Host.Outcome State Fault Refusal :=
  finish s (xSqDoorbell n w s.dev)

/-- CQ_DOORBELL (R461). -/
def execCqDoorbell (n : Nat) (w : Word) (s : State) : Host.Outcome State Fault Refusal :=
  finish s (xCqDoorbell n w s.dev)

/-- DOORBELL_BAD_SIZE (R440). -/
def execDoorbellBadSize (s : State) : Host.Outcome State Fault Refusal :=
  finish s (xDoorbellBadSize s.dev)

/-- FRAME_RX_BUF (R453). -/
def execFrameRxBuf (n len : Nat) (bad : Bool) (s : State) : Host.Outcome State Fault Refusal :=
  finish s (xFrameRxBuf n len bad s.dev)

/-- STREAM_RXBUF (R456). -/
def execStreamRxbuf (n len : Nat) (bad : Bool) (s : State) : Host.Outcome State Fault Refusal :=
  finish s (xStreamRxbuf n len bad s.dev)

/-- BUFFER_TIMEOUT (R459). -/
def execBufferTimeout (n : Nat) (s : State) : Host.Outcome State Fault Refusal :=
  finish s (xBufferTimeout n s.dev)

/-- RING_MOD_TIMER (R461). -/
def execRingModTimer (n : Nat) (s : State) : Host.Outcome State Fault Refusal :=
  finish s (xRingModTimer n s.dev)

/-- RING_ENABLE (R437). -/
def execRingEnable (n : Nat) (s : State) : Host.Outcome State Fault Refusal :=
  finish s (hostWrite (R.HIF_RING_CTL n) (xRingEnable n) s.dev)

/-- RING_RESUME (R467). -/
def execRingResume (s : State) : Host.Outcome State Fault Refusal :=
  finish s (hostWrite R.HIF_CTL xRingResume s.dev)

/-- PF0_D_STATE_CHANGE (R464). -/
def execPf0DStateChange (dst : Nat) (bme pmeEn fnMask aspm : Bool) (s : State) : Host.Outcome State Fault Refusal :=
  finish s (xPf0DStateChange dst bme pmeEn fnMask aspm s.dev)

/-- MSIX_HOLD_RELEASE (R462). -/
def execMsixHoldRelease (vec : Nat) (s : State) : Host.Outcome State Fault Refusal :=
  finish s (xMsixHoldRelease vec s.dev)

/-- PME_TURN_OFF (R466). -/
def execPmeTurnOff (s : State) : Host.Outcome State Fault Refusal :=
  finish s (xPmeTurnOff s.dev)

/-- PERST_ASSERT (R467). -/
def execPerstAssert (s : State) : Host.Outcome State Fault Refusal :=
  finish s (xPerstAssert s.dev)

/-- PERST_RELEASE (R467). -/
def execPerstRelease (speed width : Nat) (s : State) : Host.Outcome State Fault Refusal :=
  finish s (xPerstRelease speed width s.dev)

/-- PCIE_LINK_DOWN (R467). -/
def execPcieLinkDown (s : State) : Host.Outcome State Fault Refusal :=
  finish s (xPcieLinkDown s.dev)

/-- PCIE_LINK_RETURN (R467). -/
def execPcieLinkReturn (speed width : Nat) (s : State) : Host.Outcome State Fault Refusal :=
  finish s (xPcieLinkReturn speed width s.dev)

/-- PF1_FLR (R470). -/
def execPf1Flr (s : State) : Host.Outcome State Fault Refusal :=
  finish s (xPf1Flr s.dev)

/-- ASPM_L1_ENTRY (R466). -/
def execAspmL1Entry (s : State) : Host.Outcome State Fault Refusal :=
  finish s (xAspmL1Entry s.dev)

end Sys2Proof.Machine
end

