-- ==== Sys2Proof/Machine/Timebase.lean ====
section
/-! DEFINITION. The timebase (spec/11_timebase_outputs.md): warm-up (R325, R326), the raw count's reading (R327) and MANUAL
(R332).  The lock windows and the restore stand in Machine/Clocks.lean. -/

namespace Sys2Proof.Machine

/-- Warm-up time in the unit of `TimeSt.osc`. -/
def warmMin (d : Device) : Nat := min 3600 (d.fg F.TB_OSCIN_CFG_warm_min) * 800000000

/-- R325: both conditions for leaving WARMUP. -/
def warmDone (d : Device) : Bool :=
  (d.fb F.TB_OSCIN_CFG_warm_ign || (!d.tb.warmN && decide (d.tb.warmLowAt + 800000000 ≤ d.tm.osc))) &&
  decide (d.tb.oscAt + warmMin d ≤ d.tm.osc) && (d.fg F.PWR_PLL_STATUS).testBit 16

/-- R325: OSC_WARM_N changes level: timed for warm-up; after warm-up a rise sets warm_lost. -/
def xOscWarmChange (high : Bool) (d : Device) : Device :=
  if d.tb.warmN = high then d
  else
    let d := { d with tb := { d.tb with warmN := high, warmLowAt := if high then d.tb.warmLowAt else d.tm.osc } }
    if high && d.tb.warm then (d.set1 F.TB_TBS_warm_lost).ledger L.warmLost 0 0 0 else d

/-- R325, R326: the timebase leaves WARMUP; the selector's pick is applied. -/
def xWarmupEnd (d : Device) : Device :=
  if d.tb.warm || !warmDone d then d
  else refreshTbs (refreshErr (runSelector { d with tb := { d.tb with warm := true } }))

/-- R327: a read of TB_RAW_LO latches bits 63:32 of the raw count. -/
def xTbRawRead (d : Device) : Device :=
  (d.wn2 R.TB_RAW_LO R.TB_RAW_HI d.rawCount).emit (.hostRead (BitVec.ofNat 32 d.rawCount))

/-- The correction, in ns/s, of the increment in force. -/
def incrSteer (d : Device) : Rat := (((d.tm.commit.getD d.tm.incr).toNat : Rat) / (incrNominal : Nat) - 1) * 1000000000

/-- R332: a write to TB_TBC.manual. -/
def xManualWrite (w : Word) (d : Device) : Device :=
  let on := w.getLsbD 31
  let m := d.fg F.TB_SEL_STATUS_mode
  if on && !d.fb F.TB_TBC_manual then
    if m = 0 ∨ m = 3 then
      refreshTbs ({ d with tb := { d.tb with manE := d.refs.errEst, manAt := d.tm.osc } }.set1 F.TB_TBC_manual)
    else d.set1 F.TB_TBS_manual_ref
  else if !on && d.fb F.TB_TBC_manual then
    let s := incrSteer d
    refreshTbs ({ d with refs := { d.refs with integ := s, steer := s } }.clr F.TB_TBC_manual)
  else d

/-! ### The commands of this file -/

/-- OSC_WARM_CHANGE (R325). -/
def execOscWarmChange (high : Bool) (s : State) : Host.Outcome State Fault Refusal :=
  finish s (xOscWarmChange high s.dev)

/-- WARMUP_END (R325). -/
def execWarmupEnd (s : State) : Host.Outcome State Fault Refusal :=
  finish s (xWarmupEnd s.dev)

/-- TB_RAW_READ (R327). -/
def execTbRawRead (s : State) : Host.Outcome State Fault Refusal :=
  finish s (hostRead R.TB_RAW_LO xTbRawRead s.dev)

/-- MANUAL_WRITE (R332). -/
def execManualWrite (w : Word) (s : State) : Host.Outcome State Fault Refusal :=
  finish s (hostWrite R.TB_TBC (xManualWrite w) s.dev)

end Sys2Proof.Machine
end

