-- ==== Sys2Proof/Machine/Outputs.lean ====
section
/-! DEFINITION. Time and frequency outputs (spec/11_timebase_outputs.md): what a TOUT carries (R338 to R342), starting (R335,
R338), the phase check (R336), output events (R342, R349), squelch (R343) and the state of the pins (R344). -/

namespace Sys2Proof.Machine

/-! ### What a TOUT carries, before polarity -/

def toutOff (d : Device) (n : Nat) : Int := d.rs (R.TOUT_OFF n) * nsU
def toutWidth (d : Device) (n : Nat) : Nat := d.rn (R.TOUT_WIDTH n) * nsU
def toutPer (d : Device) (n : Nat) : Nat := (d.rn (R.TOUT_PER_LO n) + 2 ^ 32 * d.fg (F.TOUT_PER_HI n)) * nsU

/-- PPS and PPX: high for the width after every instant a whole number of periods from the offset. -/
def pulseLevel (t : Inst) (off : Int) (per width : Nat) : Nat :=
  if (((t : Int) - off) % (max 1 per : Nat)).toNat < width then 1 else 0

/-- Bits of a number, least significant first. -/
def bitsOf (len v : Nat) : List Nat := (List.range len).map fun i => v / 2 ^ i % 2

/-- The time an IRIG frame encodes, as seconds and the count of an inserted leap second (R339). -/
def irigTime (d : Device) (n : Nat) (s : Nat) : Nat × Bool :=
  let sc := d.fg (F.TOUT_AUX_scale n)
  if sc = 1 then (s, false)
  else
    let tbl := leapTable d
    let off := (offsetAt tbl s).getD 0
    let leap := tbl.any fun e => decide (e.eff = s + 1) && decide (((offsetAt tbl s).getD e.taiUtc) < e.taiUtc)
    let loc := signed 7 (d.fg (F.TOUT_AUX_local n))
    let loc := if sc = 2 ∧ -56 ≤ loc ∧ loc ≤ 56 then loc * 900 else 0
    (((s : Int) - off + loc).toNat - (if leap then 1 else 0), leap)

/-- Year and day of the year of a count of days from 1970. -/
def yearDay : Nat → Nat → Nat → Nat × Nat
  | 0, y, k => (y, k)
  | f + 1, y, k =>
    let len := if y % 4 = 0 ∧ (y % 100 ≠ 0 ∨ y % 400 = 0) then 366 else 365
    if k < len then (y, k) else yearDay f (y + 1) (k - len)

/-- Time quality: the smallest code whose bound is at or above e (R339; bounds of C37.118.1, PRESUMED, log entry 31). -/
def timeQuality (ps : Nat) : Nat :=
  ((List.range 11).find? fun k => decide (ps ≤ 1000 * 10 ^ k)).map (· + 1) |>.getD 15

/-- The 100 elements of an IRIG-B frame: 0, 1 or 2 for a marker. -/
def irigFrame (d : Device) (n s : Nat) : List Nat :=
  let (u, leap) := irigTime d n s
  let fmt := d.fg (F.TOUT_AUX_irig_x n)
  let sec := if leap then 60 else u % 60
  let mi := u / 60 % 60
  let hr := u / 3600 % 24
  let (y, dd) := yearDay 400 1970 (u / 86400)
  let day := dd + 1
  let hasYear := decide (4 ≤ fmt)
  let sbs := fmt = 0 ∨ fmt = 3 ∨ fmt = 4 ∨ fmt = 7
  let cf := d.fb (F.TOUT_AUX_cf_1344 n) && [0, 1, 4, 5].contains fmt
  let yy := if hasYear then y % 100 else 0
  let sod := if sbs then u % 86400 else 0
  let loc := signed 7 (d.fg (F.TOUT_AUX_local n))
  let half := loc.natAbs / 2
  let ctl : List Nat :=
    if cf then
      [(if d.fb F.TB_STATUS_leap_pending then 1 else 0), d.fg F.TB_STATUS_leap_dir, 0, 0, (if loc < 0 then 1 else 0)] ++
      bitsOf 4 (half / 2) ++ [2] ++ [half % 2] ++ bitsOf 4 (timeQuality d.refs.errEst)
    else List.replicate 9 0 ++ [2] ++ List.replicate 5 0
  let head : List Nat := [2] ++ bitsOf 4 (sec % 10) ++ [0] ++ bitsOf 3 (sec / 10) ++ [2] ++
    bitsOf 4 (mi % 10) ++ [0] ++ bitsOf 3 (mi / 10) ++ [0, 2] ++
    bitsOf 4 (hr % 10) ++ [0] ++ bitsOf 2 (hr / 10) ++ [0, 0, 2] ++
    bitsOf 4 (day % 10) ++ [0] ++ bitsOf 4 (day / 10 % 10) ++ [2] ++
    bitsOf 2 (day / 100) ++ [0, 0, 0, 0, 0, 0, 0, 2] ++
    bitsOf 4 (yy % 10) ++ [0] ++ bitsOf 4 (yy / 10) ++ [2] ++ ctl
  let par := if cf then (head.filter (· == 1)).length % 2 else 0
  head ++ [par] ++ List.replicate 3 0 ++ [2] ++ bitsOf 9 (sod % 512) ++ [2] ++ bitsOf 8 (sod / 512) ++ [0, 2]

/-- The level of IRIG at an instant. -/
def irigLevel (d : Device) (n : Nat) (t : Inst) : Nat :=
  let o := t % secU
  let e := (irigFrame d n (t / secU)).getD (o / (10000000 * nsU)) 0
  let hi := if e = 2 then 8 else if e = 1 then 5 else 2
  if o % (10000000 * nsU) < hi * 1000000 * nsU then 1 else 0

/-- R340: the 32 bytes of the message sent during second `s`. -/
def tamcoMsg (d : Device) (n s : Nat) : Bytes :=
  let f (b : Bool) (k : Nat) : Nat := if b then 2 ^ k else 0
  let st := d.fg F.TB_TBS_state
  let flags := f (d.fb F.TB_STATUS_time_valid) 7 + f (d.fb F.TB_STATUS_utc_valid) 6 + f (d.fb F.TB_STATUS_leap_pending) 5 +
    f (d.fb F.TB_STATUS_leap_dir) 4 + f (st == 3 || st == 5) 3 + f (match d.refs.stepOsc with | some t => decide (d.tm.osc ≤ t + 1600000000) | none => false) 2
  let next := ((leapTable d).find? fun e => decide (d.nowSec < e.eff)).map (·.eff)
  let m := beBytes 2 0x54AC ++ beBytes 1 0x11 ++ beBytes 1 flags ++ leBytes 6 (s + 1) ++ leBytes 1 (d.fg F.TB_LEAP_STATUS_tai_utc_now) ++
    beBytes 1 (d.fg F.TB_SEL_STATUS_rank * 16 + d.fg F.TB_SEL_STATUS_mode) ++ leBytes 4 (satU 32 ((d.refs.errEst + 999) / 1000)) ++
    leBytes 6 (next.getD 0) ++ leBytes 2 (s - ((d.outOf n).startAt.getD 0) / secU) ++
    leBytes 4 (if d.refs.everSel then d.rn (R.REF_CODE (d.fg F.TB_SEL_STATUS_slot)) else 0) ++ zeros 2
  m ++ leBytes 2 (crc16 m)

/-- Bit rates of R260. -/
def baudOf (c : Nat) : Nat := [4800, 9600, 19200, 38400, 57600, 115200].getD (min c 5) 115200

/-- The level of TAMCO at an instant: idle high, start bit low, eight data bits, stop bit high. -/
def tamcoLevel (d : Device) (n : Nat) (t : Inst) : Nat :=
  let o := t % secU
  let t0 := min 500 (d.fg (F.TOUT_AUX_t_start n)) * 1000000 * nsU
  let b := baudOf (d.fg (F.TOUT_AUX_baud n))
  let k := (o - t0) * b / secU
  if o < t0 ∨ 320 ≤ k then 1
  else
    let byte := byteAt (tamcoMsg d n (t / secU)) (k / 10)
    if k % 10 = 0 then 0 else if k % 10 = 9 then 1 else byte / 2 ^ (k % 10 - 1) % 2

/-- GATE: the level of the gate class at an instant (R341). -/
def gateLevel (d : Device) (n : Nat) (t : Inst) : Nat :=
  let p := d.fg (F.TOUT_AUX_gport n)
  if !d.fb (F.PEEL_P_CTL_gate_en p) then 1
  else if gateOpen d p (d.fg (F.TOUT_AUX_gtc n)) 4 t (t + 1) then 1 else 0

/-- The signal of a running TOUT at an instant. -/
def toutSignal (d : Device) (n : Nat) (t : Inst) : Nat :=
  match d.fg (F.TOUT_CFG_func n) with
  | 1 => pulseLevel t (toutOff d n) secU (toutWidth d n)
  | 2 => pulseLevel t (toutOff d n) (toutPer d n) (toutWidth d n)
  | 3 => irigLevel d n t
  | 4 => tamcoLevel d n t
  | 5 => gateLevel d n t
  | 6 => (d.outOf n).level
  | _ => 0

/-- State of a pin: driven low or high, or high impedance. -/
inductive PinState where
  | low
  | high
  | hiZ
  deriving DecidableEq, Repr

/-- R337, R344: the pin of TOUT n at an instant; the first matching row applies.  A positive delay and correction move edges
earlier. (DESIGN CHOICE, log entry 33.) -/
def toutPin (d : Device) (n : Nat) (t : Inst) : PinState :=
  if !d.powered 8 then .hiZ
  else if d.fb (F.TOUT_STATUS_sq n) then (if d.fb (F.TOUT_CFG_hiz_sq n) then .hiZ else .low)
  else if !d.fb (F.TOUT_STATUS_running n) || d.fg (F.TOUT_CFG_func n) == 0 || d.fg (F.TOUT_CFG_func n) == 7 then
    (if d.fb (F.TOUT_CFG_hiz_idle n) then .hiZ else .low)
  else
    let at_ := ((t : Int) + (d.rs (R.TOUT_DELAY n) + (d.outOf n).corr) * psU).toNat
    let l := toutSignal d n at_
    if (l == 1) == d.fb (F.TOUT_CFG_pol n) then .low else .high

/-- Whether an output's pulse, frame or message is in progress at an instant. -/
def toutBusy (d : Device) (n : Nat) (t : Inst) : Bool :=
  d.fb (F.TOUT_STATUS_running n) &&
  (match d.fg (F.TOUT_CFG_func n) with
   | 3 => true
   | 4 =>
     let o := t % secU
     let t0 := min 500 (d.fg (F.TOUT_AUX_t_start n)) * 1000000 * nsU
     decide (t0 ≤ o) && decide ((o - t0) * baudOf (d.fg (F.TOUT_AUX_baud n)) / secU < 320)
   | _ => toutSignal d n t == 1)

/-- R334, R335: the level of a running FOUT at an instant: periodic from its start, 50 % duty, delayed by FOUTm_PHASE and the
correction. -/
def foutSignal (d : Device) (m : Nat) (t : Inst) : Nat :=
  match (d.outOf (8 + m)).startAt with
  | none => 0
  | some s =>
    let f := d.fg (F.FOUT_FREQ_INT m) * 65536 + d.fg (F.FOUT_FREQ_FRAC m)
    let dt := (t : Int) - s - (d.rs (R.FOUT_PHASE m) - d.rs (R.FOUT_DELAY m) - (d.outOf (8 + m)).corr) * psU
    if dt < 0 then 0 else if (dt.toNat * f * 2 / (secU * 65536)) % 2 = 0 then 1 else 0

/-- R344: the pin of FOUT m. -/
def foutPin (d : Device) (m : Nat) (t : Inst) : PinState :=
  if !d.powered 8 then .hiZ
  else if d.fb (F.FOUT_STATUS_sq m) then (if d.fb (F.FOUT_CFG_hiz_sq m) then .hiZ else .low)
  else if !d.fb (F.FOUT_STATUS_running m) then (if d.fb (F.FOUT_CFG_hiz_idle m) then .hiZ else .low)
  else if foutSignal d m t = 1 then .high else .low

/-! ### Starting and checking -/

/-- The first second boundary at least 1 ms after an instant. -/
def startBoundary (t : Inst) : Inst := (t + 1000000 * nsU + secU - 1) / secU * secU

/-- R338: a TOUT starts. -/
def xToutStart (n : Nat) (d : Device) : Device :=
  if n < 8 ∧ d.fb (F.TOUT_CFG_en n) ∧ ¬ d.fb (F.TOUT_STATUS_running n) ∧ ¬ d.dtInvalid ∧ startBoundary (d.outOf n).enAt ≤ d.now then
    (d.setOut n { d.outOf n with level := 0, startAt := some (startBoundary (d.outOf n).enAt), corr := 0 }).set1 (F.TOUT_STATUS_running n)
  else d

/-- R335: a FOUT whose synthesizer is locked starts. -/
def xFoutStart (m : Nat) (d : Device) : Device :=
  let o := d.outOf (8 + m)
  if m < 4 ∧ d.fb (F.FOUT_CFG_en m) ∧ ¬ d.fb (F.FOUT_STATUS_running m) ∧ d.fb (F.FOUT_STATUS_lock m) ∧ ¬ d.dtInvalid ∧
      startBoundary o.enAt ≤ d.now then
    (d.setOut (8 + m) { o with startAt := some (d.now / secU * secU), corr := 0 }).set1 (F.FOUT_STATUS_running m)
  else d

/-- R336, R337: the measured phase error of a running output, in ps: corrected by 10 ps at most; above 500 ps it is reported. -/
def xOutputPhaseCheck (n : Nat) (err : Int) (d : Device) : Device :=
  let o := d.outOf n
  let run := if n < 8 then d.fb (F.TOUT_STATUS_running n) else d.fb (F.FOUT_STATUS_running (n - 8))
  let due := match o.checkAt with | some t => decide (t + 800000000 ≤ d.tm.osc) | none => true
  if n < 12 ∧ run ∧ due = true ∧ probeValid d ∧ ¬ d.dtInvalid then
    let d := d.setOut n { o with corr := o.corr + max (-10) (min 10 err), checkAt := some d.tm.osc }
    if 500 < err.natAbs then
      (d.set1 (if n < 8 then F.TOUT_STATUS_phase_err n else F.FOUT_STATUS_phase_err (n - 8))).ledger L.outPhase n (unsigned 32 err) 0
    else d
  else d

/-! ### Output events (R342, R349) -/

/-- The action and output fields of the command word are stored. -/
def outCmdWrite (w : Word) (d : Device) : Device :=
  (d.fs F.OUT_EV_CMD_action (bits w.toNat 26 2)).fs F.OUT_EV_CMD_out (bits w.toNat 0 3)

/-- REQUEST: refused with FULL for an output whose function is not EVENT. (DEDUCED, log entries 32 and 88.) -/
def xOutEventRequest (w : Word) (d : Device) : Device :=
  let d := outCmdWrite w d
  let n := d.fg F.OUT_EV_CMD_out
  let a := Act.outEvent n (d.fg F.OUT_EV_CMD_action) (max 10 (d.rn R.OUT_EV_WIDTH))
  let (c, h, d) := if d.fg (F.TOUT_CFG_func n) = 6 then request d a (ofDt96 (d.rn3 (R.OUT_EV_AT_W 0))) false 0 else (T.FULL, 0, d)
  (d.fs F.OUT_EV_RESULT c).wn R.OUT_EV_HANDLE h

/-- R33: cancel the event of OUT_EV_HANDLE. -/
def xOutEventCancel (w : Word) (d : Device) : Device :=
  let d := outCmdWrite w d
  let (c, d) := cancelAct d (d.rn R.OUT_EV_HANDLE) fun a => match a with | .outEvent _ _ _ => true | _ => false
  d.fs F.OUT_EV_RESULT c

/-- The output takes a level: only a running, unsquelched EVENT output shows it. -/
def outLevel (d : Device) (n l : Nat) (t : Inst) : Device :=
  if d.fb (F.TOUT_STATUS_sq n) || !d.fb (F.TOUT_STATUS_running n) || !(d.fg (F.TOUT_CFG_func n) == 6) then d
  else (d.setOut n { d.outOf n with level := l }).emit (.pin ("TOUT" ++ toString n) l t)

/-- The implicit LOW of a pulse that is due first on an output: by instant, then acceptance. -/
def lowDue (d : Device) (n : Nat) : Option (Inst × Nat) :=
  leastBy (fun e : Inst × Nat => e.1 * 2 ^ 32 + e.2) ((d.outOf n).lows.filter fun e => decide (e.1 ≤ d.now))

/-- R342: the next event of an output that is due, or the implicit LOW of a pulse. -/
def xOutEventExecute (n : Nat) (d : Device) : Device :=
  if 8 ≤ n ∨ d.dtInvalid then d
  else
    let ev := dueOf d fun a => match a with | .outEvent k _ _ => k == n | _ => false
    let low := lowDue d n
    let lowFirst := match ev, low with
      | some e, some l => decide (l.1 < e.due) || (l.1 == e.due && decide (l.2 < e.handle))
      | none, some _ => true
      | _, none => false
    match lowFirst, low, ev with
    | true, some l, _ =>
      outLevel (d.setOut n { d.outOf n with lows := (d.outOf n).lows.filter fun x => !(x == l) }) n 0 l.1
    | _, _, some e =>
      match e.act with
      | .outEvent _ action width =>
        let cur := (d.outOf n).level
        let d := if action = 2 then
            let d := outLevel d n 1 e.due
            d.setOut n { d.outOf n with lows := (d.outOf n).lows ++ [(e.due + width * nsU, e.handle)] }
          else outLevel d n (if action = 0 then 1 else if action = 1 then 0 else 1 - cur) e.due
        endAct d e (doneCode e)
      | _ => d
    | _, _, none => d

/-- R343: the first second boundary at least 10 ms after the last cause cleared: squelch ends. -/
def xSquelchEnd (n : Nat) (d : Device) : Device :=
  match (d.outOf n).clearAt with
  | some t =>
    if n < 12 ∧ d.fb (sqFlag n) ∧ ¬ sqCause d n ∧ t + 8000000 ≤ d.tm.osc ∧ d.now / secU * secU + (d.tm.osc - t - 8000000) * 1250 * psU ≥ d.now then
      (d.setOut n { d.outOf n with clearAt := none }).clr (sqFlag n)
    else d
  | none => d

/-! ### The commands of this file -/

/-- FOUT_START (R335). -/
def execFoutStart (m : Nat) (s : State) : Host.Outcome State Fault Refusal :=
  finish s (xFoutStart m s.dev)

/-- TOUT_START (R338). -/
def execToutStart (n : Nat) (s : State) : Host.Outcome State Fault Refusal :=
  finish s (xToutStart n s.dev)

/-- OUTPUT_PHASE_CHECK (R336). -/
def execOutputPhaseCheck (n : Nat) (err : Int) (s : State) : Host.Outcome State Fault Refusal :=
  finish s (xOutputPhaseCheck n err s.dev)

/-- OUT_EVENT_REQUEST (R342). -/
def execOutEventRequest (w : Word) (s : State) : Host.Outcome State Fault Refusal :=
  finish s (hostWrite R.OUT_EV_CMD (xOutEventRequest w) s.dev)

/-- OUT_EVENT_CANCEL (R349). -/
def execOutEventCancel (w : Word) (s : State) : Host.Outcome State Fault Refusal :=
  finish s (hostWrite R.OUT_EV_CMD (xOutEventCancel w) s.dev)

/-- OUT_EVENT_EXECUTE (R342). -/
def execOutEventExecute (n : Nat) (s : State) : Host.Outcome State Fault Refusal :=
  finish s (xOutEventExecute n s.dev)

/-- SQUELCH_END (R343). -/
def execSquelchEnd (n : Nat) (s : State) : Host.Outcome State Fault Refusal :=
  finish s (xSquelchEnd n s.dev)

end Sys2Proof.Machine
end

