-- ==== Sys2Proof/Machine/Pubkey.lean ====
section
/-! DEFINITION. The public-key primitives the spec names (R144, R366, R392): ECDSA and ECDH on P-256 and P-384, Ed25519, X25519, RSA
with exponent 65537, and the DER forms of public keys.  Their definitions are those of their own standards (FIPS 186-5, SEC 1,
RFC 8032, RFC 7748, RFC 8017, RFC 5480, RFC 8410; PRESUMED, log entry 22). -/

namespace Sys2Proof.Machine

/-! ### Modular arithmetic -/

/-- b^e mod m, square and multiply from the top bit. -/
def powMod (b e m : Nat) : Nat :=
  (List.range (e.log2 + 1)).foldr (fun i acc => let a := acc * acc % m; if e.testBit i then a * b % m else a) (1 % m)

def invMod (a p : Nat) : Nat := powMod (a % p) (p - 2) p

/-- a − b mod p. -/
def subMod (a b p : Nat) : Nat := (a + (p - b % p)) % p

/-! ### Short Weierstrass curves -/

structure Curve where
  p : Nat
  b : Nat
  n : Nat
  gx : Nat
  gy : Nat
  /-- Bytes of a coordinate. -/
  len : Nat

def p256 : Curve :=
  { p := 0xffffffff00000001000000000000000000000000ffffffffffffffffffffffff,
    b := 0x5ac635d8aa3a93e7b3ebbd55769886bc651d06b0cc53b0f63bce3c3e27d2604b,
    n := 0xffffffff00000000ffffffffffffffffbce6faada7179e84f3b9cac2fc632551,
    gx := 0x6b17d1f2e12c4247f8bce6e563a440f277037d812deb33a0f4a13945d898c296,
    gy := 0x4fe342e2fe1a7f9b8ee7eb4a7c0f9e162bce33576b315ececbb6406837bf51f5, len := 32 }

def p384 : Curve :=
  { p := 0xfffffffffffffffffffffffffffffffffffffffffffffffffffffffffffffffeffffffff0000000000000000ffffffff,
    b := 0xb3312fa7e23ee7e4988e056be3f82d19181d9c6efe8141120314088f5013875ac656398d8a2ed19d2a85c8edd3ec2aef,
    n := 0xffffffffffffffffffffffffffffffffffffffffffffffffc7634d81f4372ddf581a0db248b0a77aecec196accc52973,
    gx := 0xaa87ca22be8b05378eb1c71ef320ad746e1d3b628ba79b9859f741e082542a385502f25dbf55296c3a545e3872760ab7,
    gy := 0x3617de4a96262c6f5d9e98bf9292dc29f8f41dbd289a147ce9da3113b5f0b8c00a60b1ce1d7e819d7a431d7c90ea0e5f, len := 48 }

/-- A point; none is the point at infinity.  Both curves have a = −3. -/
abbrev Pt := Option (Nat × Nat)

def ecAdd (c : Curve) : Pt → Pt → Pt
  | none, q => q
  | p, none => p
  | some (x1, y1), some (x2, y2) =>
    let go (l : Nat) : Pt :=
      let x3 := subMod (subMod (l * l % c.p) x1 c.p) x2 c.p
      some (x3, subMod (l * subMod x1 x3 c.p % c.p) y1 c.p)
    if x1 = x2 then
      if (y1 + y2) % c.p = 0 then none
      else go ((3 * x1 * x1 + (c.p - 3)) % c.p * invMod (2 * y1) c.p % c.p)
    else go (subMod y2 y1 c.p * invMod (subMod x2 x1 c.p) c.p % c.p)

def ecMul (c : Curve) (k : Nat) (q : Pt) : Pt :=
  (List.range (k.log2 + 1)).foldr (fun i acc => let a := ecAdd c acc acc; if k.testBit i then ecAdd c a q else a) none

def ecG (c : Curve) : Pt := some (c.gx, c.gy)

def onCurve (c : Curve) (x y : Nat) : Bool :=
  decide (x < c.p) && decide (y < c.p) && (y * y % c.p == (x * x * x + (c.p - 3) * x + c.b) % c.p)

/-- x ‖ y of a point, big-endian; zeros for infinity. -/
def ptBytes (c : Curve) : Pt → Bytes
  | some (x, y) => beBytes c.len x ++ beBytes c.len y
  | none => zeros (2 * c.len)

def ptOf (c : Curve) (bs : Bytes) : Nat × Nat := (beAt bs 0 c.len, beAt bs c.len c.len)

/-- A hash truncated to the curve's length, as a number. -/
def hashNum (c : Curve) (h : Bytes) : Nat := beVal (h.take c.len)

/-- ECDSA with nonce k: (r, s). -/
def ecdsaSign (c : Curve) (dkey e k : Nat) : Nat × Nat :=
  let r := ((ecMul c k (ecG c)).map (·.1)).getD 0 % c.n
  (r, invMod k c.n * (e + r * dkey) % c.n)

def ecdsaVerify (c : Curve) (q : Nat × Nat) (e r s : Nat) : Bool :=
  if 1 ≤ r ∧ r < c.n ∧ 1 ≤ s ∧ s < c.n ∧ onCurve c q.1 q.2 then
    let w := invMod s c.n
    match ecAdd c (ecMul c (e * w % c.n) (ecG c)) (ecMul c (r * w % c.n) (some q)) with
    | some (x, _) => x % c.n == r
    | none => false
  else false

/-! ### Ed25519 and X25519 -/

def p255 : Nat := 2 ^ 255 - 19
def edL : Nat := 2 ^ 252 + 27742317777372353535851937790883648493
def edD : Nat := 37095705934669439343138083508754565189542113879843219016388785533085940283555

/-- Affine addition on the twisted Edwards curve. -/
def edAdd (a b : Nat × Nat) : Nat × Nat :=
  let t := edD * a.1 % p255 * b.1 % p255 * a.2 % p255 * b.2 % p255
  ((a.1 * b.2 + a.2 * b.1) % p255 * invMod (1 + t) p255 % p255,
   (a.2 * b.2 + a.1 * b.1) % p255 * invMod (subMod 1 t p255) p255 % p255)

def edMul (k : Nat) (q : Nat × Nat) : Nat × Nat :=
  (List.range (k.log2 + 1)).foldr (fun i acc => let a := edAdd acc acc; if k.testBit i then edAdd a q else a) (0, 1)

/-- The x of a y with a given low bit; none when there is no point. -/
def edX (y sign : Nat) : Option Nat :=
  let x2 := subMod (y * y % p255) 1 p255 * invMod (edD * y % p255 * y + 1) p255 % p255
  let x := powMod x2 ((p255 + 3) / 8) p255
  let x := if x * x % p255 = x2 then x else x * powMod 2 ((p255 - 1) / 4) p255 % p255
  if x * x % p255 ≠ x2 then none
  else if x = 0 ∧ sign = 1 then none
  else some (if x % 2 = sign then x else p255 - x)

def edB : Nat × Nat := let y := 4 * invMod 5 p255 % p255; ((edX y 0).getD 0, y)

def edEnc (q : Nat × Nat) : Bytes := leBytes 32 (q.2 + 2 ^ 255 * (q.1 % 2))

/-- The y of an encoding, without its sign bit. -/
def edY (bs : Bytes) : Nat := leVal (bs.take 32) % 2 ^ 255

def edDec (bs : Bytes) : Option (Nat × Nat) :=
  (edX (edY bs) (leVal (bs.take 32) / 2 ^ 255)).map fun x => (x, edY bs)

/-- RFC 7748 clamping of a scalar. -/
def clampScalar (v : Nat) : Nat := v % 2 ^ 254 / 8 * 8 + 2 ^ 254

def edKey (seed : Bytes) : Nat × Bytes := let h := sha512 seed; (clampScalar (leVal (h.take 32)), h.drop 32)

def edPublic (seed : Bytes) : Bytes := edEnc (edMul (edKey seed).1 edB)

def edSign (seed msg : Bytes) : Bytes :=
  let (a, pre) := edKey seed
  let r := leVal (sha512 (pre ++ msg)) % edL
  let rb := edEnc (edMul r edB)
  let k := leVal (sha512 (rb ++ edPublic seed ++ msg)) % edL
  rb ++ leBytes 32 ((r + k * a) % edL)

/-- The cofactored equation of R393, with k's digest given. -/
def edCheck (a r : Nat × Nat) (s : Nat) (digest : Bytes) : Bool :=
  let k := leVal digest % edL
  edMul (8 * s) edB == edAdd (edMul 8 r) (edMul (8 * k) a)

def edVerify (pub sig msg : Bytes) : Bool :=
  match edDec pub, edDec sig with
  | some a, some r => decide (leVal (sig.drop 32) < edL) && edCheck a r (leVal (sig.drop 32)) (sha512 (sig.take 32 ++ pub ++ msg))
  | _, _ => false

/-- One step of the Montgomery ladder on (x2, z2, x3, z3). -/
def ladder (x1 : Nat) (s : Nat × Nat × Nat × Nat) (bit : Bool) : Nat × Nat × Nat × Nat :=
  let (x2, z2, x3, z3) := s
  let (x2, z2, x3, z3) := if bit then (x3, z3, x2, z2) else (x2, z2, x3, z3)
  let a := x2 + z2
  let b := subMod x2 z2 p255
  let aa := a * a % p255
  let bb := b * b % p255
  let e := subMod aa bb p255
  let da := subMod x3 z3 p255 * a % p255
  let cb := (x3 + z3) * b % p255
  let u := da + cb
  let v := subMod da cb p255
  let r := (aa * bb % p255, e * (aa + 121665 * e) % p255, u * u % p255, x1 * (v * v % p255) % p255)
  if bit then (r.2.2.1, r.2.2.2, r.1, r.2.1) else r

/-- X25519 of a clamped scalar and a u-coordinate. -/
def x25519 (k u : Nat) : Nat :=
  let u := u % 2 ^ 255 % p255
  let s := (List.range 255).foldr (fun i s => ladder u s (k.testBit i)) (1, 0, u, 1)
  s.1 * invMod s.2.1 p255 % p255

/-! ### DER public keys -/

/-- SubjectPublicKeyInfo of a key: 0 P-256, 1 P-384, 2 Ed25519, over the raw public key. -/
def spki (typ : Nat) (pub : Bytes) : Bytes :=
  if typ = 0 then [0x30, 0x59, 0x30, 0x13, 0x06, 0x07, 0x2A, 0x86, 0x48, 0xCE, 0x3D, 0x02, 0x01, 0x06, 0x08, 0x2A, 0x86, 0x48, 0xCE, 0x3D,
    0x03, 0x01, 0x07, 0x03, 0x42, 0x00, 0x04] ++ pub
  else if typ = 1 then [0x30, 0x76, 0x30, 0x10, 0x06, 0x07, 0x2A, 0x86, 0x48, 0xCE, 0x3D, 0x02, 0x01, 0x06, 0x05, 0x2B, 0x81, 0x04, 0x00,
    0x22, 0x03, 0x62, 0x00, 0x04] ++ pub
  else [0x30, 0x2A, 0x30, 0x05, 0x06, 0x03, 0x2B, 0x65, 0x70, 0x03, 0x21, 0x00] ++ pub

/-- Bytes of a raw public key, and of a signature. -/
def pubLen (typ : Nat) : Nat := if typ = 0 then 64 else if typ = 1 then 96 else 32
def sigLen (typ : Nat) : Nat := if typ = 1 then 96 else 64

/-- The raw key of a SubjectPublicKeyInfo of a type: none when it is not exactly that form, or no point. -/
def spkiKey (typ : Nat) (der : Bytes) : Option Bytes :=
  let pub := der.drop (der.length - pubLen typ)
  let c := if typ = 1 then p384 else p256
  let good := if typ = 2 then (edDec pub).isSome else let (x, y) := ptOf c pub; onCurve c x y
  if typ ≤ 2 ∧ pub.length = pubLen typ ∧ spki typ pub = der ∧ good then some pub else none

/-- Verify a signature over a message: ECDSA with SHA-256 or SHA-384, or Ed25519. -/
def sigVerify (typ : Nat) (pub sig msg : Bytes) : Bool :=
  if typ = 2 then edVerify pub sig msg
  else
    let c := if typ = 1 then p384 else p256
    let h := if typ = 1 then sha384 msg else sha256 msg
    ecdsaVerify c (ptOf c pub) (hashNum c h) (beAt sig 0 c.len) (beAt sig c.len c.len)

end Sys2Proof.Machine
end

