-- ==== Sys2Proof/Machine/Pke.lean ====
section
/-! DEFINITION. The public-key engine (spec/13_pke.md): descriptors (R388, R389), the operations with their input checks (R392 to
R396), the timing table (R398, R399), scheduling (R387), completions (R390) and the known-answer tests (R400). -/

namespace Sys2Proof.Machine

/-! ### Descriptors (R388) -/

abbrev J.OK : Nat := 0
abbrev J.BAD_SIG : Nat := 1
abbrev J.NOT_ON_CURVE : Nat := 2
abbrev J.RANGE : Nat := 3
abbrev J.ZERO_RESULT : Nat := 4
abbrev J.FAULT : Nat := 5
abbrev J.BAD_DESC : Nat := 8
abbrev J.QUOTA : Nat := 9
abbrev J.DENIED : Nat := 0xA
abbrev J.FLUSHED : Nat := 0xB

def jOp (b : Bytes) : Nat := byteAt b 0
def jDt2 (b : Bytes) : Bool := (byteAt b 1).testBit 0
def jEph (b : Bytes) : Bool := (byteAt b 1).testBit 1
def jPre (b : Bytes) : Bool := (byteAt b 1).testBit 2
def jVkey (b : Bytes) : Bool := (byteAt b 1).testBit 3
def jInLen (b : Bytes) : Nat := leAt b 2 2
def jTag (b : Bytes) : Nat := leAt b 4 4
def jSlot (b : Bytes) : Nat := byteAt b 24 % 64

/-- A row of R392: slot length in bytes, least and greatest in_len, out_len (and with eph or vkey), whether vkey and eph are
permitted, the private slot, and the time of R398 in µs. -/
structure PkeRow where
  len : Nat
  inLo : Nat
  inHi : Nat
  out : Nat
  outAlt : Nat
  vkey : Bool
  eph : Bool
  priv : Nat
  time : Nat

def pkeRow (op : Nat) : Option PkeRow :=
  match op with
  | 1 => some ⟨32, 64, 64, 64, 64, true, false, 1, 112⟩
  | 2 => some ⟨32, 160, 160, 0, 0, false, false, 0, 196⟩
  | 3 => some ⟨48, 96, 96, 96, 96, true, false, 1, 268⟩
  | 4 => some ⟨48, 240, 240, 0, 0, false, false, 0, 470⟩
  | 5 => some ⟨32, 32, 4128, 64, 64, true, false, 0, 104⟩
  | 6 => some ⟨32, 96, 4192, 0, 0, false, false, 0, 188⟩
  | 7 => some ⟨32, 64, 64, 32, 64, true, true, 0, 92⟩
  | 8 => some ⟨32, 96, 96, 32, 96, true, true, 0, 110⟩
  | 9 => some ⟨48, 144, 144, 48, 144, true, true, 0, 262⟩
  | 10 => some ⟨32, 0, 0, 96, 64, true, false, 0, 114⟩
  | 11 => some ⟨48, 0, 0, 144, 96, true, false, 0, 270⟩
  | 12 => some ⟨32, 0, 0, 64, 32, true, false, 0, 106⟩
  | 13 => some ⟨256, 512, 512, 256, 256, false, false, 0, 24⟩
  | 14 => some ⟨512, 896, 896, 384, 384, false, false, 0, 50⟩
  | 15 => some ⟨512, 1024, 1024, 512, 512, false, false, 0, 86⟩
  | _ => none

/-- The full output length of a descriptor (R392, R396). -/
def pkeOutLen (b : Bytes) : Nat :=
  match pkeRow (jOp b) with
  | some r => if jEph b || (jVkey b && decide (10 ≤ jOp b)) then r.outAlt else r.out
  | none => 0

/-- R389, R392: the descriptor is malformed. (DEDUCED, log entry 58.) -/
def pkeBad (b image : Bytes) : Bool :=
  match pkeRow (jOp b) with
  | none => true
  | some r =>
    let n := jInLen b
    !(decide (r.inLo ≤ n) && decide (n ≤ r.inHi)) || (jPre b && !(n == 160)) || (jPre b && !(jOp b == 6)) ||
    (jVkey b && !r.vkey) || (jEph b && !r.eph) || (jVkey b && jEph b) || !(byteAt b 1 / 16 == 0) || !(byteAt b 24 / 64 == 0) ||
    !((slice b 25 7).all (· == 0)) ||
    ((jVkey b || jEph b) && decide (jOp b < 10) && !((slice image (r.priv * r.len) r.len).all (· == 0)))

/-- The private key a vault slot holds for an operation, for a requester that may name it (R389). -/
def vaultKey (d : Device) (req slot op : Nat) : Option Bytes :=
  let ofTls (k : Option TlsKey) : Option Bytes :=
    (k.filter fun k => (k.typ == 0 && (op == 1 || op == 8)) || (k.typ == 1 && (op == 3 || op == 9)) || (k.typ == 2 && op == 5)).map (·.priv)
  if slot = 0 ∧ op = 3 ∧ (req = 1 ∨ req = 2) then some (beBytes 48 dikScalar)
  else if slot = 0 ∧ op = 9 ∧ req = 2 then some (beBytes 48 dikScalar)
  else if slot = slotTls ∧ (req = 0 ∨ req = 2) then ofTls d.trust.tlsCur
  else if slot = slotTlsNext ∧ req = 2 then (if 10 ≤ op then some [] else ofTls d.trust.tlsNext)
  else none

/-! ### Operations (R392 to R396) -/

/-- The b-th byte-slot of an image as a big-endian number; bytes beyond the image read as zero. -/
def opnd (image : Bytes) (len k : Nat) : Nat := beVal (padTo len (slice image (k * len) len))

/-- R395: an integer operand DT-2 rules refuse. -/
def dt2Bad (v m : Nat) : Bool := v == 0 || v == 1 || decide (m ≤ v)

/-- A random scalar in 1..n−1, from three draws. -/
def drawScalar (n : Nat) (d : Device) : Nat × Device :=
  let (a, d) := d.draw
  let (b, d) := d.draw
  let v := (Config.draw a).toNat * 2 ^ 256 + (Config.draw b).toNat
  (v % (n - 1) + 1, d)

/-- What an operation answers: a status and its output. -/
abbrev PkeRes := Nat × Bytes

def signEc (c : Curve) (e dk : Nat) (dt2 hasKey : Bool) (d : Device) : PkeRes × Device :=
  if dt2 && (dt2Bad e c.n || (!hasKey && dt2Bad dk c.n)) || dk % c.n == 0 then ((J.RANGE, []), d)
  else
    let (k, d) := drawScalar c.n d
    let (r, s) := ecdsaSign c (dk % c.n) (e % c.n) k
    ((J.OK, beBytes c.len r ++ beBytes c.len s), d)

def verifyEc (c : Curve) (image : Bytes) (dt2 : Bool) : PkeRes :=
  let o := opnd image c.len
  let (e, x, y, r, s) := (o 0, o 1, o 2, o 3, o 4)
  if dt2 && (dt2Bad e c.n || dt2Bad x c.p || dt2Bad y c.p || dt2Bad r c.n || dt2Bad s c.n) then (J.RANGE, [])
  else if c.p ≤ x ∨ c.p ≤ y ∨ r = 0 ∨ s = 0 ∨ c.n ≤ r ∨ c.n ≤ s then (J.RANGE, [])
  else if !onCurve c x y then (J.NOT_ON_CURVE, [])
  else if ecdsaVerify c (x, y) (e % c.n) r s then (J.OK, []) else (J.BAD_SIG, [])

/-- ECDH with a private scalar; `own` prefixes the own public key. -/
def dhEc (c : Curve) (dk x y : Nat) (dt2 hasKey own : Bool) : PkeRes :=
  if dt2 && ((!hasKey && dt2Bad dk c.n) || dt2Bad x c.p || dt2Bad y c.p) then (J.RANGE, [])
  else if c.p ≤ x ∨ c.p ≤ y ∨ dk % c.n = 0 then (J.RANGE, [])
  else if !onCurve c x y then (J.NOT_ON_CURVE, [])
  else
    match ecMul c (dk % c.n) (some (x, y)) with
    | none => (J.ZERO_RESULT, [])
    | some (sx, _) => (J.OK, (if own then ptBytes c (ecMul c (dk % c.n) (ecG c)) else []) ++ beBytes c.len sx)

def verifyEd (image : Bytes) (inLen : Nat) (pre dt2 : Bool) : PkeRes :=
  let a := slice image 0 32
  let r := slice image 32 32
  let s := leVal (slice image 64 32)
  if dt2 && (dt2Bad (edY a) p255 || dt2Bad (edY r) p255) then (J.RANGE, [])
  else if edL ≤ s ∨ p255 ≤ edY a ∨ p255 ≤ edY r then (J.RANGE, [])
  else
    match edDec a, edDec r with
    | some pa, some pr =>
      let dig := if pre then slice image 96 64 else sha512 (r ++ a ++ slice image 96 (inLen - 96))
      if edCheck pa pr s dig then (J.OK, []) else (J.BAD_SIG, [])
    | _, _ => (J.NOT_ON_CURVE, [])

def dhX (scalar u : Nat) (dt2 hasKey own : Bool) : PkeRes :=
  if dt2 && ((!hasKey && dt2Bad scalar p255) || dt2Bad u p255) then (J.RANGE, [])
  else
    let k := clampScalar scalar
    let v := x25519 k u
    if v = 0 then (J.ZERO_RESULT, []) else (J.OK, (if own then leBytes 32 (x25519 k 9) else []) ++ leBytes 32 v)

/-- RSA with exponent 65537: σ stands at a slot of `len` bytes, the modulus has `mod` bytes. -/
def rsaOp (image : Bytes) (len mod : Nat) (dt2 : Bool) : PkeRes :=
  let n := beVal (padTo mod (slice image 0 mod))
  let s := beVal (padTo mod (slice image len mod))
  if dt2 && dt2Bad s n then (J.RANGE, [])
  else if n % 2 = 0 ∨ n < 2 ^ (8 * mod - 1) ∨ n ≤ s then (J.RANGE, [])
  else (J.OK, beBytes mod (powMod s 65537 n))

/-- Run an operation: `key` is the vault's private key under vkey. -/
def pkeOp (op inLen : Nat) (image : Bytes) (key : Option Bytes) (eph pre dt2 : Bool) (d : Device) : PkeRes × Device :=
  let img := image.take inLen
  let has := key.isSome
  let priv (len slot : Nat) : Nat := match key with | some k => beVal k | none => opnd img len slot
  let ec (c : Curve) (d : Device) : PkeRes × Device :=
    let (dk, d) := if eph then drawScalar c.n d else (priv c.len 0, d)
    (dhEc c dk (opnd img c.len 1) (opnd img c.len 2) dt2 (has || eph) eph, d)
  let gen (c : Curve) (d : Device) : PkeRes × Device :=
    let (dk, d) := drawScalar c.n d
    ((J.OK, beBytes c.len dk ++ ptBytes c (ecMul c dk (ecG c))), d)
  match op with
  | 1 => signEc p256 (opnd img 32 0) (priv 32 1) dt2 has d
  | 2 => (verifyEc p256 img dt2, d)
  | 3 => signEc p384 (opnd img 48 0) (priv 48 1) dt2 has d
  | 4 => (verifyEc p384 img dt2, d)
  | 5 => ((J.OK, edSign (key.getD (slice img 0 32)) (img.drop 32)), d)
  | 6 => (verifyEd img inLen pre dt2, d)
  | 7 =>
    let (n, d) := if eph then d.draw else (0, d)
    let k := if eph then (Config.draw n).toNat else match key with | some k => leVal k | none => leVal (slice img 0 32)
    (dhX k (leVal (slice img 32 32)) dt2 (has || eph) eph, d)
  | 8 => ec p256 d
  | 9 => ec p384 d
  | 10 => gen p256 d
  | 11 => gen p384 d
  | 12 => let (n, d) := d.draw; let s := beBytes 32 (Config.draw n).toNat; ((J.OK, s ++ edPublic s), d)
  | 13 => (rsaOp img 256 256 dt2, d)
  | 14 => (rsaOp img 512 384 dt2, d)
  | _ => (rsaOp img 512 512 dt2, d)

/-! ### The pool -/

/-- R399: the PKE domain runs on the AON clock. -/
def pkeSlow (d : Device) : Bool := !(d.fg F.PWR_PLL_STATUS).testBit 2

def pkeReady (d : Device) : Bool := d.fb F.PKE_STATUS_ready

def coreEn (d : Device) (k : Nat) : Bool := (d.rn (R.PKE_CORE_EN (k / 32))).testBit (k % 32)
def coreFault (d : Device) (k : Nat) : Bool := (d.rn (R.PKE_FAULT (k / 32))).testBit (k % 32)

def coreBusy (d : Device) (k : Nat) : Bool := d.pke.jobs.any fun j => (j.start.map (·.1)) == some k

/-- A core that can take a job. -/
def coreFree (d : Device) (k : Nat) : Bool :=
  coreEn d k && !coreFault d k && !(d.pke.dead.contains k) && !(d.pke.kat.any (·.1 == k)) && !coreBusy d k

def pkeWaiting (d : Device) (r : Nat) : List PkeJob := d.pke.jobs.filter fun j => j.req == r && j.start.isNone
def pkeRunning (d : Device) (r : Nat) : List PkeJob := d.pke.jobs.filter fun j => j.req == r && j.start.isSome

def runQuota (d : Device) (r : Nat) : Nat := min 64 (d.fg (F.PKE_RQ_CFG_run r))
def queueQuota (d : Device) (r : Nat) : Nat := clamp 1 4096 (d.fg (F.PKE_RQ_CFG_qmax r))
def pkeWeight (d : Device) (r : Nat) : Nat := max 1 (d.fg (F.PKE_RQ_CFG_w r))

/-- A job's time in units of 1.25 ns (R398, R399). -/
def jobTime (d : Device) (b : Bytes) : Nat := ((pkeRow (jOp b)).map (·.time)).getD 0 * 800 * if pkeSlow d then 8 else 1

/-- PKE_RQr_STAT and PKE_STATUS follow the jobs. -/
def pkeShow (d : Device) : Device :=
  let d := (List.range 5).foldl (fun d r =>
    (d.fs (F.PKE_RQ_STAT_waiting r) (pkeWaiting d r).length).fs (F.PKE_RQ_STAT_running r) (pkeRunning d r).length) d
  let d := d.fs F.PKE_STATUS_busy (d.pke.jobs.filter fun j => j.start.isSome).length
  d.fs F.PKE_STATUS_in_service ((List.range 64).filter fun k => coreEn d k && !coreFault d k).length

def pkeVt (d : Device) (r : Nat) : Rat := amGet 0 d.pke.vt r

/-- The requester with the least virtual time; the lowest-numbered on a tie. -/
def leastVt (d : Device) (l : List Nat) : Option Nat :=
  l.foldl (fun b r => match b with | some x => if pkeVt d r < pkeVt d x then some r else b | none => some r) none

/-- R387: start jobs while a requester is eligible and a core is free. -/
def pkeStart (vmin : Rat) (fuel : Nat) (d : Device) : Device :=
  match fuel with
  | 0 => d
  | f + 1 =>
    let elig := (List.range 5).filter fun r => !(pkeWaiting d r).isEmpty && decide ((pkeRunning d r).length < runQuota d r)
    match leastVt d elig, (List.range 64).find? (coreFree d) with
    | some r, some k =>
      match (pkeWaiting d r).head? with
      | some j =>
        let tm := jobTime d j.desc
        let j' := { j with start := some (k, d.tm.osc), ends := d.tm.osc + tm }
        let v := max (pkeVt d r) vmin + (tm : Rat) / 800 / (pkeWeight d r : Rat)
        let p := { d.pke with jobs := mapIf (fun x : PkeJob => x.id == j.id) (fun _ => j') d.pke.jobs, vt := amSet 0 d.pke.vt r v }
        pkeStart vmin f (monFeed { d with pke := p } 11 r r (((d.tm.osc - j.arrive) / 800 : Nat) : Int))
      | none => d
    | _, _ => d

/-- R387: a core became free, or a job arrived. -/
def pkeRun (d : Device) : Device :=
  let act := (List.range 5).filter fun r => d.pke.jobs.any fun j => j.req == r
  pkeShow (if pkeReady d && d.powered 6 then pkeStart (((leastVt d act).map (pkeVt d)).getD 0) 64 d else d)

/-- R390: the completion of a job. -/
def pkeCqe (b : Bytes) (status outLen core wait : Nat) : Bytes :=
  leBytes 4 (jTag b) ++ leBytes 1 status ++ leBytes 1 (jOp b) ++ leBytes 2 outLen ++ leBytes 1 core ++ leBytes 3 (satU 24 wait) ++ zeros 4

/-- Tell a requester how a job ended; the jobs of KE sessions are told by their own service. -/
def pkeTell (d : Device) (j : PkeJob) (status core wait : Nat) (out : Bytes) : Device :=
  let cqe := pkeCqe j.desc status out.length core wait
  match j.dest with
  | .host n slot => if j.discard then d else complete d n slot cqe out
  | .engine r => d.emit (.pkeReply r cqe out)
  | .ke _ _ => d

/-- What completes a job at once: a code, or none when it is queued (R386, R389, R403). -/
def pkeRefusal (d : Device) (req : Nat) (desc image : Bytes) : Option Nat :=
  if pkeBad desc image then some J.BAD_DESC
  else if jVkey desc && (req == 4 || (vaultKey d req (jSlot desc) (jOp desc)).isNone) then some J.DENIED
  else if !d.up .pke then some J.FLUSHED
  else if queueQuota d req ≤ (pkeWaiting d req).length then some J.QUOTA
  else none

def pkeCountRefusal (d : Device) (req code : Nat) : Device :=
  if code = J.QUOTA then d.cnt (K.PKE_REFUSED req) else if code = J.FLUSHED then d.cnt (K.PKE_FLUSHED req) else d

/-- A job arrives: the code that completes it at once, if one does. -/
def pkeSubmit (d : Device) (req : Nat) (desc image : Bytes) (dest : PkeDest) : Option Nat × Device :=
  match pkeRefusal d req desc image with
  | some c => (some c, pkeCountRefusal d req c)
  | none =>
    let j : PkeJob := { id := d.pke.nextId, req, desc, image, dest, arrive := d.tm.osc, start := none, ends := 0, discard := false }
    (none, pkeRun { d with pke := { d.pke with jobs := d.pke.jobs ++ [j], nextId := d.pke.nextId + 1 } })

/-- R400: a core's mismatch: it is out of service; the third within 24 h is final. -/
def coreMismatch (d : Device) (k : Nat) : Device :=
  let recent := (amGet [] d.pke.faults k).filter fun t => decide (d.tm.osc < t + 86400 * 800000000)
  let l := recent ++ [d.tm.osc]
  let dead := if 3 ≤ l.length then setIns d.pke.dead k else d.pke.dead
  let d := { d with pke := { d.pke with faults := amSet [] d.pke.faults k l, dead } }
  let d := d.wn (R.PKE_FAULT (k / 32)) (putBits (d.rn (R.PKE_FAULT (k / 32))) (k % 32) 1 1)
  (d.set1 F.PKE_STATUS_fault_evt).ledger L.pkeFault k 0 0

/-- A vault key made by KEYGEN under vkey: the next TLS key (log entry 49). -/
def storeKeygen (d : Device) (op : Nat) (out : Bytes) : Device :=
  let typ := op - 10
  let len := if typ = 1 then 48 else 32
  let k : TlsKey := { typ, priv := out.take len, pub := out.drop len }
  let d := keySave (keyWipe d 3 slotTlsNext) 3 slotTlsNext (leBytes 1 typ ++ k.priv)
  ({ d with trust := { d.trust with tlsNext := some k } }).set1 F.SEC_STATUS_tls_next

/-- R391, R396: a running job ends: its status and output, the job itself, and the core freed and wiped. -/
def pkeEnd (d : Device) (j : PkeJob) (mismatch : Bool) : Nat × Bytes × Device :=
  let key := if jVkey j.desc then vaultKey d j.req (jSlot j.desc) (jOp j.desc) else none
  let ((st, out), d) := pkeOp (jOp j.desc) (jInLen j.desc) j.image key (jEph j.desc) (jPre j.desc) (jDt2 j.desc || d.fb F.PKE_CTL_dt2_all) d
  let st := if mismatch then J.FAULT else st
  let core := (j.start.map (·.1)).getD 0
  let d := { d with pke := { d.pke with jobs := d.pke.jobs.filter fun x => !(x.id == j.id) } }
  let d := if st = J.OK then d.cnt (K.PKE_OK j.req) else if st = J.FAULT then coreMismatch (d.cnt (K.PKE_FAULT_JOBS j.req)) core
    else d.cnt (K.PKE_FAIL j.req)
  let vgen := jVkey j.desc && decide (10 ≤ jOp j.desc)
  let d := if st = J.OK ∧ vgen then storeKeygen d (jOp j.desc) out else d
  let out := if st = J.OK then (if vgen then out.drop (out.length - pkeOutLen j.desc) else out) else zeros (pkeOutLen j.desc)
  (st, out, pkeRun d)

/-- R399: the domain's clock changes: what is left of each running job takes 8 times, or an eighth of, its time. -/
def pkeClock (d : Device) (slow : Bool) : Device :=
  let re (j : PkeJob) : PkeJob :=
    if j.start.isSome then
      let left := j.ends - d.tm.osc
      { j with ends := d.tm.osc + if slow then 8 * left else left / 8 }
    else j
  { d with pke := { d.pke with jobs := d.pke.jobs.map re } }

/-- A job an engine runs within one command (log entry 57): counted for its requester. -/
def pkeAccount (d : Device) (req : Nat) (ok : Bool) : Device := d.cnt (if ok then K.PKE_OK req else K.PKE_FAIL req)

/-! ### Known-answer tests (R400) -/

/-- Begin the test of a core. -/
def coreTest (d : Device) (k : Nat) : Device :=
  if d.pke.dead.contains k then d
  else { d with pke := { d.pke with kat := amIns (amDel d.pke.kat k) k (d.tm.osc + 400 * 800) } }

/-- Its end: a pass returns the core to service, a failure is a mismatch. -/
def coreTested (d : Device) (k : Nat) (pass : Bool) : Device :=
  let d := { d with pke := { d.pke with kat := amDel d.pke.kat k } }
  let r := R.PKE_FAULT (k / 32)
  pkeRun (if pass then d.wn r (putBits (d.rn r) (k % 32) 1 0) else coreMismatch d k)

end Sys2Proof.Machine
end

