-- ==== Sys2Proof/Machine/Batch.lean ====
section
/-! DEFINITION. Batches (spec/12_trust_batches.md): their format (R364, R365), the checks of R370 with the item rules (R359, R367, R368,
R377, R412), the banks (R371), the commit (R372), and the quote (R378). -/

namespace Sys2Proof.Machine

/-! ### Status codes (R370, R447) -/

abbrev B.OK : Nat := 0
abbrev B.BAD_FORMAT : Nat := 1
abbrev B.TOO_LONG : Nat := 2
abbrev B.BIND : Nat := 3
abbrev B.NOT_OWNED : Nat := 4
abbrev B.OWNER_ID : Nat := 5
abbrev B.EPOCH : Nat := 6
abbrev B.SIGNATURE : Nat := 7
abbrev B.SEQUENCE : Nat := 8
abbrev B.ITEM : Nat := 9
abbrev B.BUSY : Nat := 10
abbrev B.CLAIM : Nat := 11
abbrev B.FUSE_EXHAUSTED : Nat := 12
abbrev B.APPLY_FAIL : Nat := 13
abbrev B.FLASH : Nat := 14
abbrev B.SVN : Nat := 15

/-! ### Format (R364, R365) -/

/-- A Batch's greatest length, and the staging buffer's. -/
def batchMax : Nat := 1048576

def bAlg (b : Bytes) : Nat := byteAt b 6
def bPair (b : Bytes) : Bool := (byteAt b 7).testBit 0
def bClaim (b : Bytes) : Bool := (byteAt b 7).testBit 1
def bSeq (b : Bytes) : Nat := leAt b 8 8
def bBind (b : Bytes) : Nat := leAt b 16 6
def bEpoch (b : Bytes) : Nat := leAt b 24 4
def bTotal (b : Bytes) : Nat := leAt b 28 4
def bApplyAt (b : Bytes) : Inst := ofDt96 (leAt b 32 12)
def bItems (b : Bytes) : Nat := leAt b 44 2
def bOwnerId (b : Bytes) : Bytes := slice b 48 16

/-- An item: its type, its body, and whether its padding is zeros. -/
structure BItem where
  typ : Nat
  body : Bytes
  padOk : Bool
  deriving DecidableEq, Repr

/-- Split items off; none when they overrun or an item header's reserved bytes are not 0. -/
def splitItems : Nat → Bytes → Option (List BItem)
  | 0, _ => some []
  | n + 1, b =>
    let len := leAt b 4 4
    let all := 8 + roundUp 4 len
    if b.length < 8 ∨ b.length < all ∨ leAt b 2 2 ≠ 0 then none
    else (splitItems n (b.drop all)).map fun l => { typ := leAt b 0 2, body := slice b 8 len, padOk := (slice b (8 + len) (all - 8 - len)).all (· == 0) } :: l

/-- The items of a Batch, between its header and its signature. -/
def batchItems (b : Bytes) : Option (List BItem) :=
  let s := sigLen (bAlg b)
  if bTotal b < 64 + s then none else splitItems (bItems b) (slice b 64 (bTotal b - 64 - s))

def itemOf (l : List BItem) (t : Nat) : Option Bytes := (l.find? fun i => i.typ == t).map (·.body)

/-- Magic, fmt, sig_alg or a reserved field is wrong. -/
def headBad (b : Bytes) : Bool :=
  !(leAt b 0 4 == 0x43544142) || !(leAt b 4 2 == 1) || decide (2 < bAlg b) || decide (4 ≤ byteAt b 7) || !(leAt b 22 2 == 0) ||
  !(leAt b 46 2 == 0)

/-- The staged Batch: the buffer's first total bytes. -/
def stagedBatch (d : Device) : Bytes :=
  let at_ (i : Nat) : Byte := amGet 0 d.trust.staging i
  let total := leVal ((nats 28 4).map at_)
  (List.range (max 64 (min total batchMax))).map at_

/-! ### Identifiers -/

/-- First 16 bytes of SHA-256 of a key as a SubjectPublicKeyInfo (R364). -/
def keyId (typ : Nat) (pub : Bytes) : Bytes := (sha256 (spki typ pub)).take 16

def ownerId (d : Device) : Bytes := match d.trust.owner with | some (t, k) => keyId t k | none => zeros 16

def claimed (d : Device) : Bool := d.fb F.SEC_STATUS_owner

/-- Member number of the PAIR item in force: the index of the serial that equals its own (R412). -/
def member (d : Device) : Nat := d.fg F.PAIR_CFG_member

def paired (d : Device) : Bool := !d.pair.body.isEmpty

def pairId (d : Device) : Nat := leAt d.pair.body 0 6

/-! ### Banks (R371) -/

def Device.bank (d : Device) (i : Nat) : Bank := amGet Bank.init d.trust.banks i

def Device.setBank (d : Device) (i : Nat) (b : Bank) : Device := { d with trust := { d.trust with banks := amSet Bank.init d.trust.banks i b } }

/-- A valid bank: its commit record matches its contents and it has no void record. -/
def Bank.valid (b : Bank) : Bool :=
  match b.commit with
  | some (seq, h, _) => !b.void && seq == bSeq b.data && h == sha256 b.data
  | none => false

/-- The bank in force: valid, with an applied record, and the higher seq. -/
def bankInForce (d : Device) : Option Nat :=
  let ok (i : Nat) : Bool := (d.bank i).valid && (d.bank i).applied.isSome
  if ok 0 && ok 1 then some (if bSeq (d.bank 0).data < bSeq (d.bank 1).data then 1 else 0)
  else if ok 0 then some 0
  else if ok 1 then some 1
  else none

/-- The Batch in force. -/
def batchInForce (d : Device) : Option Bytes := (bankInForce d).map fun i => (d.bank i).data

/-- Seq and SHA-256 of the Batch in force; zeros if none. -/
def batchIdent (d : Device) : Nat × Bytes := match batchInForce d with | some b => (bSeq b, sha256 b) | none => (0, zeros 32)

/-- The same of the pair-bound Batch in force (R410, R429). -/
def pairBatch (d : Device) : Nat × Bytes := match (batchInForce d).filter bPair with | some b => (bSeq b, sha256 b) | none => (0, zeros 32)

/-- The seq awaiting apply; 0 if none. -/
def batchPending (d : Device) : Nat := match d.trust.pend with | some (i, _) => bSeq (d.bank i).data | none => 0

/-! ### Items -/

/-- R367: a REG_WRITE body as entries of offset, mask and value. -/
def regEntries (b : Bytes) : List (Nat × Nat × Nat) :=
  (chunks 12 b).map fun e => (leAt e 0 4, leAt e 4 4, leAt e 8 4)

/-- R365: a LEAP_TABLE body as expiry and table, in ascending order. -/
def leapItem (b : Bytes) : Nat × List LeapEntry :=
  (leAt b 0 8, sortBy (·.eff) ((chunks 8 (b.drop 8)).filterMap fun e =>
    let hi := leAt e 4 4
    if hi.testBit 31 then some { eff := leAt e 0 4 + 2 ^ 32 * bits hi (F.TB_LEAP_HI_eff_hi 0).lo (F.TB_LEAP_HI_eff_hi 0).len,
                                 taiUtc := bits hi (F.TB_LEAP_HI_tai_utc 0).lo (F.TB_LEAP_HI_tai_utc 0).len }
    else none))

/-- R365: a CERT_CHAIN body as its certificates; none when malformed. -/
def chainCerts : Nat → Bytes → Option (List Bytes)
  | 0, b => if b.isEmpty then some [] else none
  | n + 1, b =>
    let len := leAt b 0 4
    if b.length < 4 + len then none else (chainCerts n (b.drop (4 + len))).map fun l => slice b 4 len :: l

def chainItem (b : Bytes) : Option (List Bytes) :=
  if b.length < 4 ∨ !(slice b 1 3).all (· == 0) then none else chainCerts (byteAt b 0) (b.drop 4)

/-- One DER element: its tag, its content, itself, and what follows. -/
def derOne (b : Bytes) : Option (Nat × Bytes × Bytes × Bytes) :=
  let l := byteAt b 1
  let (n, len) := if l < 128 then (2, l) else if l = 0x81 then (3, beAt b 2 1) else if l = 0x82 then (4, beAt b 2 2) else (b.length + 1, 0)
  if b.length < n + len then none else some (byteAt b 0, slice b n len, b.take (n + len), b.drop (n + len))

/-- The elements of a DER content, n at most. -/
def derList : Nat → Bytes → List (Nat × Bytes × Bytes)
  | 0, _ => []
  | n + 1, b => match derOne b with | some (t, c, w, r) => (t, c, w) :: derList n r | none => []

/-- The SubjectPublicKeyInfo of an X.509 certificate: the element after version, serial, algorithm, issuer, validity and subject. -/
def certSpki (c : Bytes) : Bytes :=
  let cert := ((derOne c).map (·.2.1)).getD []
  let tbs := ((derOne cert).map (·.2.1)).getD []
  let l := derList 8 tbs
  let l := match l with | (0xA0, _) :: t => t | l => l
  ((l[5]?).map (·.2.2)).getD []

def tlsSpki (k : Option TlsKey) : Bytes := match k with | some k => spki k.typ k.pub | none => []

/-- R368: a CERT_CHAIN item's chain is accepted. -/
def chainOk (d : Device) (b : Bytes) : Bool :=
  match chainItem b with
  | some (c :: cs) =>
    let all := c :: cs
    decide (all.length ≤ 4) && decide ((all.foldl (fun n x => n + x.length) 0) ≤ 8192) && !(certSpki c).isEmpty &&
    (certSpki c == tlsSpki d.trust.tlsCur || certSpki c == tlsSpki d.trust.tlsNext)
  | _ => false

/-- R365: the key of an OWNER_CLAIM or OWNER_ROTATE body, its nonce being given. -/
def ownerItem (b : Bytes) : Option (Nat × Bytes) :=
  if b.length < 36 ∨ 2 < byteAt b 0 ∨ !(slice b 1 3).all (· == 0) then none
  else (spkiKey (byteAt b 0) (b.drop 36)).map fun k => (byteAt b 0, k)

/-- R412: a PAIR item's body is accepted. -/
def pairItemOk (b : Bytes) : Bool :=
  let own := Config.serial.toNat
  let s0 := leAt b 12 6
  let s1 := leAt b 120 6
  b.length == 228 && !(leAt b 0 6 == 0) && decide (byteAt b 6 ≤ 1) && decide (byteAt b 7 ≤ 1) && leAt b 10 2 == 0 && leAt b 18 2 == 0 &&
  leAt b 117 3 == 0 && leAt b 126 2 == 0 && leAt b 225 3 == 0 && byteAt b 20 == 4 && byteAt b 128 == 4 && ((s0 == own) != (s1 == own))

/-- R365, R367, R368, R377, R412: an item of a Batch is malformed or refused. -/
def itemBad (d : Device) (claim : Bool) (i : BItem) : Bool :=
  let b := i.body
  !i.padOk ||
  match i.typ with
  | 1 => !(b.length % 12 == 0) || b.isEmpty || decide (4096 * 12 < b.length) || (regEntries b).any fun e => entryBad e.1 e.2.1
  | 2 => decide (b.length < 8) || !(b.length % 8 == 0) || decide (8 + 32 * 8 < b.length) || !(leapCheck d (leapItem b).2 false == 0)
  | 3 => !chainOk d b
  | 4 => !(b.length == 4) || decide (2 < byteAt b 0) || !(slice b 1 3).all (· == 0)
  | 5 => !b.isEmpty
  | 6 => !Config.extOk b
  | 7 => !claim || (ownerItem b).isNone
  | 8 => claim || !b.isEmpty
  | 9 => claim || (ownerItem b).isNone || !(slice b 4 32).all (· == 0)
  | 10 => !pairItemOk b
  | _ => true

/-- A type other than REG_WRITE stands twice. -/
def itemTwice : List BItem → Bool
  | [] => false
  | i :: t => (!(i.typ == 1) && t.any fun j => j.typ == i.typ) || itemTwice t

/-! ### The check (R370) -/

/-- R359: what the claim's check compares besides the signature. -/
def claimOk (d : Device) (l : List BItem) : Bool :=
  let nonce := (nats 0 8).flatMap fun i => beBytes 4 (d.rn (R.SEC_CLAIM_NONCE i))
  !claimed d && d.fb F.SEC_STATUS_claim_armed && !d.trust.claimN && slice ((itemOf l 7).getD []) 4 32 == nonce

/-- The key a Batch must be signed with: the claim's own, or the Owner Key in force. -/
def batchKey (d : Device) (b : Bytes) (l : List BItem) : Option (Nat × Bytes) :=
  if bClaim b then (itemOf l 7).bind ownerItem else d.trust.owner

/-- R366: the signature over all but itself. -/
def batchSigned (b : Bytes) (k : Nat × Bytes) : Bool :=
  let s := sigLen (bAlg b)
  k.1 == bAlg b && sigVerify k.1 k.2 (slice b (bTotal b - s) s) (b.take (bTotal b - s))

/-- R370: the first failure in order, or OK; `more`: what the owning chapters refuse in a list of items. (DEDUCED, log entry 67.) -/
def batchCheck (more : List BItem → Bool) (d : Device) (b : Bytes) : Nat :=
  if headBad b then B.BAD_FORMAT
  else if batchMax < bTotal b then B.TOO_LONG
  else match batchItems b with
    | none => B.BAD_FORMAT
    | some l =>
      if !(if bPair b then paired d && bBind b == pairId d else bBind b == Config.serial.toNat) then B.BIND
      else if bClaim b == claimed d then B.NOT_OWNED
      else match (batchKey d b l).filter fun k => keyId k.1 k.2 == bOwnerId b with
        | none => B.OWNER_ID
        | some k =>
          if !(bEpoch b == d.fg F.SEC_FUSE_EPOCH) then B.EPOCH
          else if !batchSigned b k then B.SIGNATURE
          else if ([0, 1] : List Nat).any fun i => (d.bank i).commit.isSome && decide (bSeq b ≤ bSeq (d.bank i).data) then B.SEQUENCE
          else if l.any (itemBad d (bClaim b)) || itemTwice l || more l then B.ITEM
          else if bClaim b && !claimOk d l then B.CLAIM
          else if bClaim b && decide (32 ≤ d.fg F.SEC_FUSE_EPOCH) then B.FUSE_EXHAUSTED
          else B.OK

/-- R358: the nonce is discarded. -/
def claimDisarm (d : Device) : Device :=
  ((List.range 8).foldl (fun d i => d.wn (R.SEC_CLAIM_NONCE i) 0) d).clr F.SEC_STATUS_claim_armed

/-- The check as a command runs it: SEC_BATCH_RESULT, the count of refusals, the PKE job, and the end of a claim's nonce. -/
def runBatchCheck (more : List BItem → Bool) (d : Device) (b : Bytes) : Nat × Device :=
  let c := batchCheck more d b
  let d := d.fs F.SEC_BATCH_RESULT c
  let d := if c = B.OK then d else d.cnt K.SEC_BATCH_REFUSED
  let d := if c = B.SIGNATURE then pkeAccount d 2 false else if c = B.OK ∨ 8 ≤ c then pkeAccount d 2 true else d
  (c, if bClaim b && !(c == B.BAD_FORMAT) && !(c == B.TOO_LONG) then claimDisarm d else d)

/-! ### Commit (R371, R372) -/

/-- The bank that is not in force. -/
def freeBank (d : Device) : Nat := match bankInForce d with | some 0 => 1 | _ => 0

def setPend (d : Device) (p : Option (Nat × Option Nat)) : Device :=
  ({ d with trust := { d.trust with pend := p } }).fsb F.SEC_STATUS_batch_pending p.isSome

def voidBank (d : Device) (i : Nat) : Device := d.setBank i { d.bank i with void := true }

/-- Write a checked Batch to the free bank and request its apply: the code of R34 and the handle.  Only an accepted request leaves
the bank valid. -/
def commitBatch (d : Device) (b : Bytes) (at_ : Inst) (notify : Bool) (tag : Nat) : Nat × Nat × Device :=
  let i := freeBank d
  let d := d.setBank i { data := b, commit := some (bSeq b, sha256 b, at_), applied := none, void := false }
  let due := if at_ = 0 then d.now + 100000000 * nsU else at_
  let (c, h, d) := request d .batchApply due notify tag
  if c = T.ACCEPTED then (c, h, setPend d (some (i, some h))) else (c, 0, voidBank d i)

/-- R373: a pending apply that was cancelled voids its bank. -/
def batchCancelled (d : Device) : Device :=
  match d.trust.pend with
  | some (i, some h) => if d.sched.pend.any fun e => e.handle == h then d else setPend (voidBank d i) none
  | _ => d

/-- R373: an apply missed while Device Time was invalid is requested again for 1 s after the restore. -/
def batchRestored (d : Device) : Device :=
  match d.trust.pend with
  | some (i, some h) =>
    if d.sched.pend.any fun e => e.handle == h then d
    else
      let (c, h', d) := request d .batchApply (d.now + secU) false 0
      if c = T.ACCEPTED then setPend d (some (i, some h')) else d
  | _ => d

/-! ### Attestation (R378) -/

/-- A byte of a firmware bank. -/
def fwBytes (d : Device) (i off len : Nat) : Bytes := (nats off len).map fun k => amGet 0xFF (amGet FwBank.init d.trust.fw i).cells k

/-- svn, seq and body hash of a bank's image. -/
def fwIdent (d : Device) (i : Nat) : Nat × Nat × Bytes :=
  if (amGet FwBank.init d.trust.fw i).factory then Config.factoryImage
  else let h := fwBytes d i 0 192; (leAt h 6 2, leAt h 8 8, slice h 32 48)

/-- The running image's. -/
def fwRunning (d : Device) : Nat × Nat × Bytes := fwIdent d (d.fg F.SEC_STATUS_fw_bank)

def tlsHash (k : Option TlsKey) : Bytes := match k with | some k => sha256 (spki k.typ k.pub) | none => zeros 32

/-- The signed part of a quote. -/
def quoteBody (d : Device) (nonce : Bytes) : Bytes :=
  let fw := fwRunning d
  let bt := batchIdent d
  let ext := d.fg F.SEC_EXT_STATUS_state
  let fl : Nat := (if ext = 2 then 16 else 0) + (if ext = 1 then 8 else 0) + (if d.rn R.SEC_TAMPER_STATUS % 64 = 0 then 0 else 4) +
    (if d.fb F.TB_STATUS_time_valid then 2 else 0) + (if claimed d then 1 else 0)
  leBytes 4 0x544F5551 ++ leBytes 2 1 ++ leBytes 2 fl ++ leBytes 6 Config.serial.toNat ++ leBytes 2 (d.fg F.GLB_ID_stepping) ++
  padTo 32 (nonce.take 32) ++ dt96Bytes d.now ++ leBytes 2 fw.1 ++ leBytes 2 (d.fg F.SEC_FUSE_SVN) ++ leBytes 8 fw.2.1 ++
  padTo 48 (fw.2.2.take 48) ++ leBytes 4 (d.fg F.SEC_FUSE_EPOCH) ++ leBytes 4 (d.fg F.SEC_FUSE_ZCNT) ++ leBytes 8 bt.1 ++ bt.2 ++
  (if claimed d then ownerId d else zeros 16) ++ leBytes 4 (d.rn R.OVN_STARTER_GEN) ++ tlsHash d.trust.tlsCur ++ tlsHash d.trust.tlsNext ++
  (match d.trust.ext with | some m => sha256 m | none => zeros 32) ++ leBytes 4 (d.rn R.SEC_TAMPER_STATUS) ++ zeros 16

/-- A 400-byte quote over a nonce, signed with the DIK by a requester's PKE job. -/
def quote (d : Device) (nonce : Bytes) (req : Nat) : Bytes × Device :=
  let b := quoteBody d nonce
  let (k, d) := drawScalar p384N d
  let (r, s) := ecdsaSign p384 dikScalar (hashNum p384 (sha384 b)) k
  (b ++ beBytes 48 r ++ beBytes 48 s, pkeAccount d req true)

end Sys2Proof.Machine
end

