-- ==== Sys2Proof/Machine/Gnss.lean ====
section
/-! DEFINITION. The satellite timing receiver (spec/09_gnss.md): channels (R269 to R272), the combination and its corrections
(R273 to R276), position, survey and solution (R277 to R281), T-RAIM (R280), the dual-antenna test (R283, R284), measurement
records (R286 to R288), and snapshots (R289, R290).  Lengths of time inside the solution are rationals in ps. -/

namespace Sys2Proof.Machine

def setGnss (d : Device) (g : Gnss) : Device := { d with gnss := g }

/-- The receiver tracks now: enabled, powered, in TRACK or in a refresh burst, with Device Time valid. -/
def gnssTracks (d : Device) : Bool :=
  d.up .gnss && d.powered 7 && !d.dtInvalid && (!d.gnss.snapMode || d.gnss.burst.isSome)

def sysEnabled (d : Device) (sys : Nat) : Bool :=
  match sys with
  | 0 => d.fb F.GNSS_CTL_gps
  | 1 => d.fb F.GNSS_CTL_gal
  | 2 => d.fb F.GNSS_CTL_bds
  | _ => false

/-- The elevation mask in 0.01°. -/
def gMask (d : Device) : Int := 100 * min 45 (d.fg F.GNSS_SOL_CTL_mask)

def antFault (d : Device) (gb : Bool) : Bool := if gb then d.fb F.GNSS_STATUS_gb_fault else d.fb F.GNSS_STATUS_ga_fault

/-- Reference slots of type GNSS that are enabled. -/
def gnssSlots (d : Device) : List Nat := (List.range 32).filter fun n => refType d n == 1 && refEn d n

/-! ### Channels (R269 to R272) -/

def setChans (d : Device) (l : List (Nat × GChan)) : Device := setGnss d { d.gnss with chans := l }

/-- Channels with a band in lock, and satellites in lock on GA, as GNSS_STATUS shows them. -/
def showChans (d : Device) : Device :=
  let on := d.gnss.chans.filter fun e => e.2.lock1.isSome || e.2.lock5.isSome
  let d := d.fs F.GNSS_STATUS_tracking (min 255 on.length)
  d.fs F.GNSS_STATUS_sats (min 255 (on.filter fun e => !e.2.gb).length)

def releaseChans (d : Device) (p : GChan → Bool) : Device :=
  showChans (setChans d (d.gnss.chans.filter fun e => !p e.2))

/-- The channel of a satellite on an antenna. -/
def chanOf (l : List (Nat × GChan)) (sys svid : Nat) (gb : Bool) : Option (Nat × GChan) :=
  l.find? fun e => e.2.sys == sys && e.2.svid == svid && e.2.gb == gb

/-- Allocate a free channel, unless the satellite has one. -/
def allocChan (l : List (Nat × GChan)) (sys svid : Nat) (gb : Bool) : List (Nat × GChan) :=
  if (chanOf l sys svid gb).isSome then l
  else
    match (List.range 192).find? fun k => !(l.any fun e => e.1 == k) with
    | some k => amIns l k { GChan.init with sys, svid, gb }
    | none => l

/-- Every satellite of R264. -/
def allSats : List (Nat × Nat) :=
  (nats 1 32).map (fun (v : Nat) => (0, v)) ++ (nats 1 36).map (fun (v : Nat) => (1, v)) ++ (nats 19 45).map fun (v : Nat) => (2, v)

/-- R283: the dual-antenna test runs. -/
def baseLen2 (d : Device) : Int := (List.range 3).foldl (fun a k => a + d.rs (R.GNSS_BASE k) * d.rs (R.GNSS_BASE k)) 0
def spoofRuns (d : Device) : Bool :=
  d.fb F.GNSS_SPOOF_CTL_en && !antFault d true && decide (250000 ≤ baseLen2 d) && decide (baseLen2 d ≤ 10000000000)

/-- R269: channels for the satellites that held data place, in order, then search channels. -/
def xGnssChannelAlloc (sky : List SatView) (d : Device) : Device :=
  if ¬ gnssTracks d ∨ d.nowSec ≤ d.gnss.allocSec then d
  else
    let d := setGnss d { d.gnss with allocSec := d.nowSec }
    let lim := gMask d - 500
    let viewOf (c : GChan) : Option SatView := sky.find? fun v => v.sys == c.sys && v.svid == c.svid
    let d := releaseChans d fun c =>
      match viewOf c with | some v => decide (v.elev ≤ (if c.gb then gMask d else lim)) | none => false
    let sky := sky.filter fun v => sysEnabled d v.sys
    let l := d.gnss.chans
    let l := if antFault d false || !d.fb F.GNSS_PORT_CTL_ga_en then l
      else (sky.filter fun v => decide (lim < v.elev)).foldl (fun l v => allocChan l v.sys v.svid false) l
    let cap := min 96 (d.fg F.GNSS_CHAN_CTL_gb_max)
    let l := if !spoofRuns d || !d.fb F.GNSS_PORT_CTL_gb_en then l
      else (sky.filter fun v => decide (gMask d < v.elev)).foldl (fun l v =>
        if (l.filter (·.2.gb)).length < cap then allocChan l v.sys v.svid true else l) l
    let l := if antFault d false || !d.fb F.GNSS_PORT_CTL_ga_en then l
      else (allSats.filter fun s => sysEnabled d s.1 && !(sky.any fun v => v.sys == s.1 && v.svid == s.2)).foldl
        (fun l s => allocChan l s.1 s.2 false) l
    showChans (setChans d l)

/-- R270: a detection above the threshold hands the satellite to its channel. -/
def xGnssAcqDetect (sys svid : Nat) (gb : Bool) (cn0 : Nat) (d : Device) : Device :=
  match chanOf d.gnss.chans sys svid gb with
  | some (k, c) =>
    if gnssTracks d ∧ ¬ c.acquired ∧ d.fg F.GNSS_ACQ_CTL_thr < cn0 then
      setChans d (amIns d.gnss.chans k { c with acquired := true, outAt := some d.tm.osc })
    else d
  | none => d

/-- R272: a channel whose bands have both been out of lock for 2 s is released. -/
def xGnssChannelRelease (ch : Nat) (d : Device) : Device :=
  match d.gnss.chans.find? fun e => e.1 == ch with
  | some (_, c) =>
    match c.outAt with
    | some t => if c.acquired ∧ t + 1600000000 ≤ d.tm.osc then showChans (setChans d (amDel d.gnss.chans ch)) else d
    | none => d
  | none => d

/-! ### Antennas, levels and clock (R267, R268) -/

/-- R268: GA_ANT_FLT_N (or GB) goes low. -/
def xGnssAntFault (gb : Bool) (d : Device) : Device :=
  if antFault d gb then d
  else
    let d := d.set1 (if gb then F.GNSS_STATUS_gb_fault else F.GNSS_STATUS_ga_fault)
    releaseChans ((d.pulse S.GNSS_ANT).ledger L.antFault (if gb then 1 else 0) 0 0) fun c => c.gb == gb

/-- R268: the input returns high. -/
def xGnssAntFaultEnd (gb : Bool) (d : Device) : Device := d.clr (if gb then F.GNSS_STATUS_gb_fault else F.GNSS_STATUS_ga_fault)

/-- R268: rms in 1/32 code step and clipped fraction in 1/256, of GA band 1, GA band 5, GB band 1, GB band 5. -/
def xGnssLevelCheck (rms clip : List Nat) (d : Device) : Device :=
  if ¬ d.up .gnss ∨ d.dtInvalid ∨ rms.length ≠ 4 ∨ clip.length ≠ 4 then d
  else
    let word (l : List Nat) : Nat := leVal (l.map fun v => BitVec.ofNat 8 (min 255 v))
    let d := (d.wn R.GNSS_LEVEL (word rms)).wn R.GNSS_CLIP (word clip)
    let used (k : Nat) : Bool := if k < 2 then d.fb F.GNSS_PORT_CTL_ga_en else d.fb F.GNSS_PORT_CTL_gb_en
    let bad := (List.range 4).any fun k =>
      used k && (decide (rms.getD k 32 < 32) || decide (128 < rms.getD k 32) || decide (512 < 100 * clip.getD k 0))
    if bad then d.set1 F.GNSS_STATUS_level_alarm else d

/-- R267: a GNSS_SCLK edge is measured by the probe, `err` ps from its instant. (DEDUCED, log entry 38.) -/
def xGnssClockCheck (err : Int) (d : Device) : Device :=
  if probeValid d ∧ d.powered 7 ∧ ¬ d.dtInvalid then d.fsb F.GNSS_STATUS_clk_ok (decide (err.natAbs ≤ 50)) else d

/-! ### Position and survey (R277, R278) -/

/-- The position in force, mm ECEF. -/
def posOf (d : Device) (a : Nat) : Int := signed 40 (d.rn (R.GNSS_POS_LO a) + 2 ^ 32 * d.fg (F.GNSS_POS_HI a))

def setPos (d : Device) (a : Nat) (v : Int) : Device :=
  let u := unsigned 40 v
  (d.wn (R.GNSS_POS_LO a) (u % 2 ^ 32)).fs (F.GNSS_POS_HI a) (u / 2 ^ 32)

def posSrc (d : Device) : Nat := d.fg F.GNSS_SOL_STATUS_pos_src

def posHold (d : Device) : Bool := posSrc d == 2 || posSrc d == 3

def surveyDur (d : Device) : Nat := clamp 600 604800 (d.fg F.GNSS_SURVEY_dur)

/-- A survey begins. -/
def surveyBegin (d : Device) : Device :=
  let before := if posSrc d = 1 then d.gnss.before else posSrc d
  (setGnss d { d.gnss with before, sumX := 0, sumY := 0, sumZ := 0, sumSq := 0 }).fs F.GNSS_SOL_STATUS_pos_src 1
    |>.wn R.GNSS_SURVEY_STATUS 0

/-- R278: a write of 1 to start. -/
def xGnssSurveyStart (d : Device) : Device := surveyBegin d

/-- R278: a write of 1 to abort. (DEDUCED, log entry 39.) -/
def xGnssSurveyAbort (d : Device) : Device :=
  if posSrc d = 1 then d.fs F.GNSS_SOL_STATUS_pos_src d.gnss.before else d

/-- σ² of the mean of a survey of `n` epochs. -/
def surveyVarOf (g : Gnss) (n : Nat) : Rat :=
  if n < 2 then 0
  else (g.sumSq - (g.sumX * g.sumX + g.sumY * g.sumY + g.sumZ * g.sumZ) / (n : Rat)) / ((n * (n - 1) : Nat) : Rat)

def sqrtNat (q : Rat) : Nat := isqrt q.floor.toNat

/-- One contributing epoch, and the completion after `dur` of them. -/
def surveyEpoch (d : Device) (x y z : Rat) : Device :=
  let g := d.gnss
  let n := d.fg F.GNSS_SURVEY_STATUS_epochs + 1
  let g := { g with sumX := g.sumX + x, sumY := g.sumY + y, sumZ := g.sumZ + z, sumSq := g.sumSq + x * x + y * y + z * z }
  let var := surveyVarOf g n
  let cm := (sqrtNat var + 9) / 10
  let d := ((setGnss d g).fs F.GNSS_SURVEY_STATUS_epochs n).fs F.GNSS_SURVEY_STATUS_sigma (min 255 cm)
  if surveyDur d ≤ n then
    let mean (v : Rat) : Int := roundQ (v / (n : Rat))
    let d := setPos (setPos (setPos d 0 (mean g.sumX)) 1 (mean g.sumY)) 2 (mean g.sumZ)
    let d := (setGnss d { d.gnss with surveyVar := var }).fs F.GNSS_SOL_STATUS_pos_src 2
    (d.pulse S.GNSS_SURVEY).ledger L.survey 0 cm 0
  else d

/-! ### Calibration commit (R275, R276) -/

/-- R275: the staged values come into force at the next epoch. -/
def xGnssCalCommit (d : Device) : Device := setGnss d { d.gnss with commit := true }

/-- The commit at its epoch. -/
def calCommitNow (d : Device) : Device :=
  let st := d.gnss.staged
  let moved := st.any fun e => decide (R.GNSS_POS_LO 0 ≤ e.1) && decide (e.1 ≤ R.GNSS_POS_HI 2)
  let d := st.foldl (fun d e => d.wr e.1 e.2) (setGnss d { d.gnss with staged := [], commit := false })
  let d :=
    if !moved then d
    else if (List.range 3).all fun a => posOf d a == 0 then
      let d := d.fs F.GNSS_SOL_STATUS_pos_src 0
      if d.fb F.GNSS_SURVEY_auto then surveyBegin d else d
    else d.fs F.GNSS_SOL_STATUS_pos_src 3
  (d.ledger L.calCommit 0 0 0).cnt K.GNSS_CAL_COMMIT

/-! ### The combination (R273 to R275) -/

def gamma1 : Rat := 23716 / 10491
def gamma5 : Rat := 13225 / 10491

/-- ps of a length in 2^-16 ns. -/
def subToPs (v : Int) : Rat := (v : Rat) * 1000 / 65536

/-- P_IF in ps, with the antenna's declared delays taken off. -/
def pIf (d : Device) (gb : Bool) (m : GnssMeas) : Rat :=
  let k := if gb then 2 else 0
  gamma1 * (subToPs m.pr1 - (d.rs (R.GNSS_DLY k) : Rat)) - gamma5 * (subToPs m.pr5 - (d.rs (R.GNSS_DLY (k + 1)) : Rat))

/-- The carrier's combination in ps. -/
def carrierIf (m : GnssMeas) : Rat :=
  gamma1 * ((m.cp1 : Rat) / 65536 * 1000000 / 157542 * 100) - gamma5 * ((m.cp5 : Rat) / 65536 * 1000000 / 117645 * 100)

/-- A band in lock (R272). -/
def bandLock (pli cn : Nat) : Bool := decide (800 < pli) && decide (100 < cn)

/-- A slip: a jump of more than 0.25 cycle. -/
def bandSlip (jump : Int) : Bool := decide (16384 < jump.natAbs)

/-- Lock time of a band at the next epoch. -/
def lockNext (old : Option Nat) (on slip : Bool) : Option Nat :=
  if !on then none else if slip then some 0 else match old with | some k => some (min 65535 (k + 1)) | none => some 0

/-- An epoch's measurement on its channel: locks, slips and smoothing. -/
def chanEpoch (d : Device) (m : GnssMeas) : Device :=
  match d.gnss.chans.find? fun e => e.1 == m.chan && e.2.acquired with
  | none => d
  | some (k, c) =>
    let on1 := bandLock m.pli1 m.cn1
    let on5 := bandLock m.pli5 m.cn5
    let s1 := c.lock1.isSome && bandSlip m.jump1
    let s5 := c.lock5.isSome && bandSlip m.jump5
    let car := carrierIf m
    let n := if on1 && on5 && !s1 && !s5 && 0 < c.smoothN then min (max 1 (d.fg F.GNSS_SOL_CTL_smooth)) (c.smoothN + 1) else 1
    let p := pIf d c.gb m
    let smooth := if n = 1 then p else p / (n : Rat) + ((n : Rat) - 1) / (n : Rat) * (c.smooth + (car - c.carrier))
    let outAt := if on1 || on5 then none else some (c.outAt.getD d.tm.osc)
    let c := { c with lock1 := lockNext c.lock1 on1 s1, lock5 := lockNext c.lock5 on5 s5, outAt,
                      smoothN := if on1 && on5 then n else 0, smooth, carrier := car }
    let d := d.cntN K.GNSS_SLIP ((if s1 then 1 else 0) + if s5 then 1 else 0)
    let d := setChans d (amIns d.gnss.chans k c)
    if m.fresh then
      setGnss d { d.gnss with
        eph := (d.gnss.eph.filter fun e => !(e.1 == c.sys && e.2.1 == c.svid)) ++ [(c.sys, c.svid, d.nowSec)] }
    else d

/-! ### Least squares (R279) -/

/-- Subtract a multiple of a row. -/
def rowSub (r p : List Rat) (f : Rat) : List Rat := r.zipWith (fun a b => a - f * b) p

/-- Gauss–Jordan on augmented rows, column by column. -/
def gauss : Nat → Nat → List (List Rat) → List (List Rat) → Option (List (List Rat))
  | 0, _, rows, done => if rows.isEmpty then some done else none
  | n + 1, k, rows, done =>
    match rows.find? fun r => !(r.getD k 0 == 0) with
    | none => none
    | some p =>
      let p := p.map fun a => a / p.getD k 0
      let rest := (rows.eraseIdx ((rows.findIdx? fun r => !(r.getD k 0 == 0)).getD 0)).map fun r => rowSub r p (r.getD k 0)
      gauss n (k + 1) rest (done.map (fun r => rowSub r p (r.getD k 0)) ++ [p])

/-- A used satellite's equation: its coefficients, its value and its deviation, in ps. -/
structure Eqn where
  coef : List Rat
  val : Rat
  sigma : Rat

/-- Weighted least squares: the unknowns and the first unknown's variance. -/
def wls (n : Nat) (es : List Eqn) : Option (List Rat × Rat) :=
  let w (e : Eqn) : Rat := 1 / (e.sigma * e.sigma)
  let nm (i j : Nat) : Rat := es.foldl (fun a e => a + w e * e.coef.getD i 0 * e.coef.getD j 0) 0
  let rhs (i : Nat) : Rat := es.foldl (fun a e => a + w e * e.coef.getD i 0 * e.val) 0
  let rows := (List.range n).map fun i => (List.range n).map (nm i) ++ [rhs i, if i = 0 then 1 else 0]
  (gauss n 0 rows []).map fun r => (r.map fun x => x.getD n 0, (r.getD 0 []).getD (n + 1) 0)

/-! ### The solution (R279 to R281) -/

/-- A satellite as the solution takes it. -/
structure GSat where
  sys : Nat
  svid : Nat
  m : GnssMeas
  p : Rat

/-- A solution's outcome. -/
structure GSol where
  valid : Bool
  /-- The receiver's offset, Device Time minus system time, in ps, and its variance. -/
  off : Rat
  var : Rat
  used : List (GSat × Rat)
  nExcl : Nat
  integrity : Nat
  z : Rat
  isb : List (Nat × Rat)
  pos : Option (Rat × Rat × Rat)

/-- mm per ps of light. -/
def cMm : Rat := 299792458 / 1000000000

/-- Line of sight toward the satellite. -/
def losOf (m : GnssMeas) (k : Nat) : Rat := ((if k = 0 then m.losX else if k = 1 then m.losY else m.losZ) : Rat) / 1000000000
def orgOf (m : GnssMeas) (k : Nat) : Int := if k = 0 then m.orgX else if k = 1 then m.orgY else m.orgZ

/-- The systems other than the reference with at least 2 satellites: their offsets are unknowns. -/
def offSystems (ref : Nat) (l : List GSat) : List Nat :=
  (List.range 3).filter fun s => s ≠ ref && decide (2 ≤ (l.filter fun g => g.sys == s).length)

/-- A satellite's equation. -/
def eqnOf (d : Device) (ref : Nat) (offs : List Nat) (isb : Nat → Option Rat) (g : GSat) : Eqn :=
  let hold := posHold d
  let moved : Rat := if hold then (List.range 3).foldl (fun a k => a + losOf g.m k * ((posOf d k - orgOf g.m k : Int) : Rat)) 0 / cMm else 0
  let known : Rat := if g.sys = ref ∨ offs.contains g.sys then 0 else (isb g.sys).getD 0
  { coef := 1 :: offs.map (fun (s : Nat) => if s = g.sys then (1 : Rat) else 0) ++
      (if hold then [] else (List.range 3).map fun k => -(losOf g.m k) / cMm),
    val := g.p - (g.m.pred : Rat) + moved - known,
    sigma := Config.gnssSigma g.sys g.m.elev g.m.cn1 g.m.cn5 }

/-- Fit the satellites: the unknown systems, the unknowns, the variance of the offset, the residuals. -/
def fitSats (d : Device) (ref : Nat) (isb : Nat → Option Rat) (l : List GSat) :
    List GSat × List Nat × Option (List Rat × Rat) × List (GSat × Rat × Rat) :=
  let offs := offSystems ref l
  let l := l.filter fun g => g.sys == ref || offs.contains g.sys || (isb g.sys).isSome
  let es := l.map fun g => (g, eqnOf d ref offs isb g)
  let n := 1 + offs.length + if posHold d then 0 else 3
  let sol := wls n (es.map (·.2))
  let res := match sol with
    | some (x, _) => es.map fun (e : GSat × Eqn) => (e.1, e.2.val - (e.2.coef.zipWith (· * ·) x).foldl (· + ·) 0, e.2.sigma)
    | none => []
  (l, offs, sol, res)

/-- The largest element by a rational key. -/
def maxBy {α : Type} (key : α → Rat) : List α → Option α
  | [] => none
  | a :: t => match maxBy key t with | none => some a | some b => if key b ≤ key a then some a else some b

/-- R280: fit, and exclude the worst satellite until integrity is decided; the satellites left out are the second component. -/
def tRaim (d : Device) (ref : Nat) (isb : Nat → Option Rat) : Nat → List GSat → List GSat → GSol × List GSat
  | fuel, l, out =>
    let (u, offs, sol, res) := fitSats d ref isb l
    let n := 1 + offs.length + if posHold d then 0 else 3
    let x := (sol.map (·.1)).getD []
    let var := (sol.map (·.2)).getD 0
    let worst := maxBy (fun (e : GSat × Rat × Rat) => absQ e.2.1 / e.2.2) res
    let z := match worst with | some e => absQ e.2.1 / e.2.2 | none => 0
    let ans (i : Nat) : GSol :=
      { valid := decide (n ≤ u.length) && sol.isSome && decide (var ≤ 100000 * 100000), off := x.getD 0 0, var,
        used := res.map fun (e : GSat × Rat × Rat) => (e.1, e.2.1), nExcl := out.length, integrity := i, z,
        isb := offs.zip (x.drop 1),
        pos := if posHold d then none
          else match u.head? with
            | some g => some (x.getD (1 + offs.length) 0 + (orgOf g.m 0 : Rat), x.getD (2 + offs.length) 0 + (orgOf g.m 1 : Rat),
                              x.getD (3 + offs.length) 0 + (orgOf g.m 2 : Rat))
            | none => none }
    let alarm := res.any fun e => decide ((d.fg F.GNSS_RAIM_alarm * 1000 : Nat) < absQ e.2.1)
    if u.length < n + 2 then (ans 0, out)
    else if z * 10 ≤ (d.fg F.GNSS_RAIM_k : Rat) then (ans (if alarm then 2 else 1), out)
    else
      match fuel, worst with
      | k + 1, some e => tRaim d ref isb k (u.filter fun g => !(g.sys == e.1.sys && g.svid == e.1.svid)) (out ++ [e.1])
      | _, _ => (ans 2, out)

/-- The satellites the solution of a src may use (R279). -/
def usable (d : Device) (src : Nat) (ms : List GnssMeas) : List GSat :=
  ms.filterMap fun m =>
    match d.gnss.chans.find? fun e => e.1 == m.chan && e.2.acquired with
    | some (_, c) =>
      if !c.gb && c.lock1.isSome && c.lock5.isSome && decide (gMask d ≤ m.elev) &&
          decide (4 * d.fg F.GNSS_SOL_CTL_cn0_min ≤ min m.cn1 m.cn5) && m.eph && sysEnabled d c.sys &&
          (src == 0 || src == c.sys + 1) &&
          !(d.gnss.excl.any fun e => e.1 == src && e.2.1 == c.sys && e.2.2.1 == c.svid && decide (d.nowSec < e.2.2.2)) then
        some { sys := c.sys, svid := c.svid, m, p := if d.fg F.GNSS_SOL_CTL_smooth = 0 then pIf d c.gb m else c.smooth }
      else none
    | none => none

/-- The reference system of a src. -/
def refSys (d : Device) (src : Nat) : Nat :=
  if src = 0 then (let t := d.fg F.GNSS_SOL_CTL_tsys; if t = 3 then 0 else t) else min 2 (src - 1)

/-- Broadcast offsets with GNSS_ISB_GAL or GNSS_ISB_BDS added. -/
def isbOf (d : Device) (gal bds : Option Int) (s : Nat) : Option Rat :=
  match s with
  | 1 => gal.map fun v => (v : Rat) + (d.rs (R.GNSS_ISB 0) : Rat)
  | 2 => bds.map fun v => (v : Rat) + (d.rs (R.GNSS_ISB 1) : Rat)
  | _ => none

/-- The solution of a src. -/
def solve (d : Device) (src : Nat) (ms : List GnssMeas) (gal bds : Option Int) : GSol × List GSat :=
  if posSrc d = 0 then
    ({ valid := false, off := 0, var := 0, used := [], nExcl := 0, integrity := 0, z := 0, isb := [], pos := none }, [])
  else tRaim d (refSys d src) (isbOf d gal bds) (d.fg F.GNSS_RAIM_max_excl) (usable d src ms) []

/-- x of a solution in 2^-16 ns, before REFn_DELAY; `utc` is the broadcast prediction of UTC(k) − UTC. -/
def xOf (d : Device) (s : GSol) (utc : Int) : Int :=
  roundQ (-s.off * 65536 / 1000) + (if d.fb F.GNSS_SOL_CTL_utc_steer && d.fb F.TB_STATUS_utc_valid then utc else 0)

/-- R281: the receiver's own error, in ps. -/
def eRx (d : Device) (s : GSol) : Nat :=
  2 * sqrtNat s.var + d.rn R.GNSS_CAL_UNC + (if posSrc d = 2 then ((sqrtNat d.gnss.surveyVar : Rat) / cMm).ceil.toNat else 0)

def spoofState (d : Device) : Nat := d.fg F.GNSS_SPOOF_STATUS_state

/-- R281, R232: the rank of a solution. -/
def solRank (d : Device) (s : GSol) : Nat :=
  if !s.valid || s.integrity == 2 || spoofState d == 3 then 15
  else if posHold d && s.integrity == 1 && spoofState d == 2 then 1
  else 3

/-! ### Captures (R290) -/

/-- Length in ms. -/
def snapLen (d : Device) : Nat := clamp 1 64 (d.fg F.GNSS_SNAP_CTL_len)

/-- The first sample instant at or after an instant: the grid of 61.38 MHz counted from the second. (DEDUCED, log entry 37.) -/
def sampleAt (t : Inst) : Inst :=
  let k := (t % secU * 61380000 + secU - 1) / secU
  t / secU * secU + k * secU / 61380000

/-- A capture begins. -/
def captureBegin (d : Device) (trigger handle len : Nat) : Device :=
  let a := d.fb F.GNSS_PORT_CTL_ga_en && !antFault d false
  let b := d.fb F.GNSS_PORT_CTL_gb_en && !antFault d true
  let c : Capture := { trigger, handle, start := sampleAt d.now, len, streams := (if a then 3 else 0) + if b then 12 else 0 }
  (setGnss d { d.gnss with caps := d.gnss.caps ++ [c] }).set1 F.GNSS_STATUS_snap_busy

/-- The 64-byte header. -/
def captureHead (d : Device) (c : Capture) : Bytes :=
  leBytes 1 0x30 ++ leBytes 1 c.len ++ leBytes 1 (c.streams + 16 * c.trigger) ++ zeros 1 ++ leBytes 4 c.handle ++
  dt96Bytes c.start ++ leBytes 4 (c.len * 61380) ++ leBytes 4 (d.rn R.GNSS_IF_B1) ++ leBytes 4 (d.rn R.GNSS_IF_B5) ++ zeros 32

/-- Deliver the captures of P_SNAP into the posted buffers, oldest first (R458, R459). -/
def snapFlow : Nat → Device → Device
  | 0, d => d
  | fuel + 1, d =>
    let n := d.fg F.GNSS_MEAS_CTL_ring
    match d.gnss.snaps with
    | [] => d
    | s :: rest =>
      if !recordOpen d n 7 || !ringMoves d n then d
      else if s.sent = 0 then
        let d := if (d.ring n).part.isEmpty then d else closeBuf d n 0 false
        if (d.ring n).posted.isEmpty then d
        else
          let d := d.setRing n { d.ring n with part := s.head, partRecs := 1, partFirst := true, partStart := some d.tm.osc }
          snapFlow fuel (setGnss d { d.gnss with snaps := { s with sent := 64 } :: rest })
      else
        let cap := ((d.ring n).posted.head?.map (·.len)).getD 0
        let chunk := slice s.data (s.sent - 64) (cap - (d.ring n).part.length)
        let sent := s.sent + chunk.length
        let d := d.setRing n { d.ring n with part := (d.ring n).part ++ chunk }
        let last := decide (s.data.length + 64 ≤ sent)
        let d := closeBuf d n 0 last
        snapFlow fuel (setGnss d { d.gnss with snaps := if last then rest else { s with sent } :: rest })

/-- Deliver as far as the ring takes. -/
def snapDeliver (d : Device) : Device := snapFlow (2 * (d.ring (d.fg F.GNSS_MEAS_CTL_ring)).posted.length + d.gnss.snaps.length) d

/-- DROP_OLDEST of P_SNAP: free the oldest captures until `k` cells fit. -/
def snapRoom : Nat → Device → Nat → Device
  | 0, d, _ => d
  | fuel + 1, d, k =>
    if poolRoom d 5 k then d
    else match d.gnss.snaps with
      | [] => d
      | _ :: rest => snapRoom fuel (poolDrop (setGnss d { d.gnss with snaps := rest }) 5) k

/-- R290: a capture in progress has taken its `len` ms; `samples` are its sample bytes, in the order of R290. -/
def xGnssCaptureComplete (samples : Bytes) (d : Device) : Device :=
  match d.gnss.caps with
  | [] => d
  | c :: rest =>
    if d.dtInvalid ∨ d.now < c.start + c.len * 1000000 * nsU then d
    else
      let keep (i : Nat) : Bool := c.streams.testBit (i % 4)
      let data := (samples.zip (List.range samples.length)).map fun (e : Byte × Nat) => if keep e.2 then e.1 else 0
      let k := cellsOf (c.len * 245520 + 64)
      if poolPolicy d 5 = 2 ∧ ¬ poolRoom d 5 k then poolStall d 5 else
      let s : Snap := { head := captureHead d c, data, sent := 0, size := c.len * 245520 + 64 }
      let d := (setGnss d { d.gnss with caps := rest }).fsb F.GNSS_STATUS_snap_busy (!rest.isEmpty)
      let d := if poolPolicy d 5 = 1 then snapRoom (d.gnss.snaps.length + 1) d k else d
      if poolRoom d 5 (cellsOf s.size) then snapDeliver (setGnss d { d.gnss with snaps := d.gnss.snaps ++ [s] })
      else poolDrop d 5

/-- R290: the CAPTURE op. (DEDUCED, log entry 41.) -/
def xGnssCaptureRequest (d : Device) : Device :=
  let (c, h, d) := request d (.gnssCapture (snapLen d)) (ofDt96 (d.rn3 (R.GNSS_SNAP_AT_W 0))) false 0
  (d.fs F.GNSS_SNAP_RESULT c).wn R.GNSS_SNAP_HANDLE h

def isCapture (a : Act) : Bool := match a with | .gnssCapture _ => true | _ => false

/-- R296: the cancel bit. -/
def xGnssCaptureCancel (d : Device) : Device :=
  let (c, d) := cancelAct d (d.rn R.GNSS_SNAP_HANDLE) isCapture
  d.fs F.GNSS_SNAP_RESULT c

/-- R290: a host capture's instant. -/
def xGnssCaptureExecute (d : Device) : Device :=
  match dueOf d isCapture with
  | some e =>
    match e.act with
    | .gnssCapture len =>
      if d.up .gnss then captureBegin (endAct d e (doneCode e)) 0 e.handle len else endAct d e T.FLUSHED
    | _ => d
  | none => d

/-! ### The dual-antenna test (R283, R284) -/

/-- Wrap to [−0.5, 0.5). -/
def wrapQ (q : Rat) : Rat := q - ((q + 1 / 2).floor : Rat)

def meanSq (l : List Rat) : Rat := if l.isEmpty then 0 else l.foldl (fun a x => a + x * x) 0 / (l.length : Rat)

/-- Residuals of the test by GA channel: N, rho², single, and r_i. -/
def spoofTest (d : Device) (ms : List GnssMeas) : Nat × Rat × Bool × List (Nat × Rat) :=
  let held (c : GChan) : Bool := match c.lock1 with | some k => decide (10 ≤ k) | none => false
  let pairs := ms.filterMap fun m =>
    match d.gnss.chans.find? fun e => e.1 == m.chan && !e.2.gb with
    | some (_, c) =>
      match chanOf d.gnss.chans c.sys c.svid true with
      | some (kb, cb) =>
        match ms.find? fun x => x.chan == kb with
        | some mb =>
          if held c && held cb && decide (gMask d ≤ m.elev) then
            let dot := (List.range 3).foldl (fun a k => a + losOf m k * (d.rs (R.GNSS_BASE k) : Rat)) 0
            some (m.chan, ((mb.cp1 - m.cp1 : Int) : Rat) / 65536, dot * 1000 / 190294)
          else none
        | none => none
      | none => none
    | none => none
  let bias (l : List Rat) : Rat := Config.lineBias l
  let dl := pairs.map fun (e : Nat × Rat × Rat) => e.2.1 - e.2.2
  let raw := pairs.map fun (e : Nat × Rat × Rat) => e.2.1
  let geo := pairs.map fun (e : Nat × Rat × Rat) => e.2.2
  let r := dl.map fun x => wrapQ (x - bias dl)
  let s := raw.map fun x => wrapQ (x - bias raw)
  let g := geo.map fun x => wrapQ (x - bias geo)
  let thr : Rat := (d.fg F.GNSS_SPOOF_CTL_ss_thr : Rat) / 256
  (pairs.length, meanSq r, decide (meanSq s ≤ thr * thr) && decide (1 / 16 ≤ meanSq g), (pairs.map (·.1)).zip r)

/-- One epoch of the test. -/
def spoofStep (d : Device) (n : Nat) (rho2 : Rat) (single : Bool) : Device :=
  let st := spoofState d
  let setSt (d : Device) (k : Nat) : Device := d.fs F.GNSS_SPOOF_STATUS_state k
  let d := (d.fs F.GNSS_SPOOF_STATUS_n (min 255 n)).fs F.GNSS_SPOOF_STATUS_rho (min 65535 (sqrtNat (rho2 * 4294967296)))
  if !spoofRuns d then
    let d := setGnss d { d.gnss with passRun := 0, failRun := 0 }
    if st = 3 then d else setSt d 0
  else
    let p : Rat := (d.fg F.GNSS_SPOOF_CTL_pass_thr : Rat) / 256
    let f : Rat := (d.fg F.GNSS_SPOOF_CTL_fail_thr : Rat) / 256
    let good := decide (4 ≤ n) && decide (rho2 ≤ p * p)
    let pass := good && !single
    let bad := decide (4 ≤ n) && (decide (f * f < rho2) || single)
    let pr := if pass then d.gnss.passRun + 1 else 0
    let fr := if bad then d.gnss.failRun + 1 else 0
    let d := setGnss d { d.gnss with passRun := pr, failRun := fr }
    if st = 3 then (if 60 ≤ pr then setGnss (setSt d 1) { d.gnss with passRun := 0, failRun := 0 } else d)
    else if 3 ≤ fr then
      let d := (setSt d 3).set1 F.GNSS_SPOOF_STATUS_alarm
      let d := if single then d.set1 F.GNSS_SPOOF_STATUS_single else d
      let d := setGnss d { d.gnss with passRun := 0 }
      let d := (d.pulse S.GNSS_SPOOF).ledger L.spoofFail 0 (sqrtNat (rho2 * 4294967296)) 0
      if d.fb F.GNSS_SNAP_CTL_forensic then captureBegin d 2 0 (snapLen d) else d
    else if 10 ≤ pr then setSt d 2
    else if st = 2 ∧ good then d
    else if st = 2 ∨ st = 0 then setSt d 1
    else d

/-! ### Measurement records (R286 to R288) -/

/-- R287: the header record. -/
def measHead (d : Device) (nm : Nat) (s : GSol) (x : Int) (rho : Nat) : Bytes :=
  let isb (k : Nat) : Nat := unsigned 32 (satS 32 (roundQ (((s.isb.find? fun e => e.1 == k).map (·.2)).getD (d.rs (R.GNSS_ISB (k - 1)) : Rat))))
  leBytes 1 0x20 ++ leBytes 1 nm ++ leBytes 2 d.gnss.seq ++ dt96Bytes (d.nowSec * secU) ++ leBytes 8 (unsigned 64 x) ++
  leBytes 4 (isb 1) ++ leBytes 4 (isb 2) ++ leBytes 4 (satU 32 (eRx d s)) ++ leBytes 1 s.used.length ++ leBytes 1 s.nExcl ++
  leBytes 1 (posSrc d * 64 + s.integrity * 16 + refSys d 0 * 4 + (if s.valid then 2 else 0)) ++
  leBytes 1 (spoofState d * 64) ++ leBytes 2 rho ++ leBytes 2 (satU 16 (roundQ (s.z * 100)).toNat) ++
  leBytes 4 (satU 32 (sqrtNat s.var)) ++ zeros 16

/-- R288: a measurement record. -/
def measRecord (d : Device) (c : GChan) (m : GnssMeas) (s : GSol) (out : List GSat) (sp : List (Nat × Rat)) : Bytes :=
  let b (x : Bool) (k : Nat) : Nat := if x then 2 ^ k else 0
  let used := s.used.find? fun e => e.1.m.chan == m.chan
  let r := sp.find? fun e => e.1 == m.chan
  leBytes 1 0x21 ++ leBytes 1 c.sys ++ leBytes 1 c.svid ++
  leBytes 1 (b c.gb 7 + b used.isSome 6 + b (out.any fun g => g.m.chan == m.chan) 5 + b (bandSlip m.jump1) 4 +
    b (bandSlip m.jump5) 3 + b c.lock5.isSome 2 + b c.lock1.isSome 1 + b r.isSome 0) ++
  leBytes 2 d.gnss.seq ++ leBytes 1 m.cn1 ++ leBytes 1 m.cn5 ++ leBytes 8 (unsigned 64 m.pr1) ++ leBytes 8 (unsigned 64 m.pr5) ++
  leBytes 8 (unsigned 64 m.cp1) ++ leBytes 8 (unsigned 64 m.cp5) ++ leBytes 4 (unsigned 32 m.dop1) ++
  leBytes 4 (unsigned 32 m.dop5) ++ leBytes 2 (c.lock1.getD 0) ++ leBytes 2 (c.lock5.getD 0) ++ leBytes 2 (unsigned 16 m.elev) ++
  leBytes 2 m.azim ++ leBytes 4 (unsigned 32 (match used with | some e => satS 32 (roundQ e.2) | none => 0)) ++
  leBytes 2 (unsigned 16 (match r with | some e => satS 16 (roundQ (e.2 * 65536)) | none => 0)) ++ zeros 2

/-- Put records on a ring, all or none. -/
def putAll (d : Device) (n c : Nat) : List Bytes → Option Device
  | [] => some d
  | r :: t => let (ok, d) := putRecord d n c r false; if ok then putAll d n c t else none

/-- R286: the epoch's records. -/
def measSend (d : Device) (ms : List GnssMeas) (s : GSol) (out : List GSat) (x : Int) (rho : Nat) (sp : List (Nat × Rat)) : Device :=
  if !d.fb F.GNSS_MEAS_CTL_en then d
  else
    let recs := ms.filterMap fun m =>
      match d.gnss.chans.find? fun e => e.1 == m.chan && (e.2.lock1.isSome || e.2.lock5.isSome) with
      | some (_, c) => if c.gb && !d.fb F.GNSS_MEAS_CTL_gb then none else some (measRecord d c m s out sp)
      | none => none
    let n := d.fg F.GNSS_MEAS_CTL_ring
    match putAll d n 7 (measHead d recs.length s x rho :: recs) with
    | some d => d
    | none => d.cnt K.GNSS_MEAS_DROP

/-! ### The epoch (R279) -/

/-- Integrity of a src's solution: entries into FAIL, and the satellites newly excluded. -/
def noteIntegrity (d : Device) (src : Nat) (s : GSol) (out : List GSat) : Device :=
  let old := amGet 0 d.gnss.integ src
  let ex := out.map fun g => (src, g.sys, g.svid, d.nowSec + 60)
  let d := setGnss d { d.gnss with integ := amSet 0 d.gnss.integ src s.integrity,
                                   excl := (d.gnss.excl.filter fun e => decide (d.nowSec < e.2.2.2)) ++ ex }
  let d := d.cntN K.GNSS_RAIM_EXCL out.length
  if s.integrity = 2 ∧ old ≠ 2 then
    let d := (d.pulse S.GNSS_RAIM).ledger L.integrityFail 0 0 0
    if d.fb F.GNSS_SNAP_CTL_forensic then captureBegin d 3 0 (snapLen d) else d
  else d

/-- GNSS slots lose their signal at once (R289, R291). -/
def gnssSilence (d : Device) : Device :=
  (gnssSlots d).foldl (fun d n => d.setSlot n { d.slot n with heard := none, qual := 15 }) d

/-- The mode written comes into force; SNAPSHOT powers every channel down (R289). -/
def modeNow (d : Device) : Device :=
  let snap := d.fg F.GNSS_CTL_mode == 1
  if snap == d.gnss.snapMode then d
  else
    let d := setGnss d { d.gnss with snapMode := snap, burst := none }
    if snap then gnssSilence (releaseChans d fun _ => true) else d

/-- R289: a write of GNSS_CTL.mode. -/
def xGnssModeWrite (mode : Nat) (d : Device) : Device := d.fs F.GNSS_CTL_mode (if mode = 1 then 1 else 0)

/-- A slot's solution handed to its reference slot. -/
def feedSlot (gal bds : Option Int) (utc : Int) (ms : List GnssMeas) (d : Device) (n : Nat) : Device :=
  let s := (solve d (d.fg (F.REF_CFG_src n) % 4) ms gal bds).1
  let d := d.setSlot n { d.slot n with qual := solRank d s, own := eRx d s }
  if s.valid then refRaw d n (xOf d s utc - divNearI (d.rs (R.REF_DELAY n) * 65536) 1000) else d

/-- R276: what a commit adds to x of the SELECTED GNSS slot goes into the build-out. -/
def commitShift (d0 d1 : Device) (ms : List GnssMeas) (gal bds : Option Int) (utc : Int) : Device :=
  match d1.refs.sel with
  | some n =>
    if refType d1 n = 1 then
      let src := d1.fg (F.REF_CFG_src n) % 4
      let s0 := (solve d0 src ms gal bds).1
      let s1 := (solve d1 src ms gal bds).1
      if s0.valid && s1.valid then
        { d1 with refs := { d1.refs with b := bNow d1 + (xOf d1 s1 utc - xOf d0 s0 utc), bAt := d1.tm.osc } }
      else d1
    else d1
  | none => d1

/-- The epoch's solutions, test, survey and records. -/
def epochSolve (d : Device) (ms : List GnssMeas) (gal bds : Option Int) (utc : Int) : Device :=
  let (s, out) := solve d 0 ms gal bds
  let srcs := ((gnssSlots d).map fun n => d.fg (F.REF_CFG_src n) % 4).foldl setIns []
  let others := (srcs.filter (!· == 0)).map fun (k : Nat) => (k, solve d k ms gal bds)
  let (nn, rho2, single, sp) := spoofTest d ms
  let d := spoofStep d nn rho2 single
  let d := (gnssSlots d).foldl (feedSlot gal bds utc ms) d
  let d := noteIntegrity d 0 s out
  let d := others.foldl (fun d (e : Nat × GSol × List GSat) => noteIntegrity d e.1 e.2.1 e.2.2) d
  let d := ((d.fs F.GNSS_SOL_STATUS_integrity s.integrity).fsb F.GNSS_SOL_STATUS_valid s.valid).fs F.GNSS_SOL_STATUS_excl
    (d.gnss.excl.filter fun e => e.1 == 0 && decide (d.nowSec < e.2.2.2)).length
  let d := (d.fs F.GNSS_SOL_STATUS_used s.used.length).fs F.GNSS_SOL_STATUS_rank (solRank d s)
  let d := d.wn R.GNSS_SOL_ERR (satU 32 (eRx d s))
  let d := s.used.foldl (fun d e => monFeedAll d 16 (roundQ e.2)) d
  let d := measSend d ms s out (xOf d s utc) (d.fg F.GNSS_SPOOF_STATUS_rho) sp
  let d := match s.pos with
    | some (x, y, z) => if posSrc d = 1 ∧ s.valid ∧ s.integrity = 1 ∧ spoofState d ≠ 3 then surveyEpoch d x y z else d
    | none => d
  setGnss d { d.gnss with seq := (d.gnss.seq + 1) % 65536 }

/-- Satellites above the mask with an ephemeris younger than `secs`. -/
def freshEph (d : Device) (sky : List SatView) (secs : Nat) : Nat :=
  (sky.filter fun v => decide (gMask d < v.elev) &&
    d.gnss.eph.any fun e => e.1 == v.sys && e.2.1 == v.svid && decide (d.nowSec < e.2.2 + secs)).length

/-- R279: a whole second: measurements of the channels, broadcast system offsets in ps, and UTC(k) − UTC in 2^-16 ns. -/
def xGnssEpoch (ms : List GnssMeas) (gal bds : Option Int) (utc : Int) (d : Device) : Device :=
  if d.dtInvalid ∨ d.nowSec ≤ d.gnss.epochSec then d
  else
    let d := modeNow (setGnss d { d.gnss with epochSec := d.nowSec })
    if !gnssTracks d then (if d.gnss.commit then calCommitNow d else d)
    else
      let d := showChans (ms.foldl chanEpoch d)
      let d := if d.gnss.commit then commitShift d (calCommitNow d) ms gal bds utc else d
      if d.gnss.snapMode then
        match d.gnss.burst with
        | some t =>
          let n := (d.gnss.eph.filter fun e => decide (d.nowSec < e.2.2 + 7200)).length
          if 6 ≤ n ∨ t ≤ d.now then releaseChans (setGnss d { d.gnss with burst := none }) fun _ => true else d
        | none => d
      else epochSolve d ms gal bds utc

/-! ### Snapshot mode (R289) -/

/-- The period in s. -/
def snapPeriod (d : Device) : Nat := clamp 10 3600 (d.fg F.GNSS_SNAP_CTL_period)

/-- A periodic capture falls in this second. -/
def periodicDue (d : Device) : Bool :=
  d.up .gnss && d.powered 7 && !d.dtInvalid && d.gnss.snapMode && d.gnss.burst.isNone && d.fb F.GNSS_SNAP_CTL_periodic &&
  d.nowSec % snapPeriod d == 0 && !(d.gnss.snapSec == some d.nowSec)

/-- R289: a periodic capture, with the coarse-time solution of PE10 and PE11 when there is one. -/
def xGnssSnapPeriodic (res : Option Int) (d : Device) : Device :=
  if periodicDue d then
    let d := captureBegin (setGnss d { d.gnss with snapSec := some d.nowSec }) 1 0 (snapLen d)
    if d.fb F.GNSS_SNAP_CTL_solve then
      match res with
      | some v => (d.wn R.GNSS_SNAP_RES (unsigned 32 v)).ledger L.snapSolution 0 (unsigned 32 v) 0
      | none => d.wn R.GNSS_SNAP_RES 0x80000000
    else d
  else d

/-- R289: too few fresh ephemerides: the next capture is replaced by a tracking burst of 60 s at most. -/
def xGnssEphRefresh (sky : List SatView) (d : Device) : Device :=
  if periodicDue d ∧ freshEph d sky 7200 < 6 then
    setGnss d { d.gnss with snapSec := some d.nowSec, burst := some (d.now + 60 * secU) }
  else d

/-! ### Enabling, stopping and disturbances (R278, R291) -/

/-- R278: at enable with no position in force, a survey starts while auto is 1. -/
def gnssEnable (d : Device) : Device := if posSrc d = 0 ∧ d.fb F.GNSS_SURVEY_auto then surveyBegin d else d

/-- R291: clearing en; under CUT the captures in progress are discarded. -/
def gnssStop (d : Device) (cut : Bool) : Device :=
  let d := flushActs d isCapture
  let d := gnssSilence (releaseChans (setGnss d { d.gnss with burst := none }) fun _ => true)
  if cut then
    let d := d.gnss.caps.foldl (fun d c => if c.trigger = 0 then d.emit (.timedOutcome c.handle T.FLUSHED) else d) d
    (setGnss d { d.gnss with caps := [] }).clr F.GNSS_STATUS_snap_busy
  else d

/-- R291: loss of the TIME APLL. -/
def gnssInvalid (d : Device) : Device :=
  let d := (setGnss d { d.gnss with caps := [] }).clr F.GNSS_STATUS_snap_busy
  gnssSilence ((releaseChans d fun _ => true).clr F.GNSS_STATUS_clk_ok)

/-! ### The commands of this file -/

/-- GNSS_EPOCH (R279). -/
def execGnssEpoch (ms : List GnssMeas) (gal bds : Option Int) (utc : Int) (s : State) : Host.Outcome State Fault Refusal :=
  finish s (xGnssEpoch ms gal bds utc s.dev)

/-- GNSS_CHANNEL_ALLOC (R269). -/
def execGnssChannelAlloc (sky : List SatView) (s : State) : Host.Outcome State Fault Refusal :=
  finish s (xGnssChannelAlloc sky s.dev)

/-- GNSS_ACQ_DETECT (R270). -/
def execGnssAcqDetect (sys svid : Nat) (gb : Bool) (cn0 : Nat) (s : State) : Host.Outcome State Fault Refusal :=
  finish s (xGnssAcqDetect sys svid gb cn0 s.dev)

/-- GNSS_CHANNEL_RELEASE (R272). -/
def execGnssChannelRelease (ch : Nat) (s : State) : Host.Outcome State Fault Refusal :=
  finish s (xGnssChannelRelease ch s.dev)

/-- GNSS_ANT_FAULT (R268). -/
def execGnssAntFault (gb : Bool) (s : State) : Host.Outcome State Fault Refusal :=
  finish s (xGnssAntFault gb s.dev)

/-- GNSS_LEVEL_CHECK (R268). -/
def execGnssLevelCheck (rms clip : List Nat) (s : State) : Host.Outcome State Fault Refusal :=
  finish s (xGnssLevelCheck rms clip s.dev)

/-- GNSS_CLOCK_CHECK (R267). -/
def execGnssClockCheck (err : Int) (s : State) : Host.Outcome State Fault Refusal :=
  finish s (xGnssClockCheck err s.dev)

/-- GNSS_CAL_COMMIT (R275). -/
def execGnssCalCommit (s : State) : Host.Outcome State Fault Refusal :=
  finish s (hostWrite R.GNSS_CTL xGnssCalCommit s.dev)

/-- GNSS_SURVEY_START (R278). -/
def execGnssSurveyStart (s : State) : Host.Outcome State Fault Refusal :=
  finish s (hostWrite R.GNSS_SURVEY xGnssSurveyStart s.dev)

/-- GNSS_SURVEY_ABORT (R278). -/
def execGnssSurveyAbort (s : State) : Host.Outcome State Fault Refusal :=
  finish s (hostWrite R.GNSS_SURVEY xGnssSurveyAbort s.dev)

/-- GNSS_MODE_WRITE (R289). -/
def execGnssModeWrite (mode : Nat) (s : State) : Host.Outcome State Fault Refusal :=
  finish s (hostWrite R.GNSS_CTL (xGnssModeWrite mode) s.dev)

/-- GNSS_SNAP_PERIODIC (R289). -/
def execGnssSnapPeriodic (res : Option Int) (s : State) : Host.Outcome State Fault Refusal :=
  finish s (xGnssSnapPeriodic res s.dev)

/-- GNSS_EPH_REFRESH (R289). -/
def execGnssEphRefresh (sky : List SatView) (s : State) : Host.Outcome State Fault Refusal :=
  finish s (xGnssEphRefresh sky s.dev)

/-- GNSS_CAPTURE_REQUEST (R290). -/
def execGnssCaptureRequest (s : State) : Host.Outcome State Fault Refusal :=
  finish s (hostWrite R.GNSS_SNAP_CTL xGnssCaptureRequest s.dev)

/-- GNSS_CAPTURE_CANCEL (R296). -/
def execGnssCaptureCancel (s : State) : Host.Outcome State Fault Refusal :=
  finish s (hostWrite R.GNSS_SNAP_CTL xGnssCaptureCancel s.dev)

/-- GNSS_CAPTURE_EXECUTE (R290). -/
def execGnssCaptureExecute (s : State) : Host.Outcome State Fault Refusal :=
  finish s (xGnssCaptureExecute s.dev)

/-- GNSS_CAPTURE_COMPLETE (R290). -/
def execGnssCaptureComplete (samples : Bytes) (s : State) : Host.Outcome State Fault Refusal :=
  finish s (xGnssCaptureComplete samples s.dev)

/-- GNSS_ANT_FAULT_END (R268). -/
def execGnssAntFaultEnd (gb : Bool) (s : State) : Host.Outcome State Fault Refusal :=
  finish s (xGnssAntFaultEnd gb s.dev)

end Sys2Proof.Machine
end

