-- ==== Sys2Proof/Machine/Ke.lean ====
section
/-! DEFINITION. The NTS-KE service (R142 to R153): the stream protocol, the TLS 1.3 server with the profile of R144, the NTS-KE
records of R145 and R147, key export (R146), and minting (R170).  TLS messages are laid out as in RFC 8446 and NTS-KE records as in
RFC 8915 (PRESUMED, log entry 59). -/

namespace Sys2Proof.Machine

/-! ### Streams -/

def findStream (d : Device) (sid : Nat) : Option Stream := d.nts.streams.find? fun s => s.sid == sid

def setStream (d : Device) (s : Stream) : Device :=
  { d with nts := { d.nts with streams := mapIf (fun x : Stream => x.sid == s.sid) (fun _ => s) d.nts.streams } }

def keEvent (d : Device) (s : Stream) (code reason value : Nat) (data : Bytes) : Device :=
  streamEvent d s.ring { sid := s.sid, code, reason, value, data }

/-- Send bytes to the client as DATA events of at most 4,096 bytes (R149). -/
def keSend (d : Device) (s : Stream) (bs : Bytes) : Device :=
  (List.range ((bs.length + 4095) / 4096)).foldl (fun d k => keEvent d s 0xA 0 0 (slice bs (4096 * k) 4096)) d

/-- CLOSED: the session is wiped and the ID free. -/
def keClosed (d : Device) (s : Stream) : Device :=
  keEvent { d with nts := { d.nts with streams := d.nts.streams.filter fun x => !(x.sid == s.sid) } } s 0xE 0 0 []

/-- RESET with a reason, then CLOSED (R151, R153). -/
def keReset (d : Device) (s : Stream) (reason : Nat) : Device := keClosed (keEvent d s 0xC reason 0 []) s

/-- The device's own FIN: CLOSED at once when the host's FIN is in, else it is awaited (R151). -/
def keFin (d : Device) (s : Stream) : Device :=
  let s := { s with phase := .closing, finAt := some d.tm.osc, rx := [], tls := Tls.init }
  let d := keEvent (setStream d s) s 0xB 0 0 []
  if s.hostFin then keClosed d s else d

/-! ### TLS 1.3 key schedule and records -/

def keHash (s : Stream) : HashFn := if s.suite = 0x1302 then .s384 else .s256
def keKeyLen (s : Stream) : Nat := if s.suite = 0x1302 then 32 else 16

/-- HKDF-Expand-Label. -/
def expandLabel (h : HashFn) (secret : Bytes) (label : String) (ctx : Bytes) (len : Nat) : Bytes :=
  let l := ascii "tls13 " ++ ascii label
  hkdfExpand h secret (beBytes 2 len ++ beBytes 1 l.length ++ l ++ beBytes 1 ctx.length ++ ctx) len

/-- Derive-Secret over a transcript. -/
def deriveSecret (h : HashFn) (secret : Bytes) (label : String) (msgs : Bytes) : Bytes :=
  expandLabel h secret label (hashOf h msgs) (hashLen h)

def trafficKey (s : Stream) (secret : Bytes) : Bytes := expandLabel (keHash s) secret "key" [] (keKeyLen s)

/-- The per-record nonce. -/
def trafficIv (s : Stream) (secret : Bytes) (seq : Nat) : Bytes :=
  xorBytes (expandLabel (keHash s) secret "iv" [] 12) (beBytes 12 seq)

def recHdr (typ len : Nat) : Bytes := beBytes 1 typ ++ beBytes 2 0x0303 ++ beBytes 2 len

def plainRec (typ : Nat) (bs : Bytes) : Bytes := recHdr typ bs.length ++ bs

def sealRec (s : Stream) (secret : Bytes) (seq typ : Nat) (bs : Bytes) : Bytes :=
  let h := recHdr 23 (bs.length + 17)
  h ++ gcmSeal (trafficKey s secret) (trafficIv s secret seq) h (bs ++ beBytes 1 typ)

/-- The content type and bytes inside a protected record. -/
def openRec (s : Stream) (secret : Bytes) (seq : Nat) (frag : Bytes) : Option (Nat × Bytes) :=
  (gcmOpen (trafficKey s secret) (trafficIv s secret seq) (recHdr 23 frag.length) frag).bind fun pt =>
    let r := pt.reverse.dropWhile (· == 0)
    r.head?.map fun t => (t.toNat, r.tail.reverse)

def hsMsg (typ : Nat) (body : Bytes) : Bytes := beBytes 1 typ ++ beBytes 3 body.length ++ body

def finishedData (s : Stream) (secret : Bytes) (msgs : Bytes) : Bytes :=
  let h := keHash s
  hmac h (expandLabel h secret "finished" [] (hashLen h)) (hashOf h msgs)

/-- Send one record under the keys in force: application keys once the server's Finished is sent, else in the clear. -/
def keRecordOut (d : Device) (s : Stream) (typ : Nat) (bs : Bytes) : Device × Stream :=
  if s.tls.sAp.isEmpty then (keSend d s (plainRec typ bs), s)
  else
    let s' := { s with tls := { s.tls with wr := s.tls.wr + 1 } }
    (keSend (setStream d s') s (sealRec s s.tls.sAp s.tls.wr typ bs), s')

/-- A TLS failure: a fatal alert, counted, and the session ends. -/
def keAlert (d : Device) (s : Stream) (desc : Nat) : Device :=
  let (d, s) := keRecordOut (d.cnt K.NTSKE_FAIL_TLS) s 21 (beBytes 1 2 ++ beBytes 1 desc)
  keFin d s

/-- The client broke off: RESET PROTOCOL (log entry 60). -/
def keBroken (d : Device) (s : Stream) : Device := keReset (d.cnt K.NTSKE_FAIL_TLS) s 6

/-- Send the last records and close_notify, then FIN. -/
def keFinish (d : Device) (s : Stream) (recs : Bytes) : Device :=
  let (d, s) := keRecordOut d s 23 recs
  let (d, s) := keRecordOut d s 21 (beBytes 1 1 ++ zeros 1)
  keFin d s

/-! ### NTS-KE records (R145, R147) -/

def keRec (typ : Nat) (body : Bytes) : Bytes := beBytes 2 typ ++ beBytes 2 body.length ++ body

def keEnd : Bytes := keRec 0x8000 []

/-- R145: the session ends with an Error record. -/
def keError (d : Device) (s : Stream) (code : Nat) : Device :=
  keFinish (d.cnt K.NTSKE_FAIL_PROTO) s (keRec 0x8002 (beBytes 2 code) ++ keEnd)

/-- The client's records: type with its critical bit, and body; none past the last whole one. -/
def keRecs : Nat → Bytes → List (Nat × Bytes)
  | 0, _ => []
  | k + 1, b =>
    let len := beAt b 2 2
    if 4 ≤ b.length ∧ 4 + len ≤ b.length then (beAt b 0 2, slice b 4 len) :: keRecs k (b.drop (4 + len)) else []

def words16 (b : Bytes) : List Nat := (List.range (b.length / 2)).map fun i => beAt b (2 * i) 2

/-- What R145 makes of the records before End of Message: an Error code, or whether algorithm 15 is offered. -/
def keJudge (l : List (Nat × Bytes)) : Option Nat × Bool :=
  let typ (e : Nat × Bytes) : Nat := e.1 % 0x8000
  let known (e : Nat × Bytes) : Bool := [1, 2, 3, 4, 6, 7].contains (typ e)
  let of (t : Nat) : List (Nat × Bytes) := l.filter fun e => typ e == t
  if l.any fun e => !known e && decide (0x8000 ≤ e.1) then (some 0, false)
  else if !(of 2).isEmpty || !(of 3).isEmpty then (some 1, false)
  else if !((of 1).any fun e => (words16 e.2).contains 0) then (some 1, false)
  else (none, (of 4).any fun e => (words16 e.2).contains 15)

def keNext : Bytes := keRec 0x8001 (beBytes 2 0)

/-- The server name of record type 6 (R173). -/
def srvName (d : Device) : Bytes :=
  ((List.range 16).flatMap fun i => beBytes 4 (d.rn (R.OVN_KE_SRVNAME i))).take (clamp 1 64 (d.fg F.OVN_KE_SRV_CTL_len))

/-- R147: the response once every cookie is minted. -/
def keRespond (d : Device) (s : Stream) : Device :=
  let srv := if d.fb F.OVN_KE_SRV_CTL_en then keRec 0x8006 (srvName d) else []
  let recs := keNext ++ keRec 0x8004 (beBytes 2 15) ++ srv ++ s.cookies.flatMap (keRec 5) ++ keEnd
  keFinish (monFeedAll d 12 (((d.tm.osc - s.acceptAt) / 800 : Nat) : Int)) s recs

/-- R146: an exported key. -/
def keExport (s : Stream) (last : Nat) : Bytes :=
  let h := keHash s
  let sec := deriveSecret h s.tls.exp "EXPORTER-network-time-security" []
  expandLabel h sec "exporter" (hashOf h (beBytes 2 0 ++ beBytes 2 15 ++ beBytes 1 last)) 32

/-- R147, R170: one MINT job per cookie; while a PURGE runs the session waits (R160); no Oven or no generation is an internal
failure. -/
def keMint (d : Device) (s : Stream) : Device :=
  let s := { s with phase := .mint }
  let d := setStream d s
  if purging d then d
  else if !d.fb F.OVN_STARTER_STATUS_ready then keError d s 2
  else
    let put (d : Device) (_ : Nat) : Option Device :=
      (ovenForMint d).map fun k => ovenPut d k (.mintJob s.sid (keExport s 0) (keExport s 1)) false
    match (List.range s.ncookies).foldlM put d with
    | some d => d
    | none => keError d s 2

/-- A MINT job ends: its cookie, or none when its generation is gone. -/
def keMinted (d : Device) (gens : List Gen) (sid : Nat) (c2s s2c : Bytes) : Device :=
  match findStream d sid, gens.head? with
  | some s, some g =>
    if s.phase = .mint then
      let (c, d) := mintCookie d g c2s s2c
      let s := { s with cookies := s.cookies ++ [c] }
      let d := setStream d s
      if s.ncookies ≤ s.cookies.length then keRespond d s else d
    else d
  | some s, none => if s.phase = .mint then keError d s 2 else d
  | none, _ => d

/-- A session whose MINT job is lost for good. -/
def keMintFailed (d : Device) (sid : Nat) : Device :=
  match findStream d sid with
  | some s => if s.phase = .mint then keError d s 2 else d
  | none => d

/-- R160: sessions that waited for the new generation go on. -/
def keMintResume (d : Device) : Device :=
  (d.nts.streams.filter fun s => s.phase == .mint && s.cookies.isEmpty &&
    !(d.nts.jobs.any fun j => match j.work with | .mintJob n _ _ => n == s.sid | _ => false)).foldl (fun d s => keMint d s) d

/-- NTS-KE records received: judged once End of Message is in. -/
def keRequest (d : Device) (s : Stream) (closed : Bool) : Device :=
  let l := keRecs 1024 s.tls.inner
  match l.findIdx? fun e => e.1 % 0x8000 == 0 with
  | some n =>
    match keJudge (l.take n) with
    | (some c, _) => keError d s c
    | (none, true) => keMint d s
    | (none, false) => keFinish d s (keNext ++ keRec 0x8004 [] ++ keEnd)
  | none => if closed then keError d s 1 else d

/-! ### The handshake (R144) -/

/-- A vector with an n-byte length: its bytes and what follows. -/
def vec (n : Nat) (b : Bytes) : Bytes × Bytes := let l := beAt b 0 n; (slice b n l, b.drop (n + l))

/-- Extensions: type and data. -/
def tlsExts : Nat → Bytes → List (Nat × Bytes)
  | 0, _ => []
  | k + 1, b => if b.length < 4 then [] else let (x, r) := vec 2 (b.drop 2); (beAt b 0 2, x) :: tlsExts k r

/-- Key shares of a ClientHello: group and key. -/
def keyShares : Nat → Bytes → List (Nat × Bytes)
  | 0, _ => []
  | k + 1, b => if b.length < 4 then [] else let (x, r) := vec 2 (b.drop 2); (beAt b 0 2, x) :: keyShares k r

/-- Protocol names of ALPN. -/
def alpnNames : Nat → Bytes → List Bytes
  | 0, _ => []
  | k + 1, b => if b.isEmpty then [] else let (x, r) := vec 1 b; x :: alpnNames k r

structure Hello where
  sessId : Bytes
  suites : List Nat
  comp : Bytes
  exts : List (Nat × Bytes)

def parseHello (b : Bytes) : Hello :=
  let (sid, r) := vec 1 (b.drop 34)
  let (su, r) := vec 2 r
  let (co, r) := vec 1 r
  { sessId := sid, suites := words16 su, comp := co, exts := tlsExts 64 (vec 2 r).1 }

def helloExt (h : Hello) (t : Nat) : Bytes := ((h.exts.find? fun e => e.1 == t).map (·.2)).getD []

/-- Suites and groups in the device's order of preference, as enabled. -/
def enSuites (m : Nat) : List Nat := ([(0, 0x1301), (1, 0x1302)].filter fun (e : Nat × Nat) => m.testBit e.1).map (·.2)
def enGroups (m : Nat) : List Nat := ([(0, 0x1D), (1, 0x17), (2, 0x18)].filter fun (e : Nat × Nat) => m.testBit e.1).map (·.2)

def sigScheme (sig : Nat) : Nat := if sig = 0 then 0x0403 else if sig = 1 then 0x0503 else 0x0807

/-- A key share of the right length for its group. -/
def shareOk (g : Nat) (k : Bytes) : Bool :=
  if g = 0x1D then k.length == 32 else (byteAt k 0 == 4) && k.length == (if g = 0x17 then 65 else 97)

/-- The PKE descriptor of the key exchange: an ephemeral ECDH or X25519. -/
def kexJob (g : Nat) (share : Bytes) : Bytes × Bytes :=
  let (op, image) := if g = 0x1D then (7, zeros 32 ++ share) else if g = 0x17 then (8, zeros 32 ++ share.drop 1) else (9, zeros 48 ++ share.drop 1)
  (beBytes 1 op ++ beBytes 1 2 ++ leBytes 2 image.length ++ zeros 28, image)

/-- The PKE descriptor of the signature with the server key. -/
def signJob (sig : Nat) (msg : Bytes) : Bytes × Bytes :=
  let (op, image) := if sig = 0 then (1, sha256 msg ++ zeros 32) else if sig = 1 then (3, sha384 msg ++ zeros 48) else (5, zeros 32 ++ msg)
  (beBytes 1 op ++ beBytes 1 8 ++ leBytes 2 image.length ++ zeros 20 ++ beBytes 1 slotTls ++ zeros 7, image)

/-- Submit a session's job; QUOTA, FLUSHED and any other refusal is an internal failure (R145, R397). -/
def keJob (d : Device) (s : Stream) (sign : Bool) (job : Bytes × Bytes) : Device :=
  match pkeSubmit (setStream d s) 0 job.1 job.2 (.ke s.sid sign) with
  | (none, d) => d
  | (some _, d) => keAlert d s 80

def helloRetryRandom : Bytes := sha256 (ascii "HelloRetryRequest")

/-- A ServerHello, or a HelloRetryRequest with its fixed random. -/
def serverHello (random sessId : Bytes) (suite : Nat) (share : Bytes) : Bytes :=
  let ext := beBytes 2 43 ++ beBytes 2 2 ++ beBytes 2 0x0304 ++ beBytes 2 51 ++ beBytes 2 share.length ++ share
  hsMsg 2 (beBytes 2 0x0303 ++ random ++ beBytes 1 sessId.length ++ sessId ++ beBytes 2 suite ++ zeros 1 ++
    beBytes 2 ext.length ++ ext)

/-- A whole ClientHello is in: choose suite and group, and go on to the key exchange, a retry or an alert. -/
def keHello (d : Device) (s : Stream) (msg : Bytes) : Device :=
  let h := parseHello (msg.drop 4)
  let shares := keyShares 16 (vec 2 (helloExt h 51)).1
  let groups := words16 (vec 2 (helloExt h 10)).1
  let suite := (enSuites s.suites).find? h.suites.contains
  let open_ := (enGroups s.groups).filter groups.contains
  let held := open_.find? fun g => shares.any fun e => e.1 == g
  let t := { s.tls with sessId := h.sessId, early := h.exts.any fun e => e.1 == 42 }
  if !((words16 (vec 1 (helloExt h 43)).1).contains 0x0304) then keAlert d s 70
  else if !(h.comp == [0]) then keAlert d s 47
  else if !((alpnNames 64 (vec 2 (helloExt h 16)).1).contains (ascii "ntske/1")) then keAlert d s 120
  else if !((words16 (vec 2 (helloExt h 13)).1).contains (sigScheme s.sig)) then keAlert d s 40
  else
    match suite, held, open_.head? with
    | some su, some g, _ =>
      let share := ((shares.find? fun e => e.1 == g).map (·.2)).getD []
      if s.retried ∧ (g ≠ s.group ∨ su ≠ s.suite) ∨ !shareOk g share then keAlert d s 47
      else keJob d { s with phase := .kex, suite := su, group := g, tls := { t with transcript := s.tls.transcript ++ msg, share } } false
        (kexJob g share)
    | some su, none, some g =>
      if s.retried then keAlert d s 47
      else
        let s := { s with suite := su, group := g, retried := true }
        let retry := serverHello helloRetryRandom h.sessId su (beBytes 2 g)
        let first := hsMsg 254 (hashOf (keHash s) msg)
        let s := { s with tls := { t with transcript := first ++ retry } }
        keSend (setStream d s) s (plainRec 22 retry)
    | _, _, _ => keAlert d s 40

/-- The key exchange ended: the ServerHello leaves, the handshake keys are made, and the signature is ordered. -/
def keExchanged (d : Device) (s : Stream) (out : Bytes) : Device :=
  let h := keHash s
  let half := if s.group = 0x1D then 32 else if s.group = 0x17 then 64 else 96
  let pub := (if s.group = 0x1D then [] else [4]) ++ out.take half
  let shared := out.drop half
  let (n, d) := d.draw
  let sh := serverHello (beBytes 32 (Config.draw n).toNat) s.tls.sessId s.suite
    (beBytes 2 s.group ++ beBytes 2 pub.length ++ pub)
  let tr := s.tls.transcript ++ sh
  let early := hkdfExtract h [] (zeros (hashLen h))
  let hs := hkdfExtract h (deriveSecret h early "derived" []) shared
  let ee := hsMsg 8 (let e := beBytes 2 16 ++ beBytes 2 10 ++ beBytes 2 8 ++ beBytes 1 7 ++ ascii "ntske/1"; beBytes 2 e.length ++ e)
  let certs := d.trust.chain.flatMap fun c => beBytes 3 c.length ++ c ++ zeros 2
  let cert := hsMsg 11 (zeros 1 ++ beBytes 3 certs.length ++ certs)
  let tls := { s.tls with transcript := tr ++ ee ++ cert, cHs := deriveSecret h hs "c hs traffic" tr,
                          sHs := deriveSecret h hs "s hs traffic" tr, shared := hs, inner := ee ++ cert }
  let s := { s with phase := .sign, tls }
  let ccs := if s.tls.sessId.isEmpty then [] else plainRec 20 [1]
  let d := keSend (setStream d s) s (plainRec 22 sh ++ ccs)
  let msg := List.replicate 64 0x20 ++ ascii "TLS 1.3, server CertificateVerify" ++ zeros 1 ++ hashOf h tls.transcript
  keJob d s true (signJob s.sig msg)

/-- A DER integer. -/
def derInt (b : Bytes) : Bytes :=
  let v := b.dropWhile (· == 0)
  let v := if v.isEmpty || decide (128 ≤ byteAt v 0) then zeros 1 ++ v else v
  beBytes 1 2 ++ beBytes 1 v.length ++ v

def derSig (out : Bytes) : Bytes :=
  let n := out.length / 2
  let b := derInt (out.take n) ++ derInt (out.drop n)
  beBytes 1 0x30 ++ beBytes 1 b.length ++ b

/-- The signature is made: the rest of the server's flight leaves. -/
def keSigned (d : Device) (s : Stream) (out : Bytes) : Device :=
  let h := keHash s
  let sig := if s.sig = 2 then out else derSig out
  let cv := hsMsg 15 (beBytes 2 (sigScheme s.sig) ++ beBytes 2 sig.length ++ sig)
  let tr := s.tls.transcript ++ cv
  let fin := hsMsg 20 (finishedData s s.tls.sHs tr)
  let tr' := tr ++ fin
  let master := hkdfExtract h (deriveSecret h s.tls.shared "derived" []) (zeros (hashLen h))
  let flight := s.tls.inner ++ cv ++ fin
  let d := keSend d s (sealRec s s.tls.sHs 0 22 flight)
  let tls := { s.tls with transcript := tr', cAp := deriveSecret h master "c ap traffic" tr',
                          sAp := deriveSecret h master "s ap traffic" tr', exp := deriveSecret h master "exp master" tr',
                          shared := [], inner := [], rd := 0, wr := 0 }
  setStream d { s with phase := .finish, tls }

/-- A job of a session ended in the pool. -/
def kePkeDone (d : Device) (sid : Nat) (sign : Bool) (st : Nat) (out : Bytes) : Device :=
  match findStream d sid with
  | none => d
  | some s =>
    if s.phase = .kex ∧ !sign then
      if st = J.OK then keExchanged d s out
      else keAlert d s (if st = J.NOT_ON_CURVE ∨ st = J.RANGE ∨ st = J.ZERO_RESULT then 47 else 80)
    else if s.phase = .sign ∧ sign then (if st = J.OK then keSigned d s out else keAlert d s 80)
    else d

/-- The client's Finished. -/
def keFinished (d : Device) (s : Stream) (msg : Bytes) : Device :=
  if msg == hsMsg 20 (finishedData s s.tls.cHs s.tls.transcript) then
    setStream (d.cnt K.NTSKE_HANDSHAKES) { s with phase := .request, hsAt := d.tm.osc, tls := { s.tls with hs := [], rd := 0, transcript := [] } }
  else keAlert d s 51

/-! ### Records from the client -/

/-- A record of a content type, already unprotected, in the phase it belongs to. -/
def keContent (d : Device) (s : Stream) (typ : Nat) (bs : Bytes) : Device :=
  if typ = 21 then
    (if s.phase = .request ∧ byteAt bs 1 = 0 then keRequest d s true else keBroken d s)
  else if typ = 22 ∧ (s.phase = .hello ∨ s.phase = .finish) then
    let b := s.tls.hs ++ bs
    let len := 4 + beAt b 1 3
    if b.length < 4 ∨ b.length < len then setStream d { s with tls := { s.tls with hs := b } }
    else
      let s := { s with tls := { s.tls with hs := b.drop len } }
      if s.phase = .hello then (if byteAt b 0 = 1 ∧ b.length = len then keHello d s b else keAlert d s 10)
      else if byteAt b 0 = 20 ∧ b.length = len then keFinished d s b else keAlert d s 10
  else if typ = 23 ∧ s.phase = .request then
    let s := { s with tls := { s.tls with inner := s.tls.inner ++ bs } }
    keRequest (setStream d s) s false
  else keAlert d s 10

/-- One TLS record. -/
def keRecordIn (d : Device) (s : Stream) (typ : Nat) (frag : Bytes) : Device :=
  if typ = 20 then (if frag = [1] ∧ (s.phase = .finish ∨ s.phase = .hello) then d else keAlert d s 10)
  else if s.phase = .hello then
    (if typ = 23 then (if s.retried ∧ s.tls.early then d else keAlert d s 10) else keContent d s typ frag)
  else if typ = 21 ∧ s.phase = .finish then keBroken d s
  else if typ ≠ 23 then keAlert d s 10
  else
    match openRec s (if s.phase = .finish then s.tls.cHs else s.tls.cAp) s.tls.rd frag with
    | some (t, bs) =>
      let s := { s with tls := { s.tls with rd := s.tls.rd + 1 } }
      keContent (setStream d s) s t bs
    | none => if s.phase = .finish ∧ s.tls.early ∧ s.tls.rd = 0 then d else keAlert d s 20

/-- R150: bytes the engine has consumed are credited. -/
def keCredit (d : Device) (s : Stream) (n : Nat) : Device :=
  if n = 0 then d else keEvent (setStream d { s with window := s.window + n }) s 0xD 0 n []

/-- The engine takes whole records while the session is in a phase that reads. -/
def keFlow : Nat → Device → Nat → Device
  | 0, d, _ => d
  | k + 1, d, sid =>
    match findStream d sid with
    | none => d
    | some s =>
      if s.phase = .closing then keCredit (setStream d { s with rx := [] }) { s with rx := [] } s.rx.length
      else if s.phase = .hello ∨ s.phase = .finish ∨ s.phase = .request then
        let len := beAt s.rx 3 2
        if s.rx.length < 5 then d
        else if 16640 < len then keAlert d s 22
        else if s.rx.length < 5 + len then d
        else
          let s' := { s with rx := s.rx.drop (5 + len) }
          let d := keCredit (setStream d s') s' (5 + len)
          match findStream d sid with
          | some s'' => keFlow k (keRecordIn d s'' (byteAt s.rx 0) (slice s.rx 5 len)) sid
          | none => d
      else d

def keRunFlow (d : Device) (sid : Nat) : Device :=
  match findStream d sid with
  | some s => keFlow (s.rx.length / 5 + 1) d sid
  | none => d

/-! ### Host events (R149, R150) -/

/-- Take a host descriptor of a STREAM ring: it completes with DONE once taken, or with BAD_DESC. -/
def streamTake (d : Device) (n sid : Nat) (bad : Bool) : Bool × Device :=
  if canTake d n 3 then
    let (slot, d) := takeDesc d n 0 false
    if bad then (false, complete d n slot (streamCqe 0 1 0 0 0 slot) [])
    else (true, complete d n slot (streamCqe sid 0 0 0 0 slot) [])
  else (false, d)

/-- R150, R152: the reason an OPEN is refused for. -/
def openRefusal (d : Device) (sid : Nat) (client sa : Nat) : Option Nat :=
  let e := saOf d sa
  let per := max 1 (d.fg F.OVN_KE_CTL_per_src)
  if !d.up .ke || !d.fb F.OVN_STARTER_STATUS_ready || !d.fb F.SEC_STATUS_tls_ready then some 3
  else if (findStream d sid).isSome then some 8
  else if !(e.valid && e.owned && e.nts) then some 2
  else if 262144 ≤ d.nts.streams.length ∨ per ≤ (d.nts.streams.filter fun s => s.client.toNat == client).length then some 1
  else none

/-- The thread with the fewest open streams, 0 to 15 over PE4 to PE7. -/
def keThread (d : Device) : Nat :=
  (leastBy (fun t => (d.nts.streams.filter fun s => s.thread == t).length) (List.range 16)).getD 0

/-- R150: a host OPEN. -/
def xStreamOpen (n sid client tcpPort sa : Nat) (d : Device) : Device :=
  let (ok, d) := streamTake d n sid (sid == 0 || decide (2 ^ 32 ≤ sid))
  if !ok then d
  else
    match openRefusal d sid client (sa % 256) with
    | some r =>
      let d := if r = 1 then d.cnt K.NTSKE_REFUSED_BUSY else d
      streamEvent d n { sid, code := 9, reason := r, value := 0, data := [] }
    | none =>
      let c := d.fg F.OVN_KE_CTL_cookies
      let s : Stream :=
        { sid, ring := n, client := BitVec.ofNat 128 client, tcpPort := tcpPort % 65536, sa := sa % 256, thread := keThread d,
          window := 16384, phase := .hello, rx := [], acceptAt := d.tm.osc, hsAt := 0, finAt := none, hostFin := false,
          hsLimit := max 1 (d.fg F.OVN_KE_TIMEOUT_hs), reqLimit := max 1 (d.fg F.OVN_KE_TIMEOUT_req), ncookies := clamp 1 8 c,
          suites := d.fg F.OVN_KE_TLS_suites, groups := d.fg F.OVN_KE_TLS_groups, sig := d.fg F.OVN_KE_TLS_sig, suite := 0, group := 0,
          retried := false, cookies := [], tls := Tls.init }
      keEvent { d with nts := { d.nts with streams := d.nts.streams ++ [s] } } s 8 0 0 []

/-- The open stream of an event on its own ring; others are ignored and counted (R150). -/
def withStream (d : Device) (n sid : Nat) (f : Device → Stream → Device) : Device :=
  match findStream d sid with
  | some s => if s.ring = n then f d s else d.cnt K.NTSKE_BAD_STREAM
  | none => d.cnt K.NTSKE_BAD_STREAM

/-- R150: client bytes within the stream's window. -/
def xStreamData (n sid : Nat) (bs : Bytes) (d : Device) : Device :=
  let (ok, d) := streamTake d n sid (sid == 0 || bs.isEmpty || decide (4096 < bs.length))
  if !ok then d
  else withStream d n sid fun d s =>
    if s.window < bs.length then keReset d s 5
    else keRunFlow (setStream d { s with window := s.window - bs.length, rx := s.rx ++ bs }) sid

/-- R151: the client closed its side. -/
def xStreamFin (n sid : Nat) (d : Device) : Device :=
  let (ok, d) := streamTake d n sid (sid == 0)
  if !ok then d
  else withStream d n sid fun d s =>
    let s := { s with hostFin := true }
    let d := setStream d s
    match s.phase with
    | .closing => keClosed d s
    | .request => keRequest d s true
    | .mint => d
    | _ => keBroken d s

/-- R151: the connection was aborted. -/
def xStreamReset (n sid : Nat) (d : Device) : Device :=
  let (ok, d) := streamTake d n sid (sid == 0)
  if !ok then d else withStream d n sid keClosed

/-! ### Deadlines (R151) -/

/-- 100 ms in 1.25 ns. -/
def tenthSec : Nat := 80000000

def xKeHandshakeTimeout (sid : Nat) (d : Device) : Device :=
  match findStream d sid with
  | some s =>
    if (s.phase = .hello ∨ s.phase = .kex ∨ s.phase = .sign ∨ s.phase = .finish) ∧ s.acceptAt + s.hsLimit * tenthSec ≤ d.tm.osc then
      keReset (d.cnt K.NTSKE_TIMEOUT) s 4
    else d
  | none => d

def xKeRequestTimeout (sid : Nat) (d : Device) : Device :=
  match findStream d sid with
  | some s => if s.phase = .request ∧ s.hsAt + s.reqLimit * tenthSec ≤ d.tm.osc then keReset (d.cnt K.NTSKE_TIMEOUT) s 4 else d
  | none => d

def xKeCloseTimer (sid : Nat) (d : Device) : Device :=
  match findStream d sid with
  | some s =>
    match s.finAt with
    | some t => if t + 10 * tenthSec ≤ d.tm.osc then keClosed d s else d
    | none => d
  | none => d

/-! ### Stopping (R153) -/

/-- CUT: every open stream is reset with FLUSHED. -/
def keCut (d : Device) : Device := d.nts.streams.foldl (fun d s => keReset d s 7) d

/-! ### The commands of this file -/

/-- STREAM_OPEN (R150). -/
def execStreamOpen (n sid client tcpPort sa : Nat) (s : State) : Host.Outcome State Fault Refusal :=
  finish s (xStreamOpen n sid client tcpPort sa s.dev)

/-- STREAM_DATA (R150). -/
def execStreamData (n sid : Nat) (bs : Bytes) (s : State) : Host.Outcome State Fault Refusal :=
  finish s (xStreamData n sid bs s.dev)

/-- STREAM_FIN (R151). -/
def execStreamFin (n sid : Nat) (s : State) : Host.Outcome State Fault Refusal :=
  finish s (xStreamFin n sid s.dev)

/-- STREAM_RESET (R151). -/
def execStreamReset (n sid : Nat) (s : State) : Host.Outcome State Fault Refusal :=
  finish s (xStreamReset n sid s.dev)

/-- KE_HANDSHAKE_TIMEOUT (R151). -/
def execKeHandshakeTimeout (sid : Nat) (s : State) : Host.Outcome State Fault Refusal :=
  finish s (xKeHandshakeTimeout sid s.dev)

/-- KE_REQUEST_TIMEOUT (R151). -/
def execKeRequestTimeout (sid : Nat) (s : State) : Host.Outcome State Fault Refusal :=
  finish s (xKeRequestTimeout sid s.dev)

/-- KE_CLOSE_TIMER (R151). -/
def execKeCloseTimer (sid : Nat) (s : State) : Host.Outcome State Fault Refusal :=
  finish s (xKeCloseTimer sid s.dev)

end Sys2Proof.Machine
end

