-- ==== Sys2Proof/Machine/Stop.lean ====
section
/-! DEFINITION. Stopping a unit (R74 to R76): what a write of an enable word does whatever the unit, and the end of a stop. -/

namespace Sys2Proof.Machine

/-- The drained interrupt source of a unit (R473); rings and monitors of one ring have none of their own. -/
def drnSource : UnitId → Option Nat
  | .slc s => some (S.DRN_SLC s)
  | .ovn => some S.DRN_OVN
  | .cls => some S.DRN_CLS
  | .peel => some S.DRN_PEEL
  | .ke => some S.DRN_KE
  | .ptp i => some (S.DRN_PTP i)
  | .port n => some (S.DRN_PORT n)
  | .ref _ => some S.DRN_REF
  | .gnss => some S.DRN_GNSS
  | .ticCh _ => some S.DRN_TIC
  | .ticPair _ => some S.DRN_TIC
  | .tout _ => some S.DRN_OUT
  | .fout _ => some S.DRN_OUT
  | .pke => some S.PKE_DRAINED
  | .pair => some S.DRN_PAIR
  | .ring _ => none
  | .hist _ => some S.DRN_MON
  | .sample => some S.DRN_SAMPLE

/-- en falls: a DRAIN or CUT is in progress. -/
def stopBegin (d : Device) (u : UnitId) (cut : Bool) : Device :=
  let d := ((d.clr u.en).fsb u.stop cut).clr u.drained
  { d with stopping := (d.stopping.filter fun e => !(e.1 == u.ctl)) ++ [(u.ctl, cut)] }

/-- R76: a DRAIN in progress becomes a CUT. -/
def stopCut (d : Device) (u : UnitId) : Device :=
  { d with stopping := mapIf (fun e : Nat × Bool => e.1 == u.ctl) (fun e => (e.1, true)) d.stopping }

/-- en is set on a stopped unit. -/
def startWord (d : Device) (u : UnitId) : Device := (d.set1 u.en).clr u.drained

/-- The stop is complete: drained and its source; the unit runs again when en was set meanwhile (R76). -/
def stopEnd (d : Device) (u : UnitId) (start : Device → Device) : Device :=
  let d := { d with stopping := d.stopping.filter fun e => !(e.1 == u.ctl) }
  let d := match drnSource u with | some s => d.pulse s | none => d
  if d.fb u.en then start (startWord d u) else d.set1 u.drained

/-- A write of an enable word: `start` and `stop` are what starting and stopping (CUT or not) do to the unit's work. -/
def unitWord (d : Device) (u : UnitId) (w : Nat) (start : Device → Device) (stop : Bool → Device → Device) : Device :=
  let en := w.testBit 31
  let cut := w.testBit 30
  match d.stopOf u with
  | some c =>
    let d := (d.fsb u.en en).fsb u.stop cut
    if !en && cut && !c then stop true (stopCut d u) else d
  | none =>
    if d.fb u.en then (if en then d.fsb u.stop cut else stop cut (stopBegin d u cut))
    else if en then start (startWord (d.fsb u.stop cut) u)
    else d.fsb u.stop cut

end Sys2Proof.Machine
end

