-- ==== Sys2Proof/Machine/Oven.lean ====
section
/-! DEFINITION. Oven jobs ending (R170 to R172), lockstep mismatches and known-answer tests (R171), and OVN_CTL (R70). -/

namespace Sys2Proof.Machine

/-- AES blocks of a job (R172). -/
def jobBlocks (j : OvenJob) : Nat :=
  match j.work with
  | .openJob r => openBlocks r (openRes j.gens r)
  | .sealJob r _ _ _ k _ => 9 * k + sealBlocks (48 + r.uid.length) k
  | .resealJob r _ =>
    match r.sealCtx with
    | some c => sealBlocks (48 + c.uid.length) (c.plain.length / 96)
    | none => 0
  | .mintJob _ _ _ => 9

/-- The result of a job returns to its lane or engine. -/
def jobResult (d : Device) (j : OvenJob) : Device :=
  match j.work with
  | .openJob r => openDone d r (openRes j.gens r)
  | .sealJob r hdr c2s s2c k kod => sealDone d j.gens r hdr c2s s2c k kod
  | .resealJob r h => resealDone d r h
  | .mintJob sid c2s s2c => keMinted d j.gens sid c2s s2c

/-- The lane sends nothing for a job that ends without a result, and counts that; a session loses its MINT. -/
def jobGone (k : Nat) (d : Device) (j : OvenJob) : Device :=
  match j.work with
  | .openJob r => laneAbandon (d.cnt k) r.booking r.item.port
  | .sealJob r _ _ _ _ _ => laneAbandon (d.cnt k) r.booking r.item.port
  | .resealJob r h => laneAbandon (d.cnt k) h r.item.port
  | .mintJob sid _ _ => keMintFailed d sid

/-- A job that no Oven takes any more (R69). -/
def jobLost (d : Device) (j : OvenJob) : Device := jobGone (K.CLS_C_RETURNED 1) d j

def jobSlice (j : OvenJob) : Nat :=
  match j.work with
  | .openJob r => r.slice
  | .sealJob r _ _ _ _ _ => r.slice
  | .resealJob r _ => r.slice
  | .mintJob _ _ _ => 0

/-- R171: a discarded job is sent once more. -/
def jobAgain (d : Device) (j : OvenJob) : Device :=
  let k := match j.work with | .mintJob _ _ _ => ovenForMint d | _ => ovenFor d (jobSlice j)
  match k with
  | some k => if j.retried then jobLost d j else ovenPut d k j.work true
  | none => jobLost d j

/-- The jobs an Oven holds leave it. -/
def ovenTake (d : Device) (k : Nat) : List OvenJob × Device :=
  (d.nts.jobs.filter fun j => j.oven == k, { d with nts := { d.nts with jobs := d.nts.jobs.filter fun j => !(j.oven == k) } })

/-- R171: a mismatch: the Oven is out of service, the third within 24 h until a cold reset, and its jobs are sent once more. (DEDUCED, log entry 54.) -/
def ovenFault (d : Device) (k : Nat) : Device :=
  let recent := (amGet [] d.nts.faults k).filter fun t => decide (d.tm.osc < t + 86400 * 800000000)
  let l := recent ++ [d.tm.osc]
  let dead := if 3 ≤ l.length then setIns d.nts.dead k else d.nts.dead
  let d := { d with nts := { d.nts with faults := amSet [] d.nts.faults k l, dead, kat := d.nts.kat.filter fun x => !(x == k) } }
  let d := d.wn R.OVN_FAULT (putBits (d.rn R.OVN_FAULT) k 1 1)
  let d := (d.pulse S.OVEN_FAULT).ledger L.ovenFault k 0 0
  let (js, d) := ovenTake d k
  js.foldl jobAgain d

/-- R170: an Oven's job ends. -/
def xOvenJobComplete (id : Nat) (d : Device) : Device :=
  match d.nts.jobs.find? fun j => j.id == id with
  | none => d
  | some j =>
    let d := { d with nts := { d.nts with jobs := d.nts.jobs.filter fun x => !(x.id == id) } }
    let d := (d.cnt (K.OVN_JOBS j.oven)).cntN (K.OVN_BLOCKS j.oven) (jobBlocks j)
    jobResult (monFeed d 10 j.oven 31 (((d.tm.osc - j.since) * 5 / 4 : Nat) : Int)) j

/-- R171: the two datapaths of a working Oven differ. -/
def xOvenMismatch (k : Nat) (d : Device) : Device :=
  if k < 24 ∧ d.nts.jobs.any (fun j => j.oven == k) then ovenFault d k else d

/-- R171: the known-answer test ends. -/
def xOvenKatDone (k : Nat) (pass : Bool) (d : Device) : Device :=
  if d.nts.kat.contains k then
    if pass then
      let d := { d with nts := { d.nts with kat := d.nts.kat.filter fun x => !(x == k) } }
      d.wn R.OVN_FAULT (putBits (d.rn R.OVN_FAULT) k 1 0)
    else ovenFault d k
  else d

/-- R171: the test of each second in idle cycles. -/
def xOvenSelfTest (k : Nat) (pass : Bool) (d : Device) : Device :=
  if k < 24 ∧ ovenOk d k ∧ !pass then ovenFault d k else d

/-- What a CUT of the Oven service discards; an NTS item among it counts as flushed (R169). -/
def ovnCut (d : Device) : Device :=
  let js := d.nts.jobs
  js.foldl (jobGone K.NTS_DROP_FLUSHED) { d with nts := { d.nts with jobs := [] } }

def ovnStop (cut : Bool) (d : Device) : Device := if cut then ovnCut d else d

/-- R70: OVN_CTL takes a word; setting a cleared Oven's bit starts its test (R171). -/
def xOvnCtlWrite (w : Word) (d : Device) : Device :=
  let old := d.fg F.OVN_CTL_ovens
  let d := unitWord d .ovn w.toNat id ovnStop
  let d := d.fs F.OVN_CTL_ovens (bits w.toNat 0 24)
  let tested := (List.range 24).filter fun k => w.toNat.testBit k && !old.testBit k && !d.nts.dead.contains k
  { d with nts := { d.nts with kat := tested.foldl setIns d.nts.kat } }

/-! ### The commands of this file -/

/-- OVN_CTL_WRITE (R70). -/
def execOvnCtlWrite (w : Word) (s : State) : Host.Outcome State Fault Refusal :=
  finish s (hostWrite R.OVN_CTL (xOvnCtlWrite w) s.dev)

/-- OVEN_KAT_DONE (R171). -/
def execOvenKatDone (k : Nat) (pass : Bool) (s : State) : Host.Outcome State Fault Refusal :=
  finish s (xOvenKatDone k pass s.dev)

/-- OVEN_JOB_COMPLETE (R170). -/
def execOvenJobComplete (id : Nat) (s : State) : Host.Outcome State Fault Refusal :=
  finish s (xOvenJobComplete id s.dev)

/-- OVEN_MISMATCH (R171). -/
def execOvenMismatch (k : Nat) (s : State) : Host.Outcome State Fault Refusal :=
  finish s (xOvenMismatch k s.dev)

/-- OVEN_SELF_TEST (R171). -/
def execOvenSelfTest (k : Nat) (pass : Bool) (s : State) : Host.Outcome State Fault Refusal :=
  finish s (xOvenSelfTest k pass s.dev)

end Sys2Proof.Machine
end

