-- ==== Sys2Proof/Machine/Pair.lean ====
section
/-! DEFINITION. The redundant pair (spec/14_pair.md): frames (R409 to R411), joining (R412 to R415), heartbeats and the fence (R416,
R417), roles (R418 to R422), time across the pair (R423 to R426), and the Starter (R427, R428). -/

namespace Sys2Proof.Machine

/-! ### State -/

def link (d : Device) : Nat := d.fg F.PAIR_STATUS_link
def linkUp (d : Device) : Bool := link d == 4
def role (d : Device) : Nat := d.fg F.PAIR_STATUS_role
def fenceIn (d : Device) : Nat := d.fg F.PAIR_STATUS_fence_in
def fenceOut (d : Device) : Nat := d.fg F.PAIR_STATUS_fence_out

/-- ACTIVE and SOLE serve. -/
def servingRole (r : Nat) : Bool := r == 2 || r == 3

/-- ACTIVE/ACTIVE. -/
def modeAA (d : Device) : Bool := d.fb F.PAIR_CFG_mode

def faultStop (d : Device) : Bool := d.fg F.GLB_STATUS_state == 2

def setFence (d : Device) (v : Nat) : Device := d.fs F.PAIR_STATUS_fence_out v

/-- Service-address entries marked in PAIR_TAKEi. -/
def marked (d : Device) : List Nat := (List.range 256).filter fun i => (d.rn (R.PAIR_TAKE (i / 32))).testBit (i % 32)

/-! ### Frames (R409, R410) -/

/-- Send a frame: HELLO and QUOTE in the clear, every other type sealed. -/
def pairSend (d : Device) (typ : Nat) (pl : Bytes) : Device :=
  let n := d.pair.txSeq + 1
  ({ d with pair := { d.pair with txSeq := n } }).emit (.elvod typ (decide (3 ≤ typ)) n pl)

/-- The same on a link that is UP. -/
def pairSendUp (d : Device) (typ : Nat) (pl : Bytes) : Device := if linkUp d then pairSend d typ pl else d

/-- R411: take a frame of a type: dropped and counted, or its payload and seq. -/
def pairTake (d : Device) (typ : Nat) (f : Bytes) : Option (Bytes × Nat) × Device :=
  let bad := f.length < 16
  let body := f.take (f.length - 4)
  if bad ∨ leVal (f.drop (f.length - 4)) ≠ (crcStd body).toNat then (none, d.cnt K.PAIR_CRC_ERR)
  else if byteAt f 0 ≠ typ then (none, d)
  else
    let sealed := (byteAt f 1).testBit 7
    let h := f.take 12
    let pl : Option Bytes :=
      if sealed then
        match d.trust.pairKey with
        | some k => if linkUp d ∧ 3 ≤ typ then sivOpen k [h] (body.drop 12) else none
        | none => none
      else if typ < 3 then some (body.drop 12) else none
    let seq := leAt f 4 8
    match pl with
    | some p =>
      if p.length = leAt f 2 2 ∧ d.pair.rxSeq < seq then (some (p, seq), { d with pair := { d.pair with rxSeq := seq } })
      else (none, d.cnt K.PAIR_AUTH_FAIL)
    | none => (none, d.cnt K.PAIR_AUTH_FAIL)

/-- Act on an accepted frame. -/
def onFrame (d : Device) (typ : Nat) (f : Bytes) (act : Device → Bytes → Nat → Device) : Device :=
  match pairTake d typ f with
  | (some (p, seq), d) => act d p seq
  | (none, d) => d

/-- ACK of a frame. -/
def ackPayload (typ seq : Nat) : Bytes := leBytes 1 typ ++ leBytes 8 seq

/-! ### Link states (R413) -/

/-- The pairwise key is wiped (R415). -/
def wipePairKey (d : Device) : Device := keyWipe { d with trust := { d.trust with pairKey := none } } 4 slotPair

/-- R425: the calibration ends without a result. -/
def pairCalFail (d : Device) : Device :=
  if d.pair.cal.isSome then
    (({ d with pair := { d.pair with cal := none } }).set1 F.PAIR_STATUS_cal_fail).clr F.PAIR_STATUS_swapped
  else d

def setLink (d : Device) (st : Nat) : Device :=
  let old := link d
  if old = st then d
  else
    let d := if old = 4 ∨ st = 5 then pairCalFail (wipePairKey d) else d
    let d := if old = 4 then { d with pair := { d.pair with batch := [] } } else d
    ((d.fs F.PAIR_STATUS_link st).pulse S.PAIR_LINK).ledger L.pairLink 0 old st

/-- A condition holds the link in DOWN. -/
def linkHeld (d : Device) : Bool :=
  !(d.fb F.PAIR_CTL_en || (d.stopOf .pair).isSome) || !paired d || !(d.fg F.PWR_PLL_STATUS).testBit 11 || !d.powered 11

/-- The link goes DOWN when a condition holds it, and leaves DOWN for TRAINING when none does. -/
def linkRefresh (d : Device) : Device :=
  if linkHeld d then setLink d 0 else if link d = 0 then setLink d 1 else d

/-! ### Roles (R418) -/

/-- Write the owned bit of a service-address entry. -/
def setOwned (b : Bool) (d : Device) (i : Nat) : Device :=
  let e := saOf d i
  if e.valid then
    let attr := BitVec.ofNat 32 (putBits e.attr.toNat 30 1 (if b then 1 else 0))
    { d with cls := { d.cls with sa := amSet SaEntry.init d.cls.sa i { e with attr } } }
  else d

/-- The marked entries are owned in SOLE, and in ACTIVE under ACTIVE/STANDBY. -/
def ownsMarked (d : Device) (r : Nat) : Bool := r == 3 || (r == 2 && !modeAA d)

def writeOwned (d : Device) (b : Bool) : Device := (marked d).foldl (setOwned b) d

def setRole (d : Device) (r : Nat) : Device :=
  let old := role d
  let d := writeOwned d (ownsMarked d r)
  if old = r then d else ((d.fs F.PAIR_STATUS_role r).pulse S.PAIR_ROLE).ledger L.pairRole 0 old r

def setSplit (d : Device) (b : Bool) : Device :=
  if d.fb F.PAIR_STATUS_split = b then d
  else ((d.fsb F.PAIR_STATUS_split b).pulse S.PAIR_SPLIT).ledger L.pairSplit 0 (if b then 0 else 1) (if b then 1 else 0)

/-- R417: this member becomes FENCED; it drives FENCE no more. (DEDUCED, log entry 70.) -/
def becomeFenced (d : Device) : Device :=
  let d := setRole (setSplit d false) 4
  let d := { d with pair := { d.pair with change := none, announce := [] } }
  if fenceOut d = 2 then setFence d 1 else d

/-! ### Announcements (R420) -/

/-- A gratuitous ARP request or an unsolicited Neighbor Advertisement of an entry on a port, sent through the Peel. -/
def announceOn (e : SaEntry) (d : Device) (port : Nat) : Device :=
  let a := e.addr.toNat
  let mac := saMac d e port
  let tci := vlanTci d e.vlan
  let f :=
    if isV4 a then
      padTo 60 (ethHdr 0xFFFFFFFFFFFF mac tci 0x0806 ++ beBytes 2 1 ++ beBytes 2 0x0800 ++ beBytes 1 6 ++ beBytes 1 4 ++ beBytes 2 1 ++
        beBytes 6 mac ++ beBytes 4 a ++ zeros 6 ++ beBytes 4 a)
    else naFrame d e port tci none
  let (c, h, _, d') := peelBook d port d.now (d.now + 1000000 * nsU) (f.length + 4) (gateClass d port tci) false false (.engine none)
  if c = T.ACCEPTED then (peelCommit d' h f none).2 else d'

/-- The set for entries with arp = 1, on each port of their ports field. -/
def announceSet (d : Device) (l : List Nat) : Device :=
  l.foldl (fun d i =>
    let e := saOf d i
    if e.valid && e.arp then ((List.range 16).filter e.onPort).foldl (announceOn e) d else d) d

/-- The first set now, and two more 1 s and 2 s later. (DEDUCED, log entry 72.) -/
def announce (d : Device) (l : List Nat) : Device :=
  let d := announceSet d l
  { d with pair := { d.pair with announce := d.pair.announce ++ [(d.tm.osc + 800000000, l), (d.tm.osc + 1600000000, l)] } }

/-! ### Taking over and the fence (R417, R419) -/

/-- Set en of a slice whose unit has no work to start. -/
def sliceOn (d : Device) (s : Nat) : Device := unitWord d (.slc s) (2 ^ 31) id (fun _ d => d)

/-- Step 4: the PTP instances set up with a service address of a marked entry. -/
def takePtp (d : Device) : Device :=
  (List.range 8).foldl (fun d i =>
    if !d.fb (F.CLS_PTP_CFG_en i) && !(ptpTransport d i == 0) && (marked d).contains (d.fg (F.CLS_PTP_SA_sa i)) then
      let d := xPtpInstanceEnable i d
      if d.fb (F.CLS_PTP_CFG_en i) then d else d.ledger L.pairRole i (role d) (d.fg (F.CLS_PTP_STATUS_err i))
    else d) d

/-- R419, in its order. -/
def takeover (d : Device) : Device :=
  if role d = 3 then d
  else
    let d := (d.cnt K.PAIR_TAKEOVER).set1 F.PAIR_STATUS_takeover
    let d := setFence (setSplit d false) 2
    let d := if d.fb F.PAIR_CTL_auto_pwr then
        let d := (d.set1 F.PWR_PD_CTL_sla_on).set1 F.PWR_PD_CTL_slb_on
        let d := (List.range 12).foldl sliceOn d
        unitWord d .ovn (2 ^ 31) id ovnStop
      else d
    let d := writeOwned d true
    let d := if d.fb F.PAIR_CTL_gnss_track && d.fg F.GNSS_CTL_mode == 1 then xGnssModeWrite 0 d else d
    let d := setRole (takePtp d) 3
    let d := { d with pair := { d.pair with change := none } }
    announce d (marked d)

/-- R417: what the member does on heartbeat loss, on the 1 s without UP, and on a change of fence_in. -/
def fenceOutcome (d : Device) : Device :=
  if !paired d || !d.fb F.PAIR_CTL_en then d
  else if fenceIn d = 2 then
    if fenceOut d = 2 then
      let d := d.cnt K.PAIR_SPLIT_SERVE
      if member d = 1 then becomeFenced d else d
    else becomeFenced d
  else if linkUp d then d
  else if fenceIn d = 0 then (if d.pair.held then d else takeover d)
  else
    let d := setSplit d true
    if role d = 0 ∧ !modeAA d then setRole d (if member d = d.fg F.PAIR_CFG_pref then 2 else 1) else d

/-- The member drives ALIVE again when nothing keeps it at DEAD. (DESIGN CHOICE, log entry 73.) -/
def fenceAlive (d : Device) : Device :=
  if fenceOut d = 0 ∧ d.fb F.PAIR_CTL_en ∧ paired d ∧ !d.pair.held ∧ d.pair.resign.isNone then setFence d 1 else d

/-- R421: the cause of a resignation has cleared. -/
def causeCleared (d : Device) : Device :=
  if d.pair.held ∧ !faultStop d ∧ !d.dtInvalid then fenceAlive { d with pair := { d.pair with held := false } } else d

/-! ### Joining (R410, R412 to R415) -/

/-- The DIK public key and the serial of the other member in the PAIR item. -/
def peerDik (d : Device) : Bytes := slice d.pair.body (if member d = 0 then 129 else 21) 96
def peerSerial (d : Device) : Nat := leAt d.pair.body (if member d = 0 then 120 else 12) 6

def pairDigest (d : Device) : Bytes := sha256 d.pair.body

/-- The nonce a member's quote carries, from the other's HELLO nonce and its own HELLO. -/
def quoteNonce (nonce hello : Bytes) : Bytes := sha256 (nonce ++ slice hello 44 97 ++ slice hello 141 72)

/-- Entry into HELLO: a fresh nonce and ephemeral key, and the HELLO frame. -/
def enterHello (d : Device) : Device :=
  let (n, d) := d.draw
  let (e, d) := drawScalar p384N d
  let nonce := beBytes 32 (Config.draw n).toNat
  let pb := pairBatch d
  let h := leBytes 6 (pairId d) ++ leBytes 6 Config.serial.toNat ++ nonce ++ [0x04] ++ ptBytes p384 (ecMul p384 e (ecG p384)) ++
    pairDigest d ++ leBytes 8 pb.1 ++ pb.2
  let d := { d with pair := { d.pair with nonce, eph := e, hello := h, peerHello := [], peerQuote := [], txSeq := 0, rxSeq := 0 } }
  pairSend (setLink d 2) 1 h

/-- The shared x with the partner's ephemeral key; none when that is no point. -/
def sharedX (d : Device) : Option Bytes :=
  let h := d.pair.peerHello
  let (x, y) := ptOf p384 (slice h 45 96)
  if byteAt h 44 = 4 ∧ onCurve p384 x y then (ecMul p384 d.pair.eph (some (x, y))).map fun p => beBytes 48 p.1 else none

/-- R415: the pairwise key. -/
def makePairKey (d : Device) : Device :=
  let d := dhAccount d
  match sharedX d with
  | none => d
  | some x =>
    let theirs := slice d.pair.peerHello 12 32
    let salt := if member d = 0 then d.pair.nonce ++ theirs else theirs ++ d.pair.nonce
    let k := hkdfExpand .s384 (hkdfExtract .s384 salt x) (ascii "ILX-PAIR" ++ leBytes 6 (pairId d)) 32
    let d := { d with trust := { d.trust with pairKey := some k } }
    keySave (keyWipe d 4 slotPair) 4 slotPair k
where
  /-- The ECDH job of requester 1 (R414). -/
  dhAccount (d : Device) : Device := pkeAccount d 1 (sharedX d).isSome

/-- Once both frames of the partner are present, the link enters ATTESTING. (DEDUCED, log entry 69.) -/
def maybeAttest (d : Device) : Device :=
  if link d = 2 ∧ !d.pair.peerHello.isEmpty ∧ !d.pair.peerQuote.isEmpty then makePairKey (setLink d 3) else d

/-- R414: the first check that fails, as att_err; 0 when all pass. -/
def attErr (d : Device) : Nat :=
  let h := d.pair.peerHello
  let q := d.pair.peerQuote
  let min := d.fg F.PAIR_CFG_min_svn
  let own := pairBatch d
  if !(q.length == 400 && sigVerify 1 (peerDik d) (q.drop 304) (q.take 304)) then 1
  else if !(slice q 16 32 == quoteNonce d.pair.nonce h) || !(leAt h 0 6 == pairId d) || d.trust.pairKey.isNone then 2
  else if !(leAt h 6 6 == peerSerial d) || !(leAt q 8 6 == peerSerial d) then 3
  else if !(byteAt q 6).testBit 0 || !(slice q 168 16 == ownerId d) then 4
  else if leAt q 60 2 < min ∨ leAt q 62 2 < min then 5
  else if (byteAt q 6).testBit 2 then 6
  else if !(slice h 141 32 == pairDigest d) then 7
  else if leAt h 173 8 = own.1 ∧ slice h 181 32 ≠ own.2 then 8
  else 0

/-! ### The Starter across the pair (R427, R428) -/

/-- The generations held with their states: 0 pending, 1 current, 2 prior 1, 3 prior 2. -/
def genStates (s : Starter) : List (Nat × Gen) :=
  s.pending.toList.map (fun g => (0, g)) ++ s.current.toList.map (fun g => (1, g)) ++ s.prior1.toList.map (fun g => (2, g)) ++
  s.prior2.toList.map (fun g => (3, g))

/-- R428: the check value of a generation. (DEDUCED, log entry 77.) -/
def genCheck (g : Gen) : Bytes := cmac g.key (ascii "ILX-GENCHK" ++ zeros 6)

def genchkPayload (s : Starter) : Bytes :=
  (genStates s).flatMap fun e => leBytes 4 e.2.num ++ leBytes 1 e.1 ++ zeros 3 ++ genCheck e.2

/-- A STARTER frame's payload; the rotation instant for a pending generation. -/
def starterPayload (d : Device) (st : Nat) (g : Gen) : Bytes :=
  let at_ := if st = 0 then ((earliestRot d).map (·.due)).getD 0 else 0
  leBytes 4 g.num ++ leBytes 1 st ++ zeros 3 ++ dt96Bytes at_ ++ g.key

/-- Member 0 offers the pending generation. -/
def offerPending (d : Device) : Device :=
  match d.starter.pending with
  | some g => if member d = 0 then pairSendUp d 5 (starterPayload d 0 g) else d
  | none => d

/-- R428 step 5: G current, G − 1 and G − 2 as priors where held, everything below retires. -/
def gensAround (d : Device) (held : List Gen) (g : Nat) : Device :=
  let s := d.starter
  let get (n : Nat) : Option Gen := held.find? fun x => x.num == n
  if (get g).isNone then d
  else
    let p1 := if 1 ≤ g then get (g - 1) else none
    let p2 := if 2 ≤ g then get (g - 2) else none
    let keep := (get g).toList ++ p1.toList ++ p2.toList
    let gone := held.filter fun x => !(keep.contains x)
    let pend := s.pending.filter fun x => decide (g < x.num)
    setGens d pend (get g) p1 p2 (s.retired ++ gone)

/-- A generation of the partner is taken: as the pending one, or among the others. -/
def adoptGen (d : Device) (st : Nat) (g : Gen) : Device :=
  let s := d.starter
  if st = 0 then setGens d (some g) s.current s.prior1 s.prior2 s.retired
  else
    let held := heldGens s
    let held := if held.any fun x => x.num == g.num then held else held ++ [g]
    let cur := (s.current.map (·.num)).getD 0
    gensAround d held (if st = 1 then max cur g.num else if s.current.isSome then cur else g.num)

/-! ### Link UP -/

/-- The pair-bound Batch goes to the partner when its seq is higher (R429). -/
def sendBatch (d : Device) : Device :=
  let own := pairBatch d
  if leAt d.pair.peerHello 173 8 < own.1 then
    let b := ((batchInForce d).getD [])
    (List.range ((b.length + 4087) / 4088)).foldl (fun d k => pairSendUp d 8 (leBytes 4 (4088 * k) ++ slice b (4088 * k) 4088)) d
  else d

/-- Roles at link UP (R418): a SOLE member stays SOLE, a fenced one FENCED. -/
def upRoles (d : Device) : Device :=
  if role d = 3 ∨ role d = 4 then d
  else if fenceIn d = 2 then becomeFenced d
  else setRole d (if modeAA d ∨ member d = d.fg F.PAIR_CFG_pref then 2 else 1)

/-- Entry into UP. -/
def enterUp (d : Device) : Device :=
  let d := setLink d 4
  let d := { d with pair := { d.pair with reached := true, watch := true, hbRx := d.tm.osc, peer := (0, 0, 0), last := none } }
  let d := fenceAlive (upRoles (setSplit d false))
  sendBatch (pairSendUp d 6 (genchkPayload d.starter))

/-! ### Stopping (R421, R422) -/

/-- PE12 begins to serve the pair. -/
def pairOn (d : Device) : Device :=
  let d := { d with pair := { d.pair with enAt := d.tm.osc, reached := false, upJudged := false, watch := false } }
  linkRefresh (fenceAlive d)

/-- The member is out of the pair. -/
def pairOff (d : Device) : Device :=
  let d := setRole (setSplit d false) 0
  let d := setFence (setLink d 0) 0
  let d := { d with pair := { d.pair with resign := none, held := false, change := none, announce := [], watch := false } }
  let d := if refType d 31 = 8 ∧ refState d 31 ≠ 0 then setState d 31 0 0 else d
  let d := xSelectorRerun d
  if (d.stopOf .pair).isSome then stopEnd d .pair pairOn else d

/-- R421: a serving member resigns; `cause` 0 FAULT_STOP, 1 dt_invalid, 2 the host's order, which holds no longer than the resignation. -/
def resignBegin (d : Device) (cause : Nat) (drain : Bool) : Device :=
  let d := pairSendUp d 0x0A [Config.resignCause cause]
  let d := setFence (setRole d 1) 0
  { d with pair := { d.pair with held := cause ≠ 2, change := none, announce := [], resign := if linkUp d then some (d.tm.osc, drain) else none } }

/-- The ACK has come, or its wait is over. -/
def resignEnd (d : Device) : Device :=
  match d.pair.resign with
  | none => d
  | some (_, drain) =>
    let d := { d with pair := { d.pair with resign := none } }
    if drain then pairOff d else fenceAlive d

/-- R422: what clearing en does. -/
def pairLeave (cut : Bool) (d : Device) : Device :=
  let d := if servingRole (role d) then resignBegin d 2 (!cut) else d
  if d.pair.resign.isSome ∧ !cut then { d with pair := { d.pair with resign := d.pair.resign.map fun r => (r.1, true) } } else pairOff d

/-! ### Configuration (R412, R430) -/

/-- The PAIR item of the Batch in force, or none, takes effect. -/
def pairConfig (d : Device) (body : Bytes) : Device :=
  let m := if leAt body 12 6 = Config.serial.toNat then 0 else 1
  let d := { d with pair := { d.pair with body } }
  if body.isEmpty then
    let d := if role d = 0 then d else setRole d 0
    let d := [R.PAIR_CFG, R.PAIR_ID_LO, R.PAIR_ID_HI, R.PAIR_PEER_LO, R.PAIR_PEER_HI].foldl (fun d o => d.wn o 0) d
    linkRefresh ((setFence (setSplit d false) 0).fs F.OVN_STARTER_STATUS_member 0)
  else
    let d := d.fs F.PAIR_CFG_configured 1
    let d := ((d.fs F.PAIR_CFG_mode (byteAt body 6)).fs F.PAIR_CFG_member m).fs F.PAIR_CFG_pref (byteAt body 7)
    let d := d.fs F.PAIR_CFG_min_svn (leAt body 8 2)
    let d := (d.wn2 R.PAIR_ID_LO R.PAIR_ID_HI (leAt body 0 6)).wn2 R.PAIR_PEER_LO R.PAIR_PEER_HI (peerSerial d)
    let d := d.fs F.OVN_STARTER_STATUS_member m
    linkRefresh (fenceAlive (if link d = 5 then setLink d 0 else d))

/-! ### Commands: joining -/

/-- R413: block lock and alignment on the receive lane. -/
def xPairLinkTrained (d : Device) : Device := if link d = 1 then enterHello d else d

/-- R410: the partner's HELLO; the member's own QUOTE answers it. -/
def xPairHelloReceive (f : Bytes) (d : Device) : Device :=
  if link d ≠ 2 then d
  else onFrame d 1 f fun d p _ =>
    if p.length ≠ 213 ∨ !d.pair.peerHello.isEmpty then d
    else
      let d := { d with pair := { d.pair with peerHello := p } }
      let (q, d) := quote d (quoteNonce (slice p 12 32) d.pair.hello) 1
      maybeAttest (pairSend d 2 q)

/-- R414: the partner's QUOTE. -/
def xPairQuoteReceive (f : Bytes) (d : Device) : Device :=
  if link d ≠ 2 then d
  else onFrame d 2 f fun d p _ => if d.pair.peerQuote.isEmpty then maybeAttest { d with pair := { d.pair with peerQuote := p } } else d

/-- R414: the checks are done. -/
def xPairAttestDone (d : Device) : Device :=
  if link d ≠ 3 then d
  else
    let e := attErr d
    let d := pkeAccount (d.fs F.PAIR_STATUS_att_err e) 1 (!(e == 1))
    if e = 0 then enterUp d else setLink d 5

/-- R413: block lock of the receive lane lost for 10 µs. -/
def xElvodBlockLockLoss (d : Device) : Device :=
  if linkUp d ∧ !(d.pair.cal.any fun c => !(c.stage == 0)) then setLink d 1 else d

/-! ### Commands: heartbeats and the fence -/

/-- Heartbeats stop counting during a lane swap (R416). -/
def swapping (d : Device) : Bool :=
  d.pair.cal.any fun c => c.stage == 1 || (c.stage == 2 && decide (d.now < c.at_ + 2020000000 * nsU))

/-- R416: an HB frame. -/
def xPairHbSend (d : Device) : Device :=
  if !linkUp d then d
  else
    let d := fenceAlive (causeCleared d)
    let fl : Nat := (if servingRole (role d) then 1 else 0) + (if d.fb F.TB_STATUS_time_valid then 2 else 0) + (if d.dtInvalid then 4 else 0) +
      (if d.fg F.GLB_STATUS_state = 0 then 0 else 8)
    pairSend d 3 (leBytes 1 (role d) ++ leBytes 1 fl ++ leBytes 4 (d.rn R.OVN_STARTER_GEN))

/-- The first second boundary at least 1 s ahead. -/
def boundaryAhead (d : Device) : Inst := (d.now + 2 * secU - 1) / secU * secU

/-- Propose new roles by a ROLE frame. -/
def proposeRoles (d : Device) (own other : Nat) : Device :=
  let at_ := boundaryAhead d
  let r := if member d = 0 then (own, other) else (other, own)
  let d := { d with pair := { d.pair with change := some (r.1, r.2, at_) } }
  pairSendUp d 9 (leBytes 1 r.1 ++ leBytes 1 r.2 ++ dt96Bytes at_)

/-- R420: the SOLE member takes a FENCED partner with valid time back. (DEDUCED, log entry 71.) -/
def rejoin (d : Device) : Device :=
  let other := 1 - member d
  if role d = 3 ∧ d.pair.peer.1 = 4 ∧ d.pair.peer.2.1.testBit 1 ∧ d.pair.change.isNone ∧ !d.dtInvalid then
    if modeAA d then proposeRoles d 2 2
    else if d.fb F.PAIR_CTL_revert ∧ d.fg F.PAIR_CFG_pref = other then proposeRoles d 1 2
    else proposeRoles d 2 1
  else d

/-- R416: an accepted HB. -/
def xPairHbReceive (f : Bytes) (d : Device) : Device :=
  onFrame d 3 f fun d p _ =>
    let d := { d with pair := { d.pair with hbRx := d.tm.osc, watch := true, peer := (byteAt p 0, byteAt p 1, leAt p 2 4) } }
    let d := if (byteAt p 1).testBit 2 then pairCalFail d else d
    rejoin (d.fsb F.PAIR_STATUS_partner_serving ((byteAt p 1).testBit 0))

/-- R416, R417: 300 µs without an accepted HB. -/
def xPairHbLoss (d : Device) : Device :=
  if d.pair.watch ∧ d.pair.hbRx + 240000 ≤ d.tm.osc ∧ !swapping d then
    let d := (({ d with pair := { d.pair with watch := false } }).cnt K.PAIR_HB_LOSS).clr F.PAIR_STATUS_partner_serving
    fenceOutcome (if linkUp d then setLink d 1 else d)
  else d

/-- R417: 1 s after en was set, without UP. -/
def xPairUpTimeout (d : Device) : Device :=
  if d.fb F.PAIR_CTL_en ∧ paired d ∧ !d.pair.reached ∧ !d.pair.upJudged ∧ d.pair.enAt + 800000000 ≤ d.tm.osc then
    fenceOutcome { d with pair := { d.pair with upJudged := true } }
  else d

/-- R408, R417: the detector's judgement changes: 0 DEAD, 1 ALIVE, 2 FENCE, 3 INVALID. -/
def xFenceChange (pat : Nat) (d : Device) : Device :=
  if pat < 4 ∧ pat ≠ fenceIn d then fenceOutcome (d.fs F.PAIR_STATUS_fence_in pat) else d

/-- R408: 200 µs without a refresh of ALIVE. -/
def xFenceRefreshTimeout (d : Device) : Device := if fenceOut d = 1 then setFence d 0 else d

/-- R420: a repeated set of announcements is due. -/
def xPairAnnounceRepeat (d : Device) : Device :=
  match d.pair.announce.find? fun e => decide (e.1 ≤ d.tm.osc) with
  | none => d
  | some e =>
    let d := { d with pair := { d.pair with announce := d.pair.announce.erase e } }
    announceSet d e.2

/-! ### Commands: roles -/

/-- R420, R421: a ROLE frame. -/
def xPairRoleReceive (f : Bytes) (d : Device) : Device :=
  onFrame d 9 f fun d p _ => { d with pair := { d.pair with change := some (byteAt p 0, byteAt p 1, ofDt96 (leAt p 2 12)) } }

/-- Entries the classifiers answer at. -/
def ownedSet (d : Device) : List Nat := (List.range 256).filter fun i => let e := saOf d i; e.valid && ownedNow d e

/-- R420: the change instant. -/
def xPairRoleChange (d : Device) : Device :=
  match d.pair.change with
  | none => d
  | some (r0, r1, at_) =>
    if d.dtInvalid ∨ d.now < at_ then d
    else
      let before := ownedSet d
      let was := role d
      let d := { d with pair := { d.pair with change := none } }
      let d := setRole d (if member d = 0 then r0 else r1)
      let d := if was = 3 then setFence d 1 else d
      let moved := (ownedSet d).filter fun i => !before.contains i
      if moved.isEmpty then d else announce d moved

/-- R421: PAIR_CMD.op = RESIGN. -/
def xPairResign (d : Device) : Device := if servingRole (role d) then resignBegin d 2 false else d

/-- R421: FAULT_STOP, or dt_invalid for 1 ms. -/
def xPairAutoResign (d : Device) : Device :=
  let lost := d.dtInvalid && (d.tb.oscLost || decide (d.tb.lossAt + 800000 ≤ d.tm.osc))
  if servingRole (role d) ∧ (faultStop d || lost) then resignBegin d (if faultStop d then 0 else 1) false else d

/-- R421: PAIR_CMD.op = HANDBACK. -/
def xPairHandback (d : Device) : Device :=
  if role d = 3 ∨ (role d = 2 ∧ !modeAA d) then
    if !linkUp d || !d.pair.peer.2.1.testBit 1 then d.set1 F.PAIR_STATUS_cal_fail
    else if modeAA d then proposeRoles d 2 2
    else proposeRoles d 1 2
  else d

/-- R421: a RESIGN frame. -/
def xPairResignReceive (f : Bytes) (d : Device) : Device :=
  onFrame d 0x0A f fun d _ seq => takeover (pairSendUp (d.set1 F.PAIR_STATUS_resign_rx) 0x0C (ackPayload 0x0A seq))

/-- R410: an ACK frame. -/
def xPairAckReceive (f : Bytes) (d : Device) : Device :=
  onFrame d 0x0C f fun d p _ =>
    if byteAt p 0 = 0x0A then resignEnd d
    else if byteAt p 0 = 5 then d.setStarter { d.starter with offered := true }
    else d

/-- R421, R422: the wait for the ACK is over. -/
def xResignAckTimeout (d : Device) : Device :=
  match d.pair.resign with
  | some (t, drain) => if t + (if drain then 8000000 else 800000) ≤ d.tm.osc then resignEnd d else d
  | none => d

/-- R422: en of PAIR_CTL is cleared, with stop as given. -/
def xPairDisable (cut : Bool) (d : Device) : Device :=
  if d.fb F.PAIR_CTL_en then unitWord d .pair (if cut then 2 ^ 30 else 0) pairOn pairLeave else d

/-! ### Commands: time (R423 to R426) -/

/-- A calibration is pending or in progress. -/
def pairCalPending (d : Device) : Bool := d.pair.cal.isSome || d.sched.pend.any fun e => e.act == .pairCal

/-- A due calibration begins. (DEDUCED, log entry 75.) -/
def pairCalBegin (d : Device) : Device :=
  let d := if d.dtInvalid then pairCalFail d else d
  match dueOf d (· == .pairCal) with
  | none => d
  | some e =>
    let d := endAct d e (doneCode e)
    if linkUp d then { d with pair := { d.pair with cal := some { at_ := e.due, handle := e.handle, stage := 0, n1 := (0, 0), s := (0, 0), n2 := (0, 0) } } }
    else d.set1 F.PAIR_STATUS_cal_fail

/-- R424: rank of the SELECTED slot, and 15 while that is REF31 or none. -/
def timeRank (d : Device) : Nat := match d.refs.sel with | some n => if n = 31 then 15 else rankOf d n | none => 15

/-- The payload of R423. -/
def timePayload (d : Device) (tx : Inst) : Bytes :=
  let (_, strat, refid, delay) := (ntpIdent d false).getD (3, 16, 0x494E4954, 0)
  let l := d.pair.last.getD (0, 0)
  dt96Bytes tx ++ dt96Bytes l.1 ++ dt96Bytes l.2 ++ leBytes 4 (satU 32 d.refs.errEst) ++ leBytes 1 (timeRank d + 16 * d.fg F.TB_SEL_STATUS_mode) ++
  leBytes 1 strat ++ leBytes 1 (timeSource d) ++
  leBytes 1 ((if d.fb F.TB_SEL_STATUS_primary then 128 else 0) + (if d.fb F.TB_STATUS_time_valid then 64 else 0)) ++ leBytes 4 refid ++ leBytes 4 delay

/-- R423: instant k × 1 ms + m × 500 µs. -/
def timeInstant (d : Device) (k : Nat) : Inst := (k * 1000 + member d * 500) * 1000 * nsU

/-- R423: a TIME frame launches at `tx`, the first block boundary at or after its instant. -/
def xPairTimeSend (tx : Inst) (d : Device) : Device :=
  let d := pairCalBegin d
  let k := (tx - member d * 500 * 1000 * nsU) / (1000000 * nsU)
  if linkUp d ∧ !d.dtInvalid ∧ d.pair.timeK < k ∧ timeInstant d k ≤ tx ∧ tx ≤ d.now + d.tm.tickLen then
    pairSend { d with pair := { d.pair with timeK := k } } 4 (timePayload d tx)
  else d

/-- R425: add a raw θ, in ps, to the window it falls into. -/
def pairCalAdd (d : Device) (q : Rat) : Device :=
  match d.pair.cal with
  | none => d
  | some c =>
    let ms (n : Nat) : Inst := c.at_ + n * 1000000 * nsU
    let inW (a b : Nat) : Bool := decide (ms a ≤ d.now) && decide (d.now < ms b)
    let add (w : Nat × Rat) : Nat × Rat := (w.1 + 1, w.2 + q)
    let c := if c.stage = 0 ∧ inW 0 1000 then { c with n1 := add c.n1 }
      else if c.stage = 1 ∧ inW 1010 2010 then { c with s := add c.s }
      else if c.stage = 2 ∧ inW 2020 3020 then { c with n2 := add c.n2 }
      else c
    { d with pair := { d.pair with cal := some c } }

/-- R424: a TIME frame with its receive stamp. (DEDUCED, log entry 74.) -/
def xPairTimeReceive (t4 : Inst) (f : Bytes) (d : Device) : Device :=
  onFrame (pairCalBegin d) 4 f fun d p _ =>
    let dt (o : Nat) : Inst := ofDt96 (leAt p o 12)
    let u := d.rn R.PAIR_TT_UNC + if d.fb F.PAIR_STATUS_asym_valid then 0 else 2000
    let d := { d with pair := { d.pair with last := some (dt 0, t4) },
                      refs := { d.refs with partnerNtp := (byteAt p 41, leAt p 44 4, leAt p 48 4) } }
    let d := d.setSlot 31 { d.slot 31 with qual := byteAt p 40 % 16, own := leAt p 36 4 + u, adv := byteAt p 42, heard := some d.tm.osc }
    if leAt p 12 12 = 0 then d
    else
      let th2 : Int := ((dt 24 : Int) - dt 12) + ((dt 0 : Int) - t4)
      let d := pairCalAdd d ((th2 : Rat) / 2 / (psU : Nat))
      if swapping d then d
      else
        let a := d.rs R.PAIR_ASYM
        let a := if d.fb F.PAIR_STATUS_swapped then -a else a
        let x := divNearI (th2 - 2 * a * psU) (2 * subU)
        let d := monFeedAll d 15 (divNearI (th2 - 2 * a * psU) (2 * psU))
        let d := { d with pair := { d.pair with offset := x } }
        if refType d 31 = 8 then refRaw d 31 x else d

/-- R425, R430: a request by the host (none), or a CAL frame of the partner. -/
def xPairCalRequest (fr : Option Bytes) (d : Device) : Device :=
  match fr with
  | none =>
    let at_ := ofDt96 (d.rn3 (R.PAIR_CAL_AT_W 0))
    let (c, h, d) := if !linkUp d || pairCalPending d then (T.FULL, 0, d) else request d .pairCal at_ false 0
    let d := d.wn R.PAIR_CAL_RESULT c
    if c = T.ACCEPTED then pairSendUp (d.wn R.PAIR_CAL_HANDLE h) 0x0B (dt96Bytes at_) else d
  | some f => onFrame d 0x0B f fun d p _ => if pairCalPending d then d else (request d .pairCal (ofDt96 (leAt p 0 12)) false 0).2.2

/-- R430: the cancel bit of PAIR_CAL_CMD. -/
def xPairCalCancel (d : Device) : Device :=
  let (c, d) := cancelAct d (d.rn R.PAIR_CAL_HANDLE) (· == .pairCal)
  d.wn R.PAIR_CAL_RESULT c

/-- R425: the hourly calibration, requested in the second before its instant (log entry 76). -/
def xPairCalAuto (d : Device) : Device :=
  if member d = 0 ∧ d.fb F.PAIR_CTL_auto_cal ∧ linkUp d ∧ !pairCalPending d ∧ d.nowSec % 3600 = 1799 then
    let at_ := (d.nowSec + 1) * secU
    let (c, _, d) := request d .pairCal at_ false 0
    if c = T.ACCEPTED then pairSendUp d 0x0B (dt96Bytes at_) else d
  else d

/-- Step 2: both members swap orientation. -/
def xPairCalSwap (d : Device) : Device :=
  let d := pairCalBegin d
  match d.pair.cal with
  | some c =>
    if c.stage = 0 ∧ c.at_ + secU ≤ d.now then ({ d with pair := { d.pair with cal := some { c with stage := 1 } } }).set1 F.PAIR_STATUS_swapped else d
  | none => d

/-- Step 4: both return to normal orientation. -/
def xPairCalReturn (d : Device) : Device :=
  match d.pair.cal with
  | some c =>
    if c.stage = 1 ∧ c.at_ + 2010000000 * nsU ≤ d.now then
      ({ d with pair := { d.pair with cal := some { c with stage := 2 } } }).clr F.PAIR_STATUS_swapped
    else d
  | none => d

/-- α changes; while REF31 is SELECTED the change in x goes into the build-out. -/
def setAsym (d : Device) (a : Int) : Device :=
  let old := d.rs R.PAIR_ASYM
  let d := (d.wn R.PAIR_ASYM (unsigned 32 a)).set1 F.PAIR_STATUS_asym_valid
  if d.refs.sel = some 31 then
    { d with refs := { d.refs with b := bNow d + lenSub ((old - a) * psU), bAt := d.tm.osc } }
  else d

/-- Step 6: α of the three windows. -/
def xPairCalFinish (d : Device) : Device :=
  match d.pair.cal with
  | some c =>
    if c.stage = 2 ∧ c.at_ + 4 * secU ≤ d.now then
      if c.n1.1 = 0 ∨ c.s.1 = 0 ∨ c.n2.1 = 0 then pairCalFail d
      else
        let m (w : Nat × Rat) : Rat := w.2 / (w.1 : Rat)
        let d := { d with pair := { d.pair with cal := none } }
        setAsym d (satS 32 (roundQ (((m c.n1 + m c.n2) / 2 - m c.s) / 2)))
    else d
  | none => d

/-- R430: a host write of PAIR_ASYM. -/
def xPairAsymWrite (w : Word) (d : Device) : Device := setAsym d (signed 32 w.toNat)

/-- R430: a read of PAIR_OFFSET_LO latches the high word. -/
def xPairOffsetRead (d : Device) : Device :=
  let v := unsigned 64 d.pair.offset
  (d.wn2 R.PAIR_OFFSET_LO R.PAIR_OFFSET_HI v).emit (.hostRead (BitVec.ofNat 32 v))

/-! ### Commands: the Starter (R427, R428) -/

/-- R427: a STARTER frame. -/
def xPairStarterReceive (f : Bytes) (d : Device) : Device :=
  onFrame d 5 f fun d p seq =>
    let g : Gen := { num := leAt p 0 4, key := slice p 20 32, inFlash := true }
    let st := byteAt p 4
    let at_ := ofDt96 (leAt p 8 12)
    let d :=
      if st = 0 then
        let d := if d.starter.rotations.any (fun r => r.due == at_) then d else (scheduleRot d at_ true).2.2
        adoptGen d 0 g
      else if st = 1 ∧ purging d then
        keMintResume ((setGens d none (some g) none none []).clr F.OVN_STARTER_STATUS_purging)
      else adoptGen d st g
    pairSendUp d 0x0C (ackPayload 5 seq)

/-- R427: a START_CMD frame. -/
def xPairStartCmdReceive (f : Bytes) (d : Device) : Device :=
  onFrame d 7 f fun d p _ =>
    let at_ := ofDt96 (leAt p 4 12)
    match byteAt p 0 with
    | 1 =>
      let (c, _, d) := scheduleRot d at_ false
      if c = T.ACCEPTED then offerPending (makePending d) else d
    | 2 => purgeBegin d
    | 3 =>
      match d.starter.rotations.find? fun r => r.due == at_ && !r.auto with
      | some r => starterPrune (cancelAct d r.handle fun a => a == .starterRotate false).2
      | none => d
    | _ => d

/-- R427: no offer 50 s before an automatic instant. -/
def xStarterPartnerTimeout (d : Device) : Device :=
  let t := nextAuto d * secU
  if member d = 1 ∧ linkUp d ∧ autoRot d ∧ d.starter.pending.isNone ∧ !d.dtInvalid ∧ t ≤ d.now + 50 * secU then
    let d := if d.starter.rotations.any (fun r => r.due == t) then d else (scheduleRot d t true).2.2
    makePending d
  else d

/-- R428: the partner's generations. -/
def xPairGenchkReceive (f : Bytes) (d : Device) : Device :=
  onFrame d 6 f fun d p _ =>
    let theirs := (chunks 24 p).map fun e => (leAt e 0 4, byteAt e 4, slice e 8 16)
    let mine := genStates d.starter
    let cur (l : List (Nat × Nat)) : Nat := l.foldl (fun m e => if e.2 = 1 then max m e.1 else m) 0
    let g := max (cur (mine.map fun e => (e.2.num, e.1))) (cur (theirs.map fun e => (e.1, e.2.1)))
    let won := if servingRole (role d) ≠ servingRole d.pair.peer.1 then servingRole (role d) else member d = 0
    let clash (x : Gen) : Bool := theirs.any fun e => e.1 == x.num && !(e.2.2 == genCheck x)
    let bad := mine.filter fun e => clash e.2
    let d := d.cntN K.PAIR_GEN_CONFLICT bad.length
    let d := if bad.isEmpty then d else d.set1 F.PAIR_STATUS_gen_conflict
    let keep (o : Option Gen) : Option Gen := if won then o else o.filter fun x => !clash x
    let lost := if won then [] else bad.map (·.2)
    let s := d.starter
    let d := if lost.isEmpty then d
      else setGens d (keep s.pending) (keep s.current) (keep s.prior1) (keep s.prior2) (s.retired ++ lost)
    let lacks (x : Gen) : Bool := !(theirs.any fun e => e.1 == x.num) || clash x
    let d := (genStates d.starter).foldl (fun d e =>
      if lacks e.2 && (e.1 == 0 || (decide (g ≤ e.2.num + 2) && decide (e.2.num ≤ g))) then pairSendUp d 5 (starterPayload d e.1 e.2) else d) d
    gensAround d (heldGens d.starter) g

/-! ### The commands of this file -/

/-- PAIR_LINK_TRAINED (R413). -/
def execPairLinkTrained (s : State) : Host.Outcome State Fault Refusal :=
  finish s (xPairLinkTrained s.dev)

/-- PAIR_HELLO_RECEIVE (R410). -/
def execPairHelloReceive (f : Bytes) (s : State) : Host.Outcome State Fault Refusal :=
  finish s (xPairHelloReceive f s.dev)

/-- PAIR_QUOTE_RECEIVE (R414). -/
def execPairQuoteReceive (f : Bytes) (s : State) : Host.Outcome State Fault Refusal :=
  finish s (xPairQuoteReceive f s.dev)

/-- PAIR_ATTEST_DONE (R414). -/
def execPairAttestDone (s : State) : Host.Outcome State Fault Refusal :=
  finish s (xPairAttestDone s.dev)

/-- PAIR_HB_SEND (R416). -/
def execPairHbSend (s : State) : Host.Outcome State Fault Refusal :=
  finish s (xPairHbSend s.dev)

/-- PAIR_HB_RECEIVE (R416). -/
def execPairHbReceive (f : Bytes) (s : State) : Host.Outcome State Fault Refusal :=
  finish s (xPairHbReceive f s.dev)

/-- PAIR_HB_LOSS (R417). -/
def execPairHbLoss (s : State) : Host.Outcome State Fault Refusal :=
  finish s (xPairHbLoss s.dev)

/-- PAIR_UP_TIMEOUT (R417). -/
def execPairUpTimeout (s : State) : Host.Outcome State Fault Refusal :=
  finish s (xPairUpTimeout s.dev)

/-- FENCE_CHANGE (R417). -/
def execFenceChange (pat : Nat) (s : State) : Host.Outcome State Fault Refusal :=
  finish s (xFenceChange pat s.dev)

/-- FENCE_REFRESH_TIMEOUT (R408). -/
def execFenceRefreshTimeout (s : State) : Host.Outcome State Fault Refusal :=
  finish s (xFenceRefreshTimeout s.dev)

/-- PAIR_ANNOUNCE_REPEAT (R420). -/
def execPairAnnounceRepeat (s : State) : Host.Outcome State Fault Refusal :=
  finish s (xPairAnnounceRepeat s.dev)

/-- PAIR_ROLE_RECEIVE (R420). -/
def execPairRoleReceive (f : Bytes) (s : State) : Host.Outcome State Fault Refusal :=
  finish s (xPairRoleReceive f s.dev)

/-- PAIR_ROLE_CHANGE (R420). -/
def execPairRoleChange (s : State) : Host.Outcome State Fault Refusal :=
  finish s (xPairRoleChange s.dev)

/-- PAIR_RESIGN (R421). -/
def execPairResign (s : State) : Host.Outcome State Fault Refusal :=
  finish s (hostWrite R.PAIR_CMD xPairResign s.dev)

/-- PAIR_AUTO_RESIGN (R421). -/
def execPairAutoResign (s : State) : Host.Outcome State Fault Refusal :=
  finish s (xPairAutoResign s.dev)

/-- PAIR_HANDBACK (R421). -/
def execPairHandback (s : State) : Host.Outcome State Fault Refusal :=
  finish s (hostWrite R.PAIR_CMD xPairHandback s.dev)

/-- PAIR_RESIGN_RECEIVE (R421). -/
def execPairResignReceive (f : Bytes) (s : State) : Host.Outcome State Fault Refusal :=
  finish s (xPairResignReceive f s.dev)

/-- PAIR_DISABLE (R422). -/
def execPairDisable (cut : Bool) (s : State) : Host.Outcome State Fault Refusal :=
  finish s (hostWrite R.PAIR_CTL (xPairDisable cut) s.dev)

/-- PAIR_TIME_SEND (R423). -/
def execPairTimeSend (tx : Inst) (s : State) : Host.Outcome State Fault Refusal :=
  finish s (xPairTimeSend tx s.dev)

/-- PAIR_TIME_RECEIVE (R424). -/
def execPairTimeReceive (t4 : Inst) (f : Bytes) (s : State) : Host.Outcome State Fault Refusal :=
  finish s (xPairTimeReceive t4 f s.dev)

/-- PAIR_CAL_REQUEST (R425). -/
def execPairCalRequest (fr : Option Bytes) (s : State) : Host.Outcome State Fault Refusal :=
  finish s (xPairCalRequest fr s.dev)

/-- PAIR_CAL_CANCEL (R430). -/
def execPairCalCancel (s : State) : Host.Outcome State Fault Refusal :=
  finish s (hostWrite R.PAIR_CAL_CMD xPairCalCancel s.dev)

/-- PAIR_CAL_AUTO (R425). -/
def execPairCalAuto (s : State) : Host.Outcome State Fault Refusal :=
  finish s (xPairCalAuto s.dev)

/-- PAIR_CAL_SWAP (R425). -/
def execPairCalSwap (s : State) : Host.Outcome State Fault Refusal :=
  finish s (xPairCalSwap s.dev)

/-- PAIR_CAL_RETURN (R425). -/
def execPairCalReturn (s : State) : Host.Outcome State Fault Refusal :=
  finish s (xPairCalReturn s.dev)

/-- PAIR_CAL_FINISH (R425). -/
def execPairCalFinish (s : State) : Host.Outcome State Fault Refusal :=
  finish s (xPairCalFinish s.dev)

/-- PAIR_ASYM_WRITE (R430). -/
def execPairAsymWrite (w : Word) (s : State) : Host.Outcome State Fault Refusal :=
  finish s (hostWrite R.PAIR_ASYM (xPairAsymWrite w) s.dev)

/-- PAIR_OFFSET_READ (R430). -/
def execPairOffsetRead (s : State) : Host.Outcome State Fault Refusal :=
  finish s (hostRead R.PAIR_OFFSET_LO xPairOffsetRead s.dev)

/-- PAIR_STARTER_RECEIVE (R427). -/
def execPairStarterReceive (f : Bytes) (s : State) : Host.Outcome State Fault Refusal :=
  finish s (xPairStarterReceive f s.dev)

/-- PAIR_START_CMD_RECEIVE (R427). -/
def execPairStartCmdReceive (f : Bytes) (s : State) : Host.Outcome State Fault Refusal :=
  finish s (xPairStartCmdReceive f s.dev)

/-- STARTER_PARTNER_TIMEOUT (R427). -/
def execStarterPartnerTimeout (s : State) : Host.Outcome State Fault Refusal :=
  finish s (xStarterPartnerTimeout s.dev)

/-- PAIR_GENCHK_RECEIVE (R428). -/
def execPairGenchkReceive (f : Bytes) (s : State) : Host.Outcome State Fault Refusal :=
  finish s (xPairGenchkReceive f s.dev)

/-- ELVOD_BLOCK_LOCK_LOSS (R413). -/
def execElvodBlockLockLoss (s : State) : Host.Outcome State Fault Refusal :=
  finish s (xElvodBlockLockLoss s.dev)

/-- PAIR_ACK_RECEIVE (R421). -/
def execPairAckReceive (f : Bytes) (s : State) : Host.Outcome State Fault Refusal :=
  finish s (xPairAckReceive f s.dev)

/-- RESIGN_ACK_TIMEOUT (R421). -/
def execResignAckTimeout (s : State) : Host.Outcome State Fault Refusal :=
  finish s (xResignAckTimeout s.dev)

end Sys2Proof.Machine
end

