-- ==== Sys2Proof/Machine/PkeCmd.lean ====
section
/-! DEFINITION. Commands of the public-key engine: jobs arriving (R389), ending (R391), the cores' tests (R400) and stopping the
pool (R403). -/

namespace Sys2Proof.Machine

/-- How a job that ended is told to the one that asked. -/
def pkeAnswer (d : Device) (j : PkeJob) (st core wait : Nat) (out : Bytes) : Device :=
  match j.dest with
  | .ke sid sign => kePkeDone d sid sign st out
  | _ => pkeTell d j st core wait out

/-- R403: the stop is complete once no job is waiting or running. -/
def pkeDrained (d : Device) : Device :=
  if (d.stopOf .pke).isSome && d.pke.jobs.isEmpty then stopEnd d .pke pkeRun else d

/-- R386, R389: a job of a host ring (requester 4) or of an engine arrives. -/
def xPkeJobSubmit (req n : Nat) (desc image : Bytes) (d : Device) : Device :=
  let desc := padTo 32 desc
  if req = 4 then
    if canTake d n 4 then
      let (slot, d) := takeDesc d n 0 false
      match pkeSubmit d 4 desc image (.host n slot) with
      | (some c, d) => complete d n slot (pkeCqe desc c 0 0 0) []
      | (none, d) => d
    else d
  else if req < 4 then
    match pkeSubmit d req desc image (.engine req) with
    | (some c, d) => d.emit (.pkeReply req (pkeCqe desc c 0 0 0) [])
    | (none, d) => d
  else d

/-- R391: the job's fixed time is over; `mismatch`: the two computations differ (R400). -/
def xPkeJobEnd (id : Nat) (mismatch : Bool) (d : Device) : Device :=
  match d.pke.jobs.find? fun j => j.id == id && j.start.isSome && decide (j.ends ≤ d.tm.osc) with
  | none => d
  | some j =>
    let core := (j.start.map (·.1)).getD 0
    let wait := (((j.start.map (·.2)).getD 0) - j.arrive) / 800
    let (st, out, d) := pkeEnd d j mismatch
    pkeDrained (pkeAnswer d j st core wait out)

/-- R400: the test every 60 s of an idle core. -/
def xPkeCoreSelfTest (k : Nat) (pass : Bool) (d : Device) : Device :=
  if k < 64 ∧ coreFree d k ∧ !pass then pkeShow (coreMismatch d k) else d

/-- R400, R403: PKE_CORE_EN_LO or _HI takes a word; a core whose bit rises runs its test. -/
def xPkeCoreEnable (i : Nat) (w : Word) (d : Device) : Device :=
  if i < 2 then
    let old := d.rn (R.PKE_CORE_EN i)
    let d := d.wr (R.PKE_CORE_EN i) w
    let up := (List.range 32).filter fun b => w.toNat.testBit b && !old.testBit b
    pkeShow (up.foldl (fun d b => coreTest d (32 * i + b)) d)
  else d

/-- R400: the end of a test of 400 µs at most. -/
def xPkeKatDone (k : Nat) (pass : Bool) (d : Device) : Device :=
  if d.pke.kat.any fun e => e.1 == k then coreTested d k pass else d

/-- The waiting jobs of some requesters complete with FLUSHED. -/
def pkeFlush (d : Device) (p : PkeJob → Bool) (told : Bool) : Device :=
  let js := d.pke.jobs.filter fun j => j.start.isNone && p j
  let d := { d with pke := { d.pke with jobs := d.pke.jobs.filter fun j => !(j.start.isNone && p j) } }
  pkeShow (js.foldl (fun d j =>
    let d := d.cnt (K.PKE_FLUSHED j.req)
    if told then pkeAnswer d j J.FLUSHED 0 0 [] else d) d)

/-- R403: what clearing en does to the work held. -/
def pkeStop (cut : Bool) (d : Device) : Device := pkeDrained (if cut then pkeFlush d (fun _ => true) true else d)

/-- R403: en of PKE_CTL is cleared, with stop as given. -/
def xPkeDisable (cut : Bool) (d : Device) : Device :=
  if d.fb F.PKE_CTL_en then unitWord d .pke (if cut then 2 ^ 30 else 0) pkeRun pkeStop else d

/-! ### The commands of this file -/

/-- PKE_JOB_SUBMIT (R389). -/
def execPkeJobSubmit (req n : Nat) (desc image : Bytes) (s : State) : Host.Outcome State Fault Refusal :=
  finish s (xPkeJobSubmit req n desc image s.dev)

/-- PKE_JOB_END (R391). -/
def execPkeJobEnd (id : Nat) (mismatch : Bool) (s : State) : Host.Outcome State Fault Refusal :=
  finish s (xPkeJobEnd id mismatch s.dev)

/-- PKE_CORE_SELF_TEST (R400). -/
def execPkeCoreSelfTest (k : Nat) (pass : Bool) (s : State) : Host.Outcome State Fault Refusal :=
  finish s (xPkeCoreSelfTest k pass s.dev)

/-- PKE_CORE_ENABLE (R400). -/
def execPkeCoreEnable (i : Nat) (w : Word) (s : State) : Host.Outcome State Fault Refusal :=
  finish s (hostWrite (R.PKE_CORE_EN i) (xPkeCoreEnable i w) s.dev)

/-- PKE_DISABLE (R403). -/
def execPkeDisable (cut : Bool) (s : State) : Host.Outcome State Fault Refusal :=
  finish s (hostWrite R.PKE_CTL (xPkeDisable cut) s.dev)

/-- PKE_KAT_DONE (R400). -/
def execPkeKatDone (k : Nat) (pass : Bool) (s : State) : Host.Outcome State Fault Refusal :=
  finish s (xPkeKatDone k pass s.dev)

end Sys2Proof.Machine
end

