-- ==== Sys2Proof/Machine/Ports.lean ====
section
/-! DEFINITION. Ethernet ports (spec/07_ports.md): modes (R199, R200), link state (R204), reception (R209 to R213), ingress calibration
(R209), statistics (R214, R215), low-power idle (R216 to R218), SyncE and ESMC (R219 to R223), the management port (R224), and
stopping a port (R205). -/

namespace Sys2Proof.Machine

def Device.portSt (d : Device) (n : Nat) : PortSt := amGet PortSt.init d.ports n

def Device.setPortSt (d : Device) (n : Nat) (x : PortSt) : Device := { d with ports := amSet PortSt.init d.ports n x }

/-- Power domain of a port: PD_MAC, or PD_LINK for port 16 (R224). -/
def portPowered (d : Device) (n : Nat) : Bool := d.powered (if n = 16 then 11 else 9)

def linkIsUp (d : Device) (n : Nat) : Bool := d.fb (F.PORT_STATUS_link_up n)

def portErr (d : Device) (n : Nat) : Device := d.set1 (F.PORT_STATUS_cfg_err n)

/-! ### Link state (R204) -/

/-- Receive strobes of a port: 16 above the transmit strobes of the same lanes (R314). -/
def rxLanes (d : Device) (n : Nat) : List Nat := (lanesOf d n).map (· + 16)

/-- R209: ingress calibration begins; port 16 needs none (R224). -/
def rxCalStart (d : Device) (n : Nat) : Device :=
  if n = 16 then d.fs (F.PORT_STATUS_rx_cal n) 2 else clearProbe (d.fs (F.PORT_STATUS_rx_cal n) 1) (rxLanes d n)

/-- link_up falls. -/
def linkFall (d : Device) (n : Nat) : Device :=
  let d := ((d.clr (F.PORT_STATUS_link_up n)).set1 (F.PORT_STATUS_link_chg n)).fs (F.PORT_STATUS_rx_cal n) 0
  let d := (d.clr (F.PORT_STATUS_tx_lpi n)).clr (F.PORT_STATUS_rx_lpi n)
  let d := if n = 16 then d.fs (F.PORT_STATUS_speed n) 0 else d
  let d := statAdd d n P.LINK_DOWN 1
  if n < 16 then peelPortDown d n else d

/-- The SerDes PLL of a port is locked (R204, R330). -/
def portPll (d : Device) (n : Nat) : Bool := (d.fg F.PWR_PLL_STATUS).testBit (if n = 16 then 11 else 7 + n / 4)

/-- R224, R225: a host frame leaves port 16. (DEDUCED, log entry 79.) -/
def mgmtSend (d : Device) (r slot : Nat) (f : Bytes) : Device :=
  let d := statTx (d.emit (.frame 16 d.now f)) 16 f
  complete d r slot (frameTxCqe d.now slot T.DONE 0 16) []

/-- R451: the host frames that waited for the link of port 16, in order. -/
def mgmtFlow (d : Device) : Device :=
  let p := d.portSt 16
  p.hostQ.foldl (fun d e => mgmtSend d e.1 e.2.1 e.2.2) (d.setPortSt 16 { p with hostQ := [] })

/-- Waiting host frames of port 16 complete with FLUSHED. -/
def mgmtFlushQ (d : Device) (p : Nat → Bool) (told : Bool) : Device :=
  let x := d.portSt 16
  let d := d.setPortSt 16 { x with hostQ := x.hostQ.filter fun e => !p e.1 }
  if told then (x.hostQ.filter fun e => p e.1).foldl (fun d e => complete d e.1 e.2.1 (frameTxCqe 0 e.2.1 T.FLUSHED 2 16) []) d else d

/-- R204: alignment without faults for 1 ms; `speed` is port 16's code of R203. -/
def xLinkUp (n speed : Nat) (d : Device) : Device :=
  if portUsed d n && portPowered d n && portPll d n && !linkIsUp d n then
    let d := (d.set1 (F.PORT_STATUS_aligned n)).set1 (F.PORT_STATUS_an_done n)
    let d := (d.clr (F.PORT_STATUS_local_fault n)).clr (F.PORT_STATUS_remote_fault n)
    let d := d.fsb (F.PORT_STATUS_fec_lock n) (decide (n < 16) && portMode d n == 0)
    let d := if n = 16 then d.fs (F.PORT_STATUS_speed n) (min 3 speed) else d
    let d := (d.set1 (F.PORT_STATUS_link_up n)).set1 (F.PORT_STATUS_link_chg n)
    if n = 16 then mgmtFlow (rxCalStart d n) else rxCalStart (peelCalStart d n) n
  else d

/-- R204: alignment lost, or a fault; the three conditions as they stand now. -/
def xLinkDown (n : Nat) (aligned lf rf : Bool) (d : Device) : Device :=
  if n ≤ 16 ∧ linkIsUp d n ∧ (!aligned || lf || rf) then
    let d := (d.fsb (F.PORT_STATUS_aligned n) aligned).fsb (F.PORT_STATUS_local_fault n) lf
    let d := (d.fsb (F.PORT_STATUS_remote_fault n) rf).fsb (F.PORT_STATUS_fec_lock n) (aligned && d.fb (F.PORT_STATUS_fec_lock n))
    linkFall (d.fsb (F.PORT_STATUS_an_done n) aligned) n
  else d

/-! ### Ingress calibration (R209) -/

/-- The trim in force in the stamps, in ps. -/
def ingAdj (d : Device) (n : Nat) : Int := amGet 0 d.peel.egrAdj (0x100 + n)

def xRxCalDone (n : Nat) (d : Device) : Device :=
  let ls := rxLanes d n
  if n < 16 ∧ d.fg (F.PORT_STATUS_rx_cal n) = 1 ∧ probeValid d ∧ probeHas d ls 1024 then
    let offs := ls.map fun s => divNearI (probeMean d s) psU
    let p := d.peel
    let d := { d with peel := { p with ingOff := amIns (amDel p.ingOff n) n offs, calAt := amIns (amDel p.calAt (0x100 + n)) (0x100 + n) d.tm.osc,
                                       egrAdj := amSet 0 p.egrAdj (0x100 + n) (signed 16 (d.fg (F.PORT_ING_ADJ n))) } }
    let ph := (probeMean d (ls.headD 0)) % ((gridPeriod (portMode d n) * psU : Nat) : Int)
    let d := d.wn (R.PORT_ING_PHASE n) (divNearI ph binU).toNat
    (clearProbe d ls).fs (F.PORT_STATUS_rx_cal n) 2
  else d

/-- The check of each second; skipped while the partner is in LPI. -/
def xRxCalCheck (n : Nat) (d : Device) : Device :=
  let ls := rxLanes d n
  if n < 16 ∧ d.fg (F.PORT_STATUS_rx_cal n) = 2 ∧ !d.fb (F.PORT_STATUS_rx_lpi n) ∧ probeHas d ls 16 ∧
      amGet 0 d.peel.calAt (0x100 + n) + 800000000 ≤ d.tm.osc then
    let offs := amGet [] d.peel.ingOff n
    let period : Int := (gridPeriod (portMode d n) : Nat)
    let far (i s : Nat) : Bool :=
      let x := (divNearI (probeMean d s) psU - offs.getD i 0) % period
      decide (50 < min x (period - x))
    let slip := ls.zipIdx.any fun e => far e.2 e.1
    let d := { d with peel := { d.peel with calAt := amIns (amDel d.peel.calAt (0x100 + n)) (0x100 + n) d.tm.osc } }
    let d := clearProbe d ls
    if slip then rxCalStart ((d.set1 (F.PORT_STATUS_slip n)).ledger L.ingSlip n 0 0) n else d
  else d

/-! ### ESMC (R221 to R223); layout of the PDU from ITU-T G.8264 (PRESUMED, log entry 61) -/

/-- Where the TLVs of an ESMC PDU start, and its QL TLV. -/
def esmcGood (f : Bytes) : Bool :=
  beAt f 0 6 == 0x0180C2000002 && beAt f 12 2 == 0x8809 && byteAt f 14 == 0x0A && beAt f 15 3 == 0x0019A7 && beAt f 18 2 == 1 &&
  byteAt f 20 / 16 == 1 && byteAt f 24 == 1 && beAt f 25 2 == 4

/-- A frame of the ESMC: slow protocol of subtype 0x0A. -/
def isEsmc (f : Bytes) : Bool := beAt f 0 6 == 0x0180C2000002 && beAt f 12 2 == 0x8809 && byteAt f 14 == 0x0A

/-- R221: a PDU reaches the receiver. -/
def esmcRx (d : Device) (n : Nat) (f : Bytes) : Device :=
  if n < 16 ∧ d.fb (F.PORT_SYNCE_esmc_en n) ∧ esmcGood f then
    let ext := byteAt f 28 == 2 && beAt f 29 2 == 20
    let d := ((d.fs (F.PORT_ESMC_RX_ssm n) (byteAt f 27 % 16)).set1 (F.PORT_ESMC_RX_valid n)).fsb (F.PORT_ESMC_RX_ext n) ext
    let d := if ext then d.fs (F.PORT_ESMC_RX_essm n) (byteAt f 31) else d
    d.setPortSt n { d.portSt n with esmcAt := d.tm.osc, eeecs := if ext then byteAt f 41 else 0, eecs := if ext then byteAt f 42 else 0 }
  else d

def xEsmcRxTimeout (n : Nat) (d : Device) : Device :=
  if n < 16 ∧ d.fb (F.PORT_ESMC_RX_valid n) ∧ (d.portSt n).esmcAt + 5 * 800000000 ≤ d.tm.osc then d.clr (F.PORT_ESMC_RX_valid n) else d

/-- The SyncE slot's port of the selected reference, when the selected slot is a SyncE slot. -/
def selSynce (d : Device) : Option Nat :=
  let s := d.fg F.TB_SEL_STATUS_slot
  if refSelected d && refType d s == 5 then syncePort d s else none

/-- R222: the codes to be sent: SSM and enhanced SSM. (DEDUCED, log entry 65.) -/
def qlToSend (d : Device) (n : Nat) : Nat × Nat :=
  let essm := d.fg F.PORT_ESMC_CTL_essm
  if selSynce d == some n || !d.fb F.TB_STATUS_time_valid || !d.refs.everSel then (0xF, 0xFF)
  else if refSelected d then
    if d.fg F.TB_SEL_STATUS_rank = 1 then (if d.fb F.PORT_ESMC_CTL_opt then 1 else 2, essm)
    else
      match selSynce d with
      | some p => (d.fg (F.PORT_ESMC_RX_ssm p), essm)
      | none => (d.fg F.PORT_ESMC_CTL_ql_other, essm)
  else (d.fg F.PORT_ESMC_CTL_ql_hold, essm)

def esmcPdu (d : Device) (n : Nat) (event : Bool) : Bytes :=
  let (ssm, essm) := qlToSend d n
  let (eeec, eec) := match selSynce d with | some p => ((d.portSt p).eeecs, (d.portSt p).eecs + 1) | none => (0, 0)
  let ext := beBytes 1 2 ++ beBytes 2 20 ++ beBytes 1 essm ++ beBytes 4 (d.rn R.PORT_ESMC_ID_HI) ++ beBytes 4 (d.rn R.PORT_ESMC_ID_LO) ++
    zeros 1 ++ beBytes 1 (min 255 eeec) ++ beBytes 1 (min 255 eec) ++ zeros 5
  padTo 60 (ethHdr 0x0180C2000002 (portMac d n) none 0x8809 ++ beBytes 1 0x0A ++ beBytes 3 0x0019A7 ++ beBytes 2 1 ++
    beBytes 1 (0x10 + if event then 8 else 0) ++ zeros 3 ++ beBytes 1 1 ++ beBytes 2 4 ++ beBytes 1 ssm ++
    (if d.fb (F.PORT_SYNCE_ext_en n) then ext else []))

/-- Book and commit a PDU in a window; one that cannot be booked is not sent. -/
def esmcSend (d : Device) (n : Nat) (event : Bool) (te tl : Inst) : Device :=
  let f := esmcPdu d n event
  let q := qlToSend d n
  let d := d.setPortSt n { d.portSt n with sent := some q }
  let (c, h, _, d') := peelBook d n te tl (f.length + 4) (gateClass d n none) false false (.engine (some (0x10000 + P.TX_ESMC)))
  if c = T.ACCEPTED then
    (((peelCommit d' h f none).2).fs (F.PORT_ESMC_TX_ssm n) q.1).fs (F.PORT_ESMC_TX_essm n) q.2
  else d'

def esmcOn (d : Device) (n : Nat) : Bool := decide (n < 16) && d.fb (F.PORT_SYNCE_esmc_en n) && !d.dtInvalid

/-- R222: the information PDU of the second in progress. -/
def xEsmcInfoSend (n : Nat) (d : Device) : Device :=
  if esmcOn d n && !((d.portSt n).infoSec == d.nowSec) then
    let te := d.nowSec * secU + 10000000 * n * nsU
    esmcSend (d.setPortSt n { d.portSt n with infoSec := d.nowSec }) n false te (te + 10000000 * nsU)
  else d

/-- R222: the QL to be sent has changed. -/
def xEsmcEventSend (n : Nat) (d : Device) : Device :=
  match (d.portSt n).sent with
  | some q => if esmcOn d n && !(q == qlToSend d n) then esmcSend d n true d.now (d.now + 10000000 * nsU) else d
  | none => d

/-! ### Reception (R207, R211 to R213) -/

/-- Counters of a frame that passed steps 1 and 2. -/
def statRx (d : Device) (n : Nat) (f : Bytes) : Device :=
  let len := f.length + 4
  let d := statAdd (statAdd d n P.RX_OCTETS_OK len) n P.RX_FRAMES_OK 1
  let d := statAdd (statAdd d n (P.RX_UCAST + dstType f) 1) n (P.RX_64 + sizeBucket len) 1
  if beAt f 12 2 = 0x8100 then statAdd d n P.RX_VLAN 1 else d

/-- Step 1: the counter of a frame that is discarded for its code errors, length or FCS. -/
def badFrame (d : Device) (n len : Nat) (codeErr fcsOk : Bool) : Option Nat :=
  if codeErr then some P.RX_CODE_ERR
  else if len < 64 then some (if fcsOk then P.RX_UNDERSIZE else P.RX_FRAGMENT)
  else if d.fg (F.PORT_MAXLEN n) < len then some (if fcsOk then P.RX_OVERSIZE else P.RX_JABBER)
  else if fcsOk then none
  else some P.RX_FCS_ERR

/-- R17, R207, R209: the ingress stamp of an event at a bin of the tick. -/
def rxStamp (d : Device) (n b : Nat) : Inst := ((d.stamp b : Int) - ingAdj d n * psU).toNat

/-- Step 4: a link-local control frame other than PTP (R213). -/
def linkLocal (d : Device) (n : Nat) (stamp : Inst) (f : Bytes) : Device :=
  let d := statAdd d n P.RX_L2CTL 1
  if isEsmc f then esmcRx d n f
  else if d.fb (F.PORT_CTL_l2ctl_host n) then hostFrame d n stamp f 9
  else d

/-- Step 5: the classifier, once P_RX holds the frame (R58). -/
def ingress (d : Device) (n : Nat) (stamp : Inst) (f : Bytes) : Device :=
  let k := cellsOf f.length
  let p := poolPolicy d 0
  let d := if p = 1 then makeRoom rxFree 0 (sumOf (fun e => e.2.queue.length) d.slices) k d else d
  if poolRoom d 0 k then classify d n stamp f
  else statAdd (poolDrop (if p = 2 then poolStall d 0 else d) 0) n P.RX_DROP_NOBUF 1

/-- Steps 2 to 5 of R211 for a good frame. -/
def goodFrame (d : Device) (n : Nat) (stamp : Inst) (f : Bytes) : Device :=
  let e := parseEth f
  if !d.up (.port n) || !(d.fg (F.PORT_STATUS_rx_cal n) == 2) then statAdd d n P.RX_DROP_PORT 1
  else
    let d := monFeed (statRx d n f) 13 n n (f.length + 4 : Nat)
    if e.etype = 0x8808 then statAdd d n P.RX_MAC_CTRL 1
    else if n = 16 then hostFrame d 16 stamp f 0
    else if e.dst / 16 = 0x0180C200000 ∧ e.etype ≠ 0x88F7 then linkLocal d n stamp f
    else ingress d n stamp f

/-- R211: a received frame (without its FCS), its code-error and FCS verdicts, the bin of its stamp, and the codewords that FEC
corrected and could not correct since the last frame. -/
def portRx (d : Device) (n b : Nat) (codeErr fcsOk : Bool) (corr uncorr : Nat) (f : Bytes) : Device :=
  if linkIsUp d n && portUsed d n && portPowered d n then
    let len := f.length + 4
    let d := statAdd d n P.RX_OCTETS_ALL len
    let d := statAdd (statAdd d n P.RX_FEC_CORR corr) n P.RX_FEC_UNCORR uncorr
    match badFrame d n len codeErr fcsOk with
    | some k => statAdd d n k 1
    | none => goodFrame d n (rxStamp d n (b % 125)) f
  else d

/-- (DESIGN CHOICE, log entry 64.) -/
def xPortFrameReceive (n b : Nat) (codeErr fcsOk : Bool) (corr uncorr : Nat) (f : Bytes) (d : Device) : Device :=
  if n < 16 then portRx d n b codeErr fcsOk corr uncorr f else d

/-- R224: a frame of the management port. -/
def xMgmtFrameReceive (b : Nat) (codeErr fcsOk : Bool) (f : Bytes) (d : Device) : Device := portRx d 16 b codeErr fcsOk 0 0 f

/-- R221: a good frame that is an ESMC PDU arrives. -/
def xEsmcReceive (n : Nat) (f : Bytes) (d : Device) : Device :=
  if n < 16 ∧ isEsmc f then portRx d n 0 false true 0 0 f else d

/-! ### Host writes -/

/-- R200, R203: PORTn_MODE. -/
def xPortModeWrite (n : Nat) (w : Word) (d : Device) : Device :=
  let v := w.toNat
  if n = 16 then
    if bits v 0 2 < 2 then (d.fs (F.PORT_MODE_m16 16) (bits v 0 2)).fs (F.PORT_MODE_an 16) (bits v 8 1) else d
  else if n < 16 ∧ n % 4 = 0 then
    if bits v 16 2 = 3 ∨ bits v 12 2 = 3 then d
    else if (nats n 4).all fun p => d.down (.port p) then
      let d := ((d.fs (F.PORT_MODE_grp n) (bits v 16 2)).fs (F.PORT_MODE_pmd n) (bits v 12 2)).fs (F.PORT_MODE_an n) (bits v 8 1)
      (nats n 4).foldl (fun d p =>
        if linkIsUp d p then linkFall (((d.clr (F.PORT_STATUS_aligned p)).clr (F.PORT_STATUS_fec_lock p)).clr (F.PORT_STATUS_an_done p)) p else d) d
    else portErr d n
  else d

/-- What an enabled port does first (R136). -/
def portStart (n : Nat) (d : Device) : Device := if n < 16 ∧ linkIsUp d n then peelCalStart d n else d

/-- R202: a write that sets en. -/
def xPortEnable (n : Nat) (d : Device) : Device :=
  if portUsed d n && !d.fb (F.PORT_CTL_en n) then
    if portMac d n = 0 then portErr d n
    else if (d.stopOf (.port n)).isSome then d.set1 (F.PORT_CTL_en n)
    else portStart n (startWord d (.port n))
  else d

/-- R205: what clearing en does; under CUT the host frames that wait on port 16 complete with FLUSHED. -/
def portStop (n : Nat) (cut : Bool) (d : Device) : Device :=
  if n < 16 then peelPortDown d n else if cut then mgmtFlushQ d (fun _ => true) true else d

/-- R205: nothing of the port remains in flight. -/
def portIdle (d : Device) (n : Nat) : Bool :=
  let mine (i : Item) : Bool := clsItem i && i.port == n
  !(d.slices.any fun e => e.2.queue.any mine || e.2.reprom.any fun r => mine r.item) && (portBookings d n).isEmpty && (d.portSt n).hostQ.isEmpty && !wireBusy d n &&
  !(d.nts.jobs.any fun j => ((laneJobBooking j.work).map (·.2)) == some n)

/-- R202: stat_clr. -/
def xPortStatClear (n : Nat) (d : Device) : Device :=
  if n ≤ 16 then
    ({ d with stats := d.stats.filter fun e => !(e.1 / 64 == n) }.wn (R.PORT_HALF_LO n) 0).wn (R.PORT_HALF_HI n) 0
  else d

/-- R215: a read of PORTn_STATk_LO. -/
def xPortStatRead (n k : Nat) (d : Device) : Device :=
  if n ≤ 16 ∧ k < 42 then
    let v := amGet 0 d.stats (64 * n + k)
    (d.setPortSt n { d.portSt n with latch := v / 2 ^ 32 }).emit (.hostRead (BitVec.ofNat 32 v))
  else d

/-! ### Low-power idle (R216 to R218) -/

/-- R216: the PMD permits transmit LPI. -/
def lpiPmd (d : Device) (n : Nat) : Bool :=
  let pmd := d.fg (F.PORT_MODE_pmd (n / 4 * 4))
  if n = 16 then d.fg (F.PORT_MODE_m16 16) == 1 && d.fg (F.PORT_STATUS_speed 16) == 3
  else if portMode d n = 2 then pmd == 0
  else pmd == 0 || pmd == 1

/-- A sleeping transmitter wakes. -/
def lpiWake (d : Device) (n : Nat) : Device :=
  if d.fb (F.PORT_STATUS_tx_lpi n) then (d.clr (F.PORT_STATUS_tx_lpi n)).emit (.portWake n) else d

/-- R216 to R218: lpi_en is written. -/
def xPortLpiEnable (n : Nat) (on : Bool) (d : Device) : Device :=
  if n ≤ 16 then
    if on then
      if lpiPmd d n && !d.fb (F.PORT_SYNCE_ref_en n) && !d.fb (F.PORT_SYNCE_esmc_en n) then d.set1 (F.PORT_CTL_lpi_en n) else portErr d n
    else lpiWake (d.clr (F.PORT_CTL_lpi_en n)) n
  else d

/-- R217: PORTn_LPI. -/
def xPortLpiWrite (n : Nat) (w : Word) (d : Device) : Device :=
  if n ≤ 16 then
    lpiWake ((d.fs (F.PORT_LPI_tw n) (bits w.toNat 16 16)).fs (F.PORT_LPI_ts n) (bits w.toNat 4 12)) n
  else d

/-- R135, R217: an idle port with no booking within its wake and sleep times enters LPI. -/
def xTxLpiEntry (n : Nat) (d : Device) : Device :=
  let span := d.fg (F.PORT_LPI_tw n) + d.fg (F.PORT_LPI_ts n) * 1000
  if n ≤ 16 ∧ d.fb (F.PORT_CTL_lpi_en n) ∧ lpiPmd d n ∧ d.fg (F.PORT_LPI_tw n) ≠ 0 ∧ linkIsUp d n ∧ !d.fb (F.PORT_STATUS_tx_lpi n) ∧
      (portBookings d n).all (fun b => decide (d.now + span * nsU < b.due)) then
    statAdd (d.set1 (F.PORT_STATUS_tx_lpi n)) n P.TX_LPI 1
  else d

/-- R218: the partner's transmit side falls asleep or wakes. -/
def xPartnerLpiChange (n : Nat) (asleep : Bool) (d : Device) : Device :=
  if n ≤ 16 ∧ linkIsUp d n then
    let d' := d.fsb (F.PORT_STATUS_rx_lpi n) asleep
    if asleep && !d.fb (F.PORT_STATUS_rx_lpi n) then statAdd d' n P.RX_LPI 1 else d'
  else d

/-- R218, R220: PORTn_SYNCE, or the refusal of the write. -/
def xPortSynceWrite (n : Nat) (w : Word) (d : Device) : Device :=
  let v := w.toNat
  let ref := v.testBit 31
  let esmc := v.testBit 30
  let others := ((List.range 16).filter fun p => !(p == n) && d.fb (F.PORT_SYNCE_ref_en p)).length
  if n ≤ 16 then
    if (ref && (n == 16 || decide (4 ≤ others))) || bits v 16 5 == 31 || (d.fb (F.PORT_CTL_lpi_en n) && (ref || esmc)) then portErr d n
    else
      let d := ((d.fsb (F.PORT_SYNCE_ref_en n) ref).fsb (F.PORT_SYNCE_esmc_en n) esmc).fsb (F.PORT_SYNCE_ext_en n) (v.testBit 29)
      d.fs (F.PORT_SYNCE_refslot n) (bits v 16 5)
  else d

/-! ### The commands of this file -/

/-- PORT_FRAME_RECEIVE (R211). -/
def execPortFrameReceive (n b : Nat) (codeErr fcsOk : Bool) (corr uncorr : Nat) (f : Bytes) (s : State) : Host.Outcome State Fault Refusal :=
  finish s (xPortFrameReceive n b codeErr fcsOk corr uncorr f s.dev)

/-- MGMT_FRAME_RECEIVE (R224). -/
def execMgmtFrameReceive (b : Nat) (codeErr fcsOk : Bool) (f : Bytes) (s : State) : Host.Outcome State Fault Refusal :=
  finish s (xMgmtFrameReceive b codeErr fcsOk f s.dev)

/-- PORT_MODE_WRITE (R200). -/
def execPortModeWrite (n : Nat) (w : Word) (s : State) : Host.Outcome State Fault Refusal :=
  finish s (hostWrite (R.PORT_MODE n) (xPortModeWrite n w) s.dev)

/-- PORT_ENABLE (R202). -/
def execPortEnable (n : Nat) (s : State) : Host.Outcome State Fault Refusal :=
  finish s (hostWrite (R.PORT_CTL n) (xPortEnable n) s.dev)

/-- PORT_STAT_CLEAR (R202). -/
def execPortStatClear (n : Nat) (s : State) : Host.Outcome State Fault Refusal :=
  finish s (hostWrite (R.PORT_CTL n) (xPortStatClear n) s.dev)

/-- PORT_LPI_ENABLE (R216). -/
def execPortLpiEnable (n : Nat) (on : Bool) (s : State) : Host.Outcome State Fault Refusal :=
  finish s (hostWrite (R.PORT_CTL n) (xPortLpiEnable n on) s.dev)

/-- PORT_LPI_WRITE (R217). -/
def execPortLpiWrite (n : Nat) (w : Word) (s : State) : Host.Outcome State Fault Refusal :=
  finish s (hostWrite (R.PORT_LPI n) (xPortLpiWrite n w) s.dev)

/-- PORT_SYNCE_WRITE (R220). -/
def execPortSynceWrite (n : Nat) (w : Word) (s : State) : Host.Outcome State Fault Refusal :=
  finish s (hostWrite (R.PORT_SYNCE n) (xPortSynceWrite n w) s.dev)

/-- LINK_UP (R204). -/
def execLinkUp (n speed : Nat) (s : State) : Host.Outcome State Fault Refusal :=
  finish s (xLinkUp n speed s.dev)

/-- LINK_DOWN (R204). -/
def execLinkDown (n : Nat) (aligned lf rf : Bool) (s : State) : Host.Outcome State Fault Refusal :=
  finish s (xLinkDown n aligned lf rf s.dev)

/-- RX_CAL_DONE (R209). -/
def execRxCalDone (n : Nat) (s : State) : Host.Outcome State Fault Refusal :=
  finish s (xRxCalDone n s.dev)

/-- RX_CAL_CHECK (R209). -/
def execRxCalCheck (n : Nat) (s : State) : Host.Outcome State Fault Refusal :=
  finish s (xRxCalCheck n s.dev)

/-- PORT_STAT_READ (R215). -/
def execPortStatRead (n k : Nat) (s : State) : Host.Outcome State Fault Refusal :=
  finish s (hostRead (R.PORT_STAT_LO n k) (xPortStatRead n k) s.dev)

/-- ESMC_RECEIVE (R221). -/
def execEsmcReceive (n : Nat) (f : Bytes) (s : State) : Host.Outcome State Fault Refusal :=
  finish s (xEsmcReceive n f s.dev)

/-- ESMC_RX_TIMEOUT (R221). -/
def execEsmcRxTimeout (n : Nat) (s : State) : Host.Outcome State Fault Refusal :=
  finish s (xEsmcRxTimeout n s.dev)

/-- ESMC_INFO_SEND (R222). -/
def execEsmcInfoSend (n : Nat) (s : State) : Host.Outcome State Fault Refusal :=
  finish s (xEsmcInfoSend n s.dev)

/-- ESMC_EVENT_SEND (R222). -/
def execEsmcEventSend (n : Nat) (s : State) : Host.Outcome State Fault Refusal :=
  finish s (xEsmcEventSend n s.dev)

/-- TX_LPI_ENTRY (R217). -/
def execTxLpiEntry (n : Nat) (s : State) : Host.Outcome State Fault Refusal :=
  finish s (xTxLpiEntry n s.dev)

/-- PARTNER_LPI_CHANGE (R218). -/
def execPartnerLpiChange (n : Nat) (asleep : Bool) (s : State) : Host.Outcome State Fault Refusal :=
  finish s (xPartnerLpiChange n asleep s.dev)

end Sys2Proof.Machine
end

