-- ==== Sys2Proof/Machine/StarterCmd.lean ====
section
/-! DEFINITION. Commands of the Starter (R157 to R160): preparing a rotation, rotating or deferring, the host's ROTATE, cancel and
PURGE. -/

namespace Sys2Proof.Machine

/-- The generations of a paired member 1 come from member 0 (R427). -/
def follows (d : Device) : Bool := member d == 1 && linkUp d

/-- R157: 60 s before the next automatic instant its rotation is scheduled; the earliest scheduled rotation within 60 s gets its
pending generation, which is offered to the partner. -/
def xStarterPrepare (d : Device) : Device :=
  if d.dtInvalid ∨ d.starter.current.isNone then d
  else
    let t := nextAuto d
    let near (due : Inst) : Bool := decide (due ≤ d.now + 60 * secU)
    let d :=
      if autoRot d && near (t * secU) && !(d.starter.preparedSec == t) && !(d.starter.rotations.any fun r => r.due == t * secU) && !follows d then
        let (c, _, d) := scheduleRot d (t * secU) true
        if c = T.ACCEPTED then d.setStarter { d.starter with preparedSec := t } else d
      else d
    if d.starter.pending.isNone && !follows d && !purging d && (earliestRot d).any fun r => near r.due then offerPending (makePending d) else d

/-- R158: the rotation takes place. -/
def doRotate (d : Device) (h : Nat) : Device := rotateGens (dropRot d h)

/-- R157, R158: a rotation instant: the generations move, or the rotation is deferred; a rotation found missed at load (R161) takes
place once. -/
def xStarterRotate (d : Device) : Device :=
  match d.starter.rotations.find? fun r => r.handle == 0 && !d.dtInvalid && d.fb F.TB_STATUS_dt_set && decide (r.due ≤ d.now) with
  | some _ => if pendingReady d then doRotate d 0 else dropRot d 0
  | none =>
    match dueOf d fun a => a == .starterRotate true || a == .starterRotate false with
    | none => d
    | some e =>
      let r := (d.starter.rotations.find? fun r => r.handle == e.handle).getD { handle := e.handle, due := e.due, auto := true, deferrals := 0 }
      if pendingReady d then doRotate (endAct d e (doneCode e)) e.handle
      else if r.deferrals < 60 then deferRot d r
      else (dropRot (endAct d e T.MISSED) e.handle).pulse S.STARTER_FAULT

/-- R158: jobs that started before the instant have ended. -/
def xStarterWipeRetired (d : Device) : Device := wipeRetired d

/-- R159: instants within 60 s of an automatic one. -/
def nearAuto (d : Device) (t : Inst) : Bool :=
  let p := starterPeriod d * secU
  decide (t % p ≤ 60 * secU) || decide (p ≤ t % p + 60 * secU)

/-- A START_CMD payload: op, instant and handle. -/
def startCmd (op : Nat) (at_ : Inst) (h : Nat) : Bytes := leBytes 1 op ++ zeros 3 ++ dt96Bytes at_ ++ leBytes 4 h

/-- R159: OVN_STARTER_CMD.op = ROTATE. -/
def xStarterRotateRequest (d : Device) : Device :=
  let t := ofDt96 (d.rn3 (R.OVN_STARTER_AT_W 0))
  let full := (d.starter.rotations.any fun r => !r.auto) || (autoRot d && nearAuto d t)
  let soon := !autoRot d || decide (t < nextAuto d * secU)
  let (c, h, d) := if full then (T.FULL, 0, d) else scheduleRot d t false
  let d := d.wn R.OVN_STARTER_RESULT c
  if c = T.ACCEPTED then
    let d := d.wn R.OVN_STARTER_HANDLE h
    if follows d then pairSend d 7 (startCmd 1 t h)
    else if soon then offerPending (makePending d)
    else d
  else d

/-- R159: the cancel bit of OVN_STARTER_CMD. -/
def xStarterCancel (d : Device) : Device :=
  let h := d.rn R.OVN_STARTER_HANDLE
  let due := ((d.starter.rotations.find? fun r => r.handle == h).map (·.due)).getD 0
  let (c, d) := cancelAct d h (· == .starterRotate false)
  let d := d.wn R.OVN_STARTER_RESULT c
  if c = T.CANCELLED then
    let d := starterPrune d
    if follows d then pairSend d 7 (startCmd 3 due h) else d
  else d

/-- R160, R427: a PURGE, on both members. -/
def purgeBoth (d : Device) : Device :=
  if purging d then d else pairSendUp (purgeBegin d) 7 (startCmd 2 0 0)

/-- R160: OVN_STARTER_CMD.op = PURGE. -/
def xStarterPurge (d : Device) : Device :=
  if d.fb F.OVN_STARTER_POLICY_purge_host then purgeBoth d else d.set1 F.OVN_STARTER_STATUS_denied

/-- R160: the PURGE finishes; a following member waits for the generation of member 0. -/
def xPurgeComplete (d : Device) : Device :=
  if !purging d || follows d then d
  else
    let d := keMintResume (purgeEnd d)
    match d.starter.current with
    | some g => pairSendUp d 5 (starterPayload d 1 g)
    | none => d

/-! ### The commands of this file -/

/-- STARTER_PREPARE (R157). -/
def execStarterPrepare (s : State) : Host.Outcome State Fault Refusal :=
  finish s (xStarterPrepare s.dev)

/-- STARTER_ROTATE (R158). -/
def execStarterRotate (s : State) : Host.Outcome State Fault Refusal :=
  finish s (xStarterRotate s.dev)

/-- STARTER_WIPE_RETIRED (R158). -/
def execStarterWipeRetired (s : State) : Host.Outcome State Fault Refusal :=
  finish s (xStarterWipeRetired s.dev)

/-- STARTER_ROTATE_REQUEST (R159). -/
def execStarterRotateRequest (s : State) : Host.Outcome State Fault Refusal :=
  finish s (hostWrite R.OVN_STARTER_CMD xStarterRotateRequest s.dev)

/-- STARTER_CANCEL (R159). -/
def execStarterCancel (s : State) : Host.Outcome State Fault Refusal :=
  finish s (hostWrite R.OVN_STARTER_CMD xStarterCancel s.dev)

/-- STARTER_PURGE (R160). -/
def execStarterPurge (s : State) : Host.Outcome State Fault Refusal :=
  finish s (hostWrite R.OVN_STARTER_CMD xStarterPurge s.dev)

/-- PURGE_COMPLETE (R160). -/
def execPurgeComplete (s : State) : Host.Outcome State Fault Refusal :=
  finish s (xPurgeComplete s.dev)

end Sys2Proof.Machine
end

