-- ==== Sys2Proof/Machine/Tic.lean ====
section
/-! DEFINITION. The time-interval counter (spec/10_tic.md): stamps (R300 to R302), event records (R303 to R305), interval pairs
(R306 to R309), line calibration (R310 to R313), and what ends them (R317, R318). -/

namespace Sys2Proof.Machine

def Device.ticCh (d : Device) (n : Nat) : TicCh := amGet TicCh.init d.tic.chans n

def Device.setTicCh (d : Device) (n : Nat) (c : TicCh) : Device :=
  { d with tic := { d.tic with chans := amSet TicCh.init d.tic.chans n c } }

def Device.ticPair (d : Device) (p : Nat) : TicPair := amGet TicPair.init d.tic.pairs p

def Device.setTicPair (d : Device) (p : Nat) (x : TicPair) : Device :=
  { d with tic := { d.tic with pairs := amSet TicPair.init d.tic.pairs p x } }

/-- The serving line. -/
def TicCh.serving (c : TicCh) : TicLine := if c.onB then c.b else c.a

/-- R302: 3.0 ns. -/
def ticDead : Nat := 3 * nsU

/-! ### Codes (R301) -/

/-- The code itself, or the nearest code with a non-zero width (the lower one on a tie); false when it stands for another. -/
def codeOf (l : TicLine) (c : Nat) : Bool × Nat :=
  let w (k : Nat) : Nat := (l.tbl.getD k (0, 0)).2
  if w c ≠ 0 then (true, c)
  else
    let cand := (List.range 512).filter fun k => w k ≠ 0
    (false, (leastBy (fun k => (k - c) + (c - k)) cand).getD c)

/-- A length of φ units of 1/40,000 tick, in time units. -/
def phiLen (d : Device) (phi : Nat) : Rat := (phi * d.tm.incr.toNat : Nat) / 320

/-- A stamp kept to 2^-32 ns. -/
def to32 (q : Rat) : Inst := ((q / (1000 * 2 ^ 13 : Nat) + 1 / 2).floor * (1000 * 2 ^ 13 : Nat)).toNat

/-! ### Records (R303, R304) -/

/-- Send a record to the ring of TIC_RING; false when it is discarded. (DESIGN CHOICE, log entry 35.) -/
def ticRecord (d : Device) (bs : Bytes) : Bool × Device :=
  let n := d.fg F.TIC_RING_ring
  let (ok, d') := putRecord d n 6 bs false
  if ok then (true, d')
  else
    let d' := if ringClass d n == 6 then ringLost d' n 1 else d'
    (false, (d'.cnt K.TIC_REC_DROP).set1 F.TIC_STATUS_rec_drop)

/-- R305: the event record. -/
def eventRecord (n seq nlost : Nat) (gap line stepped : Bool) (code phi : Nat) (t : Inst) : Bytes :=
  let b (x : Bool) (k : Nat) : Nat := if x then 2 ^ k else 0
  leBytes 1 0x40 ++ leBytes 1 n ++ leBytes 2 seq ++
  leBytes 1 (b (decide (0 < nlost)) 7 + b gap 6 + b line 5 + b stepped 4) ++ leBytes 1 (min 255 nlost) ++ leBytes 2 code ++
  leBytes 2 phi ++ zeros 6 ++ dt96Bytes t ++ zeros 4

/-- R309: the interval record. -/
def intervalRecord (p start stop seq : Nat) (flags : Nat) (gap : Bool) (value : Nat) (first : Inst) : Bytes :=
  leBytes 1 0x41 ++ leBytes 1 (start * 16 + stop) ++ leBytes 2 seq ++
  leBytes 1 (flags * 8 + (if gap then 4 else 0) + p) ++ zeros 3 ++ leBytes 8 value ++ dt96Bytes first ++ zeros 4

/-- R303: an accepted edge's record, when its turn in the decimation comes. -/
def ticEvent (d : Device) (n code phi : Nat) (t : Inst) : Device :=
  if d.fb F.TIC_RING_en && d.fb (F.TIC_CH_CFG_host_rec n) then
    let c := d.ticCh n
    let k := c.decCount + 1
    if k < 2 ^ d.fg (F.TIC_CH_CFG_dec n) then d.setTicCh n { c with decCount := k }
    else
      let (ok, d) := ticRecord d (eventRecord n c.seq c.nlost c.gap c.onB c.stepped code phi t)
      let seq := (c.seq + 1) % 2 ^ 16
      if ok then d.setTicCh n { c with decCount := 0, seq, nlost := 0, gap := false, stepped := false }
      else d.setTicCh n { c with decCount := 0, seq, gap := true }
  else d

/-! ### Pairs (R306 to R309) -/

def pairStart (d : Device) (p : Nat) : Nat := d.fg (F.TIC_PAIR_CFG_first_ch p)
def pairStop (d : Device) (p : Nat) : Nat := d.fg (F.TIC_PAIR_CFG_last_ch p)

/-- A result: latched, reported, and the pair armed again or disarmed.  `flags` has the bits of TIC_PAIRp_FLAGS: sub_bin 16,
order 8, ovf 4. -/
def pairResult (d : Device) (p : Nat) (value flags : Nat) (first : Inst) : Device :=
  let x := d.ticPair p
  let flags := flags + (if x.lost then 2 else 0) + (if x.stepped then 1 else 0)
  let (ok, d) :=
    if d.fb F.TIC_RING_en then ticRecord d (intervalRecord p (pairStart d p) (pairStop d p) x.seq flags x.gap value first)
    else (true, d)
  let sent := d.fb F.TIC_RING_en
  let gap := if sent then !ok else x.gap
  d.setTicPair p { x with st := if d.fb (F.TIC_PAIR_CFG_single p) then 0 else 1, first := none, lost := false,
                          stepped := false, gap, seq := (x.seq + 1) % 2 ^ 16, last := value, flags }

/-- R307: the interval between two edges, in time units, from the ticks between them and their fine terms. (DEDUCED, log entry 34.) -/
def interval (a b : TicFirst) : Rat := ((b.run : Int) - a.run : Int) + (b.fine - a.fine)

/-- The closing edge of an open pair. -/
def pairClose (d : Device) (p : Nat) (a b : TicFirst) : Device :=
  let v := interval a b
  let two := !(pairStart d p == pairStop d p)
  let neg := two && a.ch == pairStop d p
  let v := if neg then -v else v
  let sub := decide (absQ v < max a.wid b.wid)
  let n := if sub then 0 else roundQ (v / (subU : Rat))
  let d := monFeed d 9 p p (if sub then 0 else roundQ (v / (psU : Rat)))
  pairResult d p (unsigned 64 n) ((if sub then 16 else 0) + (if neg && !sub then 8 else 0)) a.stamp

/-- R308: the overflow result. -/
def pairOverflow (d : Device) (p : Nat) (a : TicFirst) : Device :=
  let two := !(pairStart d p == pairStop d p)
  let neg := two && a.ch == pairStop d p
  pairResult d p (if neg then 0x8000000000000001 else 0x7FFFFFFFFFFFFFFF) (4 + if neg then 8 else 0) a.stamp

/-- The open pair has counted 2^40 − 1 ticks. -/
def pairIsOver (d : Device) (a : TicFirst) : Bool := decide (a.tick + (2 ^ 40 - 1) ≤ d.tm.ticks)

/-- R306: an accepted edge reaches a pair. -/
def pairEdge (e : TicFirst) (d : Device) (p : Nat) : Device :=
  if !d.up (.ticPair p) || !(e.ch == pairStart d p || e.ch == pairStop d p) then d
  else
    let d := match (d.ticPair p).first with
      | some a => if pairIsOver d a then pairOverflow d p a else d
      | none => d
    let x := d.ticPair p
    match x.st, x.first with
    | 1, _ => d.setTicPair p { x with st := 2, first := some e }
    | 2, some a =>
      if e.ch == a.ch && !(pairStart d p == pairStop d p) then (d.setTicPair p { x with first := some e }).cnt K.TIC_PAIR_REOPEN
      else if e.tick = a.tick ∧ e.phi < a.phi then pairClose d p e a
      else pairClose d p a e
    | _, _ => d

/-- An open pair returns to ARMED without a result, counted. -/
def pairAbort (d : Device) (p : Nat) : Device :=
  let x := d.ticPair p
  if x.st = 2 then (d.setTicPair p { x with st := 1, first := none, stepped := false }).cnt K.TIC_PAIR_ABORT else d

/-! ### Edges (R298, R301, R302) -/

/-- An edge of the input reaches the delay line of channel n: the serving line's sample is `code`. -/
def xTicEdge (n code : Nat) (d : Device) : Device :=
  let c := d.ticCh n
  let l := c.serving
  if 8 ≤ n ∨ 512 ≤ code ∨ ¬ d.up (.ticCh n) ∨ d.dtInvalid ∨ ¬ l.valid then d
  else if c.presc + 1 < 2 ^ min 6 (d.fg (F.TIC_CH_CFG_presc n)) then d.setTicCh n { c with presc := c.presc + 1 }
  else
    let c := { c with presc := 0 }
    let (good, k) := codeOf l code
    let (phi, w) := l.tbl.getD k (0, 0)
    let fine := phiLen d phi
    let raw := d.now + (fine + 1 / 2).floor.toNat
    if (match c.lastEdge with | some p => decide (d.tm.run + (fine + 1 / 2).floor.toNat < p + ticDead) | none => false) then
      let d := (d.setTicCh n { c with nlost := c.nlost + 1 }).cnt (K.TIC_CH_LOST n)
      let d := d.fs (F.TIC_CH_STAT_lost n) (min 255 (d.fg (F.TIC_CH_STAT_lost n) + 1))
      (List.range 4).foldl (fun d p =>
        if n == pairStart d p || n == pairStop d p then d.setTicPair p { d.ticPair p with lost := true } else d) d
    else
      let d := if good then d else d.cnt K.TIC_BADCODE
      let delay := d.rs (R.TIC_CH_DELAY n) * (psU : Int)
      let t := to32 (((d.now : Int) - delay : Int) + fine)
      let d := d.setTicCh n { c with lastEdge := some (d.tm.run + (raw - d.now)) }
      let e : TicFirst := { ch := n, tick := d.tm.ticks, run := d.tm.run, fine := fine - (delay : Rat), wid := phiLen d w, phi,
                            stamp := t }
      let d := ticEvent d n code phi t
      let d := (List.range 4).foldl (pairEdge e) d
      (List.range 32).foldl (fun d r =>
        if (refType d r == 2 || refType d r == 3) && refEn d r && d.fg (F.REF_CFG_src r) == n then refEdge d r t else d) d

/-- R308: an open pair reaches 2^40 − 1 ticks. -/
def xTicPairOverflow (p : Nat) (d : Device) : Device :=
  match (d.ticPair p).first with
  | some a => if p < 4 ∧ (d.ticPair p).st = 2 ∧ pairIsOver d a then pairOverflow d p a else d
  | none => d

/-- R320: a read of TIC_PAIRp_LAST_LO latches the high word and the flags. -/
def xTicPairLastRead (p : Nat) (d : Device) : Device :=
  if p < 4 then
    let x := d.ticPair p
    let d := d.wn2 (R.TIC_PAIR_LAST_LO p) (R.TIC_PAIR_LAST_HI p) x.last
    (d.wn (R.TIC_PAIR_FLAGS p) x.flags).emit (.hostRead (BitVec.ofNat 32 x.last))
  else d

/-! ### Enabling (R312, R318, R322) -/

/-- R322: setting en arms the pair. -/
def xTicPairEnable (p : Nat) (d : Device) : Device :=
  if 4 ≤ p ∨ d.fb (UnitId.ticPair p).en then d
  else
    let d := (d.set1 (UnitId.ticPair p).en).clr (UnitId.ticPair p).drained
    d.setTicPair p { d.ticPair p with st := 1, first := none, lost := false, stepped := false }

/-- R312: setting en of a channel without a valid table is ignored. -/
def xTicChannelEnable (n : Nat) (d : Device) : Device :=
  let c := d.ticCh n
  if 8 ≤ n ∨ d.fb (UnitId.ticCh n).en ∨ (!c.a.valid && !c.b.valid) then d
  else
    let d := d.set1 (UnitId.ticCh n).en
    let d := if (d.stopOf (.ticCh n)).isSome then d else d.clr (UnitId.ticCh n).drained
    d.setTicCh n { c with presc := 0, decCount := 0, lastEdge := none, stepped := false }

/-- R318: the pairs that use a channel return to ARMED when it stops. -/
def ticChPairs (d : Device) (n : Nat) : Device :=
  (List.range 4).foldl (fun d p => if n == pairStart d p || n == pairStop d p then pairAbort d p else d) d

/-! ### Calibration (R310 to R312) -/

def calBusy (d : Device) : Bool := d.fb F.TIC_STATUS_cal_busy

/-- R310: the table of a line from its hits: positions and widths in 1/40,000 tick. -/
def calTable (m : Nat) : Nat → List Nat → List (Nat × Nat)
  | _, [] => []
  | acc, h :: t =>
    (divNear (40000 * m - (40000 * acc + 20000 * h)) m, divNear (40000 * h) m) :: calTable m (acc + h) t

/-- M of R310. -/
def calM : Nat := 2 ^ 22

/-- Codes in use. -/
def usedCodes (hits : List Nat) : Nat := (hits.filter fun h => 0 < h).length

/-- R310: 0 when the table is accepted, else its failure code: RANGE 1, GAP 2, WIDE 3. -/
def calCheck (hits : List Nat) : Nat :=
  let used := usedCodes hits
  if (hits.take used).any (· == 0) then 2
  else if used < 400 ∨ 511 < used then 1
  else if (calTable calM 0 hits).any fun e => 384 < e.2 then 3
  else 0

/-- A failure shown in TIC_CAL_STATUS. -/
def calFail (d : Device) (n : Nat) (onB : Bool) (err : Nat) : Device :=
  (((d.fs F.TIC_CAL_STATUS_err err).fs F.TIC_CAL_STATUS_chan n).fsb F.TIC_CAL_STATUS_line onB).set1 F.TIC_STATUS_cal_fail

/-- The line a channel's stage calibrates: the standby line, or line A of a channel without a valid serving table; then the
other. -/
def calLine (c : TicCh) : Bool := if c.stage = 2 then !c.onB else if c.serving.valid then !c.onB else c.onB

/-- Show a channel's lines. -/
def showLines (d : Device) (n : Nat) : Device :=
  let c := d.ticCh n
  let d := d.fs F.TIC_STATUS_valid (putBits (d.fg F.TIC_STATUS_valid) n 1 (if c.serving.valid then 1 else 0))
  if n < 8 then ((d.fsb (F.TIC_CH_STAT_line n) c.onB).fsb (F.TIC_CH_STAT_va n) c.a.valid).fsb (F.TIC_CH_STAT_vb n) c.b.valid else d

/-- The cycle ends when no channel has a stage left. -/
def calMaybeEnd (d : Device) : Device :=
  if calBusy d && (List.range 9).all fun n => (d.ticCh n).stage == 0 then
    { d.clr F.TIC_STATUS_cal_busy with tic := { d.tic with calDone := some d.tm.osc } }
  else d

/-- A cycle begins on all channels. -/
def calBegin (d : Device) : Device :=
  let d := (List.range 9).foldl (fun d n => d.setTicCh n { d.ticCh n with stage := 1 }) d
  { d.set1 F.TIC_STATUS_cal_busy with tic := { d.tic with calStart := some d.tm.osc, abortAt := none } }

/-- R311: a write of 1 to TIC_CAL_CTL.start. -/
def xTicCalStart (d : Device) : Device := if calBusy d then d else calBegin d

/-- R311, R312: an automatic cycle: the period has passed, the temperature has moved, or 1 s has passed since an abort. -/
def xTicCalAuto (temp : Int) (d : Device) : Device :=
  let period := d.fg F.TIC_CAL_CTL_period
  let since (o : Option Nat) (s : Nat) : Bool := match o with | some t => decide (t + s * 800000000 ≤ d.tm.osc) | none => false
  let warm := d.fg F.TIC_CAL_CTL_temp
  let moved : Bool := match d.tic.lastTemp with | some t => decide (warm ≠ 0 ∧ 10 * warm ≤ (temp - t).natAbs) | none => false
  if d.fb F.TIC_CAL_CTL_auto ∧ ¬ calBusy d ∧
      ((period ≠ 0 ∧ since d.tic.calStart (max 60 period)) ∨ moved ∨ since d.tic.abortAt 1) then
    calBegin { d with tic := { d.tic with lastTemp := some temp } }
  else d

/-- R310, R311: the line under calibration on a channel has taken its 2^22 edges. -/
def xTicLineCalDone (n : Nat) (hits : List Nat) (temp : Int) (d : Device) : Device :=
  let c := d.ticCh n
  if 9 ≤ n ∨ c.stage = 0 ∨ hits.length ≠ 512 ∨ sumOf id hits ≠ calM then d
  else
    let onB := calLine c
    let err := calCheck hits
    let d := { d with tic := { d.tic with lastTemp := some temp } }
    if err ≠ 0 then calMaybeEnd (calFail (d.setTicCh n { c with stage := 0 }) n onB err)
    else
      let l : TicLine := { valid := true, tbl := calTable calM 0 hits, used := usedCodes hits, sec := d.nowSec % 2 ^ 32, temp }
      let c := if onB then { c with b := l } else { c with a := l }
      let c := if c.stage = 1 then { c with onB := onB, stage := 2 } else { c with stage := 0 }
      calMaybeEnd (showLines (d.setTicCh n c) n)

/-- R312: the calibration in progress on a channel ends with ABORT; its lines keep their tables. -/
def calAbort (d : Device) (n : Nat) : Device :=
  let c := d.ticCh n
  if c.stage = 0 then d
  else
    let d := calFail (d.setTicCh n { c with stage := 0 }) n (calLine c) 4
    calMaybeEnd { d with tic := { d.tic with abortAt := some d.tm.osc } }

/-- R312, R317: Device Time becomes invalid: calibrations end, open pairs return to ARMED, and the next records carry gap. -/
def ticInvalid (d : Device) : Device :=
  let d := (List.range 9).foldl calAbort d
  let d := (List.range 4).foldl pairAbort d
  let d := (List.range 8).foldl (fun d n => if d.fb (UnitId.ticCh n).en then d.setTicCh n { d.ticCh n with gap := true } else d) d
  (List.range 4).foldl (fun d p => if d.fb (UnitId.ticPair p).en then d.setTicPair p { d.ticPair p with gap := true } else d) d

/-! ### What the TIC's registers show (R313, R323) -/

/-- R313: a word of a line's table. -/
def ticTblWord (d : Device) : Nat :=
  let n := d.fg F.TIC_TBL_IDX_chan
  let onB := d.fb F.TIC_TBL_IDX_line
  let k := d.fg F.TIC_TBL_IDX_entry
  let c := d.ticCh n
  let l := if onB then c.b else c.a
  if 9 ≤ n then 0
  else if k < 512 then (l.tbl.getD k (0, 0)).1 * 65536 + (l.tbl.getD k (0, 0)).2
  else if k = 512 then calM
  else if k = 513 then (if c.onB == onB then 65536 else 0) + (if l.valid then 32768 else 0) + l.used
  else if k = 514 then l.sec
  else if k = 515 then unsigned 16 l.temp
  else 0

/-- R323: seconds since the last completed cycle. -/
def ticAge (d : Device) : Nat :=
  match d.tic.calDone with
  | some t => min 0xFFFF ((d.tm.osc - t) / 800000000)
  | none => 0xFFFF

/-! ### The commands of this file -/

/-- TIC_EDGE (R301). -/
def execTicEdge (n code : Nat) (s : State) : Host.Outcome State Fault Refusal :=
  finish s (xTicEdge n code s.dev)

/-- TIC_PAIR_OVERFLOW (R308). -/
def execTicPairOverflow (p : Nat) (s : State) : Host.Outcome State Fault Refusal :=
  finish s (xTicPairOverflow p s.dev)

/-- TIC_PAIR_ENABLE (R322). -/
def execTicPairEnable (p : Nat) (s : State) : Host.Outcome State Fault Refusal :=
  finish s (hostWrite (R.TIC_PAIR_CFG p) (xTicPairEnable p) s.dev)

/-- TIC_CHANNEL_ENABLE (R312). -/
def execTicChannelEnable (n : Nat) (s : State) : Host.Outcome State Fault Refusal :=
  finish s (hostWrite (R.TIC_CH_CFG n) (xTicChannelEnable n) s.dev)

/-- TIC_CAL_START (R311). -/
def execTicCalStart (s : State) : Host.Outcome State Fault Refusal :=
  finish s (hostWrite R.TIC_CAL_CTL xTicCalStart s.dev)

/-- TIC_CAL_AUTO (R311). -/
def execTicCalAuto (temp : Int) (s : State) : Host.Outcome State Fault Refusal :=
  finish s (xTicCalAuto temp s.dev)

/-- TIC_LINE_CAL_DONE (R310). -/
def execTicLineCalDone (n : Nat) (hits : List Nat) (temp : Int) (s : State) : Host.Outcome State Fault Refusal :=
  finish s (xTicLineCalDone n hits temp s.dev)

/-- TIC_PAIR_LAST_READ (R320). -/
def execTicPairLastRead (p : Nat) (s : State) : Host.Outcome State Fault Refusal :=
  finish s (hostRead (R.TIC_PAIR_LAST_LO p) (xTicPairLastRead p) s.dev)

end Sys2Proof.Machine
end

