-- ==== Sys2Proof/Machine/Clocks.lean ====
section
/-! DEFINITION. Clocks: the lock windows of every PLL (R333), loss of lock (R328, R528), the AON clock and relocking (R529), FAULT and
FAULT_STOP (R530, R531), and the restore of Device Time (R329). -/

namespace Sys2Proof.Machine

def pllLocked (d : Device) (b : Nat) : Bool := (d.fg F.PWR_PLL_STATUS).testBit b

def setPll (d : Device) (b : Nat) (v : Bool) : Device :=
  d.wn R.PWR_PLL_STATUS (putBits (d.rn R.PWR_PLL_STATUS) b 1 (if v then 1 else 0))

def Device.setLife (d : Device) (l : Life) : Device := { d with life := l }

/-! ### Events of this chapter (R537) -/

/-- A Ledger accrues once the Trough is set up. -/
def accrues (d : Device) : Bool := d.fb F.TROUGH_STATUS_ready

/-- Hold an event in PD_AON: 8 at most, further ones counted. -/
def holdEvent (d : Device) (code src arg0 : Nat) : Device :=
  if d.life.events.length < 8 then
    d.setLife { d.life with events := d.life.events ++ [{ code, src, at_ := none, arg0 := arg0 % 2 ^ 32, arg1 := d.rawCount % 2 ^ 32 }] }
  else d.cnt K.MON_LEDGER_EVLOST

def glbEvent (d : Device) (code src arg0 arg1 : Nat) : Device :=
  if accrues d then d.ledger code src arg0 arg1 else holdEvent d code src arg0

/-! ### FAULT and FAULT_STOP (R530, R531) -/

def faultEnter (d : Device) (cause : Nat) : Device :=
  if d.fg F.GLB_STATUS_state = 2 then d
  else
    let d := ((d.fs F.GLB_STATUS_state 1).fs F.GLB_STATUS_cause cause).set1 F.GLB_STATUS_fault_n
    (glbEvent d 0x82 cause 0 0).pulse (if cause = 4 then S.TAMPER else S.PLL_LOSS)

/-- R522, R531: the timebase goes on in HOLDOVER; the SELECTED slot is followed no more. -/
def toHoldover (d : Device) : Device :=
  match d.refs.sel with
  | some n => refreshTbs (refreshErr (enterHoldover { d with refs := { d.refs with sel := none } } n))
  | none => d

/-- A ring stops as under CUT and writes nothing to host memory. -/
def ringSilence (d : Device) (n : Nat) : Device :=
  let r := d.ring n
  let d := d.cntN K.HIF_HALT_DISCARD (r.posted.length + r.heldOut.length)
  let d := d.setRing n { r with posted := [], heldOut := [], part := [], partRecs := 0, partStart := none, events := [] }
  d.set1 (F.HIF_RING_STATUS_halted n)

def faultStopEnter (d : Device) (cause : Nat) : Device :=
  if d.fg F.GLB_STATUS_state = 2 then d
  else
    let d := ((d.fs F.GLB_STATUS_state 2).fs F.GLB_STATUS_cause cause).set1 F.GLB_STATUS_fault_n
    let d := d.setLife { d.life with stopAt := d.tm.osc }
    let d := ((List.range 16).filter (linkIsUp d)).foldl linkFall d
    let d := ((List.range 256).filter fun n => d.fb (F.HIF_RING_CTL_en n)).foldl ringSilence (clsCut d)
    holdEvent (toHoldover d) 0x83 cause 0

/-! ### Loss of lock (R328, R528, R529) -/

/-- A window open in a monitor spans the loss. -/
def markInvalid (d : Device) : Device :=
  let d := d.secSplit
  { d with mon := { d.mon with secInvalid := true,
                               hists := d.mon.hists.map fun (e : Nat × Hist) => (e.1, { e.2 with win := { e.2.win with invalid := true } }) } }

/-- R328: the TIME APLL loses lock. -/
def apllLoss (d : Device) : Device :=
  let busy := (List.range 8).filter fun n => d.fb (F.TOUT_STATUS_running n) && toutBusy d n d.now
  let d := d.set1 F.TB_STATUS_dt_invalid
  let d := { d with tb := { d.tb with lossAt := d.tm.osc, oscLost := !pllLocked d 16 } }
  let d := busy.foldl (fun d n => d.set1 (F.TOUT_STATUS_shortened n)) d
  let d := gnssInvalid (ticInvalid (d.set1 F.PEEL_STATUS_invalid))
  let d := pairCalFail (markInvalid d)
  refreshTbs (refreshTimeValid d)

def showFallback (d : Device) : Device := d.fsb F.GLB_STATUS_fallback (!d.life.aonClk.isEmpty)

/-- R529: a domain switches to the AON clock; its count of attempts is fresh when lock had held for 1 s. -/
def fallback (d : Device) (b : Nat) : Device :=
  let l := d.life
  let old := decide (amGet 0 l.lockAt b + 800000000 ≤ d.tm.osc)
  let d := d.setLife { l with aonClk := setIns l.aonClk b, attempts := if old then amDel l.attempts b else l.attempts }
  let d := glbEvent (showFallback d) 0x84 b 0 0
  if b = 2 then pkeClock d true else d

/-- What the loss of a clock does beside its status, event and source (R333). -/
def lossEffect (d : Device) (b : Nat) : Device :=
  if b < 3 then fallback d b
  else if b = 3 then faultStopEnter d 8
  else if b = 4 then apllLoss d
  else if b = 5 then gnssSilence ((releaseChans d fun _ => true).clr F.GNSS_STATUS_clk_ok)
  else if b = 6 then xPcieLinkDown d
  else if b < 11 then ((nats (4 * (b - 7)) 4).filter (linkIsUp d)).foldl linkFall d
  else if b = 11 then (if linkIsUp d 16 then linkFall (linkRefresh d) 16 else linkRefresh d)
  else if b < 16 then d.clr (F.FOUT_STATUS_lock (b - 12))
  else refreshTbs { d with tb := { d.tb with oscLost := true } }

/-- A clock's loss of lock is declared; that of the TIME APLL is recorded with Device Time invalid from the same tick on (R328,
R505). -/
def pllLoss (d : Device) (b : Nat) : Device :=
  let d := setPll d b false
  let d := d.wn R.PWR_PLL_EVT (putBits (d.rn R.PWR_PLL_EVT) b 1 1)
  let d := d.pulse S.PLL_LOSS
  if b = 4 then (lossEffect d b).ledger L.pllLoss b 0 0 else lossEffect (d.ledger L.pllLoss b 0 0) b

/-- A clock's lock is declared. -/
def pllLock (d : Device) (b : Nat) : Device :=
  let d := setPll d b true
  let d := d.setLife { d.life with lockAt := amIns (amDel d.life.lockAt b) b d.tm.osc }
  if b = 11 then linkRefresh d
  else if 12 ≤ b ∧ b < 16 then
    let n := b - 4
    (d.set1 (F.FOUT_STATUS_lock (b - 12))).setOut n { d.outOf n with enAt := d.now }
  else if b = 16 then refreshTbs { d with tb := { d.tb with oscAt := d.tm.osc, warm := false } }
  else d

/-- R333: the clocks that are checked. -/
def pllChecked (d : Device) (b : Nat) : Bool :=
  if b = 5 then d.powered 7
  else if b = 11 then d.powered 11
  else if 12 ≤ b ∧ b < 16 then !d.down (.fout (b - 12))
  else true

/-- One clock's window. -/
def pllWindow (good : Nat) (d : Device) (b : Nat) : Device :=
  if !pllChecked d b then
    let d := { d with tb := { d.tb with good := amDel d.tb.good b, bad := amDel d.tb.bad b } }
    let d := if pllLocked d b then setPll d b false else d
    if 12 ≤ b ∧ b < 16 then d.clr (F.FOUT_STATUS_lock (b - 12)) else d
  else if good.testBit b then
    let n := min 4 (amGet 0 d.tb.good b + 1)
    let d := { d with tb := { d.tb with good := amSet 0 d.tb.good b n, bad := amDel d.tb.bad b } }
    if n = 4 ∧ !pllLocked d b ∧ !d.life.aonClk.contains b then pllLock d b else d
  else
    let n := min 2 (amGet 0 d.tb.bad b + 1)
    let d := { d with tb := { d.tb with bad := amSet 0 d.tb.bad b n, good := amDel d.tb.good b } }
    let d := if b = 16 ∧ d.dtInvalid then { d with tb := { d.tb with oscLost := true } } else d
    if n = 2 ∧ pllLocked d b then
      let d := pllLoss d b
      if b = 16 ∧ pllLocked d 4 then pllLoss d 4 else d
    else d

/-- R328: the pair (D, N) at the end of a good window of the TIME APLL, D at the tick of a 10 MHz edge. -/
def recordPair (d : Device) : Device :=
  let r := d.tm.osc % 80
  { d with tm := { d.tm with pairD := d.now - r * d.tm.tickLen, pairN := d.tm.osc - r } }

/-- R333: a window of 10 µs ends; `good` has bit b set when clock b's count is within its tolerance. -/
def xPllLockWindow (good : Nat) (d : Device) : Device :=
  let d := (16 :: List.range 16).foldl (pllWindow good) d
  if good.testBit 4 ∧ pllLocked d 4 ∧ !d.dtInvalid then recordPair d else d

/-- R529: a relock attempt of a domain on the AON clock ends. -/
def xPllRelockAttempt (k : Nat) (ok : Bool) (d : Device) : Device :=
  let n := amGet 0 d.life.attempts k
  if !d.life.aonClk.contains k ∨ 3 ≤ n then d
  else
    let d := d.setLife { d.life with attempts := amSet 0 d.life.attempts k (n + 1) }
    if ok then
      let d := showFallback (d.setLife { d.life with aonClk := setDel d.life.aonClk k })
      let d := glbEvent (pllLock d k) 0x85 k (n + 1) 0
      if k = 2 then pkeClock d false else d
    else if n + 1 = 3 then faultEnter d (k + 1)
    else d

/-! ### The restore (R329) -/

/-- Length of the invalid period in µs, saturating. -/
def lossGap (d : Device) : Nat := satU 32 ((d.tm.osc - d.tb.lossAt) / 800)

/-- The error estimate grows by one tick and by u_h over the gap; what a later second composes it from grows with it. (DEDUCED,
log entry 102.) -/
def restoreErr (d : Device) : Device :=
  let r := d.refs
  let m := d.fg F.TB_SEL_STATUS_mode
  let u := if m = 3 then r.uH else (holdRate d (match r.sel with | some n => taintedBy d n | none => false)).2
  let g : Nat := (u * 1000 * ((d.tm.osc - d.tb.lossAt : Nat) : Rat) / 800000000).ceil.toNat
  let eH := if m = 3 then r.eH + 1250 else if m = 2 then r.eH + 1250 + g else r.eH
  { d with refs := { r with errEst := satU 48 (r.errEst + 1250 + g), eH }, tb := { d.tb with manE := d.tb.manE + 1250 } }

/-- Device Time is valid again: what waited for it. -/
def afterInvalid (d : Device) : Device :=
  let d := d.clr F.TB_STATUS_dt_invalid
  let d := (peelRestored d).secMark
  { d with refs := { d.refs with evalSec := d.nowSec } }

/-- Device Time continues from the raw count. -/
def restoreOk (d : Device) : Device :=
  let t := d.tm.pairD + (d.tm.osc - d.tm.pairN) * d.tm.tickLen
  let old := d.now
  let d := restoreErr { d with tm := d.tm.setNow t }
  let d := d.wn R.TB_LOSS_GAP (lossGap d)
  let d := afterInvalid ((d.set1 F.TB_TBS_restored).set1 F.TB_STATUS_stepped)
  let d := d.ledger L.restored 0 (d.rn R.TB_LOSS_GAP) 0
  let d := ptpRestored old (missActs d)
  let d := causeCleared (batchRestored (starterRestored d))
  let d := { d with refs := { d.refs with build := d.refs.sel.isSome, stepOsc := some d.tm.osc }, mon := { d.mon with secStepped := true } }
  refreshLeap (refreshTbs (refreshTimeValid d))

/-- OSC_IN was lost: an unset scale begins. -/
def restoreFail (d : Device) : Device :=
  let d := ptpStepped { d with tm := d.tm.setNow d.tm.pairD }
  let d := d.wn R.TB_LOSS_GAP (lossGap d)
  let d := (d.set1 F.TB_TBS_restore_fail).clr F.TB_STATUS_dt_set
  let d := afterInvalid d
  let d := d.ledger L.restoreFailed 0 (d.rn R.TB_LOSS_GAP) 0
  let m := d.fg F.TB_SEL_STATUS_mode
  let last := d.fg F.TB_SEL_STATUS_slot
  let back := (List.range 32).filter fun n => timeType (refType d n) && decide (2 ≤ refState d n ∧ refState d n ≤ 4)
  let d := { d with refs := { d.refs with sel := none } }
  let d := back.foldl (fun d n => restartProof (setState d n 1 0) n) d
  let d := if m = 1 ∨ m = 2 then enterHoldover d last else d
  let d := { d with refs := { d.refs with errEst := 2 ^ 48 - 1, eH := 2 ^ 48 - 1 } }
  refreshLeap (refreshTbs (refreshTimeValid (causeCleared d)))

/-- R329: the first tick at a 10 MHz edge after the relock. -/
def xDeviceTimeRestore (d : Device) : Device :=
  if d.dtInvalid ∧ pllLocked d 4 ∧ pllLocked d 16 ∧ d.tm.osc % 80 = 0 then
    if d.tb.oscLost then restoreFail d else restoreOk d
  else d

/-! ### The commands of this file -/

/-- PLL_LOCK_WINDOW (R333). -/
def execPllLockWindow (good : Nat) (s : State) : Host.Outcome State Fault Refusal :=
  finish s (xPllLockWindow good s.dev)

/-- PLL_RELOCK_ATTEMPT (R529). -/
def execPllRelockAttempt (k : Nat) (ok : Bool) (s : State) : Host.Outcome State Fault Refusal :=
  finish s (xPllRelockAttempt k ok s.dev)

/-- DEVICE_TIME_RESTORE (R329). -/
def execDeviceTimeRestore (s : State) : Host.Outcome State Fault Refusal :=
  finish s (xDeviceTimeRestore s.dev)

end Sys2Proof.Machine
end

