-- ==== Sys2Proof/Machine/Intc.lean ====
section
/-! DEFINITION. The interrupt controller's commands (R474 to R484). -/

namespace Sys2Proof.Machine

/-- R476: a claim moves a source from pending to active on a target; its latched edge and software pending clear, and under
ROUND_ROBIN its pointer moves to the claimer (R479). (DESIGN CHOICE, log entry 11.) -/
def claim (d : Device) (s t : Nat) : Device :=
  let i := d.intc
  { d with intc := { i with latched := setDel i.latched s, soft := setDel i.soft s, active := i.active ++ [(s, t)],
                            rrPtr := amIns (amDel i.rrPtr s) s t, msgOut := if 16 ≤ t then setDel i.msgOut (t - 16) else i.msgOut } }

/-- R475: a line of a source: a firmware line takes a level; a pulse latches.  The status lines of the block follow their
W1C bits, and the software sources have no line. -/
def xIntcSourceEvent (src : Nat) (high : Bool) (d : Device) : Device :=
  if 0x200 ≤ src ∧ src ≤ 0x2FF then
    { d with intc := { d.intc with fw := if high then setIns d.intc.fw src else setDel d.intc.fw src } }
  else if !statusLine src ∧ src < 0x300 ∧ high then d.pulse src
  else d

/-- R481: a host read of INTC_TGTt_CLAIM. -/
def xIntcClaimRead (t : Nat) (d : Device) : Device :=
  if 16 ≤ t ∧ t < 32 then
    match winner d t with
    | some s => (claim d s t).emit (.hostRead (BitVec.ofNat 32 s))
    | none =>
      let d := if d.intc.msgOut.contains (t - 16) then
          (({ d with intc := { d.intc with msgOut := setDel d.intc.msgOut (t - 16) } }).set1 F.INTC_STATUS_spurious).cnt
            K.INTC_SPURIOUS
        else d
      d.emit (.hostRead 0x3FF)
  else d.emit (.hostRead 0x3FF)

/-- R476: EOI of an active source. -/
def eoi (d : Device) (s t : Nat) : Device :=
  { d with intc := { d.intc with active := d.intc.active.filter fun e => !(e == (s, t)) } }

/-- R481: a host write to INTC_TGTt_EOI. -/
def xIntcEoi (t : Nat) (w : Word) (d : Device) : Device :=
  let s := bits w.toNat 0 10
  if 16 ≤ t ∧ t < 32 then
    if d.intc.active.contains (s, t) then eoi d s t
    else (d.set1 F.INTC_STATUS_bad_eoi).cnt K.INTC_BAD_EOI
  else d

/-- Host-side sources of an INTC word register that a written word names. -/
def hostBits (d : Device) (w : Nat) (v : Word) : List Nat :=
  (setBits v.toNat 32).map (32 * w + ·) |>.filter fun s => !srcReserved s && d.fb (F.INTC_SRC_CFG_side s)

/-- R476: a host write to INTC_SETPw. -/
def xIntcSetPending (w : Nat) (v : Word) (d : Device) : Device :=
  if w < 32 then { d with intc := { d.intc with soft := (hostBits d w v).foldl setIns d.intc.soft } } else d

/-- R476: a host write to INTC_PENDw. -/
def xIntcClearPending (w : Nat) (v : Word) (d : Device) : Device :=
  if w < 32 then
    let l := hostBits d w v
    { d with intc := { d.intc with soft := d.intc.soft.filter fun s => !l.contains s,
                                   latched := d.intc.latched.filter fun s => !l.contains s } }
  else d

/-- R474, R475, R488: a host write to INTC_SRCn_CFG. -/
def xIntcSrcCfgWrite (n : Nat) (w : Word) (d : Device) : Device :=
  if 1024 ≤ n ∨ srcReserved n then d
  else if !d.fb (F.INTC_SRC_CFG_side n) then d.cnt K.INTC_HOST_DENIED
  else
    let v := w.toNat
    let d := if d.fb (F.INTC_SRC_CFG_en n) then d else d.fs (F.INTC_SRC_CFG_sense n) (bits v 29 2)
    ((d.fs (F.INTC_SRC_CFG_en n) (bits v 31 1)).fs (F.INTC_SRC_CFG_prio n) (bits v 24 4)).fs
      (F.INTC_SRC_CFG_tmask n) (bits v 0 16)

/-- R479: an offer not claimed within rr_to moves to the next admitted target. -/
def xIntcRrTimeout (s : Nat) (d : Device) : Device :=
  let cur := amGet 32 d.intc.rrOffer s
  if d.fb F.INTC_CTL_mode ∧ cur < 32 ∧
      amGet 0 d.intc.rrSince s + max 1 (d.fg F.INTC_CTL_rr_to) * 800 ≤ d.tm.osc then
    match nextTarget d s cur with
    | some t => { d with intc := { d.intc with rrOffer := amIns (amDel d.intc.rrOffer s) s t,
                                               rrSince := amIns (amDel d.intc.rrSince s) s d.tm.osc } }
    | none => d
  else d

/-- R482: the vector fetch of an engine target claims the most urgent source then offered, and its priority becomes the running
priority; with none, the vector of 0x3FF is taken and counted (R483). -/
def engineFetch (d : Device) (k : Nat) : Device :=
  match winner d k with
  | some s =>
    let p := srcPrio d s
    let d := claim d s k
    { d with intc := { d.intc with run := amIns (amDel d.intc.run k) k ((s, p) :: amGet [] d.intc.run k) } }
  | none => d.cnt K.INTC_SPURIOUS

/-- R482, R483: an engine target accepts an offer and fetches its vector. (DESIGN CHOICE, log entry 7.) -/
def xEngineInterruptEntry (k : Nat) (d : Device) : Device := if k < 16 then engineFetch d k else d

/-- R484: a handler's return completes its source; the exit tail-chains a source then offered, or restores the previous
context. -/
def xEngineInterruptReturn (k : Nat) (d : Device) : Device :=
  match amGet [] d.intc.run k with
  | (s, _) :: rest =>
    if k < 16 then
      let d := eoi d s k
      let d := { d with intc := { d.intc with
        run := if rest.isEmpty then amDel d.intc.run k else amIns (amDel d.intc.run k) k rest } }
      if (winner d k).isSome then engineFetch d k else d
    else d
  | [] => d

/-! ### The commands of this file -/

/-- INTC_SOURCE_EVENT (R475). -/
def execIntcSourceEvent (src : Nat) (high : Bool) (s : State) : Host.Outcome State Fault Refusal :=
  finish s (xIntcSourceEvent src high s.dev)

/-- INTC_CLAIM_READ (R481). -/
def execIntcClaimRead (t : Nat) (s : State) : Host.Outcome State Fault Refusal :=
  finish s (hostRead (R.INTC_TGT_CLAIM t) (xIntcClaimRead t) s.dev)

/-- INTC_EOI (R481). -/
def execIntcEoi (t : Nat) (w : Word) (s : State) : Host.Outcome State Fault Refusal :=
  finish s (hostWrite (R.INTC_TGT_EOI t) (xIntcEoi t w) s.dev)

/-- INTC_SET_PENDING (R476). -/
def execIntcSetPending (w : Nat) (v : Word) (s : State) : Host.Outcome State Fault Refusal :=
  finish s (hostWrite (R.INTC_SETP w) (xIntcSetPending w v) s.dev)

/-- INTC_CLEAR_PENDING (R476). -/
def execIntcClearPending (w : Nat) (v : Word) (s : State) : Host.Outcome State Fault Refusal :=
  finish s (hostWrite (R.INTC_PEND w) (xIntcClearPending w v) s.dev)

/-- INTC_SRC_CFG_WRITE (R474). -/
def execIntcSrcCfgWrite (n : Nat) (w : Word) (s : State) : Host.Outcome State Fault Refusal :=
  finish s (hostWrite (R.INTC_SRC_CFG n) (xIntcSrcCfgWrite n w) s.dev)

/-- INTC_RR_TIMEOUT (R479). -/
def execIntcRrTimeout (src : Nat) (s : State) : Host.Outcome State Fault Refusal :=
  finish s (xIntcRrTimeout src s.dev)

/-- ENGINE_INTERRUPT_ENTRY (R482). -/
def execEngineInterruptEntry (k : Nat) (s : State) : Host.Outcome State Fault Refusal :=
  finish s (xEngineInterruptEntry k s.dev)

/-- ENGINE_INTERRUPT_RETURN (R484). -/
def execEngineInterruptReturn (k : Nat) (s : State) : Host.Outcome State Fault Refusal :=
  finish s (xEngineInterruptReturn k s.dev)

end Sys2Proof.Machine
end

