-- ==== Sys2Proof/Machine/Hif.lean ====
section
/-! DEFINITION. The rest of the host interface (spec/15_host_rings.md): host frames (R450 to R452), record buffers (R458), stopping a
ring (R469), and the function level reset of PF0 (R470, R485). -/

namespace Sys2Proof.Machine

/-- R447: a CMD completion. -/
def cmdCqe (tag status op outLen handle result : Nat) : Bytes :=
  leBytes 4 tag ++ leBytes 1 status ++ leBytes 1 op ++ leBytes 2 outLen ++ leBytes 4 handle ++ leBytes 1 result ++ zeros 3

/-! ### FRAME_TX (R450 to R452) -/

/-- R450: a descriptor that breaks its table. -/
def txBad (d : Device) (b : Bytes) : Bool :=
  let port := byteAt b 4
  let len := leAt b 2 2
  !(byteAt b 0 == 1) || decide (4 ≤ byteAt b 1) || decide (17 ≤ port) || !(leAt b 5 3 == 0) || decide (len < 14) ||
  decide (d.fg (F.PORT_MAXLEN port) < len + 4)

/-- The gate class of a whole frame (R130). -/
def frameClass (d : Device) (n : Nat) (f : Bytes) : Nat :=
  gateClass d n (if beAt f 12 2 = 0x8100 then some (beAt f 14 2) else none)

/-- R451: a good descriptor of ring `n` whose SQ slot is `slot`; `head`: the tag of the frame decides its gate class at once. -/
def txSend (d : Device) (n slot : Nat) (b : Bytes) (fr : Fetch) : Device :=
  let port := byteAt b 4
  let len := leAt b 2 2
  let bytes : Bytes := match fr with | .done bs => (padTo len bs).take len | _ => []
  let say (d : Device) (code status : Nat) : Device := complete d n slot (frameTxCqe 0 slot code status port) []
  if port = 16 then
    if !d.up (.port 16) then say d T.FLUSHED 0
    else match fr with
      | .done _ =>
        if linkIsUp d 16 && (d.portSt 16).hostQ.isEmpty then mgmtSend d n slot bytes
        else d.setPortSt 16 { d.portSt 16 with hostQ := (d.portSt 16).hostQ ++ [(n, slot, bytes)] }
      | _ => say d 0 3
  else
    let te := if leAt b 16 12 = 0 then d.now + gLead d else ofDt96 (leAt b 16 12)
    let tl := te + leAt b 28 4 * nsU
    let (c, h, _, d) := peelBook d port te tl (max len 60 + 4) (frameClass d port bytes) ((byteAt b 1).testBit 0)
      ((byteAt b 1).testBit 1) (.host n slot)
    if c ≠ T.ACCEPTED then say d c 0
    else match fr with
      | .done _ => (peelCommit d h bytes none).2
      | .failed => say (dropBooking d h) T.CANCELLED 3
      | .later => d

/-- R451, R463: a SEND descriptor is read; while P_HOST has no room for the frame the ring reads nothing. -/
def xFrameTxSend (n : Nat) (desc : Bytes) (fr : Fetch) (d : Device) : Device :=
  let b := padTo 32 desc
  if canTake d n 1 then
    if txBad d b then
      let (slot, d) := takeDesc d n 0 false
      complete d n slot (frameTxCqe 0 slot 0 1 (byteAt b 4 % 32)) []
    else
      let k := cellsOf (leAt b 2 2)
      let p := poolPolicy d 2
      let d := if p = 1 then makeRoom hostFree 2 (sumOf (fun e => e.2.heldOut.length) d.rings) k d else d
      if poolRoom d 2 k then let (slot, d) := takeDesc d n 0 false; txSend d n slot b fr
      else if p = 2 then poolStall d 2
      else
        let (slot, d) := takeDesc (poolDrop d 2) n 0 false
        complete d n slot (frameTxCqe 0 slot T.FULL 0 (byteAt b 4)) []
  else d

/-! ### Record buffers (R458) -/

/-- R458: a length that breaks the table. -/
def recordLenBad (c len : Nat) : Bool := !(len % 64 == 0) || decide (len < if c = 5 then 512 else 64)

/-- R458: a BUF descriptor of a LEDGER, EVENT or SNAP ring; `bad`: its op, address or other bytes break the table. -/
def xRecordBuf (n len : Nat) (bad : Bool) (d : Device) : Device :=
  let c := ringClass d n
  let len := len % 65536
  if (c == 5 || c == 6 || c == 7) && canTake d n c then
    let d := postBuf d n len (bad || recordLenBad c len)
    if c = 5 then ledgerDeliver d else if c = 7 then snapDeliver d else d
  else d

/-! ### Stopping a ring (R469) -/

/-- The completion with FLUSHED of a descriptor of a class. -/
def flushCqe (c slot : Nat) (desc : Bytes) : Bytes :=
  let b := padTo 32 desc
  if c = 0 then cmdCqe (leAt b 4 4) 0x21 (byteAt b 0) 0 0 0
  else if c = 1 then frameTxCqe 0 slot T.FLUSHED 2 (byteAt b 4 % 32)
  else if c = 4 then pkeCqe b J.FLUSHED 0 0 0
  else bufferCqe c slot 2 0

/-- The bookings of a ring's frames. -/
def ringBooking (n : Nat) (b : Booking) : Bool := match b.owner with | .host r _ => r == n | _ => false

/-- A job of a ring. -/
def ringJob (n : Nat) (j : PkeJob) : Bool := match j.dest with | .host r _ => r == n | _ => false

/-- The streams of a ring are wiped without a word (R469, R470). -/
def wipeStreams (d : Device) (n : Nat) : Device :=
  { d with nts := { d.nts with streams := d.nts.streams.filter fun s => !(s.ring == n) } }

/-- Everything the ring holds is dropped and nothing is written (R467, R468, R470). -/
def ringDrop (d : Device) (n : Nat) : Device :=
  let d := { d with peel := { d.peel with bookings := d.peel.bookings.filter fun b => !ringBooking n b } }
  let d := wipeStreams (mgmtFlushQ d (fun r => r == n) false) n
  let d := pkeFlush d (ringJob n) false
  let d := { d with pke := { d.pke with jobs := mapIf (ringJob n) (fun j => { j with discard := true }) d.pke.jobs } }
  d.setRing n { d.ring n with posted := [], heldOut := [], part := [], partRecs := 0, partStart := none, events := [], flush := [] }

/-- Posted buffers complete with FLUSHED. -/
def flushPosted (d : Device) (n : Nat) : Device :=
  (d.ring n).posted.foldl (fun d p => complete d n p.slot (bufferCqe (ringClass d n) p.slot 2 0) []) d

/-- The host frames of a ring not yet launched are discarded. -/
def flushFrames (d : Device) (n : Nat) : Device :=
  let d := (d.peel.bookings.filter (ringBooking n)).foldl (fun d b => tellOwner (dropBooking d b.handle) b T.FLUSHED 2 0) d
  mgmtFlushQ d (fun r => r == n) true

/-- Slots posted and not read, oldest first. -/
def unreadSlots (d : Device) (n : Nat) : List Nat :=
  let r := d.ring n
  let size := ringSize d n
  (List.range ((r.sqTail + size - r.sqHead) % size)).map fun k => (r.sqHead + k) % size

/-- Descriptors posted and not read complete with FLUSHED, as the CQ has room. -/
def flushUnread (d : Device) (n : Nat) (unread : List Bytes) : Device :=
  let c := ringClass d n
  let bs := (unreadSlots d n).zipIdx.map fun e => flushCqe c e.1 (unread.getD e.2 [])
  let r := d.ring n
  ringFlush (d.setRing n { r with sqHead := r.sqTail, flush := r.flush ++ bs }) n

/-- Streams of a ring are open. -/
def ringStreams (d : Device) (n : Nat) : Bool := d.nts.streams.any fun s => s.ring == n

/-- What R469 lets happen as soon as it can: posted buffers no producer will fill. -/
def ringDrainFlow (d : Device) (n : Nat) : Device :=
  let c := ringClass d n
  let d := if bufferClass c || (c == 3 && !ringStreams d n) then flushPosted d n else d
  ringFlush d n

/-- R469: what clearing en does; `unread`: the descriptors posted and not read, as host memory holds them. (DEDUCED, log entry 78.) -/
def ringStop (n : Nat) (unread : List Bytes) (cut : Bool) (d : Device) : Device :=
  if ringHalted d n || (cut && ringPaused d n) then
    let d := ringDrop d n
    d.setRing n { d.ring n with sqHead := (d.ring n).sqTail }
  else if cut then
    let d := wipeStreams (flushFrames d n) n
    let d := pkeFlush d (ringJob n) true
    let d := d.setRing n { d.ring n with part := [], partRecs := 0, partStart := none, events := [] }
    let d := if bufferClass (ringClass d n) || ringClass d n == 3 then flushPosted d n else d
    flushUnread d n unread
  else
    let d := if (d.ring n).part.isEmpty then d else closeBuf d n 0 false
    flushUnread (ringDrainFlow d n) n unread

/-- The ring has completed every descriptor. -/
def ringIdle (d : Device) (n : Nat) : Bool :=
  let r := d.ring n
  r.posted.isEmpty && r.heldOut.isEmpty && r.flush.isEmpty && !ringStreams d n

/-- R469: en of HIF_RINGn_CTL is cleared, with stop as given. -/
def xRingDisable (n : Nat) (cut : Bool) (unread : List Bytes) (d : Device) : Device :=
  if n < 256 ∧ d.fb (F.HIF_RING_CTL_en n) then
    unitWord d (.ring n) (if cut then 2 ^ 30 else 0) id (ringStop n unread)
  else d

/-! ### Function level reset (R470, R485) -/

/-- The HIF blocks and the ring contexts take their reset values. -/
def hifReset (d : Device) : Device :=
  let d := (d.resetRegs 0x4000 0x7FFF).resetRegs 0x1B000 0x1BFFF
  { d with rings := [], stopping := d.stopping.filter fun e => !(decide (0x4000 ≤ e.1) && decide (e.1 ≤ 0x7FFF)) }

/-- R485: the controller's host side. -/
def intcHostReset (d : Device) : Device :=
  let d := d.resetRegs (R.INTC_TGT_CTL 16) (R.INTC_TGT_CTL 31 + 0x1F)
  { d with intc := { d.intc with active := d.intc.active.filter fun e => decide (e.2 < 16), held := [], msgOut := [] } }

/-- R470: PF0 is reset; the configuration space of PF0 too, but PME and ASPM control (PRESUMED, log entry 17). -/
def xFunctionLevelReset (d : Device) : Device :=
  let speed := d.fg F.HIF_STATUS_speed
  let width := d.fg F.HIF_STATUS_width
  let d := pkeFlush d (fun j => j.req == 4) false
  let d := (List.range 256).foldl (fun d n => if d.fb (F.HIF_RING_CTL_en n) || (d.stopOf (.ring n)).isSome then ringDrop d n else d) d
  let d := intcHostReset (hifReset d)
  let d := { d with pcie := { d.pcie with bme := false, fnMask := false, pf0D := if d.pcie.pf0D = 3 then 0 else d.pcie.pf0D } }
  pcieShow d speed width

/-! ### The commands of this file -/

/-- FRAME_TX_SEND (R451). -/
def execFrameTxSend (n : Nat) (desc : Bytes) (fr : Fetch) (s : State) : Host.Outcome State Fault Refusal :=
  finish s (xFrameTxSend n desc fr s.dev)

/-- RECORD_BUF (R458). -/
def execRecordBuf (n len : Nat) (bad : Bool) (s : State) : Host.Outcome State Fault Refusal :=
  finish s (xRecordBuf n len bad s.dev)

/-- RING_DISABLE (R469). -/
def execRingDisable (n : Nat) (cut : Bool) (unread : List Bytes) (s : State) : Host.Outcome State Fault Refusal :=
  finish s (hostWrite (R.HIF_RING_CTL n) (xRingDisable n cut unread) s.dev)

/-- FUNCTION_LEVEL_RESET (R470). -/
def execFunctionLevelReset (s : State) : Host.Outcome State Fault Refusal :=
  finish s (xFunctionLevelReset s.dev)

end Sys2Proof.Machine
end

