-- ==== Sys2Proof/Machine/Mon.lean ====
section
/-! DEFINITION. Counters, histograms and the Ledger (spec/17_monitoring.md): the views (R491, R492), snapshots (R494, R495), histogram
monitors (R496 to R500), instruction sampling (R501, R502) and the Ledger (R503 to R508). -/

namespace Sys2Proof.Machine

def Device.setMon (d : Device) (m : Mon) : Device := { d with mon := m }

/-! ### Views and snapshots (R491 to R495) -/

/-- R492: the value of a view at an index. -/
def viewValue (d : Device) (view i : Nat) : Nat :=
  let port (t : List (Nat × Nat)) : Nat := if i / 64 ≤ 16 ∧ i % 64 < 42 then amGet 0 t i else 0
  match view with
  | 0 => if i < 4096 then d.cntOf i else 0
  | 1 => if i < 4096 then amGet 0 d.mon.snap i else 0
  | 2 => if i < 4096 then amGet 0 d.mon.snapPrev i else 0
  | 3 => port d.stats
  | 4 => port d.mon.snapStat
  | 5 => if i / 128 < 256 then amGet (if i % 128 = 66 then 2 ^ 63 - 1 else if i % 128 = 67 then 2 ^ 63 else 0) (d.hist (i / 128)).latched (i % 128) else 0
  | _ => 0

/-- R491: a read of MON_CNT_LO. -/
def xMonCntRead (d : Device) : Device :=
  let v := viewValue d (d.fg F.MON_CNT_IDX_view) (d.fg F.MON_CNT_IDX_index)
  (d.setMon { d.mon with cntHi := BitVec.ofNat 32 (v / 2 ^ 32) }).emit (.hostRead (BitVec.ofNat 32 v))

/-- R493: value `j` of a PF1 window. -/
def winValue (d : Device) (w j : Nat) : Nat := viewValue d (d.fg (F.MON_WIN_CFG_view w)) (d.fg (F.MON_WIN_CFG_base w) + j)

/-- R494, R495: all counters and statistics into the other bank. -/
def takeSnap (d : Device) (t : Inst) : Device :=
  let d := d.setMon { d.mon with snap := d.cnts, snapStat := d.stats, snapPrev := d.mon.snap }
  (d.wn R.MON_SNAP_SEQ ((d.rn R.MON_SNAP_SEQ + 1) % 2 ^ 32)).wn3 (R.MON_SNAP_T_W 0) (dt96 t)

/-- The RW field of MON_SNAP_CMD. -/
def snapCmdWrite (w : Word) (d : Device) : Device := d.fs F.MON_SNAP_CMD_notify (bits w.toNat 28 1)

/-- R494, R495: NOW; refused as a request is while Device Time is invalid. (DEDUCED, log entry 80.) -/
def xSnapshotNow (w : Word) (d : Device) : Device :=
  let d := (snapCmdWrite w d).wn R.MON_SNAP_HANDLE 0
  if d.dtInvalid then d.wn R.MON_SNAP_RESULT T.FULL else (takeSnap d d.now).wn R.MON_SNAP_RESULT T.DONE

/-- R494: AT. -/
def xSnapshotAt (w : Word) (d : Device) : Device :=
  let d := snapCmdWrite w d
  let (c, h, d) := request d .snapshot (ofDt96 (d.rn3 (R.MON_SNAP_AT_W 0))) (d.fb F.MON_SNAP_CMD_notify) 0
  (d.wn R.MON_SNAP_RESULT c).wn R.MON_SNAP_HANDLE h

/-- R511, R33: the cancel bit. -/
def xSnapshotCancel (w : Word) (d : Device) : Device :=
  let d := snapCmdWrite w d
  let (c, d) := cancelAct d (d.rn R.MON_SNAP_HANDLE) fun a => a == .snapshot
  d.wn R.MON_SNAP_RESULT c

/-- R495: a snapshot's instant. -/
def xSnapshotExecute (d : Device) : Device :=
  match dueOf d fun a => a == .snapshot with
  | some e => endAct (takeSnap d (if e.stepped then d.now else e.due)) e (doneCode e)
  | none => d

/-! ### Histogram monitors (R496 to R500) -/

/-- The bin of a value (R497). -/
def binOf (log2 : Bool) (lo : Int) (w : Nat) (v : Int) : Nat :=
  let w := max 1 w
  if v < lo then 0
  else
    let u := ((v - lo) / (w : Int)).toNat
    if log2 then (if u = 0 then 0 else min 63 (Nat.log2 u + 1)) else min 63 (u + 1)

/-- A window takes a value (R497). -/
def windowTake (x : Window) (bin : Nat) (v : Int) : Window :=
  let old := amGet 0 x.bins bin
  let sum := satS 64 (x.sum + v)
  let full := decide (2 ^ 48 - 1 ≤ old) || decide (2 ^ 48 - 1 ≤ x.count) || !(sum == x.sum + v)
  { x with bins := amSet 0 x.bins bin (satU 48 (old + 1)), count := satU 48 (x.count + 1), sum, min := min x.min v, max := max x.max v,
           sat := x.sat || full }

/-- A monitor takes the values of its queue, `n` at most. -/
def histTake (d : Device) (h n : Nat) : Device :=
  let x := d.hist h
  let f (w : Window) (v : Int) : Window :=
    windowTake w (binOf (d.fb (F.MON_HIST_CFG_scheme h)) (d.rs (R.MON_HIST_LO h)) (d.rn (R.MON_HIST_W h)) v) v
  d.setHist h { x with win := (x.queue.take n).foldl f x.win, queue := x.queue.drop n }

/-- R500: the entries that are not 0. -/
def histEntries (x : Window) (t : Inst) (seq src : Nat) : List (Nat × Nat) :=
  let fl := (if x.sat then 1 else 0) + (if x.stepped then 2 else 0) + (if x.invalid then 4 else 0)
  let l := [(64, x.count), (65, unsigned 64 x.sum), (66, unsigned 64 x.min), (67, unsigned 64 x.max), (68, x.start / secU),
            (69, x.start % secU / nsU), (70, t / secU), (71, t % secU / nsU), (72, seq), (73, fl), (74, x.dropped), (75, src)]
  x.bins ++ l

/-- R498, R499: an open window ends at an instant; its queue belongs to it. -/
def histLatch (d : Device) (h : Nat) (t : Inst) : Device :=
  let x := d.hist h
  if !x.win.isOpen then d
  else
    let d := histTake d h x.queue.length
    let x := d.hist h
    let src := d.fg (F.MON_HIST_CFG_src h) + 256 * d.fg (F.MON_HIST_CFG_arg h)
    d.setHist h { x with win := Window.init, seq := x.seq + 1, latched := histEntries x.win t (x.seq + 1) src }

/-- A window begins. -/
def histOpen (d : Device) (h : Nat) (t : Inst) : Device :=
  let x := d.hist h
  d.setHist h { x with win := { Window.init with isOpen := true, start := t, invalid := d.dtInvalid } }

/-- Setting en: every mode but TIMED opens a window. -/
def histStart (h : Nat) (d : Device) : Device :=
  let d := d.setHist h { d.hist h with win := Window.init, queue := [], mark := d.now }
  if d.fg (F.MON_HIST_CFG_wmode h) = 1 then d else histOpen d h d.now

def isWindowOf (h : Nat) (a : Act) : Bool := match a with | .histWindow k _ => k == h | _ => false

/-- R499: clearing en. -/
def histStop (h : Nat) (d : Device) : Device := flushActs (histLatch d h d.now) (isWindowOf h)

/-- R497: the value at the head of the queue goes into its bin; `v`: a latency of the Trough measured now, for a monitor of that
source (R496). -/
def xHistValue (h : Nat) (v : Option Int) (d : Device) : Device :=
  if h < 256 ∧ d.up (.hist h) then
    let d := match v with
      | some v => if d.fg (F.MON_HIST_CFG_src h) = 14 ∧ d.fg (F.MON_HIST_CFG_arg h) < 4 then monPush d h v else d
      | none => d
    if (d.hist h).win.isOpen then histTake d h 1 else d
  else d

/-- The first boundary of a monitor's PERIODIC windows that has not passed. -/
def histBoundary (d : Device) (h : Nat) : Inst :=
  let per := clamp 1 86400 (d.fg (F.MON_HIST_PER h))
  ((d.hist h).mark / secU / per + 1) * per * secU

/-- An action that executes before the window boundaries of an instant (R35) is still due. -/
def earlierDue (d : Device) (t : Inst) : Bool :=
  d.sched.pend.any fun e => isDue d e && decide (actOrder e.act < 6) && decide (e.due < t + d.tm.tickLen)

/-- R498: a PERIODIC boundary. -/
def xHistWindowEnd (h : Nat) (d : Device) : Device :=
  let m := d.fg (F.MON_HIST_CFG_wmode h)
  let b := histBoundary d h
  if h < 256 ∧ d.up (.hist h) ∧ (m = 0 ∨ m = 3) ∧ ¬ d.dtInvalid ∧ b ≤ d.now ∧ ¬ earlierDue d b then
    let d := histOpen (histLatch d h b) h b
    d.setHist h { d.hist h with mark := b }
  else d

/-- The RW fields of MON_HW_CMD. -/
def hwCmdWrite (w : Word) (d : Device) : Device :=
  (d.fs F.MON_HW_CMD_notify (bits w.toNat 28 1)).fs F.MON_HW_CMD_mon (bits w.toNat 0 8)

/-- R499: a timed START or END is requested. -/
def hwRequest (start : Bool) (w : Word) (d : Device) : Device :=
  let d := hwCmdWrite w d
  let a := Act.histWindow (d.fg F.MON_HW_CMD_mon) start
  let (c, h, d) := request d a (ofDt96 (d.rn3 (R.MON_HW_AT_W 0))) (d.fb F.MON_HW_CMD_notify) 0
  (d.wn R.MON_HW_RESULT c).wn R.MON_HW_HANDLE h

def xHwStartRequest (w : Word) (d : Device) : Device := hwRequest true w d
def xHwEndRequest (w : Word) (d : Device) : Device := hwRequest false w d

/-- R511, R33. -/
def xHwCancel (w : Word) (d : Device) : Device :=
  let d := hwCmdWrite w d
  let (c, d) := cancelAct d (d.rn R.MON_HW_HANDLE) fun a => match a with | .histWindow _ _ => true | _ => false
  d.wn R.MON_HW_RESULT c

/-- R499: the instant of a timed START or END of a monitor. -/
def xHistTimedBoundary (h : Nat) (d : Device) : Device :=
  match dueOf d (isWindowOf h) with
  | some e =>
    let t := if e.stepped then d.now else e.due
    let d := histLatch d h t
    let d := if e.act == .histWindow h true && d.up (.hist h) then histOpen d h t else d
    endAct d e (doneCode e)
  | none => d

/-! ### Instruction sampling (R501, R502) -/

/-- What the sampler saw of one retired instruction. -/
def sampleRecord (eng th seq : Nat) (gap : Bool) (pc insn : Word) (iclass prio : Nat) (taken : Bool) (lat stall : Nat) (t : Inst) : Bytes :=
  leBytes 1 0x80 ++ leBytes 1 (eng * 16 + th * 4 + if gap then 2 else 0) ++ leBytes 2 seq ++ leBytes 4 pc.toNat ++ leBytes 4 insn.toNat ++
  leBytes 1 iclass ++ leBytes 1 (prio + if taken then 32 else 0) ++ leBytes 2 (satU 16 lat) ++ dt96Bytes t ++ leBytes 1 stall ++ zeros 3

/-- R501: the instruction at the end of a thread's sampling interval; a record within 1 µs of the last one sent is over the rate. -/
def xSampleRecord (eng th : Nat) (pc insn : Word) (iclass : Nat) (taken : Bool) (lat stall : Nat) (d : Device) : Device :=
  if eng < 16 ∧ th < 4 ∧ d.up .sample ∧ (d.fg F.SAMPLE_SEL_engines).testBit eng ∧ (d.fg F.SAMPLE_SEL_threads).testBit th then
    let k := 4 * eng + th
    let m := d.mon
    let seq := amGet 0 m.sampleSeq k
    let prio := if d.fg (F.INTC_TGT_CTL_thread eng) = th then runPrio d eng else 16
    let bs := sampleRecord eng th seq (m.sampleGap.contains k) pc insn (min 7 iclass) prio taken lat (min 4 stall) d.now
    let d := d.setMon { m with sampleSeq := amSet 0 m.sampleSeq k ((seq + 1) % 2 ^ 16) }
    let slow : Bool := match m.sampleAt with | some t => decide (t + 800 ≤ d.tm.osc) | none => true
    let n := d.fg F.SAMPLE_CTL_ring
    let (ok, d') := if slow then putRecord d n 6 bs false else (false, d)
    if ok then d'.setMon { d'.mon with sampleGap := setDel d'.mon.sampleGap k, sampleAt := some d.tm.osc }
    else
      let d' := if slow && ringClass d n == 6 then ringLost d' n 1 else d'
      (d'.setMon { d'.mon with sampleGap := setIns d'.mon.sampleGap k }).cnt K.MON_SAMPLE_DROP
  else d

/-! ### The Ledger (R503 to R508) -/

/-- R506: an event entry. -/
def eventEntry (e : LedgerEvent) : Bytes :=
  leBytes 2 e.code ++ leBytes 2 e.src ++ (match e.at_ with | some t => dt96Bytes t | none => zeros 12) ++ leBytes 4 e.arg0 ++ leBytes 4 e.arg1

/-- A record of 512 bytes: the first 508, and their CRC. -/
def withCrc (b : Bytes) : Bytes := let b := (padTo 508 b).take 508; b ++ leBytes 4 (crcStd b).toNat

/-- The increment of a sum of counters over the second. -/
def cntUp (d : Device) (l : List Nat) : Bytes :=
  leBytes 4 (satU 32 (sumOf (fun i => (d.cntOf i + 2 ^ 48 - amGet 0 d.mon.lastCnt i) % 2 ^ 48) l))

/-- DROPS of all pools. -/
def allDrops (d : Device) : Nat := sumOf (fun n => d.rn (R.TROUGH_POOL_DROPS n)) (List.range 9)

/-- Bytes 0 to 27 of both record types. -/
def recordHead (d : Device) (s : LedgerSec) (rtype nev ncont seq : Nat) : Bytes :=
  let b (x : Bool) (k : Nat) : Nat := if x then 2 ^ k else 0
  let fl := b d.mon.ledgerFirst 7 + b (!(d.rn R.SEC_TAMPER_STATUS == 0)) 6 + b s.lost 5 + b s.invalid 4 + b s.stepped 3 +
    b (d.fb F.TB_STATUS_leap_pending) 2 + b (d.fb F.TB_STATUS_utc_valid) 1 + b (d.fb F.TB_STATUS_time_valid) 0
  leBytes 1 rtype ++ leBytes 1 1 ++ leBytes 1 nev ++ leBytes 1 fl ++ leBytes 2 ncont ++ leBytes 1 (d.fg F.TB_TBS_state) ++
  leBytes 1 (d.fg F.TB_SEL_STATUS_mode) ++ leBytes 8 seq ++ dt96Bytes (s.sec * secU)

/-- Latest x of a slot, 2^-16 ns. -/
def slotX (d : Device) (n : Nat) : Int := match (d.slot n).hist with | (_, x) :: _ => x | [] => 0

/-- Two bits for each four of a REF slot (R504). -/
def refStates (d : Device) : Nat :=
  sumOf (fun n => (d.fg (F.REF_STATUS_state n) + 8 * d.fg (F.REF_STATUS_drift n)) * 16 ^ n) (List.range 32)

/-- R504: the quality record of a second, with its first 12 events. (DEDUCED, log entry 81.) -/
def qualityRecord (d : Device) (s : LedgerSec) (temp : Int) (ncont seq : Nat) : Bytes :=
  let ev := s.events.take 12
  let p16 (f : Nat → Nat) : List Nat := (List.range 16).map f
  let drops := [K.PEEL_DROP_MISS, K.PEEL_DROP_NOSLOT, K.PEEL_DROP_DISABLED, K.PEEL_DROP_STEP, K.PEEL_DROP_INVALID, K.PEEL_DROP_CAL].flatMap p16
  let q := recordHead d s 0x60 ev.length ncont seq ++
    leBytes 1 (d.fg F.TB_SEL_STATUS_slot) ++ leBytes 1 (d.fg F.TB_SEL_STATUS_rank) ++ leBytes 1 (d.fg F.TB_LEAP_STATUS_tai_utc_now) ++
    leBytes 1 (clockClass d 0) ++ leBytes 8 (satU 64 d.refs.errEst) ++
    leBytes 8 (unsigned 64 (match d.refs.sel with | some n => slotX d n | none => 0)) ++
    leBytes 4 (unsigned 32 (satS 32 (divNearI (d.refs.b * 1000) 65536))) ++ leBytes 4 (d.rn R.TB_STEER) ++
    leBytes 4 (d.rn R.TB_ERR_WIDEN) ++ leBytes 4 (d.rn R.TB_HOLD_TIME)
  let q := q ++ leBytes 16 (refStates d) ++ leBytes 4 (sumOf (fun n => d.fg (F.REF_STATUS_refdis n) * 2 ^ n) (List.range 32)) ++
    leBytes 1 (d.fg F.GNSS_SOL_STATUS_used) ++ leBytes 1 (d.fg F.GNSS_STATUS_sats) ++
    leBytes 1 (d.fg F.GNSS_SPOOF_STATUS_state * 64 + d.fg F.GNSS_SOL_STATUS_integrity * 16 + d.fg F.GNSS_SOL_STATUS_pos_src * 4) ++ zeros 1 ++
    leBytes 4 (d.rn R.GNSS_SOL_ERR) ++
    leBytes 1 (d.fg F.PAIR_STATUS_link * 32 + d.fg F.PAIR_STATUS_role * 4 + d.fg F.PAIR_STATUS_fence_in) ++ zeros 3 ++
    leBytes 4 (if paired d then unsigned 32 (satS 32 (divNearI (slotX d 31 * 1000) 65536)) else 0) ++ leBytes 2 (unsigned 16 temp) ++ zeros 10
  let q := q ++ (List.range 5).flatMap (fun c => cntUp d [K.CLS_C_ADMITTED c]) ++ (List.range 5).flatMap (fun c => cntUp d [K.CLS_C_SHED c]) ++
    cntUp d [K.NTS_ANSWERED] ++ cntUp d [K.CLS_KOD_SENT] ++ cntUp d (p16 K.PEEL_LAUNCHED) ++ cntUp d drops ++
    cntUp d ((List.range 8).map K.PTP_SYNC_SENT) ++ cntUp d ((List.range 8).map K.PTP_SYNC_MISSED) ++ cntUp d [K.NTSKE_HANDSHAKES] ++
    cntUp d ((List.range 5).map K.PKE_OK) ++ leBytes 4 (allDrops d - d.mon.lastPoolDrops) ++ cntUp d [K.MON_LEDGER_LOST] ++ zeros 24
  withCrc (q ++ ev.flatMap eventEntry)

/-- R505: a continuation record. -/
def contRecord (d : Device) (s : LedgerSec) (ev : List LedgerEvent) (ncont seq : Nat) : Bytes :=
  withCrc (padTo 32 (recordHead d s 0x61 ev.length ncont seq) ++ ev.flatMap eventEntry)

/-- R507: the record of lowest seq is freed. -/
def ledgerFree (d : Device) : Device :=
  match d.mon.ledger with
  | [] => d
  | (seq, _) :: t =>
    let d := (poolDrop (d.setMon { d.mon with ledger := t }) 4).cnt K.MON_LEDGER_OVW
    if d.mon.ledgerNext ≤ seq then
      let d := (d.setMon { d.mon with ledgerNext := seq + 1 }).cnt K.MON_LEDGER_LOST
      match ledgerRing d with
      | some n => ringLost d n 1
      | none => d.setMon { d.mon with lostHeld := d.mon.lostHeld + 1 }
    else d

/-- Free records until the pool can take one more. -/
def ledgerRoom : Nat → Device → Device
  | 0, d => d
  | k + 1, d => if poolRoom d 4 4 then d else ledgerRoom k (ledgerFree d)

/-- A record joins P_LEDGER. -/
def ledgerPut (d : Device) (bs : Bytes) : Device :=
  let d := ledgerRoom d.mon.ledger.length d
  let seq := d.mon.ledgerSeq + 1
  d.setMon { d.mon with ledger := d.mon.ledger ++ [(seq, bs)], ledgerSeq := seq }

/-- The records of one second. -/
def ledgerSecond (d : Device) (s : LedgerSec) (temp : Int) : Device :=
  let rest := s.events.drop 12
  let n := min 7 ((rest.length + 18) / 19)
  let d := ledgerPut d (qualityRecord d s temp n (d.mon.ledgerSeq + 1))
  let d := (List.range n).foldl (fun d k => ledgerPut d (contRecord d s ((rest.drop (19 * k)).take 19) n (d.mon.ledgerSeq + 1))) d
  d.setMon { d.mon with ledgerFirst := false, lastCnt := d.cnts, lastPoolDrops := allDrops d }

/-- Events held in PD_AON join the first record (R537). -/
def heldEvents (d : Device) : Device :=
  let l := d.life.events
  if l.isEmpty then d
  else { d with life := { d.life with events := [] }, mon := { d.mon with events := l ++ d.mon.events } }

/-- R503: the records of the oldest second that is over and has none; `temp`: die temperature in 0.1 °C. -/
def xLedgerWrite (temp : Int) (d : Device) : Device :=
  if accrues d ∧ (!d.mon.closed.isEmpty ∨ d.mon.secAt < d.nowSec) then
    let d := heldEvents d
    let d := if d.mon.closed.isEmpty then d.secClose else d
    match d.mon.closed with
    | [] => d
    | s :: t => ledgerDeliver (ledgerSecond (d.setMon { d.mon with closed := t }) s temp)
  else d

/-- A LEDGER ring is enabled. -/
def ledgerRingOn (d : Device) : Bool := (List.range 256).any fun n => d.fb (F.HIF_RING_CTL_en n) && ringClass d n == 5

/-- Seq of the oldest retained record. -/
def ledgerOld (d : Device) : Nat := match d.mon.ledger with | (s, _) :: _ => s | [] => d.mon.ledgerSeq + 1

/-- R510: the low word is staged. -/
def xLedgerNextLoWrite (w : Word) (d : Device) : Device := d.setMon { d.mon with ledgerNextLo := w }

/-- R508: the high word commits. -/
def xLedgerNextHiWrite (w : Word) (d : Device) : Device :=
  let v := d.mon.ledgerNextLo.toNat + 2 ^ 32 * w.toNat
  if !ledgerRingOn d && decide (ledgerOld d ≤ v) && decide (v ≤ d.mon.ledgerSeq + 1) then d.setMon { d.mon with ledgerNext := v } else d

/-- R510: a read of the newest (or, with `old`, the oldest retained) seq's low word. -/
def xLedgerSeqRead (old : Bool) (d : Device) : Device :=
  let v := if old then ledgerOld d else d.mon.ledgerSeq
  let d := d.wn (if old then R.MON_LEDGER_OLD_HI else R.MON_LEDGER_SEQ_HI) (v / 2 ^ 32 % 2 ^ 32)
  d.emit (.hostRead (BitVec.ofNat 32 v))

/-- R382: a read of the low word of the Batch seq in force, or of the one awaiting apply. -/
def xSecBatchSeqRead (pend : Bool) (d : Device) : Device :=
  let v := if pend then batchPending d else (batchIdent d).1
  let d := d.wn (if pend then R.SEC_BATCH_PEND_HI else R.SEC_BATCH_SEQ_HI) (v / 2 ^ 32 % 2 ^ 32)
  d.emit (.hostRead (BitVec.ofNat 32 v))

/-! ### The commands of this file -/

/-- MON_CNT_READ (R491). -/
def execMonCntRead (s : State) : Host.Outcome State Fault Refusal :=
  finish s (hostRead R.MON_CNT_LO xMonCntRead s.dev)

/-- SNAPSHOT_NOW (R494). -/
def execSnapshotNow (w : Word) (s : State) : Host.Outcome State Fault Refusal :=
  finish s (hostWrite R.MON_SNAP_CMD (xSnapshotNow w) s.dev)

/-- SNAPSHOT_AT (R494). -/
def execSnapshotAt (w : Word) (s : State) : Host.Outcome State Fault Refusal :=
  finish s (hostWrite R.MON_SNAP_CMD (xSnapshotAt w) s.dev)

/-- SNAPSHOT_CANCEL (R511). -/
def execSnapshotCancel (w : Word) (s : State) : Host.Outcome State Fault Refusal :=
  finish s (hostWrite R.MON_SNAP_CMD (xSnapshotCancel w) s.dev)

/-- SNAPSHOT_EXECUTE (R495). -/
def execSnapshotExecute (s : State) : Host.Outcome State Fault Refusal :=
  finish s (xSnapshotExecute s.dev)

/-- HIST_VALUE (R497). -/
def execHistValue (h : Nat) (v : Option Int) (s : State) : Host.Outcome State Fault Refusal :=
  finish s (xHistValue h v s.dev)

/-- HIST_WINDOW_END (R498). -/
def execHistWindowEnd (h : Nat) (s : State) : Host.Outcome State Fault Refusal :=
  finish s (xHistWindowEnd h s.dev)

/-- HW_START_REQUEST (R499). -/
def execHwStartRequest (w : Word) (s : State) : Host.Outcome State Fault Refusal :=
  finish s (hostWrite R.MON_HW_CMD (xHwStartRequest w) s.dev)

/-- HW_END_REQUEST (R499). -/
def execHwEndRequest (w : Word) (s : State) : Host.Outcome State Fault Refusal :=
  finish s (hostWrite R.MON_HW_CMD (xHwEndRequest w) s.dev)

/-- HW_CANCEL (R511). -/
def execHwCancel (w : Word) (s : State) : Host.Outcome State Fault Refusal :=
  finish s (hostWrite R.MON_HW_CMD (xHwCancel w) s.dev)

/-- HIST_TIMED_BOUNDARY (R499). -/
def execHistTimedBoundary (h : Nat) (s : State) : Host.Outcome State Fault Refusal :=
  finish s (xHistTimedBoundary h s.dev)

/-- SAMPLE_RECORD (R501). -/
def execSampleRecord (eng th : Nat) (pc insn : Word) (iclass : Nat) (taken : Bool) (lat stall : Nat) (s : State) : Host.Outcome State Fault Refusal :=
  finish s (xSampleRecord eng th pc insn iclass taken lat stall s.dev)

/-- LEDGER_WRITE (R503). -/
def execLedgerWrite (temp : Int) (s : State) : Host.Outcome State Fault Refusal :=
  finish s (xLedgerWrite temp s.dev)

/-- LEDGER_NEXT_LO_WRITE (R510). -/
def execLedgerNextLoWrite (w : Word) (s : State) : Host.Outcome State Fault Refusal :=
  finish s (hostWrite R.MON_LEDGER_NEXT_LO (xLedgerNextLoWrite w) s.dev)

/-- LEDGER_NEXT_HI_WRITE (R508). -/
def execLedgerNextHiWrite (w : Word) (s : State) : Host.Outcome State Fault Refusal :=
  finish s (hostWrite R.MON_LEDGER_NEXT_HI (xLedgerNextHiWrite w) s.dev)

/-- LEDGER_SEQ_READ (R510). -/
def execLedgerSeqRead (old : Bool) (s : State) : Host.Outcome State Fault Refusal :=
  finish s (hostRead (if old then R.MON_LEDGER_OLD_LO else R.MON_LEDGER_SEQ_LO) (xLedgerSeqRead old) s.dev)

/-- SEC_BATCH_SEQ_READ (R382). -/
def execSecBatchSeqRead (pend : Bool) (s : State) : Host.Outcome State Fault Refusal :=
  finish s (hostRead (if pend then R.SEC_BATCH_PEND_LO else R.SEC_BATCH_SEQ_LO) (xSecBatchSeqRead pend) s.dev)

end Sys2Proof.Machine
end

