-- ==== Sys2Proof/Machine/Units.lean ====
section
/-! DEFINITION. Starting and stopping units (R74 to R76), the Trough's pool registers (R59, R60), the slice queues' peaks (R68), and
the power domains the host switches (R78 to R81). -/

namespace Sys2Proof.Machine

/-! ### What starting and stopping does to each unit -/

/-- The response a lane built, in an Oven job. -/
def jobOfSlice (s : Nat) (j : OvenJob) : Bool := (laneJobBooking j.work).isSome && jobSlice j == s

/-- CUT of a slice: its queue, its re-promise items, the jobs of its lanes and the bookings without a frame are discarded. -/
def slcCut (d : Device) (s : Nat) : Device :=
  let x := d.slcOf s
  let lost (d : Device) (i : Item) : Device := match i.work with | .sync k _ _ _ => d.cnt (K.PTP_SYNC_MISSED k) | _ => d
  let d := (x.queue ++ x.reprom.map (·.item)).foldl lost (d.setSlc s { x with queue := [], reprom := [] })
  let js := d.nts.jobs.filter (jobOfSlice s)
  let d := { d with nts := { d.nts with jobs := d.nts.jobs.filter fun j => !jobOfSlice s j } }
  js.foldl (fun d j => match laneJobBooking j.work with | some (h, _) => dropVoided (dropBooking d h) h | none => d) d

/-- The slice holds no more work. -/
def slcIdle (d : Device) (s : Nat) : Bool :=
  (d.slcOf s).queue.isEmpty && (d.slcOf s).reprom.isEmpty && !(d.nts.jobs.any (jobOfSlice s))

/-- R136: every port's bookings are discarded. -/
def peelStop (d : Device) : Device := (List.range 16).foldl peelPortDown d

/-- The Peel runs again: every port that is up calibrates (R128). -/
def peelStart (d : Device) : Device :=
  (List.range 16).foldl (fun d n => if linkIsUp d n && d.up (.port n) then peelCalStart d n else d) d

/-- R318: a channel stops. -/
def ticChStop (n : Nat) (cut : Bool) (d : Device) : Device := let d := ticChPairs d n; if cut then calAbort d n else d

/-- R318: a pair that is disabled discards an OPEN interval. -/
def ticPairStop (p : Nat) (d : Device) : Device := let d := pairAbort d p; d.setTicPair p { d.ticPair p with st := 0, first := none }

/-- An output is enabled, or begins to stop, now. -/
def outMark (k : Nat) (d : Device) : Device := d.setOut k { d.outOf k with enAt := d.now }

/-- R344: pending events complete with FLUSHED; what is in progress completes. -/
def toutStop (n : Nat) (d : Device) : Device :=
  flushActs (outMark n d) fun a => match a with | .outEvent k _ _ => k == n | _ => false

/-- Nothing of a stopping TOUT is in progress. -/
def toutIdle (d : Device) (n : Nat) : Bool :=
  !d.fb (F.TOUT_STATUS_running n) || d.dtInvalid ||
  (match d.fg (F.TOUT_CFG_func n) with
   | 1 => decide (secU ≤ toutWidth d n) || !toutBusy d n d.now
   | 2 => decide (toutPer d n ≤ toutWidth d n) || !toutBusy d n d.now
   | 3 => decide ((d.outOf n).enAt / secU < d.now / secU)
   | 4 => !toutBusy d n d.now
   | 6 => (d.outOf n).lows.isEmpty
   | _ => true)

/-- R335: the period in which a FOUT was stopped is over. -/
def foutIdle (d : Device) (m : Nat) : Bool :=
  let o := d.outOf (8 + m)
  let f := d.fg (F.FOUT_FREQ_INT m) * 65536 + d.fg (F.FOUT_FREQ_FRAC m)
  match o.startAt with
  | none => true
  | some s =>
    let k := (o.enAt - s) * f / (secU * 65536) + 1
    !d.fb (F.FOUT_STATUS_running m) || d.dtInvalid || f == 0 || decide (k * secU * 65536 ≤ (d.now - s) * f)

/-- What an enable starts. -/
def unitStart (u : UnitId) (d : Device) : Device :=
  match u with
  | .peel => peelStart d
  | .port n => portStart n d
  | .gnss => gnssEnable d
  | .tout n => outMark n d
  | .fout m => outMark (8 + m) d
  | .ticPair p => d.setTicPair p { d.ticPair p with st := 1, first := none, lost := false, stepped := false }
  | .ticCh n => d.setTicCh n { d.ticCh n with presc := 0, decCount := 0, lastEdge := none, stepped := false }
  | .pke => pkeRun d
  | .pair => pairOn d
  | .ring n => ringStart d n
  | .hist h => histStart h d
  | .slc _ | .ovn | .cls | .ke | .ptp _ | .ref _ | .sample => d

/-- What clearing en does, under DRAIN and under CUT. -/
def unitStop (u : UnitId) (cut : Bool) (d : Device) : Device :=
  match u with
  | .slc s => if cut then slcCut d s else d
  | .ovn => ovnStop cut d
  | .cls => if cut then clsCut d else d
  | .peel => peelStop d
  | .ke => if cut then keCut d else d
  | .ptp i => if cut then ptpCut d i else ptpDrain d i
  | .port n => portStop n cut d
  | .ref n => refStop d n
  | .gnss => gnssStop d cut
  | .ticCh n => ticChStop n cut d
  | .ticPair p => ticPairStop p d
  | .tout n => toutStop n d
  | .fout m => outMark (8 + m) d
  | .pke => pkeStop cut d
  | .pair => pairLeave cut d
  | .ring n => ringStop n [] cut d
  | .hist h => histStop h d
  | .sample => d

/-- A stopping unit holds no more work (R75 and each unit's own rule). -/
def unitIdle (u : UnitId) (d : Device) : Bool :=
  match u with
  | .slc s => slcIdle d s
  | .ovn => d.nts.jobs.isEmpty
  | .cls => clsIdle d
  | .peel => d.peel.bookings.isEmpty && !((List.range 16).any (wireBusy d))
  | .ke => d.nts.streams.isEmpty
  | .ptp i => ptpIdle d i
  | .port n => portIdle d n
  | .gnss => d.gnss.caps.isEmpty
  | .ticCh n => (d.ticCh n).stage == 0
  | .tout n => toutIdle d n
  | .fout m => foutIdle d m
  | .pke => d.pke.jobs.isEmpty
  | .pair => d.pair.resign.isNone
  | .ring n => ringIdle d n
  | .ref _ | .ticPair _ | .hist _ | .sample => true

/-- What goes with the end of a stop. -/
def unitOff (u : UnitId) (d : Device) : Device :=
  match u with
  | .tout n => (d.setOut n { d.outOf n with startAt := none, level := 0 }).clr (F.TOUT_STATUS_running n)
  | .fout m => (d.setOut (8 + m) { d.outOf (8 + m) with startAt := none }).clr (F.FOUT_STATUS_running m)
  | .ring n => if ringHalted d n || ringPaused d n then d else ringFire d n
  | _ => d

/-- The enable word of a unit takes a word, whatever checks its own rule makes. -/
def unitWrite (d : Device) (u : UnitId) (w : Nat) : Device := unitWord d u w (unitStart u) (unitStop u)

/-! ### Commands of R74 to R76 -/

/-- R74: en is set. -/
def xUnitEnable (u : UnitId) (d : Device) : Device :=
  if !u.isUnit then d
  else
    match u with
    | .port n => xPortEnable n d
    | .ref n => xRefEnable n d
    | .ptp i => xPtpInstanceEnable i d
    | .ticCh n => xTicChannelEnable n d
    | .ticPair p => xTicPairEnable p d
    | .ring n => xRingEnable n d
    | _ => unitWrite d u (2 ^ 31 + if d.fb u.stop then 2 ^ 30 else 0)

/-- R75: en is cleared with stop = 0. -/
def xUnitDrain (u : UnitId) (d : Device) : Device := if u.isUnit && d.fb u.en then unitWrite d u 0 else d

/-- R75: en is cleared with stop = 1. -/
def xUnitCut (u : UnitId) (d : Device) : Device := if u.isUnit && d.fb u.en then unitWrite d u (2 ^ 30) else d

/-- R76: stop = 1 with en = 0 during a DRAIN. -/
def xDrainToCut (u : UnitId) (d : Device) : Device :=
  if u.isUnit && d.stopOf u == some false then unitWrite d u (2 ^ 30) else d

/-- R75, R76: the stop of a unit that holds no more work is complete. -/
def xUnitDrained (u : UnitId) (d : Device) : Device :=
  if u.isUnit && (d.stopOf u).isSome then
    let d := match u with | .ring n => ringDrainFlow d n | _ => d
    if unitIdle u d then stopEnd (unitOff u d) u (unitStart u) else d
  else d

/-! ### Pools and queues (R59, R60, R68) -/

/-- Free one item of a DROP_OLDEST pool. -/
def poolFree (n : Nat) (d : Device) : Device :=
  if n = 0 then rxFree d
  else if n = 2 then hostFree d
  else if n = 4 then ledgerFree d
  else if n = 5 then
    match d.gnss.snaps with
    | [] => d
    | _ :: t => poolDrop { d with gnss := { d.gnss with snaps := t } } 5
  else d

/-- R59: a pool above its new maximum frees its oldest items. -/
def poolTrim (n : Nat) : Nat → Device → Device
  | 0, d => d
  | k + 1, d => if poolUsed d n ≤ poolMax d n then d else poolTrim n k (poolFree n d)

/-- Items a pool can free. -/
def poolItems (d : Device) : Nat :=
  sumOf (fun e => e.2.queue.length) d.slices + sumOf (fun e => e.2.heldOut.length) d.rings + d.mon.ledger.length + d.gnss.snaps.length

/-- The refusal of a quota: 1 MIN_GT_MAX, 2 NO_ROOM, or 0 (R59). -/
def quotaErr (d : Device) (n min max : Nat) : Nat :=
  let old := d.fg (F.TROUGH_POOL_QUOTA_min n)
  let total := sumOf (fun k => if k = n then min else d.fg (F.TROUGH_POOL_QUOTA_min k)) (List.range 9)
  if max < min then 1
  else if 16128 < total ∨ sharedFree d < (min - old) * 8192 then 2
  else 0

/-- R59: TROUGH_POOLn_QUOTA takes a word. -/
def xPoolQuotaWrite (n : Nat) (w : Word) (d : Device) : Device :=
  if n < 9 then
    let e := quotaErr d n (bits w.toNat 0 16) (bits w.toNat 16 16)
    if e = 0 then
      let d := d.wr (R.TROUGH_POOL_QUOTA n) w
      if poolPolicy d n = 1 then poolTrim n (poolItems d) d else d
    else d.fs F.TROUGH_STATUS_quota_err e
  else d

/-- R60: a read of TROUGH_POOLn_USED. -/
def xPoolUsedRead (n : Nat) (d : Device) : Device :=
  if n < 9 then
    let u := poolUsed d n
    let pk := max (amGet 0 d.trough.peak n) u
    { d.emit (.hostRead (BitVec.ofNat 32 (mibUp pk * 65536 + mibUp u))) with trough := { d.trough with peak := amSet 0 d.trough.peak n u } }
  else d

/-- R68: a read of SLCn_QUEUE; 0 while the slice's domain is off (R539). -/
def xSlcQueueRead (s : Nat) (d : Device) : Device :=
  if s < 12 then
    let x := d.slcOf s
    let q := slcDepth d s
    if slcPowered d s then
      (d.setSlc s { x with peak := q }).emit (.hostRead (BitVec.ofNat 32 (min 128 (max x.peak q) * 65536 + min 128 q)))
    else d.emit (.hostRead 0)
  else d

/-! ### Power domains (R78 to R81) -/

/-- Domain of bit `b` of PWR_PD_CTL. -/
def pdOf (b : Nat) : Nat := [3, 4, 7, 11].getD b 0

def setPowered (d : Device) (dom : Nat) (on : Bool) : Device :=
  d.fs F.PWR_PD_STATUS_powered (putBits (d.fg F.PWR_PD_STATUS_powered) dom 1 (if on then 1 else 0))

/-- R79: every unit of the domain is stopped, and for PD_LINK no pair is configured. -/
def pdMayOff (d : Device) (b : Nat) : Bool :=
  if b = 0 then (nats 0 6).all fun s => d.down (.slc s)
  else if b = 1 then (nats 6 6).all fun s => d.down (.slc s)
  else if b = 2 then d.down .gnss
  else d.down .pair && d.down (.port 16) && !d.fb F.PAIR_CFG_configured

/-- R79, R291, R539: PD_GNSS goes off: the references of the receiver are ABSENT, and what it held is lost. -/
def gnssOff (d : Device) : Device :=
  let d := (gnssSlots d).foldl (fun d n => setState d n 0 0) (gnssSilence d)
  let g := d.gnss
  let d := { d with gnss := { Gnss.init with snapMode := g.snapMode, staged := g.staged, commit := g.commit, seq := g.seq, snaps := g.snaps } }
  let d := [R.GNSS_STATUS, R.GNSS_LEVEL, R.GNSS_CLIP, R.GNSS_SOL_STATUS, R.GNSS_SOL_ERR, R.GNSS_SURVEY_STATUS, R.GNSS_SPOOF_STATUS,
            R.GNSS_SNAP_RES, R.GNSS_UTC].foldl (fun d o => d.wr o (regReset o)) d
  xSelectorRerun d

/-- The Ovens of a slice stop with it. -/
def ovensOff (d : Device) (lo : Nat) : Device :=
  let mine (j : OvenJob) : Bool := decide (2 * lo ≤ j.oven) && decide (j.oven < 2 * lo + 12)
  let js := d.nts.jobs.filter mine
  js.foldl jobLost { d with nts := { d.nts with jobs := d.nts.jobs.filter fun j => !mine j } }

/-- A domain goes off. -/
def pdOff (d : Device) (b : Nat) : Device :=
  let d := setPowered d (pdOf b) false
  if b = 0 then ovensOff d 0 else if b = 1 then ovensOff d 6 else if b = 2 then gnssOff d
  else if linkIsUp d 16 then linkFall d 16 else d

/-- R79: one bit of a write to PWR_PD_CTL. -/
def pdBit (w : Nat) (d : Device) (b : Nat) : Device :=
  let f : Fld := ⟨R.PWR_PD_CTL, b, 1⟩
  if d.fb f == w.testBit b then d
  else if w.testBit b then d.set1 f
  else if pdMayOff d b then pdOff (d.clr f) b
  else d.fs F.PWR_PD_STATUS_refused (d.fg F.PWR_PD_STATUS_refused ||| 2 ^ b)

/-- R79: PWR_PD_CTL takes a word. -/
def xPowerDomainWrite (w : Word) (d : Device) : Device := (List.range 4).foldl (pdBit w.toNat) d

/-- Port 16 takes its reset values (R538). -/
def port16Reset (d : Device) : Device :=
  let d := d.resetRegs (R.PORT_CTL 16) (R.PORT_CTL 16 + 0x3FF)
  { d with ports := amDel d.ports 16 }

/-- R81: a host-switched domain is powered and released from reset. -/
def xDomainReleased (b : Nat) (d : Device) : Device :=
  if b < 4 ∧ d.powered 1 ∧ d.fb ⟨R.PWR_PD_CTL, b, 1⟩ ∧ ¬ d.powered (pdOf b) then
    let d := setPowered d (pdOf b) true
    if b = 3 then port16Reset d else d
  else d

/-! ### The commands of this file -/

/-- POOL_QUOTA_WRITE (R59). -/
def execPoolQuotaWrite (n : Nat) (w : Word) (s : State) : Host.Outcome State Fault Refusal :=
  finish s (hostWrite (R.TROUGH_POOL_QUOTA n) (xPoolQuotaWrite n w) s.dev)

/-- POOL_USED_READ (R60). -/
def execPoolUsedRead (n : Nat) (s : State) : Host.Outcome State Fault Refusal :=
  finish s (hostRead (R.TROUGH_POOL_USED n) (xPoolUsedRead n) s.dev)

/-- SLC_QUEUE_READ (R68). -/
def execSlcQueueRead (s0 : Nat) (s : State) : Host.Outcome State Fault Refusal :=
  finish s (hostRead (R.SLC_QUEUE s0) (xSlcQueueRead s0) s.dev)

/-- UNIT_ENABLE (R74). -/
def execUnitEnable (u : UnitId) (s : State) : Host.Outcome State Fault Refusal :=
  finish s (hostWrite u.ctl (xUnitEnable u) s.dev)

/-- UNIT_DRAIN (R75). -/
def execUnitDrain (u : UnitId) (s : State) : Host.Outcome State Fault Refusal :=
  finish s (hostWrite u.ctl (xUnitDrain u) s.dev)

/-- UNIT_CUT (R75). -/
def execUnitCut (u : UnitId) (s : State) : Host.Outcome State Fault Refusal :=
  finish s (hostWrite u.ctl (xUnitCut u) s.dev)

/-- DRAIN_TO_CUT (R76). -/
def execDrainToCut (u : UnitId) (s : State) : Host.Outcome State Fault Refusal :=
  finish s (hostWrite u.ctl (xDrainToCut u) s.dev)

/-- UNIT_DRAINED (R75). -/
def execUnitDrained (u : UnitId) (s : State) : Host.Outcome State Fault Refusal :=
  finish s (xUnitDrained u s.dev)

/-- POWER_DOMAIN_WRITE (R79). -/
def execPowerDomainWrite (w : Word) (s : State) : Host.Outcome State Fault Refusal :=
  finish s (hostWrite R.PWR_PD_CTL (xPowerDomainWrite w) s.dev)

/-- DOMAIN_RELEASED (R81). -/
def execDomainReleased (dom : Nat) (s : State) : Host.Outcome State Fault Refusal :=
  finish s (xDomainReleased dom s.dev)

end Sys2Proof.Machine
end

