-- ==== Sys2Proof/Machine/Bus.lean ====
section
/-! DEFINITION. What a write to a BAR0 register does, whoever makes it (R8, R74, and the write rules of each block's register
table): the host's write, a timed register change, a REG_WRITE entry of a Batch.  A write is an offset, the mask of the bits it
carries and a word. -/

namespace Sys2Proof.Machine

/-! ### The word a write makes -/

/-- The number of a register of a row of registers. -/
def idxOf (o base stride count : Nat) : Option Nat :=
  if base ≤ o ∧ (o - base) % stride = 0 ∧ (o - base) / stride < count then some ((o - base) / stride) else none

/-- The word a register's RW, RWL and SEAL fields hold, those of the registers whose writes are staged being the staged values. -/
def heldWord (d : Device) (o : Nat) : Nat :=
  if o = R.TB_INCR_LO then d.tm.stagedLo.toNat
  else if o = R.TB_INCR_HI then d.tm.incr.toNat / 2 ^ 32
  else if o = R.TB_LEAP_EXPIRY_LO then d.tm.expiryStaged.toNat
  else if o = R.TB_LEAP_EXPIRY_HI then d.tm.expiry / 2 ^ 32
  else if o = R.MON_LEDGER_NEXT_LO then d.mon.ledgerNextLo.toNat
  else if o = R.MON_LEDGER_NEXT_HI then d.mon.ledgerNext / 2 ^ 32
  else match d.gnss.staged.find? fun e => e.1 == o with
    | some e => e.2.toNat
    | none => d.rn o

/-- Bits a write sets to its word: the RW, RWL and SEAL bits it carries. -/
def settable (o m : Nat) : Nat := let r := accRow o; m &&& (r.rwM ||| r.rwlM ||| r.sealM)

/-- The register's word after the write, with the bits of WO fields the write carries (which are not stored). -/
def merged (d : Device) (o m w : Nat) : Nat := maskPut (heldWord d o) (settable o m) w ||| (w &&& m &&& (accRow o).woM)

/-- R8: the fields take the write by their access codes: RW, RWL and SEAL are set, 1s clear W1C and set W1S bits, WO is not
stored. -/
def plainWrite (d : Device) (o m w : Nat) : Device :=
  let r := accRow o
  let x := maskPut (d.rn o) (settable o m) w
  let x := x ^^^ (x &&& (r.w1cM &&& m &&& w))
  d.wn o (x ||| (r.w1sM &&& m &&& w))

/-- The same, keeping some fields as they are. -/
def plainBut (d : Device) (o m w keep : Nat) : Device := plainWrite d o (m ^^^ (m &&& keep)) w

/-- A field is stored clamped to its range. -/
def clampFld (d : Device) (f : Fld) (lo hi : Nat) : Device := d.fs f (clamp lo hi (d.fg f))

/-- A field of a word. -/
def Fld.of (f : Fld) (v : Nat) : Nat := bits v f.lo f.len

/-- Bits en and stop of an enable word. -/
def enBits : Nat := 0xC0000000

/-- R74 to R76: the enable word of a unit takes en and stop of a word; setting en runs the unit's own checks. -/
def ctlWord (d : Device) (u : UnitId) (v : Nat) : Device :=
  if v.testBit 31 && !d.fb u.en then xUnitEnable u (d.fsb u.stop (v.testBit 30))
  else match u with
    | .ref n => if !v.testBit 31 && d.fb u.en then xRefDisable n (v.testBit 30) d else d
    | _ => unitWrite d u v

/-- A unit's control register: its other fields, then its enable word. -/
def ctlWrite (d : Device) (u : UnitId) (o m w keep : Nat) : Device := ctlWord (plainBut d o m w (enBits ||| keep)) u (merged d o m w)

/-! ### Blocks -/

/-- TB (R14 to R30, R248 to R256, R329 to R332). -/
def tbWrite (d : Device) (batch : Bool) (o m w : Nat) : Device :=
  let v := merged d o m w
  let vw : Word := BitVec.ofNat 32 v
  let so := d.fb F.TB_LEAP_CTL_sealed_only
  if o = R.TB_INCR_LO then xTbIncrLoWrite vw d
  else if o = R.TB_INCR_HI then xTbIncrHiWrite vw d
  else if o = R.TB_LEAP_CTL then
    let d := refreshLeap (plainWrite d o m w)
    if v.testBit 31 then (if v.testBit 30 then xLeapForceCommit d else xLeapCommit d) else d
  else if o = R.TB_LEAP_EXPIRY_LO then if batch && so then d else xLeapExpiryLoWrite vw d
  else if o = R.TB_LEAP_EXPIRY_HI then if batch && so then d else xLeapExpiryHiWrite vw d
  else if o = R.TB_SMEAR_CTL then xSmearCtlWrite vw d
  else if o = R.TB_SMEAR_WIN then xSmearWinWrite vw d
  else if o = R.TB_TBC then xManualWrite vw d
  else if o = R.TB_OSC_CTL then (if v.testBit 0 then xOscReanchor d else d)
  else if o = R.TB_OSC_AGE ∨ o = R.TB_OSC_AGE_TOL ∨ o = R.TB_OSC_NOISE then oscModelWritten (plainWrite d o m w)
  else if o = R.TB_AGREE then
    if F.TB_AGREE_win.of v < 100 ∨ 10000 < F.TB_AGREE_win.of v ∨ F.TB_AGREE_lim.of v = 0 then d else plainWrite d o m w
  else if o = R.TB_DRIFT then if F.TB_DRIFT_hard.of v < F.TB_DRIFT_soft.of v then d else plainWrite d o m w
  else if o = R.TB_HOLD_CTL then
    clampFld (plainWrite { d with refs := { d.refs with holdWas := some (d.nowSec, d.holdCtl) } } o m w) F.TB_HOLD_CTL_avg 60 3600
  else if o = R.TB_STEP_CTL then plainWrite { d with refs := { d.refs with stepWas := some (d.nowSec, d.stepCtl) } } o m w
  else plainWrite d o m w

/-- REF (R227, R239, R254, R258). -/
def refWrite (d : Device) (o m w : Nat) : Device :=
  let n := (o - R.REF_CFG 0) / 0x80
  let v := merged d o m w
  let on := refEn d n
  if o = R.REF_CFG n then
    let d := ctlWrite d (.ref n) o m w (if on then 0x1E000F00 else 0)
    if v.testBit 3 then xRefRequal n d else d
  else if o = R.REF_TOD n then if on then d else plainWrite d o m w
  else if o = R.REF_NOMF n then if on || decide (v < 1000) || decide (1500000000 < v) then d else plainWrite d o m w
  else if o = R.REF_NTP_CTL n then clampFld (plainWrite d o m w) (F.REF_NTP_CTL_poll n) 4 10
  else plainWrite d o m w

/-- TIC (R311, R320 to R322). -/
def ticWrite (d : Device) (o m w : Nat) : Device :=
  let v := merged d o m w
  if o = R.TIC_CAL_CTL then
    let d := plainWrite d o m w
    if v.testBit 31 then xTicCalStart d else d
  else match idxOf o (R.TIC_CH_CFG 0) 0x10 8, idxOf o (R.TIC_CH_DELAY 0) 0x10 8, idxOf o (R.TIC_PAIR_CFG 0) 0x10 4 with
    | some n, _, _ => ctlWrite d (.ticCh n) o m w (if d.fb (UnitId.ticCh n).en then 0x00003FF0 else 0)
    | _, some _, _ => if signed 32 v < -1000 ∨ 1000 < signed 32 v then d else plainWrite d o m w
    | _, _, some p => ctlWrite d (.ticPair p) o m w (if d.fb (UnitId.ticPair p).en then 0x177 else 0)
    | _, _, _ => plainWrite d o m w

/-- OUT (R335, R338, R342, R347). -/
def outWrite (d : Device) (o m w : Nat) : Device :=
  let v := merged d o m w
  if o = R.OUT_EV_CMD then
    if v.testBit 29 then xOutEventCancel (BitVec.ofNat 32 v) d
    else if F.OUT_EV_CMD_op.of v = 1 then xOutEventRequest (BitVec.ofNat 32 v) d
    else plainWrite d o m w
  else if R.TOUT_CFG 0 ≤ o ∧ o < R.TOUT_CFG 8 then
    let n := (o - R.TOUT_CFG 0) / 0x40
    let on := d.fb (UnitId.tout n).en
    if o = R.TOUT_CFG n then ctlWrite d (.tout n) o m w (if on then 0x07800000 else 0)
    else if o = R.TOUT_OFF n then if on || decide (500000000 < (signed 32 v).natAbs) then d else plainWrite d o m w
    else if o = R.TOUT_DELAY n then if 10000 < (signed 32 v).natAbs then d else plainWrite d o m w
    else if on && !(o == R.TOUT_STATUS n) then d
    else plainWrite d o m w
  else if R.FOUT_CFG 0 ≤ o ∧ o < R.FOUT_CFG 4 then
    let k := (o - R.FOUT_CFG 0) / 0x40
    let on := d.fb (UnitId.fout k).en
    if o = R.FOUT_CFG k then ctlWrite d (.fout k) o m w 0
    else if o = R.FOUT_FREQ_INT k then if on || decide (v < 1000) || decide (750000000 < v) then d else plainWrite d o m w
    else if o = R.FOUT_FREQ_FRAC k then if on then d else plainWrite d o m w
    else if o = R.FOUT_PHASE k then if on || decide (1000000000 < (signed 32 v).natAbs) then d else plainWrite d o m w
    else plainWrite d o m w
  else plainWrite d o m w

/-- AXIS (R41, R42). -/
def axisWrite (d : Device) (o m w : Nat) : Device :=
  let v : Word := BitVec.ofNat 32 (merged d o m w)
  let n := (o - R.AXIS_CFG 0) / 0x40
  if o = R.AXIS_CFG n then xAxisCfgWrite n v d
  else if o = R.AXIS_CYCLE_SET n then xAxisCycleSet n v d
  else plainWrite d o m w

/-- PEEL (R118, R124, R129, R134). -/
def peelWrite (d : Device) (o m w : Nat) : Device :=
  let v := merged d o m w
  let vw : Word := BitVec.ofNat 32 v
  if o = R.PEEL_CTL then ctlWrite d .peel o m w 0
  else if o = R.PEEL_GUARD then xPeelGuardWrite vw d
  else if o = R.PEEL_SEARCH then d.wn o (clamp 100 8000 (bits v 0 16))
  else if o = R.PEEL_GCL_CMD then
    if v.testBit 29 then xGclCancel vw d
    else match F.PEEL_GCL_CMD_op.of v with
      | 1 => xGclWrite vw d
      | 2 => xGclRead vw d
      | 3 => xGclRequest vw d
      | _ => plainWrite d o m w
  else match idxOf o (R.PEEL_P_EGR_ADJ 0) 0x40 16 with
    | some _ => if 1000 < (signed 16 v).natAbs then d else plainWrite d o m w
    | none => plainWrite d o m w

/-- PKE (R387, R395, R400, R403). -/
def pkeWrite (d : Device) (o m w : Nat) : Device :=
  let v := merged d o m w
  if o = R.PKE_CTL then ctlWrite d .pke o m w 0
  else match idxOf o (R.PKE_CORE_EN 0) 4 2, idxOf o (R.PKE_RQ_CFG 0) 8 5 with
    | some i, _ => xPkeCoreEnable i (BitVec.ofNat 32 v) d
    | _, some _ => pkeRun (plainWrite d o m w)
    | _, _ => plainWrite d o m w

/-- PORT (R200 to R203, R217 to R220). -/
def portWrite (d : Device) (o m w : Nat) : Device :=
  let v := merged d o m w
  let vw : Word := BitVec.ofNat 32 v
  let n := (o - R.PORT_CTL 0) / 0x400
  if 17 ≤ n then plainWrite d o m w
  else if o = R.PORT_CTL n then
    let lpi := d.fb (F.PORT_CTL_lpi_en n)
    let d := plainBut d o m w (enBits ||| 0x100)
    let d := if v.testBit 0 then xPortStatClear n d else d
    let d := if v.testBit 8 == lpi then d else xPortLpiEnable n (v.testBit 8) d
    ctlWord d (.port n) v
  else if o = R.PORT_MODE n then xPortModeWrite n vw d
  else if o = R.PORT_LPI n then xPortLpiWrite n vw d
  else if o = R.PORT_SYNCE n then xPortSynceWrite n vw d
  else if o = R.PORT_MAXLEN n then if v < 1518 ∨ 9216 < v then d else plainWrite d o m w
  else if o = R.PORT_ING_ADJ n then if 1000 < (signed 16 v).natAbs then d else plainWrite d o m w
  else plainWrite d o m w

/-- SLC (R68). -/
def slcWrite (d : Device) (o m w : Nat) : Device :=
  let n := (o - R.SLC_CTL 0) / 0x100
  if 12 ≤ n then plainWrite d o m w
  else if o = R.SLC_CTL n then ctlWrite d (.slc n) o m w 0
  else if o = R.SLC_SPILL n then if merged d o m w < 8 then d else plainWrite d o m w
  else plainWrite d o m w

/-- OVN (R70, R159, R160, R174). -/
def ovnWrite (d : Device) (o m w : Nat) : Device :=
  let v := merged d o m w
  if o = R.OVN_CTL then xOvnCtlWrite (BitVec.ofNat 32 v) d
  else if o = R.OVN_KE_CTL then ctlWrite d .ke o m w 0
  else if o = R.OVN_STARTER_CMD then
    if v.testBit 29 then xStarterCancel d
    else if F.OVN_STARTER_CMD_op.of v = 1 then xStarterRotateRequest d
    else if F.OVN_STARTER_CMD_op.of v = 2 then xStarterPurge d
    else d
  else plainWrite d o m w

/-- R86: CLS_SA_CMD. -/
def saWrite (d : Device) (o m w : Nat) : Device :=
  let v := merged d o m w
  if saBusy d then d
  else
    let d := plainWrite d o m w
    let i := F.CLS_SA_CMD_index.of v
    match F.CLS_SA_CMD_op.of v with
    | 1 => xSaWrite i d
    | 2 => xSaRead i d
    | 3 => xSaInvalidate i d
    | _ => d

/-- A PTP instance's registers (R179, R196). -/
def ptpWrite (d : Device) (i o m w : Nat) : Device :=
  let v := merged d o m w
  let on := d.fb (UnitId.ptp i).en
  if o = R.CLS_PTP_CFG i then
    let p := F.CLS_PTP_CFG_profile i
    let d := if p.of v = d.fg p then d else xPtpProfileWrite i (p.of v) d
    ctlWrite d (.ptp i) o m w (if on then 0x3FFFFFFF else 0)
  else if o = R.CLS_PTP_PORTS i ∨ o = R.CLS_PTP_SA i then if on then d else plainWrite d o m w
  else if o = R.CLS_PTP_SYNC i then d.wn o (clamp 100 8000 (bits v 0 16))
  else plainWrite d o m w

/-- CLS (R83, R86, R87, R98, R179, R196). -/
def clsWrite (d : Device) (o m w : Nat) : Device :=
  let v := merged d o m w
  if o = R.CLS_CTL then ctlWrite d .cls o m w 0
  else if o = R.CLS_SA_CMD then saWrite d o m w
  else if o = R.CLS_SA_ATTR ∨ o = R.CLS_SA_SVC ∨ (R.CLS_SA_ADDR 0 ≤ o ∧ o ≤ R.CLS_SA_ADDR 3) then if saBusy d then d else plainWrite d o m w
  else if o = R.CLS_NTP_CTL then if F.CLS_NTP_CTL_poll_max.of v < F.CLS_NTP_CTL_poll_min.of v then d else plainWrite d o m w
  else if R.CLS_PTP_CFG 0 ≤ o ∧ o < R.CLS_PTP_CFG 8 then ptpWrite d ((o - R.CLS_PTP_CFG 0) / 0x80) o m w
  else plainWrite d o m w

/-- HIF rings and HIF global (R437 to R439, R467, R472). -/
def hifWrite (d : Device) (unread : List Bytes) (o m w : Nat) : Device :=
  let v := merged d o m w
  if o < R.HIF_RING_CTL 256 then
    let n := (o - R.HIF_RING_CTL 0) / 0x40
    let u := UnitId.ring n
    let still := d.down u
    let cfgErr (d : Device) : Device := d.set1 (F.HIF_RING_STATUS_cfg_err n)
    if o = R.HIF_RING_CTL n then
      let d :=
        if still then plainBut d o m w enBits
        else if (v ^^^ d.rn o) &&& 0x079F0000 = 0 then d
        else cfgErr d
      if !v.testBit 31 && d.fb u.en then xRingDisable n (v.testBit 30) unread d else ctlWord d u v
    else if o = R.HIF_RING_SQ_LO n ∨ o = R.HIF_RING_SQ_HI n ∨ o = R.HIF_RING_CQ_LO n ∨ o = R.HIF_RING_CQ_HI n ∨ o = R.HIF_RING_SEL n then
      if still then plainWrite d o m w else cfgErr d
    else plainWrite d o m w
  else
    let d := plainWrite d o m w
    if o = R.HIF_CTL ∧ v.testBit 31 then xRingResume d else d

/-- INTC (R474 to R476, R481, R486). -/
def intcWrite (d : Device) (o m w : Nat) : Device :=
  let v : Word := BitVec.ofNat 32 (w &&& m)
  match idxOf o (R.INTC_PEND 0) 4 32, idxOf o (R.INTC_SETP 0) 4 32, idxOf o (R.INTC_SRC_CFG 0) 4 1024 with
  | some k, _, _ => xIntcClearPending k v d
  | _, some k, _ => xIntcSetPending k v d
  | _, _, some n => xIntcSrcCfgWrite n (BitVec.ofNat 32 (merged d o m w)) d
  | _, _, _ =>
    match idxOf o (R.INTC_TGT_CTL 0) 0x20 32, idxOf o (R.INTC_TGT_EOI 0) 0x20 32 with
    | some t, _ => if t < 16 then d else plainWrite d o m w
    | _, some t => xIntcEoi t v d
    | _, _ => plainWrite d o m w

/-- Registers whose writes are staged until a calibration commit (R275). (DESIGN CHOICE, log entry 40.) -/
def gnssStaged (o : Nat) : Bool :=
  (decide (R.GNSS_DLY 0 ≤ o) && decide (o ≤ R.GNSS_POS_HI 2)) || (idxOf o (R.GNSS_BASE 0) 4 3).isSome

/-- The position and baseline registers (R284). -/
def gnssGeom (o : Nat) : Bool := (decide (R.GNSS_POS_LO 0 ≤ o) && decide (o ≤ R.GNSS_POS_HI 2)) || (idxOf o (R.GNSS_BASE 0) 4 3).isSome

/-- GNSS (R271, R275, R278, R284, R289, R290, R293 to R296). -/
def gnssWrite (d : Device) (batch : Bool) (o m w : Nat) : Device :=
  let v := merged d o m w
  let sealed := d.fb F.GNSS_SPOOF_CTL_sealed_geom && !batch
  if gnssStaged o then
    if sealed && gnssGeom o then d.cnt K.GNSS_SEALED_WRITE
    else { d with gnss := { d.gnss with staged := (d.gnss.staged.filter fun e => !(e.1 == o)) ++ [(o, BitVec.ofNat 32 v)] } }
  else if o = R.GNSS_CTL then
    let d := xGnssModeWrite (F.GNSS_CTL_mode.of v) (ctlWrite d .gnss o m w 0x03000000)
    if v.testBit 8 then xGnssCalCommit d else d
  else if o = R.GNSS_SPOOF_CTL then
    if F.GNSS_SPOOF_CTL_fail_thr.of v < F.GNSS_SPOOF_CTL_pass_thr.of v then d
    else if sealed && m.testBit 31 then (plainBut d o m w 0x80000000).cnt K.GNSS_SEALED_WRITE
    else plainWrite d o m w
  else if o = R.GNSS_ACQ_CTL then clampFld (plainWrite d o m w) F.GNSS_ACQ_CTL_win 1000 50000
  else if o = R.GNSS_TRK_CTL then
    clampFld (clampFld (plainWrite d o m w) F.GNSS_TRK_CTL_pll_bw 2 20) F.GNSS_TRK_CTL_dll_bw 5 200
  else if o = R.GNSS_SURVEY then
    let d := clampFld (plainWrite d o m w) F.GNSS_SURVEY_dur 600 604800
    if v.testBit 30 then xGnssSurveyAbort d else if v.testBit 31 then xGnssSurveyStart d else d
  else if o = R.GNSS_SNAP_CTL then
    let d := clampFld (plainWrite d o m w) F.GNSS_SNAP_CTL_period 10 3600
    if v.testBit 28 then xGnssCaptureCancel d else if F.GNSS_SNAP_CTL_op.of v = 1 then xGnssCaptureRequest d else d
  else plainWrite d o m w

/-- PAIR (R421, R422, R424, R430). -/
def pairWrite (d : Device) (o m w : Nat) : Device :=
  let v := merged d o m w
  if o = R.PAIR_CTL then ctlWrite d .pair o m w 0
  else if o = R.PAIR_CMD then
    match F.PAIR_CMD_op.of v with
    | 1 => xPairResign d
    | 2 => xPairHandback d
    | _ => d
  else if o = R.PAIR_CAL_CMD then
    if v.testBit 29 then xPairCalCancel d else if F.PAIR_CAL_CMD_op.of v = 1 then xPairCalRequest none d else d
  else if o = R.PAIR_ASYM then xPairAsymWrite (BitVec.ofNat 32 v) d
  else plainWrite d o m w

/-- MON (R494, R499, R508, R510, R511). -/
def monWrite (d : Device) (o m w : Nat) : Device :=
  let v := merged d o m w
  let vw : Word := BitVec.ofNat 32 v
  if o = R.MON_SNAP_CMD then
    if v.testBit 29 then xSnapshotCancel vw d
    else match F.MON_SNAP_CMD_op.of v with
      | 1 => xSnapshotNow vw d
      | 2 => xSnapshotAt vw d
      | _ => plainWrite d o m w
  else if o = R.MON_HW_CMD then
    if v.testBit 29 then xHwCancel vw d
    else match F.MON_HW_CMD_op.of v with
      | 1 => xHwStartRequest vw d
      | 2 => xHwEndRequest vw d
      | _ => plainWrite d o m w
  else if o = R.MON_LEDGER_NEXT_LO then xLedgerNextLoWrite vw d
  else if o = R.MON_LEDGER_NEXT_HI then xLedgerNextHiWrite vw d
  else if R.MON_HIST_CFG 0 ≤ o ∧ o < R.MON_HIST_CFG 256 then
    let h := (o - R.MON_HIST_CFG 0) / 0x10
    let on := d.fb (UnitId.hist h).en
    if o = R.MON_HIST_CFG h then ctlWrite d (.hist h) o m w (if on then 0x3FFFFFFF else 0)
    else if on then d
    else if o = R.MON_HIST_PER h then d.wn o (clamp 1 86400 (bits v 0 20))
    else plainWrite d o m w
  else plainWrite d o m w

/-- TROUGH (R57, R59, R62). -/
def troughWrite (d : Device) (o m w : Nat) : Device :=
  let v := merged d o m w
  match idxOf o (R.TROUGH_POOL_QUOTA 0) 0x10 9, idxOf o (R.TROUGH_POOL_CTL 0) 0x10 9 with
  | some n, _ => xPoolQuotaWrite n (BitVec.ofNat 32 v) d
  | _, some n =>
    let fixed := ([1, 3, 4, 6, 7, 8] : List Nat).contains n
    plainBut d o m w (if fixed || bits v 16 2 == 3 then 0x30000 else 0)
  | _, _ => plainWrite d o m w

/-! ### The whole map -/

/-- A write of a word's bits, those of a mask, to the register at an offset; `batch`: by a Batch; `unread`: the descriptors posted and
not read, for a ring whose en the write clears. (DESIGN CHOICE, log entry 5.) -/
def regWrite (batch : Bool) (unread : List Bytes) (o m w : Nat) (d : Device) : Device :=
  if o < 0x1000 then
    let d := plainWrite d o m w
    if o = R.GLB_WDOG then clampFld d F.GLB_WDOG_period 10 60000
    else if o = R.GLB_ACC_ERR ∧ (w &&& m).testBit 31 then d.wn o 0
    else d
  else if o < 0x2000 then
    if o = R.PWR_PD_CTL then xPowerDomainWrite (BitVec.ofNat 32 (merged d o m w)) d else plainWrite d o m w
  else if o < 0x4000 then intcWrite d o m w
  else if o < 0x8000 then hifWrite d unread o m w
  else if o < 0x9000 then tbWrite d batch o m w
  else if o < 0xA000 then refWrite d o m w
  else if o < 0xB000 then ticWrite d o m w
  else if o < 0xC000 then outWrite d o m w
  else if o < 0xD000 then axisWrite d o m w
  else if o < 0xE000 then peelWrite d o m w
  else if o < 0xF000 then plainWrite d o m w
  else if o < 0x10000 then pkeWrite d o m w
  else if o < 0x18000 then portWrite d o m w
  else if o < 0x19000 then slcWrite d o m w
  else if o < 0x1A000 then ovnWrite d o m w
  else if o < 0x1B000 then clsWrite d o m w
  else if o < 0x1C000 then hifWrite d unread o m w
  else if o < 0x1E000 then gnssWrite d batch o m w
  else if o < 0x20000 then pairWrite d o m w
  else if o < 0x30000 then monWrite d o m w
  else if o < 0x3F000 then troughWrite d o m w
  else if o = R.SAMPLE_CTL then ctlWrite d .sample o m w 0
  else plainWrite d o m w

/-! ### Power (R538, R543) -/

/-- A write by the device itself: nothing where the block is off. -/
def ownWrite (batch : Bool) (o m w : Nat) (d : Device) : Device := if blockOff d o then d else regWrite batch [] o m w d

end Sys2Proof.Machine
end

