-- ==== Sys2Proof/Machine/Trust.lean ====
section
/-! DEFINITION. The commands of the CMD ring (R445 to R448, R509), and what an applied Batch does (R362, R372 to R374): claims and
ownership (R358 to R361), TLS keys (R368), firmware (R375, R376), the extension module (R377), the flash (R355), timed register
changes (R446), and Batches from the partner (R429). -/

namespace Sys2Proof.Machine

/-! ### The CMD ring (R445, R447) -/

def cOp (b : Bytes) : Nat := byteAt b 0
def cNotify (b : Bytes) : Bool := (byteAt b 1).testBit 0
def cLen (b : Bytes) : Nat := leAt b 2 2
def cTag (b : Bytes) : Nat := leAt b 4 4
def cArg0 (b : Bytes) : Nat := leAt b 24 4
def cArg1 (b : Bytes) : Nat := leAt b 28 4

/-- HIF statuses of a command. -/
abbrev C.BAD_DESC : Nat := 0x20
abbrev C.DMA_ERR : Nat := 0x22
abbrev C.SHORT_BUF : Nat := 0x23

/-- Op codes R446 and R509 define. -/
def cmdOps : List Nat := [1, 2, 3, 4, 5, 6, 7, 8, 9, 10, 11, 12, 13, 14, 0x10, 0x11, 0x20, 0x21]

/-- What a command answers: status, handle, R34 code and output. -/
structure CmdAns where
  st : Nat
  handle : Nat
  code : Nat
  out : Bytes
  deriving DecidableEq, Repr

def CmdAns.of (st : Nat) : CmdAns := { st, handle := 0, code := 0, out := [] }

/-- A descriptor of ring `n` whose op is `op` is read, judged and executed, and completes; a descriptor of an op no command has is
malformed. (DEDUCED, log entry 82.) -/
def cmdRun (op n : Nat) (desc : Bytes) (bad : Bytes → Bool) (act : Bytes → Device → CmdAns × Device) (d : Device) : Device :=
  let b := padTo 32 (desc.take 32)
  if canTake d n 0 && (cOp b == op || !cmdOps.contains (cOp b)) then
    let (slot, d) := takeDesc d n 0 false
    let (a, d) := if cOp b == op && decide (byteAt b 1 < 2) && !bad b then act b d else (CmdAns.of C.BAD_DESC, d)
    complete d n slot (cmdCqe (cTag b) a.st (cOp b) a.out.length a.handle a.code) a.out
  else d

/-- A descriptor with `len` in a range and arg1 in its own breaks no more than its arg0 can. -/
def lenBad (b : Bytes) (lo hi : Nat) : Bool := decide (cLen b < lo) || decide (hi < cLen b) || decide (65535 < cArg1 b)

/-- A command without input, with arg0 = 0. -/
def plainBad (b : Bytes) : Bool := lenBad b 0 0 || !(cArg0 b == 0)

/-- The answer with an output: SHORT_BUF when it exceeds arg1, DMA_ERR when it cannot be written. -/
def outAns (b out : Bytes) (ok : Bool) : CmdAns :=
  if cArg1 b < out.length then CmdAns.of C.SHORT_BUF
  else if ok then { st := B.OK, handle := 0, code := 0, out }
  else CmdAns.of C.DMA_ERR

/-- Bytes written into a sparse table. -/
def putBytes (dflt : Byte) : List (Nat × Byte) → Nat → Bytes → List (Nat × Byte)
  | l, _, [] => l
  | l, off, b :: t => putBytes dflt (amSet dflt l off b) (off + 1) t

/-! ### What a Batch's items do (R362, R365) -/

/-- Registers with SEAL fields (R363). -/
def sealRegs : List Nat :=
  [R.TB_LEAP_CTL, R.OVN_STARTER_PERIOD, R.OVN_STARTER_POLICY, R.OVN_KE_TLS, R.GNSS_SPOOF_CTL, R.SEC_CTL, R.SEC_TAMPER_CFG]

/-- The SEAL fields of some registers take their reset values. -/
def sealResetOf (d : Device) (l : List Nat) : Device :=
  refreshLeap (l.foldl (fun d o => d.wn o (maskPut (d.rn o) (accRow o).sealM (regReset o).toNat)) d)

/-- Every SEAL field takes its reset value. -/
def sealReset (d : Device) : Device := sealResetOf d sealRegs

/-- The REG_WRITE entries of a Batch, in order. -/
def allEntries (l : List BItem) : List (Nat × Nat × Nat) := (l.filter fun i => i.typ == 1).flatMap fun i => regEntries i.body

/-- One entry takes effect. -/
def putEntry (d : Device) (e : Nat × Nat × Nat) : Device := ownWrite true e.1 e.2.1 e.2.2 d

/-- R59, R179: the owning chapter refuses what an entry writes. -/
def entryRefused (d : Device) (e : Nat × Nat × Nat) : Bool :=
  let v := merged d e.1 e.2.1 e.2.2
  match idxOf e.1 (R.TROUGH_POOL_QUOTA 0) 0x10 9, idxOf e.1 (R.CLS_PTP_CFG 0) 0x80 8 with
  | some n, _ => !(quotaErr d n (bits v 0 16) (bits v 16 16) == 0)
  | _, some i => v.testBit 31 && !(putEntry d e).fb (UnitId.ptp i).en
  | _, _ => false

/-- Some entry of a Batch is refused, each judged after those before it. (DEDUCED, log entry 85.) -/
def entriesRefused : Device → List (Nat × Nat × Nat) → Bool
  | _, [] => false
  | d, e :: t => entryRefused d e || entriesRefused (putEntry d e) t

/-- What the owning chapters refuse in a Batch's items. -/
def moreBad (d : Device) (l : List BItem) : Bool := entriesRefused (sealReset d) (allEntries l)

/-- SEC_STATUS shows the TLS keys. -/
def tlsShow (d : Device) : Device :=
  let t := d.trust
  let ready := t.tlsCur.isSome && (match t.chain with | c :: _ => certSpki c == tlsSpki t.tlsCur | [] => false)
  (d.fsb F.SEC_STATUS_tls_ready ready).fsb F.SEC_STATUS_tls_next t.tlsNext.isSome

def tlsRecord (k : TlsKey) : Bytes := leBytes 1 k.typ ++ k.priv

/-- R368: a chain comes into force; one that names the next key makes it the current one. -/
def putChain (d : Device) (cs : List Bytes) : Device :=
  let d := { d with trust := { d.trust with chain := cs } }
  let named := match cs with | c :: _ => certSpki c | [] => []
  let d := match d.trust.tlsNext with
    | some k =>
      if !named.isEmpty && named == tlsSpki (some k) && !(named == tlsSpki d.trust.tlsCur) then
        let d := keySave (keyWipe (keyWipe d 2 slotTls) 3 slotTlsNext) 2 slotTls (tlsRecord k)
        ({ d with trust := { d.trust with tlsCur := some k, tlsNext := none } }).fs F.OVN_KE_TLS_sig k.typ
      else d
    | none => d
  tlsShow d

/-- R377: an extension module runs, or is removed; at a warm boot a faulted one stays stopped. -/
def putExt (d : Device) (m : Option Bytes) (boot : Bool) : Device :=
  let fault := d.trust.extFault && boot && m.isSome
  let d := { d with trust := { d.trust with ext := m, extFault := fault } }
  let d := d.fs F.SEC_EXT_STATUS_state (if fault then 2 else if m.isSome then 1 else 0)
  match m with | some b => d.fs (F.PKE_RQ_CFG_run 3) (Config.extQuota b) | none => d

/-- R28, R362: the leap table a Batch carries and its expiry; one it does not carry is removed while sealed_only is 1. -/
def putLeapItem (d : Device) (l : List BItem) : Device :=
  match itemOf l 2 with
  | some b =>
    let (e, t) := leapItem b
    putLeapTable { d with tm := { d.tm with expiry := e % 2 ^ 48 } } t false
  | none =>
    if d.fb F.TB_LEAP_CTL_sealed_only then
      refreshLeap { d with tm := { d.tm with leap := none, leapNext := none, leapAdopted := [], expiry := 0 } }
    else d

/-- R359, R360: a key becomes the Owner Key. -/
def putOwner (d : Device) (k : Nat × Bytes) : Device :=
  let d := keySave (keyWipe d 1 slotOwner) 1 slotOwner (leBytes 1 k.1 ++ k.2)
  ({ d with trust := { d.trust with owner := some k } }).set1 F.SEC_STATUS_owner

/-- R359: the OWNER_CLAIM item. -/
def ownerClaim (d : Device) (l : List BItem) : Device :=
  match (itemOf l 7).bind ownerItem with
  | some k => ((putOwner d k).pulse S.OWNER).ledger L.owner 0 0 0
  | none => d

/-- The settings of a Batch change together; `boot`: applied again at boot (R374); `kept`: at a boot after a time-keeping reset,
which kept the blocks of PD_TIME (R522). -/
def batchPut (d : Device) (l : List BItem) (boot kept : Bool) : Device :=
  let mine (o : Nat) : Bool := !(kept && domainOf o == 8)
  let d := ((allEntries l).filter fun e => mine e.1).foldl putEntry (sealResetOf d (sealRegs.filter mine))
  let d := if kept then d else putLeapItem d l
  let d := putChain d (((itemOf l 3).bind chainItem).getD [])
  let d := putExt d (itemOf l 6) boot
  let d := pairConfig d ((itemOf l 10).getD [])
  if boot then d else ownerClaim d l

/-! ### One-shot items (R360, R368) -/

def oneShot (i : BItem) : Bool := i.typ == 4 || i.typ == 5 || i.typ == 8 || i.typ == 9

/-- The numbers of a Batch's one-shot items. -/
def oneShots (l : List BItem) : List Nat := (List.range l.length).filter fun k => (l[k]?).any oneShot

/-- R368: MAKE_TLS_KEY. -/
def makeTlsKey (d : Device) (typ : Nat) : Device :=
  let ((_, out), d) := pkeOp (10 + typ) 0 [] none false false false d
  tlsShow (storeKeygen (pkeAccount d 2 true) (10 + typ) out)

/-- R360: OWNER_RELEASE. (DEDUCED, log entry 86.) -/
def ownerRelease (d : Device) : Device :=
  let d := d.fs F.SEC_FUSE_EPOCH (min 32 (d.fg F.SEC_FUSE_EPOCH + 1))
  let d := setGens { d with trust := { d.trust with tlsCur := none, tlsNext := none, pairKey := none, owner := none } } none none none none []
  let d := pairConfig (putExt (putChain (sealReset d) []) none false) []
  ({ d with trust := { d.trust with banks := [], records := [] } }).clr F.SEC_STATUS_owner

/-- One one-shot item runs. -/
def runOneShot (d : Device) (i : BItem) : Device :=
  match i.typ with
  | 4 => makeTlsKey d (byteAt i.body 0)
  | 5 => purgeBoth d
  | 8 => ownerRelease d
  | 9 => match ownerItem i.body with | some k => putOwner d k | none => d
  | _ => d

/-- The item is struck from the applied record. -/
def strike (d : Device) (bank k : Nat) : Device :=
  let b := d.bank bank
  if b.data.isEmpty then d else d.setBank bank { b with applied := b.applied.map fun l => l.filter fun x => !(x == k) }

/-- The one-shot items a bank's applied record still lists, in item order. -/
def runOneShots (d : Device) (bank : Nat) : Device :=
  let b := d.bank bank
  let l := (batchItems b.data).getD []
  (b.applied.getD []).foldl (fun d k => strike (match l[k]? with | some i => runOneShot d i | none => d) bank k) d

/-! ### The apply (R372, R373) -/

/-- R373: a check that depends on the state in force fails. -/
def recheckBad (d : Device) (b : Bytes) : Bool :=
  let l := (batchItems b).getD []
  (bClaim b == claimed d) || l.any (itemBad d (bClaim b)) || moreBad d l

/-- A Batch takes effect: its settings, the applied record, the Ledger and the interrupt source, then its one-shot items. -/
def batchApplyNow (d : Device) (i : Nat) : Device :=
  let b := (d.bank i).data
  let l := (batchItems b).getD []
  let d := batchPut d l false false
  let d := d.setBank i { d.bank i with applied := some (oneShots l) }
  let d := (d.ledger L.batch 0 (bSeq b % 2 ^ 32) (bSeq b / 2 ^ 32)).pulse S.BATCH
  runOneShots d i

/-- R372: the apply instant of the pending Batch, by its timed action; R374: after a boot it is requested once dt_set is 1, for the
stored instant or at once if that has passed. -/
def xBatchApply (d : Device) : Device :=
  match d.trust.pend, dueOf d fun a => a == .batchApply with
  | some (i, some h), some e =>
    if e.handle = h then
      let d := setPend (dropAct d h) none
      if recheckBad d (d.bank i).data then reportAct (voidBank d i) e (doneCode e) B.APPLY_FAIL
      else reportAct (batchApplyNow d i) e (doneCode e) 0
    else d
  | some (i, none), _ =>
    if d.fb F.TB_STATUS_dt_set && !d.dtInvalid then
      let at_ := ((d.bank i).commit.map fun c => c.2.2).getD 0
      let h := d.sched.nextHandle
      let e : TimedAct := { handle := h, due := max at_ d.now, act := .batchApply, notify := false, tag := 0, stepped := false }
      setPend { d with sched := { pend := d.sched.pend ++ [e], nextHandle := nextHandle h } } (some (i, some h))
    else d
  | _, _ => d

/-! ### Batch commands (R369 to R373) -/

/-- Op 0x01; `inp`: the bytes at in_addr, none when their DMA fails. -/
def xBatchStage (n : Nat) (desc : Bytes) (inp : Option Bytes) (d : Device) : Device :=
  cmdRun 1 n desc (fun b => lenBad b 1 4096 || decide (batchMax < cArg0 b + cLen b)) (fun b d =>
    match inp with
    | some bs =>
      (CmdAns.of B.OK, { d with trust := { d.trust with staging := putBytes 0 d.trust.staging (cArg0 b) ((padTo (cLen b) bs).take (cLen b)) } })
    | none => (CmdAns.of C.DMA_ERR, d)) d

/-- Op 0x02. -/
def xBatchCheck (n : Nat) (desc : Bytes) (d : Device) : Device :=
  cmdRun 2 n desc plainBad (fun _ d => let (c, d) := runBatchCheck (moreBad d) d (stagedBatch d); (CmdAns.of c, d)) d

/-- The staged Batch, cut to its length. -/
def cutBatch (b : Bytes) : Bytes := b.take (bTotal b)

/-- Op 0x03; `good`: the bank is written and verifies. -/
def xBatchCommit (n : Nat) (desc : Bytes) (good : Bool) (d : Device) : Device :=
  cmdRun 3 n desc plainBad (fun b d =>
    if d.trust.pend.isSome then (CmdAns.of B.BUSY, d.fs F.SEC_BATCH_RESULT B.BUSY)
    else
      let s := stagedBatch d
      let (c, d) := runBatchCheck (moreBad d) d s
      if c ≠ B.OK then (CmdAns.of c, d)
      else if !good then (CmdAns.of B.FLASH, (d.setBank (freeBank d) Bank.init).fs F.SEC_BATCH_RESULT B.FLASH)
      else
        let (r, h, d) := commitBatch d (cutBatch s) (bApplyAt s) (cNotify b) (cTag b)
        ({ st := B.OK, handle := h, code := r, out := [] }, d)) d

/-- Op 0x04. -/
def xBatchCancel (n : Nat) (desc : Bytes) (d : Device) : Device :=
  cmdRun 4 n desc (fun b => lenBad b 0 0) (fun b d =>
    let (c, d) := cancelAct d (cArg0 b) fun a => a == .batchApply
    ({ st := B.OK, handle := 0, code := c, out := [] }, batchCancelled d)) d

/-- R429: a BATCH frame; a whole Batch is checked and committed. -/
def xPairBatchReceive (f : Bytes) (d : Device) : Device :=
  onFrame d 8 f fun d p _ =>
    let off := leAt p 0 4
    let bs := p.drop 4
    if batchMax < off + bs.length then d
    else
      let t := putBytes 0 (if off = 0 then [] else d.pair.batch) off bs
      let total := leVal ((nats 28 4).map fun i => amGet 0 t i)
      if 64 ≤ total ∧ total ≤ off + bs.length then
        let b := (List.range total).map fun i => amGet 0 t i
        let d := { d with pair := { d.pair with batch := [] } }
        if d.trust.pend.isSome then d
        else
          let (c, d) := runBatchCheck (moreBad d) d b
          if c = B.OK then (commitBatch d b (if bApplyAt b ≤ d.now then 0 else bApplyAt b) false 0).2.2 else d
      else { d with pair := { d.pair with batch := t } }

/-! ### Firmware (R375, R376) -/

def fwBank (d : Device) (i : Nat) : FwBank := amGet FwBank.init d.trust.fw i
def setFw (d : Device) (i : Nat) (b : FwBank) : Device := { d with trust := { d.trust with fw := amSet FwBank.init d.trust.fw i b } }

/-- The bank that does not run. -/
def fwOther (d : Device) : Nat := 1 - d.fg F.SEC_STATUS_fw_bank

/-- A firmware bank's size. -/
def fwSize : Nat := 16777216

/-- R375: the checks of a written image in order: a status. (DEDUCED, log entry 83.) -/
def fwCheck (d : Device) (i : Nat) : Nat :=
  let h := fwBytes d i 0 192
  let len := leAt h 16 4
  if (fwBank d i).factory then (if Config.factoryImage.1 < d.fg F.SEC_FUSE_SVN then B.SVN else B.OK)
  else if leAt h 0 4 ≠ 0x4957464D then B.BAD_FORMAT
  else if 16777024 < len then B.TOO_LONG
  else if slice h 32 48 ≠ sha384 (fwBytes d i 192 len) then 1 + Config.fwHashCode % 14
  else if !sigVerify 1 Config.melathKey (slice h 96 96) (h.take 96) then B.SIGNATURE
  else if leAt h 6 2 < d.fg F.SEC_FUSE_SVN then B.SVN
  else B.OK

/-- Op 0x05. -/
def xFwStage (n : Nat) (desc : Bytes) (inp : Option Bytes) (good : Bool) (d : Device) : Device :=
  cmdRun 5 n desc (fun b => lenBad b 1 4096 || decide (fwSize < cArg0 b + cLen b)) (fun b d =>
    match inp with
    | some bs =>
      let i := fwOther d
      let k := fwBank d i
      let d := setFw d i { k with factory := false, commit := false,
                                  cells := putBytes 0xFF (if k.factory then [] else k.cells) (cArg0 b) ((padTo (cLen b) bs).take (cLen b)) }
      (CmdAns.of (if good then B.OK else B.FLASH), d)
    | none => (CmdAns.of C.DMA_ERR, d)) d

/-- Op 0x06. -/
def xFwCommit (n : Nat) (desc : Bytes) (good : Bool) (d : Device) : Device :=
  cmdRun 6 n desc plainBad (fun _ d =>
    let i := fwOther d
    let c := fwCheck d i
    if c ≠ B.OK then (CmdAns.of c, d)
    else if !good then (CmdAns.of B.FLASH, d)
    else (CmdAns.of B.OK, setFw (pkeAccount d 2 true) i { fwBank d i with commit := true, failed := false, tries := 0 })) d

/-- R376: fuses are burned up to the running image's svn. -/
def fwConfirm (d : Device) : Device :=
  let svn := min 64 (fwRunning d).1
  let d := d.fs F.SEC_FUSE_SVN (max (d.fg F.SEC_FUSE_SVN) svn)
  d.fsb F.SEC_STATUS_fw_confirmed (d.fg F.SEC_FUSE_SVN == svn)

/-- Op 0x07. -/
def xFwConfirm (n : Nat) (desc : Bytes) (d : Device) : Device :=
  cmdRun 7 n desc plainBad (fun _ d => (CmdAns.of B.OK, fwConfirm d)) d

/-- R376: the running image has served for 86,400 s. -/
def xFwAutoConfirm (d : Device) : Device :=
  if d.fb F.SEC_CTL_auto_confirm && d.fg F.GLB_STATUS_stage == 5 && decide (d.trust.servedAt + 86400 * 800000000 ≤ d.tm.osc) then fwConfirm d
  else d

/-! ### Claims (R358) -/

/-- Op 0x08. -/
def xClaimNonce (n : Nat) (desc : Bytes) (d : Device) : Device :=
  cmdRun 8 n desc plainBad (fun _ d =>
    if d.trust.claimN then (CmdAns.of B.CLAIM, d)
    else
      let (k, d) := d.draw
      let bs := beBytes 32 (Config.draw k).toNat
      let d := (List.range 8).foldl (fun d i => d.wn (R.SEC_CLAIM_NONCE i) (beAt bs (4 * i) 4)) d
      (CmdAns.of B.OK, { d.set1 F.SEC_STATUS_claim_armed with trust := { d.trust with nonceAt := d.tm.osc } })) d

/-- R358: a level on CLAIM_N, or (none) the passing of 600 s. -/
def xClaimDisarm (level : Option Bool) (d : Device) : Device :=
  match level with
  | some high =>
    let d := { d with trust := { d.trust with claimN := high } }
    if high then claimDisarm d else d
  | none => if d.fb F.SEC_STATUS_claim_armed && decide (d.trust.nonceAt + 600 * 800000000 ≤ d.tm.osc) then claimDisarm d else d

/-! ### Attestation and keys (R353, R368, R378) -/

/-- Op 0x09; `ok`: the output's DMA succeeds. -/
def xQuote (n : Nat) (desc : Bytes) (inp : Option Bytes) (ok : Bool) (d : Device) : Device :=
  cmdRun 9 n desc (fun b => lenBad b 32 32 || !(cArg0 b == 0)) (fun b d =>
    match inp with
    | none => (CmdAns.of C.DMA_ERR, d)
    | some bs =>
      if cArg1 b < 400 then (CmdAns.of C.SHORT_BUF, d)
      else let (q, d) := quote d (padTo 32 bs) 2; (outAns b q ok, d)) d

/-- Op 0x0A. -/
def xCertRead (n : Nat) (desc : Bytes) (ok : Bool) (d : Device) : Device :=
  cmdRun 10 n desc plainBad (fun b d => (outAns b Config.identityChain ok, d)) d

/-- Op 0x0B. -/
def xTlsPubkey (n : Nat) (desc : Bytes) (ok : Bool) (d : Device) : Device :=
  cmdRun 11 n desc plainBad (fun b d => (outAns b (tlsSpki d.trust.tlsNext) ok, d)) d

/-! ### The flash (R355, R446) -/

/-- The host region, of a 64 MiB part. -/
def flashLo : Nat := 0x2580000
def flashHi : Nat := 0x4000000

def flashIn (off len : Nat) : Bool := decide (flashLo ≤ off) && decide (off + len ≤ flashHi)

/-- A byte of the host region. (DESIGN CHOICE, log entry 97.) -/
def flashAt (d : Device) (k : Nat) : Byte := amGet 0xFF d.trust.flash k

/-- The canonical form of the host region's table: offsets strictly rising, no entry equal to an erased byte. -/
def Memory.wf (m : List Host.Cell) : Bool := amWf (fun _ => (0xFF : Byte)) m

/-- 4 KiB of the host region are erased. -/
def eraseFlash (d : Device) (off : Nat) : Device :=
  { d with trust := { d.trust with flash := d.trust.flash.filter fun e => !(decide (off ≤ e.1) && decide (e.1 < off + 4096)) } }

/-- Bytes written into the host region. -/
def setFlash (d : Device) (off : Nat) (bs : Bytes) : Device :=
  { d with trust := { d.trust with flash := putBytes 0xFF d.trust.flash off bs } }

/-- Op 0x0C. -/
def xFlashRead (n : Nat) (desc : Bytes) (ok : Bool) (d : Device) : Device :=
  cmdRun 12 n desc (fun b => lenBad b 0 0) (fun b d =>
    if flashIn (cArg0 b) (cArg1 b) then (outAns b ((nats (cArg0 b) (cArg1 b)).map (flashAt d)) ok, d) else (CmdAns.of B.FLASH, d)) d

/-- Op 0x0D. -/
def xFlashWrite (n : Nat) (desc : Bytes) (inp : Option Bytes) (good : Bool) (d : Device) : Device :=
  cmdRun 13 n desc (fun b => lenBad b 1 4096) (fun b d =>
    match inp with
    | none => (CmdAns.of C.DMA_ERR, d)
    | some bs =>
      if flashIn (cArg0 b) (cLen b) then
        (CmdAns.of (if good then B.OK else B.FLASH), setFlash d (cArg0 b) ((padTo (cLen b) bs).take (cLen b)))
      else (CmdAns.of B.FLASH, d)) d

/-- Op 0x0E. -/
def xFlashErase (n : Nat) (desc : Bytes) (good : Bool) (d : Device) : Device :=
  cmdRun 14 n desc (fun b => lenBad b 0 0 || !(cArg0 b % 4096 == 0)) (fun b d =>
    if flashIn (cArg0 b) 4096 then
      (CmdAns.of (if good then B.OK else B.FLASH),
       eraseFlash d (cArg0 b))
    else (CmdAns.of B.FLASH, d)) d

/-! ### Timed register changes (R446) -/

/-- Op 0x10. -/
def xTimedWrite (n : Nat) (desc : Bytes) (d : Device) : Device :=
  cmdRun 0x10 n desc (fun b => !(cLen b == 0) || timedBad d (leAt b 20 4) (leAt b 24 4)) (fun b d =>
    let a := Act.regWrite (leAt b 20 4) (leAt b 24 4) (leAt b 28 4)
    let (c, h, d) := request d a (ofDt96 (leAt b 8 12)) (cNotify b) (cTag b)
    ({ st := B.OK, handle := h, code := c, out := [] }, d)) d

/-- The instant of a timed register change. (DESIGN CHOICE, log entry 84.) -/
def xTimedWriteExecute (d : Device) : Device :=
  match dueOf d fun a => match a with | .regWrite _ _ _ => true | _ => false with
  | some e =>
    match e.act with
    | .regWrite o m v =>
      if timedBad d o m then endAct d e Config.timedRefused.toNat
      else endAct (ownWrite false o m v d) e (doneCode e)
    | _ => d
  | none => d

/-- Op 0x11. -/
def xCancel (n : Nat) (desc : Bytes) (d : Device) : Device :=
  cmdRun 0x11 n desc (fun b => lenBad b 0 0) (fun b d =>
    let (c, d) := cancelAct d (cArg0 b) fun a => match a with | .regWrite _ _ _ | .batchApply => true | _ => false
    ({ st := B.OK, handle := 0, code := c, out := [] }, batchCancelled d)) d

/-! ### Table reads (R509) -/

/-- A client entry's 32 bytes (R100). (DESIGN CHOICE, log entry 87.) -/
def ctBytes (e : CtEntry) : Bytes :=
  let fl : Nat := (if e.valid then 0x8000 else 0) + (if e.pref then 0x4000 else 0) + (if e.nts then 0x2000 else 0) +
    (if e.kodValid then 0x1000 else 0) + e.prof.toNat * 256 + e.kods.toNat
  leBytes 4 e.tag.toNat ++ leBytes 4 e.firstSec.toNat ++ leBytes 8 e.tat.toNat ++ leBytes 4 e.lastSec.toNat ++ leBytes 4 e.kodLast.toNat ++
  leBytes 4 e.req.toNat ++ leBytes 2 e.overBudget.toNat ++ leBytes 2 fl

/-- Bytes 0 to 63 of a grant entry (R188). -/
def grantBytes (g : Grant) : Bytes :=
  beBytes 8 g.peerId ++ beBytes 2 g.peerPort ++ leBytes 1 (128 + g.inst % 8 * 16 + g.lport % 16) ++ leBytes 1 g.granted ++ beBytes 16 g.addr ++
  leBytes 1 (unsigned 8 g.logAnn) ++ leBytes 1 (unsigned 8 g.logSync) ++ leBytes 1 (unsigned 8 g.logDresp) ++ leBytes 1 (g.vlan % 64) ++
  leBytes 4 g.expAnn ++ leBytes 4 g.expSync ++ leBytes 4 g.expDresp ++ leBytes 2 g.seqSync ++ leBytes 2 g.seqAnn ++ beBytes 6 g.dstMac ++
  zeros 2 ++ leBytes 4 g.phase ++ leBytes 4 (satU 32 g.sent)

/-- The 96-byte record of an entry. -/
def tableRecord (rtype idx : Nat) (t : Inst) (body : Bytes) : Bytes :=
  leBytes 1 rtype ++ zeros 3 ++ leBytes 4 idx ++ dt96Bytes t ++ zeros 12 ++ padTo 64 body

/-- The records of n = min(⌊arg1 / 96⌋, 1,024) entries from arg0. -/
def tableRead (b : Bytes) (rtype size : Nat) (body : Nat → Bytes) (ok : Bool) (d : Device) : CmdAns × Device :=
  let k := min (cArg1 b / 96) 1024
  if k = 0 then (CmdAns.of C.SHORT_BUF, d)
  else
    let recs := (List.range k).flatMap fun j => let i := (cArg0 b + j) % size; tableRecord rtype i d.now (body i)
    (outAns b recs ok, d)

/-- Op 0x20. -/
def xCtRead (n : Nat) (desc : Bytes) (ok : Bool) (d : Device) : Device :=
  cmdRun 0x20 n desc (fun b => lenBad b 0 0 || decide (2 ^ 26 ≤ cArg0 b)) (fun b d =>
    tableRead b 0x70 (2 ^ 26) (fun i => ctBytes (amGet CtEntry.init d.cls.ct i)) ok d) d

/-- Op 0x21. -/
def xGrantRead (n : Nat) (desc : Bytes) (ok : Bool) (d : Device) : Device :=
  cmdRun 0x21 n desc (fun b => lenBad b 0 0 || decide (2 ^ 16 ≤ cArg0 b)) (fun b d =>
    tableRead b 0x71 (2 ^ 16) (fun i => match d.grant i with | some g => grantBytes g | none => []) ok d) d

/-! ### The extension module (R377) -/

/-- R377: the module accesses outside its rights, or runs 100 ms without yielding. -/
def xExtModuleFault (d : Device) : Device :=
  if d.fg F.SEC_EXT_STATUS_state = 1 then
    let d := { d with trust := { d.trust with extFault := true } }
    ((d.fs F.SEC_EXT_STATUS_state 2).pulse S.EXT_FAULT).ledger L.extFault 0 0 0
  else d

/-! ### The commands of this file -/

/-- BATCH_STAGE (R369). -/
def execBatchStage (n : Nat) (desc : Bytes) (inp : Option Bytes) (s : State) : Host.Outcome State Fault Refusal :=
  finish s (xBatchStage n desc inp s.dev)

/-- BATCH_CHECK (R370). -/
def execBatchCheck (n : Nat) (desc : Bytes) (s : State) : Host.Outcome State Fault Refusal :=
  finish s (xBatchCheck n desc s.dev)

/-- BATCH_COMMIT (R371). -/
def execBatchCommit (n : Nat) (desc : Bytes) (good : Bool) (s : State) : Host.Outcome State Fault Refusal :=
  finish s (xBatchCommit n desc good s.dev)

/-- BATCH_CANCEL (R373). -/
def execBatchCancel (n : Nat) (desc : Bytes) (s : State) : Host.Outcome State Fault Refusal :=
  finish s (xBatchCancel n desc s.dev)

/-- BATCH_APPLY (R372). -/
def execBatchApply (s : State) : Host.Outcome State Fault Refusal :=
  finish s (xBatchApply s.dev)

/-- FW_STAGE (R369). -/
def execFwStage (n : Nat) (desc : Bytes) (inp : Option Bytes) (good : Bool) (s : State) : Host.Outcome State Fault Refusal :=
  finish s (xFwStage n desc inp good s.dev)

/-- FW_COMMIT (R375). -/
def execFwCommit (n : Nat) (desc : Bytes) (good : Bool) (s : State) : Host.Outcome State Fault Refusal :=
  finish s (xFwCommit n desc good s.dev)

/-- FW_CONFIRM (R376). -/
def execFwConfirm (n : Nat) (desc : Bytes) (s : State) : Host.Outcome State Fault Refusal :=
  finish s (xFwConfirm n desc s.dev)

/-- FW_AUTO_CONFIRM (R376). -/
def execFwAutoConfirm (s : State) : Host.Outcome State Fault Refusal :=
  finish s (xFwAutoConfirm s.dev)

/-- CLAIM_NONCE (R358). -/
def execClaimNonce (n : Nat) (desc : Bytes) (s : State) : Host.Outcome State Fault Refusal :=
  finish s (xClaimNonce n desc s.dev)

/-- CLAIM_DISARM (R358). -/
def execClaimDisarm (level : Option Bool) (s : State) : Host.Outcome State Fault Refusal :=
  finish s (xClaimDisarm level s.dev)

/-- QUOTE (R378). -/
def execQuote (n : Nat) (desc : Bytes) (inp : Option Bytes) (ok : Bool) (s : State) : Host.Outcome State Fault Refusal :=
  finish s (xQuote n desc inp ok s.dev)

/-- CERT_READ (R353). -/
def execCertRead (n : Nat) (desc : Bytes) (ok : Bool) (s : State) : Host.Outcome State Fault Refusal :=
  finish s (xCertRead n desc ok s.dev)

/-- TLS_PUBKEY (R368). -/
def execTlsPubkey (n : Nat) (desc : Bytes) (ok : Bool) (s : State) : Host.Outcome State Fault Refusal :=
  finish s (xTlsPubkey n desc ok s.dev)

/-- FLASH_READ (R446). -/
def execFlashRead (n : Nat) (desc : Bytes) (ok : Bool) (s : State) : Host.Outcome State Fault Refusal :=
  finish s (xFlashRead n desc ok s.dev)

/-- FLASH_WRITE (R446). -/
def execFlashWrite (n : Nat) (desc : Bytes) (inp : Option Bytes) (good : Bool) (s : State) : Host.Outcome State Fault Refusal :=
  finish s (xFlashWrite n desc inp good s.dev)

/-- FLASH_ERASE (R446). -/
def execFlashErase (n : Nat) (desc : Bytes) (good : Bool) (s : State) : Host.Outcome State Fault Refusal :=
  finish s (xFlashErase n desc good s.dev)

/-- TIMED_WRITE (R446). -/
def execTimedWrite (n : Nat) (desc : Bytes) (s : State) : Host.Outcome State Fault Refusal :=
  finish s (xTimedWrite n desc s.dev)

/-- TIMED_WRITE_EXECUTE (R446). -/
def execTimedWriteExecute (s : State) : Host.Outcome State Fault Refusal :=
  finish s (xTimedWriteExecute s.dev)

/-- CANCEL (R446). -/
def execCancel (n : Nat) (desc : Bytes) (s : State) : Host.Outcome State Fault Refusal :=
  finish s (xCancel n desc s.dev)

/-- CT_READ (R509). -/
def execCtRead (n : Nat) (desc : Bytes) (ok : Bool) (s : State) : Host.Outcome State Fault Refusal :=
  finish s (xCtRead n desc ok s.dev)

/-- GRANT_READ (R509). -/
def execGrantRead (n : Nat) (desc : Bytes) (ok : Bool) (s : State) : Host.Outcome State Fault Refusal :=
  finish s (xGrantRead n desc ok s.dev)

/-- EXT_MODULE_FAULT (R377). -/
def execExtModuleFault (s : State) : Host.Outcome State Fault Refusal :=
  finish s (xExtModuleFault s.dev)

/-- PAIR_BATCH_RECEIVE (R429). -/
def execPairBatchReceive (f : Bytes) (s : State) : Host.Outcome State Fault Refusal :=
  finish s (xPairBatchReceive f s.dev)

end Sys2Proof.Machine
end

