-- ==== Sys2Proof/Machine/Lifecycle.lean ====
section
/-! DEFINITION. Resets (R514, R521 to R526, R567), boot (R515, R516, R520, R374), recovery (R518), the watchdog and FAULT_STOP's
end (R523, R532), the tamper sensors (R379 to R381), SMBus (R519), and the host's register write (R8, R540 to R546). -/

namespace Sys2Proof.Machine

/-! ### What a reset leaves (R521, R538, R539) -/

/-- A pin or the TAP holds the device in reset. -/
def rstHeld (d : Device) : Bool := d.life.porLow || d.life.testEn || d.life.wrstLow || d.life.extest

/-- A cold reset is held. -/
def coldHeld (d : Device) : Bool := d.life.porLow || d.life.testEn

/-- Registers that read fuses or sampled pins. -/
def fuseReg (o : Nat) : Bool := o == R.SEC_FUSE_SVN || o == R.SEC_FUSE_EPOCH || o == R.SEC_FUSE_ZCNT || o == R.GLB_STRAP

/-- GLB registers that every reset of R538 or R539 takes. -/
def glbFresh (o : Nat) : Bool := o == R.GLB_STATUS || o == R.GLB_REC_STATUS || o == R.GLB_LOCK || o == R.GLB_ACC_ERR

/-- Registers a warm reset keeps. -/
def warmReg (o : Nat) : Bool := fuseReg o || (decide (o < 0x1000) && !glbFresh o) || o == R.SEC_TAMPER_STATUS

/-- Registers of PD_TIME's blocks. -/
def timeReg (o : Nat) : Bool := decide (0x8000 ≤ o) && decide (o < 0xE000)

/-- Registers a time-keeping reset keeps: PD_TIME's, and the sealed ones (R374). -/
def keepReg (o : Nat) : Bool := warmReg o || timeReg o || (sealRegs.contains o && !(o == R.GNSS_SPOOF_CTL))

/-- Everything takes its reset value but the flash, the fuses, what the pins drive, and the model's own records. -/
def coldBase (d : Device) : Device :=
  let t := d.trust
  { Device.init with
    regs := d.regs.filter fun e => fuseReg e.1
    trust := { Trust.init with flash := t.flash, records := t.records, recSeq := t.recSeq, claimN := t.claimN, banks := t.banks, fw := t.fw }
    pcie := { Pcie.init with perstLow := d.pcie.perstLow }
    tb := { Tb.init with warmN := d.tb.warmN }
    sched := { pend := [], nextHandle := d.sched.nextHandle }
    life := { Life.init with porLow := d.life.porLow, testEn := d.life.testEn, wrstLow := d.life.wrstLow, extest := d.life.extest }
    draws := d.draws
    out := d.out }

/-- GLB_RST_CAUSE and GLB_STATUS record the reset. -/
def setCause (d : Device) (cause : Nat) (kept : Bool) : Device :=
  ((d.wn R.GLB_RST_CAUSE (cause + if kept then 256 else 0)).fsb F.GLB_STATUS_kept kept)

/-- A cold reset. (DEDUCED, log entry 89.) -/
def coldReset (d : Device) (cause : Nat) : Device := setCause (coldBase d) cause false

/-- What a warm reset keeps beside it: the vault, the tamper latches, the raw count, GLB, the port statistics (R214), and cores and Ovens
out of service until a cold reset. -/
def warmBase (d : Device) : Device :=
  let b := coldBase d
  let t := d.trust
  { b with
    regs := d.regs.filter fun e => warmReg e.1
    stats := d.stats
    tm := { TimeSt.init with osc := d.tm.osc }
    trust := { b.trust with owner := t.owner, tlsCur := t.tlsCur, tlsNext := t.tlsNext, extFault := t.extFault }
    nts := { Nts.init with dead := d.nts.dead, faults := d.nts.faults }
    pke := { Pke.init with dead := d.pke.dead, faults := d.pke.faults }
    life := { b.life with events := d.life.events } }

/-- Resets since the last cold one are counted. -/
def countReset (d : Device) : Device := d.wn R.GLB_RST_CNT (satU 16 (d.rn R.GLB_RST_CNT + 1))

def setPowers (d : Device) (l : List Nat) : Device := l.foldl (fun d k => setPowered d k true) d

/-- A warm reset. (DEDUCED, log entry 96.) -/
def warmReset (d : Device) (cause : Nat) : Device := countReset (setCause (setPowers (warmBase d) [0]) cause false)

/-- R522: the timebase enters HOLDOVER and every enabled slot is ABSENT. -/
def refsToHoldover (d : Device) : Device :=
  let d := toHoldover d
  (List.range 32).foldl (fun d n => if refEn d n then (setState d n 0 0).setSlot n RefSlot.init else d) d

/-- R522: actions that remain pending. -/
def actKept (a : Act) : Bool :=
  match a with
  | .outEvent _ _ _ | .gclChange _ | .batchApply => true
  | _ => false

/-- PLLs that run on through a time-keeping reset: the TIME APLL, the FOUT synthesizers and OSC_IN. -/
def timePlls : Nat := 0x1F010

/-- A time-keeping reset. (DEDUCED, log entry 90.) -/
def keepReset (d : Device) (cause : Nat) : Device :=
  let d := refsToHoldover d
  let b := warmBase d
  let d := { b with
    regs := d.regs.filter fun e => keepReg e.1
    stopping := d.stopping.filter fun e => timeReg e.1
    tm := d.tm
    sched := { d.sched with pend := d.sched.pend.filter fun e => actKept e.act }
    axis0 := d.axis0
    axis1 := d.axis1
    refs := d.refs
    tb := d.tb
    outs := d.outs
    tic := d.tic
    peel := { d.peel with bookings := [], voided := [], calAt := [] }
    trust := { b.trust with pend := d.trust.pend, chain := d.trust.chain, ext := d.trust.ext }
    life := { b.life with keep := true } }.wn R.PWR_PLL_STATUS (d.rn R.PWR_PLL_STATUS &&& timePlls)
    |>.fsb F.GNSS_SPOOF_CTL_sealed_geom (d.fb F.GNSS_SPOOF_CTL_sealed_geom)
  let d := (List.range 16).foldl (fun d n => d.fs (F.PEEL_P_STATUS_cal n) 0) d
  countReset (setCause (setPowers d [0, 8]) cause true)

/-- A warm reset, or a time-keeping one. -/
def someReset (d : Device) (keep : Bool) (cause : Nat) : Device := if keep then keepReset d cause else warmReset d cause

/-! ### Pins and requests -/

/-- Boot starts once nothing holds the reset: OSC_IN's frequency is as strapped (R324). -/
def bootBegin (d : Device) : Device := if rstHeld d then d else d.fs F.TB_OSCIN_CFG_freq (d.fg F.GLB_STRAP_osc_fsel)

/-- R521: POR_N falls, or VDD_AON is lost. -/
def xPowerOnReset (d : Device) : Device := coldReset (d.setLife { d.life with porLow := true }) 0

/-- R514: a brown-out; the reset ends as POR_N's does. -/
def xBrownout (d : Device) : Device := coldReset (d.setLife { d.life with porLow := true }) 1

/-- R515: POR_N rises; `straps` as GLB_STRAP shows them. -/
def xPorRelease (straps : Nat) (d : Device) : Device :=
  if d.life.porLow then bootBegin ((d.wn R.GLB_STRAP (straps % 32)).setLife { d.life with porLow := false }) else d

/-- R521: WRST_N falls; `keep`: the strap TIME_KEEP as sampled now. -/
def xWarmResetPin (keep : Bool) (d : Device) : Device :=
  if d.life.wrstLow then d
  else
    let held := rstHeld d
    let d := (d.fsb F.GLB_STRAP_time_keep keep).setLife { d.life with wrstLow := true }
    if held then d else someReset d keep 2

/-- WRST_N rises. -/
def xWrstRelease (d : Device) : Device := if d.life.wrstLow then bootBegin (d.setLife { d.life with wrstLow := false }) else d

/-- R567: EXTEST is entered; its reset is warm. (DESIGN CHOICE, log entry 93.) -/
def xTapExtest (d : Device) : Device :=
  if d.life.extest then d
  else
    let held := rstHeld d
    let d := d.setLife { d.life with extest := true }
    if held then d else warmReset d Config.extestCause.toNat

def xExtestExit (d : Device) : Device := if d.life.extest then bootBegin (d.setLife { d.life with extest := false }) else d

/-- R567: TEST_EN high holds a cold reset. -/
def xTestEnHigh (d : Device) : Device := if d.life.testEn then d else coldReset (d.setLife { d.life with testEn := true }) 0

def xTestEnLow (d : Device) : Device := if d.life.testEn then bootBegin (d.setLife { d.life with testEn := false }) else d

/-- R524: a write to GLB_RST carries an op and the key. -/
def rstOp (w : Word) (op : Nat) : Bool := F.GLB_RST_op.of w.toNat == op && F.GLB_RST_key.of w.toNat == 0x5AFE

/-- R524: op WARM. -/
def xGlbRstWarm (w : Word) (d : Device) : Device := if rstOp w 1 && !rstHeld d then bootBegin (warmReset d 3) else d

/-- R522, R524: op TIME_KEEP. -/
def xGlbRstTimeKeep (w : Word) (d : Device) : Device := if rstOp w 2 && !rstHeld d then bootBegin (keepReset d 3) else d

/-- R402, R526: PD_PKE is wiped and its registers take their reset values. -/
def pkeReset (d : Device) : Device :=
  let d := pkeFlush d (fun _ => true) true
  let d := d.resetRegs 0xF000 0xFFFF
  { d with stopping := d.stopping.filter fun e => !(e.1 == R.PKE_CTL)
           pke := { Pke.init with dead := d.pke.dead, faults := d.pke.faults, nextId := d.pke.nextId } }

/-- R526: op PKE; `locked`: the PKE PLL locks. -/
def xGlbRstPke (w : Word) (locked : Bool) (d : Device) : Device :=
  if rstOp w 3 && !rstHeld d then
    let d := (pkeReset d).wn R.GLB_RST_CAUSE (8 + 256)
    let d := d.setLife { d.life with aonClk := setDel d.life.aonClk 2, attempts := amDel d.life.attempts 2 }
    if locked then
      let d := showFallback (pllLock d 2)
      let d := if d.fg F.GLB_STATUS_state = 1 ∧ d.fg F.GLB_STATUS_cause = 3 then
          ((d.fs F.GLB_STATUS_state 0).fs F.GLB_STATUS_cause 0).clr F.GLB_STATUS_fault_n
        else d
      d.set1 F.PKE_STATUS_ready
    else fallback (setPll d 2 false) 2
  else d

/-- R523: the watchdog runs from the supervisor's start on. -/
def xWatchdogExpire (d : Device) : Device :=
  let st := d.fg F.GLB_STATUS_stage
  if d.fb F.GLB_WDOG_en && !rstHeld d && (st == 4 || st == 5) then
    let a := d.fb F.GLB_WDOG_action
    bootBegin (someReset (holdEvent d 0x86 0 (if a then 1 else 0)) (!a) 4)
  else d

/-- R531: TROUGH_UE (9) or BENCH_ERR (10); HBM_PLL (8) comes by a lock window. -/
def xFaultStopEnter (cause : Nat) (d : Device) : Device := if cause = 8 ∨ cause = 9 ∨ cause = 10 then faultStopEnter d cause else d

/-- R532: 100 ms after the entry. -/
def xFstopAutoReset (d : Device) : Device :=
  if d.fg F.GLB_STATUS_state = 2 ∧ d.fb F.GLB_WDOG_fstop_auto ∧ d.life.stopAt + 80000000 ≤ d.tm.osc ∧ rstHeld d = false then
    bootBegin (keepReset d 6)
  else d

/-! ### Tamper (R379 to R381, R525) -/

/-- Reaction of a sensor: 0 VGLITCH, 1 CLKGLITCH, 2 TEMP, 3 TAMP0, 4 TAMP1, 5 REDUNDANCY. -/
def tamperReact (d : Device) (k : Nat) : Nat :=
  min 2 (match k with
    | 0 | 1 => 1
    | 2 => d.fg F.SEC_TAMPER_CFG_temp
    | 3 => d.fg F.SEC_TAMPER_CFG_tamp0
    | 4 => d.fg F.SEC_TAMPER_CFG_tamp1
    | _ => max 1 (d.fg F.SEC_TAMPER_CFG_redundancy))

/-- Its bit in SEC_TAMPER_STATUS. -/
def tamperBit (k : Nat) : Nat := if k < 2 then 0 else k - 1

/-- R381, R525: the fuse is burned, then vault slots 3 to 63 are wiped. -/
def zeroize (d : Device) : Device :=
  let d := (d.fs F.SEC_FUSE_ZCNT (min 32 (d.fg F.SEC_FUSE_ZCNT + 1))).set1 F.SEC_TAMPER_STATUS_zeroized
  { d with trust := { d.trust with owner := none, tlsCur := none, tlsNext := none, pairKey := none }, nts := { d.nts with starter := Starter.init } }

/-- R380: a sensor fires. -/
def xTamperSensor (k : Nat) (d : Device) : Device :=
  if k < 6 ∧ coldHeld d = false then
    let d := (d.set1 ⟨R.SEC_TAMPER_STATUS, tamperBit k, 1⟩).cnt K.SEC_TAMPER_EVENTS
    let d := glbEvent (d.pulse S.TAMPER) L.tamper 0 (d.rn R.SEC_TAMPER_STATUS) 0
    let r := tamperReact d k
    if r = 0 then d
    else
      let full := r == 2 && decide (32 ≤ d.fg F.SEC_FUSE_ZCNT)
      let d := if r = 2 then zeroize d else d
      let d := bootBegin (keepReset d 5)
      if full then faultEnter d 4 else d
  else d

/-! ### Boot (R515, R516) -/

def bootStage (d : Device) : Nat := d.fg F.GLB_STATUS_stage
def setStage (d : Device) (n : Nat) : Device := d.fs F.GLB_STATUS_stage n

/-- A committed bank without a failure record. -/
def fwCand (d : Device) (i : Nat) : Bool := (fwBank d i).commit && !(fwBank d i).failed

/-- R375: the bank with the higher seq among those. -/
def fwBest (d : Device) : Option Nat :=
  if fwCand d 0 && fwCand d 1 then some (if (fwIdent d 0).2.1 < (fwIdent d 1).2.1 then 1 else 0)
  else if fwCand d 0 then some 0
  else if fwCand d 1 then some 1
  else none

/-- R375, R537: a failure record; 1 check, 2 no supervisor start. -/
def fwFail (d : Device) (i why : Nat) : Device := glbEvent (setFw d i { fwBank d i with failed := true }) 0x81 i why 0

/-- The bank to be run, one more attempt counted. -/
def fwChoose (d : Device) : Device :=
  match fwBest d with
  | some i => setFw (d.fs F.SEC_STATUS_fw_bank i) i { fwBank d i with tries := (fwBank d i).tries + 1 }
  | none => d

/-- ROM: PD_TIME is released; a bank that failed to reach the supervisor three boots in a row is abandoned. -/
def romEnd (d : Device) : Device :=
  let d := ([0, 1] : List Nat).foldl (fun d i => if fwCand d i && decide (3 ≤ (fwBank d i).tries) then fwFail d i 2 else d) d
  setStage (fwChoose (setPowers d [0, 8])) 1

/-- The PLLs of stage CLOCKS. -/
def bootPlls (d : Device) : Bool := ([0, 1, 2, 3, 4, 6] : List Nat).all (pllLocked d)

/-- The Trough and the counters run, and events held in PD_AON go to the Ledger. -/
def troughUp (d : Device) : Device :=
  let d := ((d.set1 F.TROUGH_STATUS_ready).set1 F.MON_STATUS_ready).set1 F.MON_STATUS_ledger_ok
  let d := { d with mon := { d.mon with events := d.life.events, secAt := d.nowSec } }
  d.setLife { d.life with events := [] }

/-- R539: the seeds are drawn again. -/
def drawSeeds (d : Device) : Device :=
  let (a, d) := d.draw
  let (b, d) := d.draw
  (d.wn R.CLS_CT_SEED ((Config.draw a).toNat % 2 ^ 32)).wn R.SLC_STEER_SEED ((Config.draw b).toNat % 2 ^ 32)

/-- RECOVERY keeps PCIe and GLB running; the Trough is in reset. -/
def toRecovery (d : Device) : Device :=
  let d := { d.resetRegs 0x20000 0x3EFFF with mon := Mon.init }
  setStage (setPowers (d.fs F.PWR_PD_STATUS_powered 0) [0, 8, 10]) 6

/-- CLOCKS: the domains are released, the host-switched ones as PWR_PD_CTL says. -/
def clocksEnd (d : Device) : Device :=
  if (fwBest d).isNone then toRecovery d
  else
    let on := (List.range 4).filter fun b => d.fb ⟨R.PWR_PD_CTL, b, 1⟩
    setStage (drawSeeds (troughUp (setPowers d ([1, 2, 5, 6, 9, 10] ++ on.map pdOf)))) 2

/-- LOAD: the image is checked; one that fails gives way to the other bank. -/
def loadEnd (d : Device) : Device :=
  let i := d.fg F.SEC_STATUS_fw_bank
  if fwCheck d i = B.OK then setStage d 3
  else
    let next := fwFail d i 1
    if (fwBest next).isSome then fwChoose next else fwFail (toRecovery d) i 1

def tlsOf (bs : Bytes) : TlsKey :=
  let typ := byteAt bs 0
  let priv := bs.drop 1
  let pub := if typ = 0 then ptBytes p256 (ecMul p256 (beVal priv) (ecG p256)) else if typ = 1 then ptBytes p384 (ecMul p384 (beVal priv) (ecG p384))
    else edPublic priv
  { typ, priv, pub }

/-- R354: the key store is reloaded; records that fail to open are counted (R356). -/
def keysLoad (d : Device) : Device :=
  let d := d.cntN K.SEC_KEYREC_BAD (d.trust.records.filter fun r => (keyOpen d r).isNone).length
  let d := wipePairKey d
  let owner := (keyLatest d 1 slotOwner).map fun bs => (byteAt bs 0, bs.drop 1)
  let d := { d with trust := { d.trust with owner, tlsCur := (keyLatest d 2 slotTls).map tlsOf, tlsNext := (keyLatest d 3 slotTlsNext).map tlsOf } }
  tlsShow ((d.fsb F.SEC_STATUS_owner owner.isSome).set1 F.SEC_STATUS_vault_ok)

/-- ENGINES: the supervisor has started; the vault is loaded; the PKE pool is ready. -/
def enginesEnd (d : Device) : Device :=
  let i := d.fg F.SEC_STATUS_fw_bank
  let d := setFw d i { fwBank d i with tries := 0 }
  let d := (keysLoad d).set1 F.PKE_STATUS_ready
  setStage (d.fsb F.SEC_STATUS_fw_confirmed ((fwRunning d).1 == d.fg F.SEC_FUSE_SVN)) 4

/-- R374: the Batch in force is verified and applied again, and the one-shot items its applied record lists. -/
def batchBoot (d : Device) : Device :=
  match bankInForce d, d.trust.owner with
  | some i, some k =>
    let b := (d.bank i).data
    if batchSigned b k then runOneShots (batchPut d ((batchItems b).getD []) true d.life.keep) i else d
  | _, _ => d

/-- R374: a committed Batch that has not been applied waits for dt_set. -/
def batchWait (d : Device) : Device :=
  let waits (i : Nat) : Bool := (d.bank i).valid && (d.bank i).applied.isNone
  match (([0, 1] : List Nat).find? waits) with
  | some i => setPend d (some (i, none))
  | none => d

/-- CONFIG: Batch, Starter, TIC cycle and INTC; then READY. -/
def configEnd (d : Device) (ms : Nat) : Device :=
  let keep := d.life.keep
  let d := batchBoot d
  let d := if keep then setPend d d.trust.pend else batchWait d
  let d := starterLoad d
  let d := if keep then d else calBegin d
  let d := (d.clr F.INTC_CTL_mode).wn R.GLB_BOOT_MS (satU 16 ms)
  let d := (setStage d 5).set1 F.GLB_STATUS_ready
  let d := { d with trust := { d.trust with servedAt := d.tm.osc } }
  d.ledger 0x80 4 (d.rn R.GLB_BOOT_MS) (d.rn R.GLB_RST_CAUSE)

/-- R516: a stage's work is complete, `ms` ms after the release of the reset. (DEDUCED, log entry 91.) -/
def xBootStageEnd (ms : Nat) (d : Device) : Device :=
  if rstHeld d then d
  else match bootStage d with
    | 0 => romEnd d
    | 1 => if bootPlls d then clocksEnd d else d
    | 2 => loadEnd d
    | 3 => enginesEnd d
    | 4 => configEnd d ms
    | _ => d

/-! ### Recovery (R518) -/

/-- Words the ROM takes next. (DESIGN CHOICE, log entry 92.) -/
def recRoom (d : Device) : Nat := min 4095 ((fwSize - d.life.recLen) / 4)

def recResult (d : Device) : Nat := d.fg F.GLB_REC_STATUS_result

/-- GLB_REC_CTL.start: bank A is being erased. -/
def xRecStart (d : Device) : Device :=
  if bootStage d = 6 then
    let d := (setFw d 0 { FwBank.init with commit := false }).setLife { d.life with recLen := 0 }
    (d.fs F.GLB_REC_STATUS_room 0).fs F.GLB_REC_STATUS_result 1
  else d

/-- The erase ends. -/
def xRecEraseDone (d : Device) : Device :=
  if bootStage d = 6 ∧ recResult d = 1 then (d.fs F.GLB_REC_STATUS_room (recRoom d)).fs F.GLB_REC_STATUS_result 2 else d

/-- A write to GLB_REC_DATA. -/
def xRecDataWrite (w : Word) (d : Device) : Device :=
  if bootStage d = 6 ∧ recResult d = 2 ∧ 0 < d.fg F.GLB_REC_STATUS_room then
    let b := fwBank d 0
    let d := setFw d 0 { b with cells := putBytes 0xFF b.cells d.life.recLen (leBytes 4 w.toNat) }
    let d := d.setLife { d.life with recLen := d.life.recLen + 4 }
    d.fs F.GLB_REC_STATUS_room (recRoom d)
  else d

/-- GLB_REC_CTL.done: the image is checked; `good`: the commit record is written. -/
def xRecDone (good : Bool) (d : Device) : Device :=
  if bootStage d = 6 ∧ recResult d = 2 then
    let c := fwCheck d 0
    let say (d : Device) (r : Nat) : Device := (d.fs F.GLB_REC_STATUS_room 0).fs F.GLB_REC_STATUS_result r
    if c = B.SVN then say d 5
    else if c ≠ B.OK then say d 4
    else if !good then say d 6
    else bootBegin (warmReset (say (setFw d 0 { fwBank d 0 with commit := true, failed := false, tries := 0 }) 3) 7)
  else d

/-! ### SMBus (R519) -/

/-- A Read Word of a command code; `temp`: die temperature in 0.1 °C.  Unknown codes are not acknowledged. -/
def xSmbusReadWord (cmd : Nat) (temp : Int) (d : Device) : Device :=
  if coldHeld d then d
  else match cmd with
    | 0 => d.emit (.smbus (bits (d.rn R.GLB_STATUS) 0 16))
    | 1 => d.emit (.smbus (bits (d.rn R.GLB_STATUS) 16 16))
    | 2 => d.emit (.smbus (unsigned 16 temp))
    | 3 => d.emit (.smbus (bits (d.rn R.GLB_RST_CAUSE) 0 16))
    | 4 => d.emit (.smbus (bits (d.rn R.TB_STATUS) 0 16))
    | 5 => d.emit (.smbus (bits (d.rn R.PWR_PLL_STATUS) 0 16))
    | _ => d

/-! ### The host's register write (R8, R540 to R546) -/

/-- R544: a write of 1 to GLB_LOCK.lock. -/
def xSetupLock (d : Device) : Device := d.set1 F.GLB_LOCK_lock

/-- Some bit of a mask would change. -/
def differs (d : Device) (o m w : Nat) : Bool := !((heldWord d o ^^^ w) &&& m == 0)

/-- The bits a host write may act on (R8): never SEAL, RWL before SET-UP LOCK only. -/
def hostMask (d : Device) (o : Nat) : Nat :=
  let r := accRow o
  r.rwM ||| r.w1cM ||| r.w1sM ||| r.woM ||| (if setupLocked d then 0 else r.rwlM)

/-- R8: ignored writes to SEAL and locked RWL fields count when they would change one. -/
def countIgnored (d : Device) (o w : Nat) : Device :=
  let r := accRow o
  let d := sealCount d (differs d o r.sealM w)
  if setupLocked d && differs d o r.rwlM w then d.fs F.GLB_LOCK_denied (satU 16 (d.fg F.GLB_LOCK_denied + 1)) else d

/-- GLB's own commands. -/
def glbWrite (d : Device) (o : Nat) (w : Word) : Device :=
  if o = R.GLB_RST then
    match F.GLB_RST_op.of w.toNat with
    | 1 => xGlbRstWarm w d
    | 2 => xGlbRstTimeKeep w d
    | 3 => xGlbRstPke w true d
    | _ => d
  else if o = R.GLB_REC_CTL then (if w.getLsbD 31 then xRecStart d else if w.getLsbD 30 then xRecDone true d else d)
  else if o = R.GLB_REC_DATA then xRecDataWrite w d
  else if o = R.GLB_LOCK then (if w.getLsbD 31 then xSetupLock d else d)
  else regWrite false [] o (hostMask d o) w.toNat d

/-- A DWORD write of the host to BAR0; `full`: every byte enable is set; `unread`: as for `regWrite`. (DEDUCED, log entry 95.) -/
def xRegisterWrite (o : Nat) (w : Word) (full : Bool) (unread : List Bytes) (d : Device) : Device :=
  if !full then accErr d 1 o
  else if (accRow? o).isNone then accErr d 2 o
  else if blockOff d o then accErr d 3 o
  else
    let m := hostMask d o
    let d := countIgnored d o w.toNat
    if o < 0x1000 then glbWrite d o w else regWrite false unread o m w.toNat d

/-! ### The commands of this file -/

/-- TAMPER_SENSOR (R380). -/
def execTamperSensor (k : Nat) (s : State) : Host.Outcome State Fault Refusal :=
  finish s (xTamperSensor k s.dev)

/-- POWER_ON_RESET (R521). -/
def execPowerOnReset (s : State) : Host.Outcome State Fault Refusal :=
  finish s (xPowerOnReset s.dev)

/-- BROWNOUT (R514). -/
def execBrownout (s : State) : Host.Outcome State Fault Refusal :=
  finish s (xBrownout s.dev)

/-- POR_RELEASE (R515). -/
def execPorRelease (straps : Nat) (s : State) : Host.Outcome State Fault Refusal :=
  finish s (xPorRelease straps s.dev)

/-- WARM_RESET_PIN (R521). -/
def execWarmResetPin (keep : Bool) (s : State) : Host.Outcome State Fault Refusal :=
  finish s (xWarmResetPin keep s.dev)

/-- GLB_RST_WARM (R524). -/
def execGlbRstWarm (w : Word) (s : State) : Host.Outcome State Fault Refusal :=
  finish s (xGlbRstWarm w s.dev)

/-- GLB_RST_TIME_KEEP (R522). -/
def execGlbRstTimeKeep (w : Word) (s : State) : Host.Outcome State Fault Refusal :=
  finish s (xGlbRstTimeKeep w s.dev)

/-- GLB_RST_PKE (R526). -/
def execGlbRstPke (w : Word) (locked : Bool) (s : State) : Host.Outcome State Fault Refusal :=
  finish s (xGlbRstPke w locked s.dev)

/-- WATCHDOG_EXPIRE (R523). -/
def execWatchdogExpire (s : State) : Host.Outcome State Fault Refusal :=
  finish s (xWatchdogExpire s.dev)

/-- BOOT_STAGE_END (R516). -/
def execBootStageEnd (ms : Nat) (s : State) : Host.Outcome State Fault Refusal :=
  finish s (xBootStageEnd ms s.dev)

/-- REC_START (R518). -/
def execRecStart (s : State) : Host.Outcome State Fault Refusal :=
  finish s (xRecStart s.dev)

/-- REC_ERASE_DONE (R518). -/
def execRecEraseDone (s : State) : Host.Outcome State Fault Refusal :=
  finish s (xRecEraseDone s.dev)

/-- REC_DATA_WRITE (R518). -/
def execRecDataWrite (w : Word) (s : State) : Host.Outcome State Fault Refusal :=
  finish s (xRecDataWrite w s.dev)

/-- REC_DONE (R518). -/
def execRecDone (good : Bool) (s : State) : Host.Outcome State Fault Refusal :=
  finish s (xRecDone good s.dev)

/-- FAULT_STOP_ENTER (R531). -/
def execFaultStopEnter (cause : Nat) (s : State) : Host.Outcome State Fault Refusal :=
  finish s (xFaultStopEnter cause s.dev)

/-- FSTOP_AUTO_RESET (R532). -/
def execFstopAutoReset (s : State) : Host.Outcome State Fault Refusal :=
  finish s (xFstopAutoReset s.dev)

/-- SMBUS_READ_WORD (R519). -/
def execSmbusReadWord (cmd : Nat) (temp : Int) (s : State) : Host.Outcome State Fault Refusal :=
  finish s (xSmbusReadWord cmd temp s.dev)

/-- SETUP_LOCK (R544). -/
def execSetupLock (s : State) : Host.Outcome State Fault Refusal :=
  finish s (xSetupLock s.dev)

/-- REGISTER_WRITE (R8). -/
def execRegisterWrite (o : Nat) (w : Word) (full : Bool) (unread : List Bytes) (s : State) : Host.Outcome State Fault Refusal :=
  finish s (xRegisterWrite o w full unread s.dev)

/-- TAP_EXTEST (R567). -/
def execTapExtest (s : State) : Host.Outcome State Fault Refusal :=
  finish s (xTapExtest s.dev)

/-- TEST_EN_HIGH (R567). -/
def execTestEnHigh (s : State) : Host.Outcome State Fault Refusal :=
  finish s (xTestEnHigh s.dev)

/-- WRST_RELEASE (R521). -/
def execWrstRelease (s : State) : Host.Outcome State Fault Refusal :=
  finish s (xWrstRelease s.dev)

/-- EXTEST_EXIT (R567). -/
def execExtestExit (s : State) : Host.Outcome State Fault Refusal :=
  finish s (xExtestExit s.dev)

/-- TEST_EN_LOW (R567). -/
def execTestEnLow (s : State) : Host.Outcome State Fault Refusal :=
  finish s (xTestEnLow s.dev)

end Sys2Proof.Machine
end

