-- ==== Sys2Proof/Machine/Dispatch.lean ====
section
/-! DEFINITION. What each command does: one arm per constructor, one meaning per arm. -/

namespace Sys2Proof.Machine

/-- A command's effect on everything but the queue. -/
def exec (i : Instr) (s : State) : Host.Outcome State Fault Refusal :=
  match i with
  | .tbIncrLoWrite w => Sys2Proof.Machine.execTbIncrLoWrite w s
  | .tbIncrHiWrite w => Sys2Proof.Machine.execTbIncrHiWrite w s
  | .tbNowRead => Sys2Proof.Machine.execTbNowRead s
  | .leapCommit => Sys2Proof.Machine.execLeapCommit s
  | .leapForceCommit => Sys2Proof.Machine.execLeapForceCommit s
  | .leapTableInForce => Sys2Proof.Machine.execLeapTableInForce s
  | .leapOffsetChange => Sys2Proof.Machine.execLeapOffsetChange s
  | .leapPendingStart => Sys2Proof.Machine.execLeapPendingStart s
  | .leapExpiryLoWrite w => Sys2Proof.Machine.execLeapExpiryLoWrite w s
  | .leapExpiryHiWrite w => Sys2Proof.Machine.execLeapExpiryHiWrite w s
  | .leapTableStale => Sys2Proof.Machine.execLeapTableStale s
  | .gnssUtcDecode p => Sys2Proof.Machine.execGnssUtcDecode p s
  | .smearCtlWrite w => Sys2Proof.Machine.execSmearCtlWrite w s
  | .smearWinWrite w => Sys2Proof.Machine.execSmearWinWrite w s
  | .smearWindowStart => Sys2Proof.Machine.execSmearWindowStart s
  | .smearWindowEnd => Sys2Proof.Machine.execSmearWindowEnd s
  | .deviceTimeStep => Sys2Proof.Machine.execDeviceTimeStep s
  | .axinEdge pin rising b => Sys2Proof.Machine.execAxinEdge pin rising b s
  | .axisEdgeTimeout n => Sys2Proof.Machine.execAxisEdgeTimeout n s
  | .axisCfgWrite n w => Sys2Proof.Machine.execAxisCfgWrite n w s
  | .axisCycleRead n => Sys2Proof.Machine.execAxisCycleRead n s
  | .axisCycleSet n w => Sys2Proof.Machine.execAxisCycleSet n w s
  | .axisRequestCommit n => Sys2Proof.Machine.execAxisRequestCommit n s
  | .poolQuotaWrite n w => Sys2Proof.Machine.execPoolQuotaWrite n w s
  | .poolUsedRead n => Sys2Proof.Machine.execPoolUsedRead n s
  | .slcQueueRead s0 => Sys2Proof.Machine.execSlcQueueRead s0 s
  | .laneTakeItem slice => Sys2Proof.Machine.execLaneTakeItem slice s
  | .ovnCtlWrite w => Sys2Proof.Machine.execOvnCtlWrite w s
  | .ovenKatDone k pass => Sys2Proof.Machine.execOvenKatDone k pass s
  | .unitEnable u => Sys2Proof.Machine.execUnitEnable u s
  | .unitDrain u => Sys2Proof.Machine.execUnitDrain u s
  | .unitCut u => Sys2Proof.Machine.execUnitCut u s
  | .drainToCut u => Sys2Proof.Machine.execDrainToCut u s
  | .unitDrained u => Sys2Proof.Machine.execUnitDrained u s
  | .powerDomainWrite w => Sys2Proof.Machine.execPowerDomainWrite w s
  | .domainReleased dom => Sys2Proof.Machine.execDomainReleased dom s
  | .portFrameReceive n b codeErr fcsOk corr uncorr f => Sys2Proof.Machine.execPortFrameReceive n b codeErr fcsOk corr uncorr f s
  | .admissionWindowEnd => Sys2Proof.Machine.execAdmissionWindowEnd s
  | .mgmtFrameReceive b codeErr fcsOk f => Sys2Proof.Machine.execMgmtFrameReceive b codeErr fcsOk f s
  | .saWrite j => Sys2Proof.Machine.execSaWrite j s
  | .saRead j => Sys2Proof.Machine.execSaRead j s
  | .saInvalidate j => Sys2Proof.Machine.execSaInvalidate j s
  | .saCmdComplete => Sys2Proof.Machine.execSaCmdComplete s
  | .peelBook port te tl len gcls mayRp => Sys2Proof.Machine.execPeelBook port te tl len gcls mayRp s
  | .peelCommit handle frame => Sys2Proof.Machine.execPeelCommit handle frame s
  | .bookingVoid handle => Sys2Proof.Machine.execBookingVoid handle s
  | .peelFetchMiss handle => Sys2Proof.Machine.execPeelFetchMiss handle s
  | .peelLaunch handle => Sys2Proof.Machine.execPeelLaunch handle s
  | .wheelSlotCascade port => Sys2Proof.Machine.execWheelSlotCascade port s
  | .farListRelease port => Sys2Proof.Machine.execFarListRelease port s
  | .peelGuardWrite w => Sys2Proof.Machine.execPeelGuardWrite w s
  | .peelCalDone port => Sys2Proof.Machine.execPeelCalDone port s
  | .peelCalCheck port => Sys2Proof.Machine.execPeelCalCheck port s
  | .probeMeasurement strobe ps => Sys2Proof.Machine.execProbeMeasurement strobe ps s
  | .gclWrite w => Sys2Proof.Machine.execGclWrite w s
  | .gclRead w => Sys2Proof.Machine.execGclRead w s
  | .gclRequest w => Sys2Proof.Machine.execGclRequest w s
  | .gclCancel w => Sys2Proof.Machine.execGclCancel w s
  | .gclChange port => Sys2Proof.Machine.execGclChange port s
  | .peelLpiWake port => Sys2Proof.Machine.execPeelLpiWake port s
  | .streamOpen n sid client tcpPort sa => Sys2Proof.Machine.execStreamOpen n sid client tcpPort sa s
  | .streamData n sid bs => Sys2Proof.Machine.execStreamData n sid bs s
  | .streamFin n sid => Sys2Proof.Machine.execStreamFin n sid s
  | .streamReset n sid => Sys2Proof.Machine.execStreamReset n sid s
  | .keHandshakeTimeout sid => Sys2Proof.Machine.execKeHandshakeTimeout sid s
  | .keRequestTimeout sid => Sys2Proof.Machine.execKeRequestTimeout sid s
  | .keCloseTimer sid => Sys2Proof.Machine.execKeCloseTimer sid s
  | .ovenJobComplete id => Sys2Proof.Machine.execOvenJobComplete id s
  | .ovenMismatch k => Sys2Proof.Machine.execOvenMismatch k s
  | .ovenSelfTest k pass => Sys2Proof.Machine.execOvenSelfTest k pass s
  | .starterPrepare => Sys2Proof.Machine.execStarterPrepare s
  | .starterRotate => Sys2Proof.Machine.execStarterRotate s
  | .starterWipeRetired => Sys2Proof.Machine.execStarterWipeRetired s
  | .starterRotateRequest => Sys2Proof.Machine.execStarterRotateRequest s
  | .starterCancel => Sys2Proof.Machine.execStarterCancel s
  | .starterPurge => Sys2Proof.Machine.execStarterPurge s
  | .purgeComplete => Sys2Proof.Machine.execPurgeComplete s
  | .syncEmit j port grant => Sys2Proof.Machine.execSyncEmit j port grant s
  | .ptpAnnounceSend j port grant => Sys2Proof.Machine.execPtpAnnounceSend j port grant s
  | .ptpRequestSend j port => Sys2Proof.Machine.execPtpRequestSend j port s
  | .ptpUnicastRequest => Sys2Proof.Machine.execPtpUnicastRequest s
  | .ptpCancelUnicast => Sys2Proof.Machine.execPtpCancelUnicast s
  | .ptpGrantExpire g b => Sys2Proof.Machine.execPtpGrantExpire g b s
  | .ptpUnicastRenew j => Sys2Proof.Machine.execPtpUnicastRenew j s
  | .ptpAnnounceReceive => Sys2Proof.Machine.execPtpAnnounceReceive s
  | .ptpGeneralReceive => Sys2Proof.Machine.execPtpGeneralReceive s
  | .ptpManagement => Sys2Proof.Machine.execPtpManagement s
  | .ptpAnnounceTimeout j => Sys2Proof.Machine.execPtpAnnounceTimeout j s
  | .ptpCancelAckTimeout g => Sys2Proof.Machine.execPtpCancelAckTimeout g s
  | .ptpInstanceEnable j => Sys2Proof.Machine.execPtpInstanceEnable j s
  | .ptpProfileWrite j p => Sys2Proof.Machine.execPtpProfileWrite j p s
  | .portModeWrite n w => Sys2Proof.Machine.execPortModeWrite n w s
  | .portEnable n => Sys2Proof.Machine.execPortEnable n s
  | .portStatClear n => Sys2Proof.Machine.execPortStatClear n s
  | .portLpiEnable n on => Sys2Proof.Machine.execPortLpiEnable n on s
  | .portLpiWrite n w => Sys2Proof.Machine.execPortLpiWrite n w s
  | .portSynceWrite n w => Sys2Proof.Machine.execPortSynceWrite n w s
  | .linkUp n speed => Sys2Proof.Machine.execLinkUp n speed s
  | .linkDown n aligned lf rf => Sys2Proof.Machine.execLinkDown n aligned lf rf s
  | .rxCalDone n => Sys2Proof.Machine.execRxCalDone n s
  | .rxCalCheck n => Sys2Proof.Machine.execRxCalCheck n s
  | .portStatRead n k => Sys2Proof.Machine.execPortStatRead n k s
  | .esmcReceive n f => Sys2Proof.Machine.execEsmcReceive n f s
  | .esmcRxTimeout n => Sys2Proof.Machine.execEsmcRxTimeout n s
  | .esmcInfoSend n => Sys2Proof.Machine.execEsmcInfoSend n s
  | .esmcEventSend n => Sys2Proof.Machine.execEsmcEventSend n s
  | .refRawComparison n x => Sys2Proof.Machine.execRefRawComparison n x s
  | .refSecondEval => Sys2Proof.Machine.execRefSecondEval s
  | .selectorRerun => Sys2Proof.Machine.execSelectorRerun s
  | .deviceTimeSet => Sys2Proof.Machine.execDeviceTimeSet s
  | .refEnable n => Sys2Proof.Machine.execRefEnable n s
  | .refDisable n cut => Sys2Proof.Machine.execRefDisable n cut s
  | .refRequal n => Sys2Proof.Machine.execRefRequal n s
  | .oscReanchor => Sys2Proof.Machine.execOscReanchor s
  | .oscAnchor => Sys2Proof.Machine.execOscAnchor s
  | .tbErrEstRead => Sys2Proof.Machine.execTbErrEstRead s
  | .refPhaseRead n => Sys2Proof.Machine.execRefPhaseRead n s
  | .ntpPollSend n => Sys2Proof.Machine.execNtpPollSend n s
  | .ntpUpstreamResponse n port src sport msg t4 => Sys2Proof.Machine.execNtpUpstreamResponse n port src sport msg t4 s
  | .gnssEpoch ms gal bds utc => Sys2Proof.Machine.execGnssEpoch ms gal bds utc s
  | .gnssChannelAlloc sky => Sys2Proof.Machine.execGnssChannelAlloc sky s
  | .gnssAcqDetect sys svid gb cn0 => Sys2Proof.Machine.execGnssAcqDetect sys svid gb cn0 s
  | .gnssChannelRelease ch => Sys2Proof.Machine.execGnssChannelRelease ch s
  | .gnssAntFault gb => Sys2Proof.Machine.execGnssAntFault gb s
  | .gnssLevelCheck rms clip => Sys2Proof.Machine.execGnssLevelCheck rms clip s
  | .gnssClockCheck err => Sys2Proof.Machine.execGnssClockCheck err s
  | .gnssCalCommit => Sys2Proof.Machine.execGnssCalCommit s
  | .gnssSurveyStart => Sys2Proof.Machine.execGnssSurveyStart s
  | .gnssSurveyAbort => Sys2Proof.Machine.execGnssSurveyAbort s
  | .gnssModeWrite mode => Sys2Proof.Machine.execGnssModeWrite mode s
  | .gnssSnapPeriodic res => Sys2Proof.Machine.execGnssSnapPeriodic res s
  | .gnssEphRefresh sky => Sys2Proof.Machine.execGnssEphRefresh sky s
  | .gnssCaptureRequest => Sys2Proof.Machine.execGnssCaptureRequest s
  | .gnssCaptureCancel => Sys2Proof.Machine.execGnssCaptureCancel s
  | .gnssCaptureExecute => Sys2Proof.Machine.execGnssCaptureExecute s
  | .gnssCaptureComplete samples => Sys2Proof.Machine.execGnssCaptureComplete samples s
  | .ticEdge n code => Sys2Proof.Machine.execTicEdge n code s
  | .ticPairOverflow p => Sys2Proof.Machine.execTicPairOverflow p s
  | .ticPairEnable p => Sys2Proof.Machine.execTicPairEnable p s
  | .ticChannelEnable n => Sys2Proof.Machine.execTicChannelEnable n s
  | .ticCalStart => Sys2Proof.Machine.execTicCalStart s
  | .ticCalAuto temp => Sys2Proof.Machine.execTicCalAuto temp s
  | .ticLineCalDone n hits temp => Sys2Proof.Machine.execTicLineCalDone n hits temp s
  | .ticPairLastRead p => Sys2Proof.Machine.execTicPairLastRead p s
  | .oscWarmChange high => Sys2Proof.Machine.execOscWarmChange high s
  | .warmupEnd => Sys2Proof.Machine.execWarmupEnd s
  | .pllLockWindow good => Sys2Proof.Machine.execPllLockWindow good s
  | .pllRelockAttempt k ok => Sys2Proof.Machine.execPllRelockAttempt k ok s
  | .deviceTimeRestore => Sys2Proof.Machine.execDeviceTimeRestore s
  | .tbRawRead => Sys2Proof.Machine.execTbRawRead s
  | .manualWrite w => Sys2Proof.Machine.execManualWrite w s
  | .foutStart m => Sys2Proof.Machine.execFoutStart m s
  | .toutStart n => Sys2Proof.Machine.execToutStart n s
  | .outputPhaseCheck n err => Sys2Proof.Machine.execOutputPhaseCheck n err s
  | .outEventRequest w => Sys2Proof.Machine.execOutEventRequest w s
  | .outEventCancel w => Sys2Proof.Machine.execOutEventCancel w s
  | .outEventExecute n => Sys2Proof.Machine.execOutEventExecute n s
  | .squelchEnd n => Sys2Proof.Machine.execSquelchEnd n s
  | .batchStage n desc inp => Sys2Proof.Machine.execBatchStage n desc inp s
  | .batchCheck n desc => Sys2Proof.Machine.execBatchCheck n desc s
  | .batchCommit n desc good => Sys2Proof.Machine.execBatchCommit n desc good s
  | .batchCancel n desc => Sys2Proof.Machine.execBatchCancel n desc s
  | .batchApply => Sys2Proof.Machine.execBatchApply s
  | .fwStage n desc inp good => Sys2Proof.Machine.execFwStage n desc inp good s
  | .fwCommit n desc good => Sys2Proof.Machine.execFwCommit n desc good s
  | .fwConfirm n desc => Sys2Proof.Machine.execFwConfirm n desc s
  | .fwAutoConfirm => Sys2Proof.Machine.execFwAutoConfirm s
  | .claimNonce n desc => Sys2Proof.Machine.execClaimNonce n desc s
  | .claimDisarm level => Sys2Proof.Machine.execClaimDisarm level s
  | .quote n desc inp ok => Sys2Proof.Machine.execQuote n desc inp ok s
  | .certRead n desc ok => Sys2Proof.Machine.execCertRead n desc ok s
  | .tlsPubkey n desc ok => Sys2Proof.Machine.execTlsPubkey n desc ok s
  | .flashRead n desc ok => Sys2Proof.Machine.execFlashRead n desc ok s
  | .flashWrite n desc inp good => Sys2Proof.Machine.execFlashWrite n desc inp good s
  | .flashErase n desc good => Sys2Proof.Machine.execFlashErase n desc good s
  | .timedWrite n desc => Sys2Proof.Machine.execTimedWrite n desc s
  | .timedWriteExecute => Sys2Proof.Machine.execTimedWriteExecute s
  | .cancel n desc => Sys2Proof.Machine.execCancel n desc s
  | .ctRead n desc ok => Sys2Proof.Machine.execCtRead n desc ok s
  | .grantRead n desc ok => Sys2Proof.Machine.execGrantRead n desc ok s
  | .tamperSensor k => Sys2Proof.Machine.execTamperSensor k s
  | .extModuleFault => Sys2Proof.Machine.execExtModuleFault s
  | .pkeJobSubmit req n desc image => Sys2Proof.Machine.execPkeJobSubmit req n desc image s
  | .pkeJobEnd id mismatch => Sys2Proof.Machine.execPkeJobEnd id mismatch s
  | .pkeCoreSelfTest k pass => Sys2Proof.Machine.execPkeCoreSelfTest k pass s
  | .pkeCoreEnable j w => Sys2Proof.Machine.execPkeCoreEnable j w s
  | .pkeDisable cut => Sys2Proof.Machine.execPkeDisable cut s
  | .pairLinkTrained => Sys2Proof.Machine.execPairLinkTrained s
  | .pairHelloReceive f => Sys2Proof.Machine.execPairHelloReceive f s
  | .pairQuoteReceive f => Sys2Proof.Machine.execPairQuoteReceive f s
  | .pairAttestDone => Sys2Proof.Machine.execPairAttestDone s
  | .pairHbSend => Sys2Proof.Machine.execPairHbSend s
  | .pairHbReceive f => Sys2Proof.Machine.execPairHbReceive f s
  | .pairHbLoss => Sys2Proof.Machine.execPairHbLoss s
  | .pairUpTimeout => Sys2Proof.Machine.execPairUpTimeout s
  | .fenceChange pat => Sys2Proof.Machine.execFenceChange pat s
  | .fenceRefreshTimeout => Sys2Proof.Machine.execFenceRefreshTimeout s
  | .pairAnnounceRepeat => Sys2Proof.Machine.execPairAnnounceRepeat s
  | .pairRoleReceive f => Sys2Proof.Machine.execPairRoleReceive f s
  | .pairRoleChange => Sys2Proof.Machine.execPairRoleChange s
  | .pairResign => Sys2Proof.Machine.execPairResign s
  | .pairAutoResign => Sys2Proof.Machine.execPairAutoResign s
  | .pairHandback => Sys2Proof.Machine.execPairHandback s
  | .pairResignReceive f => Sys2Proof.Machine.execPairResignReceive f s
  | .pairDisable cut => Sys2Proof.Machine.execPairDisable cut s
  | .pairTimeSend tx => Sys2Proof.Machine.execPairTimeSend tx s
  | .pairTimeReceive t4 f => Sys2Proof.Machine.execPairTimeReceive t4 f s
  | .pairCalRequest fr => Sys2Proof.Machine.execPairCalRequest fr s
  | .pairCalCancel => Sys2Proof.Machine.execPairCalCancel s
  | .pairCalAuto => Sys2Proof.Machine.execPairCalAuto s
  | .pairCalSwap => Sys2Proof.Machine.execPairCalSwap s
  | .pairCalReturn => Sys2Proof.Machine.execPairCalReturn s
  | .pairCalFinish => Sys2Proof.Machine.execPairCalFinish s
  | .pairAsymWrite w => Sys2Proof.Machine.execPairAsymWrite w s
  | .pairOffsetRead => Sys2Proof.Machine.execPairOffsetRead s
  | .pairStarterReceive f => Sys2Proof.Machine.execPairStarterReceive f s
  | .pairStartCmdReceive f => Sys2Proof.Machine.execPairStartCmdReceive f s
  | .starterPartnerTimeout => Sys2Proof.Machine.execStarterPartnerTimeout s
  | .pairGenchkReceive f => Sys2Proof.Machine.execPairGenchkReceive f s
  | .pairBatchReceive f => Sys2Proof.Machine.execPairBatchReceive f s
  | .sqDoorbell n w => Sys2Proof.Machine.execSqDoorbell n w s
  | .cqDoorbell n w => Sys2Proof.Machine.execCqDoorbell n w s
  | .doorbellBadSize => Sys2Proof.Machine.execDoorbellBadSize s
  | .frameTxSend n desc fr => Sys2Proof.Machine.execFrameTxSend n desc fr s
  | .frameRxBuf n len bad => Sys2Proof.Machine.execFrameRxBuf n len bad s
  | .streamRxbuf n len bad => Sys2Proof.Machine.execStreamRxbuf n len bad s
  | .recordBuf n len bad => Sys2Proof.Machine.execRecordBuf n len bad s
  | .bufferTimeout n => Sys2Proof.Machine.execBufferTimeout n s
  | .ringModTimer n => Sys2Proof.Machine.execRingModTimer n s
  | .ringEnable n => Sys2Proof.Machine.execRingEnable n s
  | .ringDisable n cut unread => Sys2Proof.Machine.execRingDisable n cut unread s
  | .ringResume => Sys2Proof.Machine.execRingResume s
  | .pf0DStateChange dst bme pmeEn fnMask aspm => Sys2Proof.Machine.execPf0DStateChange dst bme pmeEn fnMask aspm s
  | .msixHoldRelease vec => Sys2Proof.Machine.execMsixHoldRelease vec s
  | .pmeTurnOff => Sys2Proof.Machine.execPmeTurnOff s
  | .perstAssert => Sys2Proof.Machine.execPerstAssert s
  | .perstRelease speed width => Sys2Proof.Machine.execPerstRelease speed width s
  | .pcieLinkDown => Sys2Proof.Machine.execPcieLinkDown s
  | .pcieLinkReturn speed width => Sys2Proof.Machine.execPcieLinkReturn speed width s
  | .functionLevelReset => Sys2Proof.Machine.execFunctionLevelReset s
  | .pf1Flr => Sys2Proof.Machine.execPf1Flr s
  | .intcSourceEvent src high => Sys2Proof.Machine.execIntcSourceEvent src high s
  | .intcClaimRead t => Sys2Proof.Machine.execIntcClaimRead t s
  | .intcEoi t w => Sys2Proof.Machine.execIntcEoi t w s
  | .intcSetPending w v => Sys2Proof.Machine.execIntcSetPending w v s
  | .intcClearPending w v => Sys2Proof.Machine.execIntcClearPending w v s
  | .intcSrcCfgWrite n w => Sys2Proof.Machine.execIntcSrcCfgWrite n w s
  | .intcRrTimeout src => Sys2Proof.Machine.execIntcRrTimeout src s
  | .engineInterruptEntry k => Sys2Proof.Machine.execEngineInterruptEntry k s
  | .engineInterruptReturn k => Sys2Proof.Machine.execEngineInterruptReturn k s
  | .monCntRead => Sys2Proof.Machine.execMonCntRead s
  | .snapshotNow w => Sys2Proof.Machine.execSnapshotNow w s
  | .snapshotAt w => Sys2Proof.Machine.execSnapshotAt w s
  | .snapshotCancel w => Sys2Proof.Machine.execSnapshotCancel w s
  | .snapshotExecute => Sys2Proof.Machine.execSnapshotExecute s
  | .histValue h v => Sys2Proof.Machine.execHistValue h v s
  | .histWindowEnd h => Sys2Proof.Machine.execHistWindowEnd h s
  | .hwStartRequest w => Sys2Proof.Machine.execHwStartRequest w s
  | .hwEndRequest w => Sys2Proof.Machine.execHwEndRequest w s
  | .hwCancel w => Sys2Proof.Machine.execHwCancel w s
  | .histTimedBoundary h => Sys2Proof.Machine.execHistTimedBoundary h s
  | .sampleRecord eng th pc insn iclass taken lat stall => Sys2Proof.Machine.execSampleRecord eng th pc insn iclass taken lat stall s
  | .ledgerWrite temp => Sys2Proof.Machine.execLedgerWrite temp s
  | .ledgerNextLoWrite w => Sys2Proof.Machine.execLedgerNextLoWrite w s
  | .ledgerNextHiWrite w => Sys2Proof.Machine.execLedgerNextHiWrite w s
  | .ledgerSeqRead old => Sys2Proof.Machine.execLedgerSeqRead old s
  | .secBatchSeqRead pend => Sys2Proof.Machine.execSecBatchSeqRead pend s
  | .powerOnReset => Sys2Proof.Machine.execPowerOnReset s
  | .brownout => Sys2Proof.Machine.execBrownout s
  | .porRelease straps => Sys2Proof.Machine.execPorRelease straps s
  | .warmResetPin keep => Sys2Proof.Machine.execWarmResetPin keep s
  | .glbRstWarm w => Sys2Proof.Machine.execGlbRstWarm w s
  | .glbRstTimeKeep w => Sys2Proof.Machine.execGlbRstTimeKeep w s
  | .glbRstPke w locked => Sys2Proof.Machine.execGlbRstPke w locked s
  | .watchdogExpire => Sys2Proof.Machine.execWatchdogExpire s
  | .bootStageEnd ms => Sys2Proof.Machine.execBootStageEnd ms s
  | .recStart => Sys2Proof.Machine.execRecStart s
  | .recEraseDone => Sys2Proof.Machine.execRecEraseDone s
  | .recDataWrite w => Sys2Proof.Machine.execRecDataWrite w s
  | .recDone good => Sys2Proof.Machine.execRecDone good s
  | .faultStopEnter cause => Sys2Proof.Machine.execFaultStopEnter cause s
  | .fstopAutoReset => Sys2Proof.Machine.execFstopAutoReset s
  | .smbusReadWord cmd temp => Sys2Proof.Machine.execSmbusReadWord cmd temp s
  | .setupLock => Sys2Proof.Machine.execSetupLock s
  | .registerWrite o w full unread => Sys2Proof.Machine.execRegisterWrite o w full unread s
  | .tapExtest => Sys2Proof.Machine.execTapExtest s
  | .testEnHigh => Sys2Proof.Machine.execTestEnHigh s
  | .timeTick n => Sys2Proof.Machine.execTimeTick n s
  | .axisRequest n c phase a => Sys2Proof.Machine.execAxisRequest n c phase a s
  | .todMessageReceive tin msg => Sys2Proof.Machine.execTodMessageReceive tin msg s
  | .pkeKatDone k pass => Sys2Proof.Machine.execPkeKatDone k pass s
  | .txLpiEntry n => Sys2Proof.Machine.execTxLpiEntry n s
  | .partnerLpiChange n asleep => Sys2Proof.Machine.execPartnerLpiChange n asleep s
  | .elvodBlockLockLoss => Sys2Proof.Machine.execElvodBlockLockLoss s
  | .pairAckReceive f => Sys2Proof.Machine.execPairAckReceive f s
  | .resignAckTimeout => Sys2Proof.Machine.execResignAckTimeout s
  | .ptpGrantReceive => Sys2Proof.Machine.execPtpGrantReceive s
  | .ptpCancelAckReceive => Sys2Proof.Machine.execPtpCancelAckReceive s
  | .wrstRelease => Sys2Proof.Machine.execWrstRelease s
  | .gnssAntFaultEnd gb => Sys2Proof.Machine.execGnssAntFaultEnd gb s
  | .aspmL1Entry => Sys2Proof.Machine.execAspmL1Entry s
  | .extestExit => Sys2Proof.Machine.execExtestExit s
  | .testEnLow => Sys2Proof.Machine.execTestEnLow s

end Sys2Proof.Machine
end

