-- ==== Sys2Proof/Machine/RegView.lean ====
section
/-! DEFINITION. What a read of a BAR0 register returns, as data of the state: the registers that show structured state, over the
register bank (R8, R538, R539, R543).  The side effects of the reads that have any are commands of the table. -/

namespace Sys2Proof.Machine

/-- A 32-bit word whose bit j says whether number 32 w + j has a property. -/
def maskWord (w : Nat) (p : Nat → Bool) : Nat := (List.range 32).foldl (fun a j => if p (32 * w + j) then a + 2 ^ j else a) 0

/-- SLCn_QUEUE (R68, R539). -/
def slcQueueWord (d : Device) (s : Nat) : Nat :=
  if slcPowered d s then min 128 (max (d.slcOf s).peak (slcDepth d s)) * 65536 + min 128 (slcDepth d s) else 0

/-- TROUGH_POOLn_USED (R60). -/
def poolUsedWord (d : Device) (n : Nat) : Nat :=
  mibUp (max (amGet 0 d.trough.peak n) (poolUsed d n)) * 65536 + mibUp (poolUsed d n)

/-- A stored word with one field replaced by what the structured state says. -/
def withFld (d : Device) (f : Fld) (v : Nat) : Nat := putBits (d.rn f.off) f.lo f.len v

/-- The registers of PD_AON, PD_TIME, PD_PKE and the PCIe endpoint that show structured state. -/
def viewLow (d : Device) (o : Nat) : Option Nat :=
  if o = R.TB_INCR_LO then some (d.tm.incr.toNat % 2 ^ 32)
  else if o = R.TB_INCR_HI then some (d.tm.incr.toNat / 2 ^ 32)
  else if o = R.TB_LEAP_EXPIRY_LO then some (d.tm.expiry % 2 ^ 32)
  else if o = R.TB_LEAP_EXPIRY_HI then some (d.tm.expiry / 2 ^ 32 % 65536)
  else if o = R.TB_NOW_SEC_LO then some (d.tm.sec.toNat % 2 ^ 32)
  else if o = R.TB_RAW_LO then some (d.rawCount % 2 ^ 32)
  else if o = R.TB_ERR_EST_LO then some (d.refs.errEst % 2 ^ 32)
  else if o = R.TIC_CAL_STATUS then some (withFld d F.TIC_CAL_STATUS_age (ticAge d))
  else if o = R.TIC_TBL_DATA then some (ticTblWord d)
  else if o = R.SEC_BATCH_SEQ_LO then some ((batchIdent d).1 % 2 ^ 32)
  else if o = R.SEC_BATCH_PEND_LO then some (batchPending d % 2 ^ 32)
  else if o = R.PEEL_FAR_USED then some (farUsed d)
  else (idxOf o (R.INTC_PEND 0) 4 32).map (fun w => maskWord w (pends d))
    <|> (idxOf o (R.INTC_ACT 0) 4 32).map (fun w => maskWord w fun s => d.intc.active.any fun e => e.1 == s)
    <|> (idxOf o (R.INTC_TGT_CLAIM 0) 0x20 32).map (fun t => (winner d t).getD 0x3FF)
    <|> (idxOf o (R.INTC_TGT_RUN 0) 0x20 32).map (runPrio d)
    <|> (idxOf o (R.REF_PHASE_LO 0) 0x80 32).map (fun n => unsigned 64 (match (d.slot n).hist with | (_, x) :: _ => x | [] => 0) % 2 ^ 32)
    <|> (idxOf o (R.TIC_PAIR_LAST_LO 0) 0x10 4).map (fun p => (d.ticPair p).last % 2 ^ 32)
    <|> (idxOf o (R.PEEL_P_STATUS 0) 0x40 16).map (fun n => withFld d (F.PEEL_P_STATUS_near n) (nearOf d n))
    <|> (idxOf o (R.PEEL_P_GCL_STATUS 0) 0x40 16).map (fun n => withFld d (F.PEEL_P_GCL_STATUS_pend n) (amGet [] d.peel.gatePend n).length)
    <|> (idxOf o (R.HIF_RING_STATUS 0) 0x40 256).map (fun n => withFld d (F.HIF_RING_STATUS_full n) (if ringFull d n then 1 else 0))
    <|> (idxOf o (R.HIF_RING_IDX 0) 0x40 256).map (fun n => (d.ring n).cqTail * 65536 + (d.ring n).sqHead)

/-- The ports' registers that show structured state (R200, R215). -/
def viewPort (d : Device) (o : Nat) : Option Nat :=
  if o = R.PORT_HALF_SUM then some (maskWord 0 fun n => decide (n ≤ 16) && (d.rn (R.PORT_HALF_LO n) + d.rn (R.PORT_HALF_HI n) != 0))
  else if R.PORT_CTL 0 ≤ o ∧ o < R.PORT_CTL 17 then
    let n := (o - R.PORT_CTL 0) / 0x400
    if o = R.PORT_MODE n then some (d.rn (R.PORT_MODE (if n < 16 then n / 4 * 4 else n)))
    else match idxOf o (R.PORT_STAT_LO n 0) 8 42, idxOf o (R.PORT_STAT_HI n 0) 8 42 with
      | some k, _ => some (amGet 0 d.stats (64 * n + k) % 2 ^ 32)
      | _, some _ => some (d.portSt n).latch
      | _, _ => none
  else none

/-- The registers of PD_BENCH and the HIF block that show structured state. -/
def viewHigh (d : Device) (o : Nat) : Option Nat :=
  if o = R.TROUGH_STATUS then some (withFld d F.TROUGH_STATUS_bp_active (if d.trough.stalled.isEmpty then 0 else 1))
  else if o = R.TROUGH_FREE then some (sharedFree d / 8192)
  else if o = R.OVN_STARTER_NEXT_W 0 then some (dt96 (starterNext d) % 2 ^ 32)
  else if o = R.OVN_STARTER_NEXT_W 1 then some (dt96 (starterNext d) / 2 ^ 32 % 2 ^ 32)
  else if o = R.OVN_STARTER_NEXT_W 2 then some (dt96 (starterNext d) / 2 ^ 64)
  else if o = R.OVN_KE_STREAMS then some d.nts.streams.length
  else if o = R.CLS_STATUS then some (withFld d F.CLS_STATUS_not_ready (if notReady d then 1 else 0))
  else if o = R.PAIR_OFFSET_LO then some (unsigned 64 d.pair.offset % 2 ^ 32)
  else if o = R.HIF_STATUS then some (withFld d F.HIF_STATUS_paused (if (List.range 256).any (ringPaused d) then 1 else 0))
  else if o = R.MON_CNT_LO then some (viewValue d (d.fg F.MON_CNT_IDX_view) (d.fg F.MON_CNT_IDX_index) % 2 ^ 32)
  else if o = R.MON_CNT_HI then some d.mon.cntHi.toNat
  else if o = R.MON_LEDGER_SEQ_LO then some (d.mon.ledgerSeq % 2 ^ 32)
  else if o = R.MON_LEDGER_OLD_LO then some (ledgerOld d % 2 ^ 32)
  else if o = R.MON_LEDGER_NEXT_LO then some (d.mon.ledgerNext % 2 ^ 32)
  else if o = R.MON_LEDGER_NEXT_HI then some (d.mon.ledgerNext / 2 ^ 32 % 2 ^ 32)
  else (idxOf o (R.SLC_QUEUE 0) 0x100 12).map (slcQueueWord d)
    <|> (idxOf o (R.TROUGH_POOL_USED 0) 0x10 9).map (poolUsedWord d)
    <|> (idxOf o (R.CLS_PTP_STATUS 0) 0x80 8).map (fun i => putBits (withFld d (F.CLS_PTP_STATUS_clock_class i) (clockClass d i)) 16 8 (clockAcc d i))
    <|> (idxOf o (R.CLS_PTP_GRANTS 0) 0x80 8).map (instGrants d)
    <|> (idxOf o (R.HIF_HALT 0) 4 8).map (fun w => maskWord w fun n => d.fb (F.HIF_RING_STATUS_halted n))
    <|> (idxOf o (R.HIF_FULL 0) 4 8).map (fun w => maskWord w (ringFull d))

/-- The word a read of BAR0 offset `o` returns: 0 for a reserved offset and for a block whose domain is off or in reset (R543), a
register that shows structured state, else the word the bank holds.  WO fields are never stored, so they read 0 (R8). (DESIGN CHOICE, log entry 100.) -/
def readReg (d : Device) (o : Nat) : Word :=
  if (accRow? o).isNone || blockOff d o then 0
  else
    let v := if o < 0x10000 then viewLow d o else if o < 0x18000 then viewPort d o else viewHigh d o
    match v with
    | some v => BitVec.ofNat 32 v
    | none => d.rd o

end Sys2Proof.Machine
end

