-- ==== Sys2Proof/Safety.lean ====
section
/-! DEFINITION. The terms claims are stated in: a command that completes, what a command leaves alone, and the states in which
the interrupt controller is up to date with the block. -/

namespace Sys2Proof.Machine

/-- The command answers a next state, the queue's rest is kept, and the block then meets `P`. -/
def Completes (i : Instr) (s : State) (P : Device → Prop) : Prop :=
  ∃ t, exec i s = .next t ∧ t.pending = s.pending ∧ P t.dev

/-- The kinds of state outside the register bank. -/
inductive Part where
  | cnts | stats | stopping | tm | sched | axis0 | axis1 | irq | rings | pcie | mon | slices | cls | peel | nts | refs | tb
  | ptp | gnss | tic | outs | trust | pke | ports | pair | life | draws
  deriving DecidableEq, Repr

/-- A part is the same in two blocks.  `irq` is what software and sources hold in the interrupt controller: the pending bits software
set, the active sources, the lines of the service firmware, the running handlers and the round-robin pointers. -/
def Part.same (a b : Device) : Part → Prop
  | .cnts => a.cnts = b.cnts
  | .stats => a.stats = b.stats
  | .stopping => a.stopping = b.stopping
  | .tm => a.tm = b.tm
  | .sched => a.sched = b.sched
  | .axis0 => a.axis0 = b.axis0
  | .axis1 => a.axis1 = b.axis1
  | .irq => a.intc.soft = b.intc.soft ∧ a.intc.active = b.intc.active ∧ a.intc.fw = b.intc.fw ∧ a.intc.run = b.intc.run ∧
      a.intc.rrPtr = b.intc.rrPtr
  | .rings => a.rings = b.rings
  | .pcie => { a.pcie with l1 := false } = { b.pcie with l1 := false }
  | .mon => a.mon = b.mon
  | .slices => a.slices = b.slices
  | .cls => a.cls = b.cls
  | .peel => a.peel = b.peel
  | .nts => a.nts = b.nts
  | .refs => a.refs = b.refs
  | .tb => a.tb = b.tb
  | .ptp => a.ptp = b.ptp
  | .gnss => a.gnss = b.gnss
  | .tic => a.tic = b.tic
  | .outs => ∀ n, { a.outOf n with clearAt := none } = { b.outOf n with clearAt := none }
  | .trust => a.trust = b.trust
  | .pke => a.pke = b.pke
  | .ports => a.ports = b.ports
  | .pair => a.pair = b.pair
  | .life => a.life = b.life
  | .draws => a.draws = b.draws

/-- The registers that follow the rest of the block after every command: the squelch flags of the outputs (R343), the held
messages (R462), and the link state L1, which a message ends (R466). -/
def settleRegs : List Nat :=
  (List.range 8).map (fun n => R.TOUT_STATUS n) ++ (List.range 4).map (fun n => R.FOUT_STATUS n) ++ [R.MSIX_PBA 0, R.HIF_STATUS]

/-- Outside the parts `ps` and the registers `rs` the block is as it was: but for the interrupt lines, the messages they raise,
the marks of the pools and the squelch of the outputs, which follow the rest after every command. -/
def Keeps (ps : List Part) (rs : List Nat) (a b : Device) : Prop :=
  (∀ p, p ∉ ps → p.same a b) ∧ ∀ o, o ∉ rs → o ∉ settleRegs → b.rd o = a.rd o

/-- The same, where the registers that may change are those a test names. -/
def KeepsBut (ps : List Part) (may : Nat → Bool) (a b : Device) : Prop :=
  (∀ p, p ∉ ps → p.same a b) ∧ ∀ o, may o = false → o ∉ settleRegs → b.rd o = a.rd o

/-- The interrupt controller is up to date: it sees the lines as the block drives them, and it has told the host targets to which
some source is offered (R475, R480). -/
abbrev Settled (d : Device) : Prop := d.intc.lines = linesNow d ∧ d.intc.told = hostTold d

/-- The block of a register is on and out of reset, so that a host access reaches it (R543). -/
abbrev Reach (s : State) (o : Nat) : Prop := blockOff s.dev o = false

/-- What the block sent on this step, newest first, but for the MSI-X messages that settling adds. -/
def Sends (os : List Output) (a b : Device) : Prop :=
  ∃ ms, b.out = ms ++ (os ++ a.out) ∧ ∀ m ∈ ms, ∃ v, m = Output.msix v

/-- An event counter advanced by one, modulo 2^48 (R489), and the others stood still. -/
def Counted (i : Nat) (a b : Device) : Prop := ∀ j, b.cntOf j = if j = i then (a.cntOf i + 1) % 2 ^ 48 else a.cntOf j

/-- Device Time is valid. -/
abbrev TimeOk (s : State) : Prop := s.dev.dtInvalid = false

/-- Counter `k` of port `n` (R214). -/
def statOf (d : Device) (n k : Nat) : Nat := amGet 0 d.stats (64 * n + k)

/-- The block sent this among what it sent on this step. -/
def Sent (o : Output) (a b : Device) : Prop := ∃ l, b.out = l ++ a.out ∧ o ∈ l

/-- A booking of a port would get launch point `t`, number `ord` of its grid, in the port's wheels, with time left to commit
(R116, R117). -/
def Bookable (d : Device) (n : Nat) (te tl : Inst) (len gcls ord : Nat) (t : Inst) : Prop :=
  bookCode d n te tl len gcls = (T.ACCEPTED, ord, t) ∧ (wheelPlace d t).1 < 3 ∧ nearOf d n < 32768 ∧ d.now + gCommit d ≤ t ∧
  findBooking d d.sched.nextHandle = none

/-- The frame is booked and committed on the port for its launch point, under the handle that was next. -/
def Booked (a d : Device) (n : Nat) (t : Inst) (f : Bytes) : Prop :=
  ∃ b, findBooking d a.sched.nextHandle = some b ∧ b.port = n ∧ b.due = t ∧ b.frame = some f

/-- The CMD ring `n` can take the command that the 32 bytes `desc` spell, whose op is `op` (R443, R445). -/
def CmdReady (d : Device) (n op : Nat) (desc : Bytes) : Prop :=
  canTake d n 0 = true ∧ desc.length = 32 ∧ cOp desc = op ∧ byteAt desc 1 < 2

/-- The registers of ring `n` that a completion changes. -/
abbrev ringRegs (n : Nat) : List Nat := [R.HIF_RING_STATUS n, R.HIF_RING_DONE n]

/-- The command of `desc` was taken from CMD ring `n` and completed, in the next CQ slot, with a status, a handle, a code of R34 and an
output (R442, R447). -/
def CmdDone (n : Nat) (desc : Bytes) (st handle code : Nat) (out : Bytes) (a d : Device) : Prop :=
  Sent (.cqe n (a.ring n).cqTail (withPhase (cmdCqe (cTag desc) st (cOp desc) out.length handle code)
    (a.fb (F.HIF_RING_STATUS_phase n)))) a d ∧
  (out ≠ [] → Sent (.dma n out) a d) ∧ (out = [] → ∀ bs, Sent (.dma n bs) a d → False) ∧
  (d.ring n).sqHead = ((a.ring n).sqHead + 1) % ringSize a n ∧ (d.ring n).cqTail = ((a.ring n).cqTail + 1) % ringSize a n ∧
  d.rn (R.HIF_RING_DONE n) = (a.rn (R.HIF_RING_DONE n) + 1) % 2 ^ 32

/-- A frame of the Elvod link passes the checks of its type: its payload and its sequence number (R411). -/
abbrev Accepts (d : Device) (typ : Nat) (f p : Bytes) (seq : Nat) : Prop := (pairTake d typ f).1 = some (p, seq)

/-- The registers that show the pool's jobs. -/
abbrev pkeShown : List Nat := (List.range 5).map R.PKE_RQ_STAT ++ [R.PKE_STATUS]

/-- No host target is enabled, so that no message is sent. -/
abbrev noTargets (s : State) : Prop := ∀ k, k < 16 → s.dev.fb (F.INTC_TGT_CTL_en (16 + k)) = false

/-- A ring that runs. -/
abbrev ringRuns (s : State) (n : Nat) : Prop := n < 256 ∧ s.dev.up (.ring n) = true ∧ ringHalted s.dev n = false

/-- The part an axis is held in. -/
abbrev axisPart (n : Nat) : Part := if n = 0 then .axis0 else .axis1

/-- The registers that show the latest snapshot. -/
abbrev snapShown : List Nat := [R.MON_SNAP_SEQ, R.MON_SNAP_T_W 0, R.MON_SNAP_T_W 1, R.MON_SNAP_T_W 2]

/-- The block copied its counters and statistics at `t` into the other bank (R494, R495). -/
abbrev Snapped (t : Inst) (a d : Device) : Prop :=
  d.mon = { a.mon with snap := a.cnts, snapStat := a.stats, snapPrev := a.mon.snap } ∧
  d.rn R.MON_SNAP_SEQ = (a.rn R.MON_SNAP_SEQ + 1) % 2 ^ 32 ∧ d.rn3 (R.MON_SNAP_T_W 0) = dt96 t

end Sys2Proof.Machine
end

