-- ==== Sys2Proof/Certificates/Slice0/Obligations.lean ====
section
/-! DEFINITION. The statements for the provers: what each family of commands does to the block, for every state and operands that meet
the hypotheses named; what they leave alone; and what every step keeps. -/

open Sys2Proof Sys2Proof.Machine

/-- R11: on a tick, TB_INCR is added to nanoseconds and fraction together; at 10^9 ns the sum carries into the seconds in the same tick. A
staged increment is in force from then on (R15). -/
def Obligations.TickAddsIncrement : Prop :=
  ∀ s : State, s.dev.powered 8 = true → TimeOk s → s.dev.tm.ns.toNat < 1000000000 →
    Completes (.timeTick 1) s fun d =>
      let sum := s.dev.tm.ns.toNat * 2 ^ 48 + s.dev.tm.frac.toNat + s.dev.tm.incr.toNat
      let full := 1000000000 * 2 ^ 48
      (sum < full → d.tm.sec = s.dev.tm.sec ∧ d.tm.ns.toNat * 2 ^ 48 + d.tm.frac.toNat = sum) ∧
      (full ≤ sum → d.tm.sec = s.dev.tm.sec + 1 ∧ d.tm.ns.toNat * 2 ^ 48 + d.tm.frac.toNat = sum - full) ∧
      d.tm.ns.toNat < 1000000000 ∧ d.tm.incr = s.dev.tm.commit.getD s.dev.tm.incr ∧ d.tm.commit = none ∧
      Keeps [.tm] [] s.dev d

/-- n ticks of one increment in force advance Device Time by n times its length, and the raw clock by n (R11, R15, R327). R15, R332, R12: host
writes to the increment act in MANUAL only: the low word is staged, the high word commits both for the next tick edge, and a value out of
range is ignored and sets incr_err; the counter itself does not move. -/
def Obligations.IncrementInForce : Prop :=
  (∀ (s : State) (n : Nat), s.dev.powered 8 = true → TimeOk s → s.dev.tm.commit = none →
     s.dev.tm.now + n * s.dev.tm.incr.toNat * 125 < 2 ^ 48 * secU →
     Completes (.timeTick n) s fun d =>
       d.tm.now = s.dev.tm.now + n * s.dev.tm.incr.toNat * 125 ∧ d.tm.incr = s.dev.tm.incr ∧ d.tm.osc = s.dev.tm.osc + n ∧
       Keeps [.tm] [] s.dev d) ∧
  ((∀ (s : State) (w : Word), Reach s R.TB_INCR_LO → s.dev.fb F.TB_TBC_manual = true →
     Completes (.tbIncrLoWrite w) s fun d => d.tm = { s.dev.tm with stagedLo := w } ∧ Keeps [.tm] [] s.dev d) ∧
   (∀ (s : State) (w : Word), Reach s R.TB_INCR_HI → s.dev.fb F.TB_TBC_manual = true →
     Completes (.tbIncrHiWrite w) s fun d =>
       let v : BitVec 56 := BitVec.ofNat 56 (bits w.toNat 0 24 * 2 ^ 32 + s.dev.tm.stagedLo.toNat)
       (incrInRange v.toNat = true → d.tm = { s.dev.tm with commit := some v } ∧ Keeps [.tm] [] s.dev d) ∧
       (incrInRange v.toNat = false → d.fg F.TB_TBS_incr_err = 1 ∧ Keeps [] [R.TB_TBS] s.dev d)) ∧
   (∀ (s : State) (w : Word), s.dev.fb F.TB_TBC_manual = false → Reach s R.TB_INCR_LO →
     Completes (.tbIncrLoWrite w) s (Keeps [] [] s.dev) ∧ Completes (.tbIncrHiWrite w) s (Keeps [] [] s.dev)))

/-- R22, R23: a commit write, with or without force: the staged table, if it passes the checks in order, waits for the next second boundary
and commit_err reads 0; else the table in force is kept, the first failure is recorded and counted. R22, R23, R25, R26, R14, R28: what
follows the table: it comes into force at its second boundary; the offset of the entry with the greatest eff_sec at or below Device Time
shows in TB_LEAP_STATUS and utc_valid; leap_pending and leap_dir rise with the last UTC day before the next entry; stale rises past a
declared expiry. R28, R8: the expiry words: the low one is staged, the high one puts both in force; while sealed_only is 1 both writes are
ignored and counted under SEC_SEAL_WRITES when they would change the value. R27, R285: newly decoded parameters of a system replace its
former ones and show in GNSS_UTC; with the table governed by the host alone no comparison is made. -/
def Obligations.LeapSeconds : Prop :=
  (∀ s : State, Reach s R.TB_LEAP_CTL →
     (∀ force : Bool, s.dev.fb F.TB_LEAP_CTL_sealed_only = false → leapCheck s.dev (stagedLeap s.dev) force = 0 →
       Completes (if force then .leapForceCommit else .leapCommit) s fun d =>
         d.tm = { s.dev.tm with leapNext := some (stagedLeap s.dev, s.dev.nowSec + 1, force) } ∧
         d.fg F.TB_LEAP_STATUS_commit_err = 0 ∧ Keeps [.tm] [R.TB_LEAP_STATUS] s.dev d) ∧
     (∀ force : Bool, s.dev.fb F.TB_LEAP_CTL_sealed_only = false → leapCheck s.dev (stagedLeap s.dev) force ≠ 0 →
       Completes (if force then .leapForceCommit else .leapCommit) s fun d =>
         d.fg F.TB_LEAP_STATUS_commit_err = leapCheck s.dev (stagedLeap s.dev) force ∧ Counted K.TB_LEAP_REFUSED s.dev d ∧
         Keeps [.cnts] [R.TB_LEAP_STATUS] s.dev d) ∧
     (∀ force : Bool, s.dev.fb F.TB_LEAP_CTL_sealed_only = true →
       Completes (if force then .leapForceCommit else .leapCommit) s fun d =>
         d.fg F.TB_LEAP_STATUS_commit_err = 5 ∧ Counted K.TB_LEAP_REFUSED s.dev d ∧ Keeps [.cnts] [R.TB_LEAP_STATUS] s.dev d)) ∧
  ((∀ (s : State) (t : List LeapEntry) (b : Nat) (f : Bool), TimeOk s → s.dev.tm.leapNext = some (t, b, f) → b ≤ s.dev.nowSec →
     Completes .leapTableInForce s fun d => d.tm.leap = some t ∧ d.tm.leapNext = none ∧ d.fb F.TB_LEAP_STATUS_table_valid = true ∧
       Keeps [.tm, .mon, .cnts] [R.TB_STATUS, R.TB_LEAP_STATUS] s.dev d) ∧
   (∀ s : State, TimeOk s →
     Completes .leapOffsetChange s fun d =>
       d.fg F.TB_LEAP_STATUS_tai_utc_now = (offsetNow s.dev).getD 0 % 256 ∧ d.fb F.TB_STATUS_utc_valid = (offsetNow s.dev).isSome ∧
       (nextLeap s.dev = none → d.fg F.TB_STATUS_leap_pending = 0) ∧ Keeps [] [R.TB_STATUS, R.TB_LEAP_STATUS] s.dev d) ∧
   (∀ (s : State) (e l0 l1 : Nat), TimeOk s → nextLeap s.dev = some (e, l0, l1) → e + l0 - l1 - 86400 ≤ s.dev.nowSec →
     Completes .leapPendingStart s fun d => d.fg F.TB_STATUS_leap_pending = 1 ∧ d.fb F.TB_STATUS_leap_dir = decide (l1 < l0) ∧
       Keeps [] [R.TB_STATUS] s.dev d) ∧
   (∀ s : State, TimeOk s → leapSrc s.dev = 0 → s.dev.tm.expiry ≠ 0 → s.dev.tm.expiry * secU < s.dev.now →
     Completes .leapTableStale s fun d => d.fg F.TB_LEAP_STATUS_stale = 1 ∧ Keeps [] [R.TB_STATUS, R.TB_LEAP_STATUS] s.dev d)) ∧
  ((∀ (s : State) (w : Word), Reach s R.TB_LEAP_EXPIRY_LO → s.dev.fb F.TB_LEAP_CTL_sealed_only = false →
     Completes (.leapExpiryLoWrite w) s (fun d => d.tm = { s.dev.tm with expiryStaged := w } ∧ Keeps [.tm] [] s.dev d) ∧
     Completes (.leapExpiryHiWrite w) s fun d =>
       d.tm = { s.dev.tm with expiry := bits w.toNat 0 16 * 2 ^ 32 + s.dev.tm.expiryStaged.toNat } ∧
       Keeps [.tm] [R.TB_LEAP_STATUS] s.dev d) ∧
   (∀ (s : State) (w : Word), Reach s R.TB_LEAP_EXPIRY_LO → s.dev.fb F.TB_LEAP_CTL_sealed_only = true →
     Completes (.leapExpiryLoWrite w) s fun d =>
       d.rn R.SEC_SEAL_WRITES = (if w.toNat = s.dev.tm.expiry % 2 ^ 32 then s.dev.rn R.SEC_SEAL_WRITES
         else min (2 ^ 32 - 1) (s.dev.rn R.SEC_SEAL_WRITES + 1)) ∧ Keeps [] [R.SEC_SEAL_WRITES] s.dev d)) ∧
  (∀ (s : State) (p : UtcParams), p.sys < 3 → leapSrc s.dev = 0 →
     Completes (.gnssUtcDecode p) s fun d =>
       p ∈ d.tm.utc ∧ (∀ q, q ∈ d.tm.utc ↔ q = p ∨ (q ∈ s.dev.tm.utc ∧ q.sys ≠ p.sys)) ∧
       d.fg (if p.sys = 0 then F.GNSS_UTC_gps else if p.sys = 1 then F.GNSS_UTC_gal else F.GNSS_UTC_bds) = p.taiUtc % 256 ∧
       Keeps [.tm] [R.GNSS_UTC, R.GNSS_STATUS, R.TB_STATUS, R.TB_LEAP_STATUS] s.dev d)

/-- R30, R29: writes to the smear profile take effect, but from 1 s before S until the window ends a write that would set enable, or any while
enable is 1, is ignored and counted; smear_active is 1 from S to S + W while enable is 1. -/
def Obligations.SmearProfile : Prop :=
  (∀ (s : State) (w : Word), Reach s R.TB_SMEAR_CTL → smearDenied s.dev = false →
    Completes (.smearCtlWrite w) s fun d => d.fb F.TB_SMEAR_CTL_enable = w.getLsbD 31 ∧ d.fb F.TB_SMEAR_CTL_mode = w.getLsbD 8 ∧
      Keeps [] [R.TB_SMEAR_CTL, R.TB_STATUS] s.dev d) ∧
  (∀ (s : State) (w : Word), Reach s R.TB_SMEAR_CTL → smearDenied s.dev = true → w.getLsbD 31 = true →
    Completes (.smearCtlWrite w) s fun d => Counted K.TB_SMEAR_DENIED s.dev d ∧ Keeps [.cnts] [] s.dev d) ∧
  (∀ (s : State) (w : Word), Reach s R.TB_SMEAR_WIN → smearDenied s.dev = false → 3600 ≤ bits w.toNat 0 18 → bits w.toNat 0 18 ≤ 172800 →
    Completes (.smearWinWrite w) s fun d => d.fg F.TB_SMEAR_WIN = bits w.toNat 0 18 ∧
      Keeps [] [R.TB_SMEAR_WIN, R.TB_STATUS] s.dev d) ∧
  (∀ s : State, TimeOk s → smearNow s.dev = true →
    Completes .smearWindowStart s fun d => d.fg F.TB_STATUS_smear_active = 1 ∧ Keeps [] [R.TB_STATUS] s.dev d) ∧
  (∀ s : State, TimeOk s → smearNow s.dev = false →
    Completes .smearWindowEnd s fun d => d.fg F.TB_STATUS_smear_active = 0 ∧ Keeps [] [R.TB_STATUS] s.dev d)

/-- R39, R40: in CYCLE mode a good edge on a LOCKED or COASTING axis makes it LOCKED with no misses, advances the cycle number (or gives it
the number of AXISn_CYCLE_SET) and is the last edge; an edge earlier than (1 − tol) × P after the last is a glitch, counted and otherwise
ignored. R40: in CYCLE mode, with no edge by (1 + tol) × P after the last one, a virtual edge is placed P after it, the cycle number
advances and the miss is counted; miss_limit misses lose the axis: it returns to ACQUIRING without pending requests and sets lost_evt.
R41, R42: a write that enables the axis sends it to ACQUIRING and one that disables it to IDLE without requests; a number written to
AXISn_CYCLE_SET waits for the next real edge. R44: a request at an axis position is held, or refused with PAST, TOO_FAR or FULL; once its
cycle is the next one it leaves the axis for the schedule, at the instant the edge and the period give. -/
def Obligations.AxisPositions : Prop :=
  (∀ (s : State) (n b : Nat) (rising : Bool), n < 2 → TimeOk s → axisEncoder s.dev 0 = false → s.dev.fb (F.AXIS_CFG_enable n) = true →
     s.dev.fb (F.AXIS_CFG_edge n) = !rising → axisRuns s.dev n = true →
     let t : Int := s.dev.stamp (min 124 b) - s.dev.rs (R.AXIS_DELAY n) * nsU
     let early := ((t - (s.dev.axis n).lastEdge : Int) : Rat) * 256 < ((256 - axisTol s.dev n : Nat) : Rat) * axisStep s.dev n
     (early → Completes (.axinEdge n rising b) s fun d =>
       (d.axis n).glitches = (s.dev.axis n).glitches + 1 ∧ (d.axis n).lastEdge = (s.dev.axis n).lastEdge ∧
       Keeps [axisPart n] [] s.dev d) ∧
     (¬ early → Completes (.axinEdge n rising b) s fun d =>
       axisState d n = 2 ∧ d.fg (F.AXIS_STATUS_misses n) = 0 ∧ (d.axis n).lastEdge = t ∧
       d.rd (R.AXIS_CYCLE n) = (s.dev.axis n).cycleSet.getD (s.dev.rd (R.AXIS_CYCLE n) + 1) ∧
       Keeps [axisPart n] [R.AXIS_STATUS n, R.AXIS_CYCLE n, R.AXIS_PERIOD_NS n, R.AXIS_PERIOD_FRAC n] s.dev d)) ∧
  (∀ (s : State) (n : Nat), n < 2 → TimeOk s → axisEncoder s.dev n = false → axisRuns s.dev n = true →
     ((256 + axisTol s.dev n : Nat) : Rat) * axisStep s.dev n ≤ ((((s.dev.now : Int) - (s.dev.axis n).lastEdge) : Int) : Rat) * 256 →
     s.dev.fg (F.AXIS_STATUS_misses n) < 31 →
     let m := s.dev.fg (F.AXIS_STATUS_misses n) + 1
     let regs := [R.AXIS_STATUS n, R.AXIS_CYCLE n]
     (m < max 1 (s.dev.fg (F.AXIS_CFG_miss_limit n)) → Completes (.axisEdgeTimeout n) s fun d =>
       axisState d n = 3 ∧ d.fg (F.AXIS_STATUS_misses n) = m ∧ d.rd (R.AXIS_CYCLE n) = s.dev.rd (R.AXIS_CYCLE n) + 1 ∧
       (d.axis n).lastEdge = (s.dev.axis n).lastEdge + (axisStep s.dev n).floor ∧ Keeps [axisPart n] regs s.dev d) ∧
     (max 1 (s.dev.fg (F.AXIS_CFG_miss_limit n)) ≤ m → Completes (.axisEdgeTimeout n) s fun d =>
       axisState d n = 1 ∧ d.fg (F.AXIS_STATUS_lost_evt n) = 1 ∧ (d.axis n).reqs = [] ∧ Keeps [axisPart n] regs s.dev d)) ∧
  ((∀ (s : State) (n : Nat) (w : Word), n < 2 → Reach s (R.AXIS_CFG n) → axisEncoder s.dev 0 = false → bits w.toNat 10 2 ≠ 1 →
     (s.dev.fb (F.AXIS_CFG_enable n) = false → w.getLsbD 31 = true → Completes (.axisCfgWrite n w) s fun d =>
       d.rd (R.AXIS_CFG n) = w &&& 0x9FFFFC00 ∧ axisState d n = 1 ∧
       Keeps [axisPart n] [R.AXIS_CFG n, R.AXIS_STATUS n] s.dev d) ∧
     (w.getLsbD 31 = false → Completes (.axisCfgWrite n w) s fun d =>
       d.rd (R.AXIS_CFG n) = w &&& 0x1FFFFC00 ∧ axisState d n = 0 ∧ (d.axis n).reqs = [] ∧
       Keeps [axisPart n] [R.AXIS_CFG n, R.AXIS_STATUS n] s.dev d)) ∧
   (∀ (s : State) (n : Nat) (w : Word), n < 2 → Reach s (R.AXIS_CYCLE_SET n) →
     Completes (.axisCycleSet n w) s fun d => (d.axis n).cycleSet = some w ∧ Keeps [axisPart n] [] s.dev d)) ∧
  ((∀ (s : State) (n : Nat) (c phase : BitVec 32) (a : Act), n < 2 → axisRuns s.dev n = true →
     let ahead := (c - s.dev.rd (R.AXIS_CYCLE n)).toNat
     let id := (s.dev.axis n).nextId
     (0 < ahead → ahead ≤ 65536 → (s.dev.axis n).reqs.length < 256 → Completes (.axisRequest n c phase a) s fun d =>
       (∃ r, (d.axis n).reqs = (s.dev.axis n).reqs ++ [r] ∧ r.id = id ∧ r.cycle = c ∧ r.phase = phase ∧ r.act = a) ∧
       Sends [.axisOutcome n id T.ACCEPTED] s.dev d ∧ Keeps [axisPart n] [] s.dev d) ∧
     (ahead = 0 ∨ 2 ^ 31 ≤ ahead → Completes (.axisRequest n c phase a) s fun d =>
       (d.axis n).reqs = (s.dev.axis n).reqs ∧ Sends [.axisOutcome n id T.PAST] s.dev d ∧ Keeps [axisPart n] [] s.dev d) ∧
     (65536 < ahead → ahead < 2 ^ 31 → Completes (.axisRequest n c phase a) s fun d =>
       (d.axis n).reqs = (s.dev.axis n).reqs ∧ Sends [.axisOutcome n id T.TOO_FAR] s.dev d ∧ Keeps [axisPart n] [] s.dev d)) ∧
   (∀ (s : State) (n : Nat) (r : AxisReq), n < 2 → axisRuns s.dev n = true → (s.dev.axis n).reqs = [r] → r.fixed = none →
     r.cycle = s.dev.rd (R.AXIS_CYCLE n) + 1 →
     let due := axisInstant (s.dev.axis n).cycleEdge (axisP s.dev n) r.phase
     requestCode s.dev r.act due = T.ACCEPTED → Completes (.axisRequestCommit n) s fun d =>
       (d.axis n).reqs = [] ∧
       d.sched.pend = s.dev.sched.pend ++ [{ handle := s.dev.sched.nextHandle, due, act := r.act, notify := false, tag := 0, stepped := false }] ∧
       Sends [.axisOutcome n r.id T.ACCEPTED] s.dev d ∧ Keeps [axisPart n, .sched] [] s.dev d))

/-- R74, R75, R76: the enable word of a unit that is stopped or runs. Enabling clears drained; DRAIN and CUT clear en and drained and note the
stop; a DRAIN becomes a CUT by stop = 1; a stop that finds no more work sets drained. The units named here start and drain without any
other effect (a running Oven service, slices, the classifier, the NTS-KE service, the sampler). R75: a stop that finds no more work is
complete: the unit is drained, and its drained source pends. -/
def Obligations.UnitsStartAndStop : Prop :=
  ((∀ (s : State) (u : UnitId), Reach s u.ctl → s.dev.down u = true → s.dev.stopOf u = none →
     (∃ k, k < 12 ∧ u = .slc k) ∨ u = .ovn ∨ u = .cls ∨ u = .ke ∨ u = .sample →
     Completes (.unitEnable u) s fun d => d.fb u.en = true ∧ d.fb u.drained = false ∧ Keeps [] [u.ctl] s.dev d) ∧
   (∀ (s : State) (u : UnitId), Reach s u.ctl → s.dev.fb u.en = true → s.dev.stopOf u = none →
     (∃ k, k < 12 ∧ u = .slc k) ∨ u = .cls ∨ u = .ke ∨ u = .sample →
     Completes (.unitDrain u) s fun d => d.fb u.en = false ∧ d.fb u.stop = false ∧ d.fb u.drained = false ∧
       d.stopOf u = some false ∧ Keeps [.stopping] [u.ctl] s.dev d) ∧
   (∀ (s : State) (k : Nat), k < 12 → Reach s (R.SLC_CTL k) → s.dev.fb (F.SLC_CTL_en k) = true → s.dev.stopOf (.slc k) = none →
     Completes (.unitCut (.slc k)) s fun d => d.fb (F.SLC_CTL_en k) = false ∧ d.fb (F.SLC_CTL_stop k) = true ∧
       d.stopOf (.slc k) = some true ∧ (d.slcOf k).queue = [] ∧ (d.slcOf k).reprom = [] ∧
       (∀ j, j ≠ k → d.slcOf j = s.dev.slcOf j) ∧
       Keeps [.stopping, .slices, .cnts, .nts, .peel] [R.SLC_CTL k] s.dev d) ∧
   (∀ (s : State), Reach s R.SAMPLE_CTL → s.dev.stopOf .sample = some false → s.dev.fb F.SAMPLE_CTL_en = false →
     Completes (.drainToCut .sample) s fun d => d.stopOf .sample = some true ∧ d.fb F.SAMPLE_CTL_stop = true ∧
       Keeps [.stopping] [R.SAMPLE_CTL] s.dev d)) ∧
  (∀ (s : State) (u : UnitId) (src : Nat), u.inRange = true → (s.dev.stopOf u).isSome = true → s.dev.fb u.en = false →
     unitIdle u s.dev = true → drnSource u = some src → (∀ n, u ≠ .tout n) → (∀ m, u ≠ .fout m) →
     Completes (.unitDrained u) s fun d => d.fb u.drained = true ∧ d.stopOf u = none ∧ src ∈ d.intc.latched ∧
       Keeps [.stopping] [u.ctl] s.dev d)

/-- R59: a write to TROUGH_POOLn_QUOTA sets the quota, or is refused with MIN_GT_MAX or NO_ROOM in quota_err and changes nothing. R79, R81: a
set bit of PWR_PD_CTL asks for its domain, a cleared one takes effect only when the domain's units are stopped and is refused otherwise; a
domain asked for comes up released. R60, R68, R539, R86: a read of a pool's use or of a slice's queue returns it with its peak and
restarts the peak; a slice whose domain is off reads 0; READ of a service address shows the entry in the staging registers and is busy
until its completion. -/
def Obligations.PoolsQueuesAndDomains : Prop :=
  (∀ (s : State) (n : Nat) (w : Word), n < 9 → Reach s (R.TROUGH_POOL_QUOTA n) →
     let e := quotaErr s.dev n (bits w.toNat 0 16) (bits w.toNat 16 16)
     (e = 0 → poolPolicy s.dev n ≠ 1 → Completes (.poolQuotaWrite n w) s fun d =>
       d.rd (R.TROUGH_POOL_QUOTA n) = w ∧ Keeps [] [R.TROUGH_POOL_QUOTA n] s.dev d) ∧
     (bits w.toNat 16 16 < bits w.toNat 0 16 → Completes (.poolQuotaWrite n w) s fun d =>
       d.fg F.TROUGH_STATUS_quota_err = 1 ∧ Keeps [] [R.TROUGH_STATUS] s.dev d) ∧
     (e = 2 → Completes (.poolQuotaWrite n w) s fun d =>
       d.fg F.TROUGH_STATUS_quota_err = 2 ∧ Keeps [] [R.TROUGH_STATUS] s.dev d)) ∧
  ((∀ (s : State) (w : Word), Reach s R.PWR_PD_CTL → (∀ b, b < 4 → s.dev.fb ⟨R.PWR_PD_CTL, b, 1⟩ = true → w.getLsbD b = true) →
     Completes (.powerDomainWrite w) s fun d => (∀ b, b < 4 → d.fb ⟨R.PWR_PD_CTL, b, 1⟩ = w.getLsbD b) ∧
       Keeps [] [R.PWR_PD_CTL] s.dev d) ∧
   (∀ (s : State) (b : Nat), Reach s R.PWR_PD_CTL → b < 4 → s.dev.fb ⟨R.PWR_PD_CTL, b, 1⟩ = true → pdMayOff s.dev b = false →
     Completes (.powerDomainWrite (s.dev.rd R.PWR_PD_CTL &&& ~~~(1#32 <<< b))) s fun d =>
       (d.fg F.PWR_PD_STATUS_refused).testBit b = true ∧ d.rd R.PWR_PD_CTL = s.dev.rd R.PWR_PD_CTL ∧
       Keeps [] [R.PWR_PD_STATUS] s.dev d) ∧
   (∀ (s : State) (b : Nat), b < 3 → s.dev.powered 1 = true → s.dev.fb ⟨R.PWR_PD_CTL, b, 1⟩ = true → s.dev.powered (pdOf b) = false →
     Completes (.domainReleased b) s fun d => d.powered (pdOf b) = true ∧ Keeps [] [R.PWR_PD_STATUS] s.dev d)) ∧
  ((∀ (s : State) (n : Nat), n < 9 → Reach s (R.TROUGH_POOL_USED n) → let u := poolUsed s.dev n
     Completes (.poolUsedRead n) s fun d =>
       Sent (.hostRead (BitVec.ofNat 32 (mibUp (max (amGet 0 s.dev.trough.peak n) u) * 65536 + mibUp u))) s.dev d ∧
       amGet 0 d.trough.peak n = u ∧ Keeps [] [] s.dev d) ∧
   (∀ (s : State) (n : Nat), n < 12 → Reach s (R.SLC_QUEUE n) → let q := slcDepth s.dev n
     (slcPowered s.dev n = true → Completes (.slcQueueRead n) s fun d =>
       Sent (.hostRead (BitVec.ofNat 32 (min 128 (max (s.dev.slcOf n).peak q) * 65536 + min 128 q))) s.dev d ∧
       d.slcOf n = { s.dev.slcOf n with peak := q } ∧ (∀ k, k ≠ n → d.slcOf k = s.dev.slcOf k) ∧ Keeps [.slices] [] s.dev d) ∧
     (slcPowered s.dev n = false → Completes (.slcQueueRead n) s fun d => Sent (.hostRead 0) s.dev d ∧ Keeps [] [] s.dev d)) ∧
   (∀ (s : State) (i : Nat), i < 256 → Reach s R.CLS_SA_CMD → saBusy s.dev = false → let e := saOf s.dev i
     Completes (.saRead i) s fun d => d.rd R.CLS_SA_ATTR = e.attr ∧ d.rd R.CLS_SA_SVC = e.svc ∧
       (∀ j, j < 4 → d.rn (R.CLS_SA_ADDR j) = e.addr.toNat / 2 ^ (96 - 32 * j) % 2 ^ 32) ∧
       d.fg F.CLS_SA_CMD_busy = 1 ∧ d.fg F.CLS_SA_CMD_index = i ∧ d.cls = { s.dev.cls with saPend := none } ∧
       Keeps [.cls] [R.CLS_SA_ATTR, R.CLS_SA_SVC, R.CLS_SA_ADDR 0, R.CLS_SA_ADDR 1, R.CLS_SA_ADDR 2, R.CLS_SA_ADDR 3, R.CLS_SA_CMD] s.dev d))

/-- R86, R87: with no service-address command in progress, WRITE and INVALIDATE begin one: the entry waits for its completion, a WRITE of an
entry the checks refuse reports its code and changes nothing; at the completion the entry holds what waited and busy clears. R108: at the
end of a window the meter starts anew; the boundary class and the quotas come from the classes' offered work, best class first, against
the time of the enabled lanes less the queues above their target. -/
def Obligations.Admission : Prop :=
  ((∀ (s : State) (i : Nat), i < 256 → Reach s R.CLS_SA_CMD → saBusy s.dev = false →
     Completes (.saWrite i) s fun d =>
       d.fg F.CLS_SA_CMD_busy = 1 ∧ d.fg F.CLS_SA_CMD_index = i ∧ d.fg F.CLS_SA_CMD_err = saRefusal s.dev i (saStaged s.dev) ∧
       d.cls = { s.dev.cls with saPend := if saRefusal s.dev i (saStaged s.dev) = 0 then some (i, saStaged s.dev) else none } ∧
       Keeps [.cls] [R.CLS_SA_CMD] s.dev d) ∧
   (∀ (s : State) (i : Nat), i < 256 → Reach s R.CLS_SA_CMD → saBusy s.dev = false →
     Completes (.saInvalidate i) s fun d =>
       d.fg F.CLS_SA_CMD_busy = 1 ∧
       d.cls = { s.dev.cls with saPend := some (i, { saOf s.dev i with attr := (saOf s.dev i).attr &&& 0x7FFFFFFF#32 }) } ∧
       Keeps [.cls] [R.CLS_SA_CMD] s.dev d) ∧
   (∀ (s : State) (i : Nat) (e : SaEntry), saBusy s.dev = true → s.dev.cls.saPend = some (i, e) →
     Completes .saCmdComplete s fun d =>
       saOf d i = e ∧ (∀ j, j ≠ i → saOf d j = saOf s.dev j) ∧ d.fg F.CLS_SA_CMD_busy = 0 ∧ Keeps [.cls] [R.CLS_SA_CMD] s.dev d)) ∧
  (∀ s : State,
     let q := (activeSlices s.dev).foldl (fun n k => n + slcDepth s.dev k) 0
     let b := activeLanes s.dev * 40 - (q - min (s.dev.fg F.CLS_ADM_CTL_q_tgt) (128 * (activeSlices s.dev).length))
     let off := s.dev.cls.meter.offered
     let total := off.getD 0 0 + off.getD 1 0 + off.getD 2 0 + off.getD 3 0 + off.getD 4 0
     Completes .admissionWindowEnd s fun d =>
       d.cls.meter.offered = [0, 0, 0, 0, 0] ∧ d.cls.meter.admitted = [0, 0, 0, 0, 0] ∧ (∀ c ∈ d.cls.meter.carry, c ≤ 15) ∧
       (total ≤ b → d.fg F.CLS_STATUS_boundary = 7 ∧ d.fg F.CLS_STATUS_shedding = 0 ∧
         d.cls.meter.quota = [none, none, none, none, none]) ∧
       Keeps [.cls, .mon] [R.CLS_STATUS] s.dev d)

/-- R64, R67, R105: a lane takes the item at the head of its slice's queue: 25 cycles a quarter-slot are counted; a plain request within its
rate is booked, and its answer is built with T3 equal to the launch point and committed. (R94: an ARP request likewise.) -/
def Obligations.LaneServes : Prop :=
  ∀ (s : State) (k ord : Nat) (t : Inst) (i : Item) (rest : List Item), lanesRun s.dev k = true → (s.dev.slcOf k).reprom = [] →
    (s.dev.slcOf k).queue = i :: rest → i.saIdx < 256 →
    let served (f : Bytes) (ctr : Nat) (d : Device) := (d.slcOf k).queue = rest ∧
      d.cntOf (K.SLC_ITEMS k) = (s.dev.cntOf (K.SLC_ITEMS k) + 1) % 2 ^ 48 ∧
      d.cntOf (K.SLC_QSLOTS k) = (s.dev.cntOf (K.SLC_QSLOTS k) + i.cost) % 2 ^ 48 ∧
      d.cntOf (K.SLC_BUSY_CYCLES k) = (s.dev.cntOf (K.SLC_BUSY_CYCLES k) + 25 * i.cost) % 2 ^ 48 ∧
      d.cntOf ctr = (s.dev.cntOf ctr + 1) % 2 ^ 48 ∧
      Booked s.dev d i.port t f
    (∀ id, i.work = .ntp → ntpIdent s.dev (smears s.dev i.sa) = some id →
      (foldClient s.dev i.src.toNat i.stamp i.prof i.pref false).1 = .within →
      let answer (t3 : Inst) : Bytes := answerFrame s.dev i (ntpBody s.dev i.sa (udpOf i.bytes) i.stamp t3 id none)
      let te := promiseAt s.dev i.stamp F.PEEL_PROMISE_NTP F.PEEL_BUILD_plain
      Bookable s.dev i.port te (te + searchLen s.dev) ((answer s.dev.now).length + 4) (gateClass s.dev i.port (itemTci s.dev i)) ord t →
      Completes (.laneTakeItem k) s fun d => served (answer t) (K.SA_NTP_ANSWERED i.saIdx) d ∧
        Keeps [.slices, .cnts, .mon, .cls, .peel, .sched] [R.TROUGH_STATUS, R.TROUGH_POOL_DROPS 3] s.dev d) ∧
    (i.work = .arp → let te := s.dev.now + gLead s.dev
      Bookable s.dev i.port te (te + searchLen s.dev) ((arpReply s.dev i).length + 4) (gateClass s.dev i.port (itemTci s.dev i)) ord t →
      Completes (.laneTakeItem k) s fun d => served (arpReply s.dev i) (K.SA_ARP_ND i.saIdx) d ∧
        Keeps [.slices, .cnts, .mon, .peel, .sched] [R.TROUGH_STATUS] s.dev d)

/-- R211, R212, R213, R214: a frame that arrives with its link up counts its octets; one with a code error, of a bad length or FCS counts
under that and goes no further; of the good ones, MAC control frames and link-local frames a port does not hand to the host end at their
counters, and any other frame reaches the classifier, which drops and counts it while it is disabled. R224, R453, R454: a good frame on
port 16 bypasses the classifier and goes to the host: into the posted buffer of the FRAME_RX ring that takes the port, with its
completion. -/
def Obligations.FramesReceived : Prop :=
  ((∀ (s : State) (n b c u k : Nat) (ce ok : Bool) (f : Bytes), n < 16 → linkIsUp s.dev n = true → portUsed s.dev n = true →
     s.dev.powered 9 = true → badFrame s.dev n (f.length + 4) ce ok = some k →
     Completes (.portFrameReceive n b ce ok c u f) s fun d =>
       statOf d n P.RX_OCTETS_ALL = (statOf s.dev n P.RX_OCTETS_ALL + (f.length + 4)) % 2 ^ 40 ∧
       statOf d n P.RX_FEC_CORR = (statOf s.dev n P.RX_FEC_CORR + c) % 2 ^ 40 ∧
       statOf d n P.RX_FEC_UNCORR = (statOf s.dev n P.RX_FEC_UNCORR + u) % 2 ^ 40 ∧
       statOf d n k = (statOf s.dev n k + 1) % 2 ^ 40 ∧
       Keeps [.stats] [R.PORT_HALF_LO n, R.PORT_HALF_HI n] s.dev d) ∧
   (∀ (s : State) (n b c u : Nat) (f : Bytes), n < 16 → linkIsUp s.dev n = true → portUsed s.dev n = true →
     s.dev.powered 9 = true → badFrame s.dev n (f.length + 4) false true = none → s.dev.up (.port n) = true →
     s.dev.fg (F.PORT_STATUS_rx_cal n) = 2 →
     ((parseEth f).etype = 0x8808 → Completes (.portFrameReceive n b false true c u f) s fun d =>
       statOf d n P.RX_MAC_CTRL = (statOf s.dev n P.RX_MAC_CTRL + 1) % 2 ^ 40 ∧
       statOf d n P.RX_FRAMES_OK = (statOf s.dev n P.RX_FRAMES_OK + 1) % 2 ^ 40 ∧
       Keeps [.stats, .mon] [R.PORT_HALF_LO n, R.PORT_HALF_HI n] s.dev d) ∧
     ((parseEth f).etype ≠ 0x8808 → (parseEth f).dst / 16 = 0x0180C200000 → (parseEth f).etype ≠ 0x88F7 → isEsmc f = false →
       s.dev.fb (F.PORT_CTL_l2ctl_host n) = false → Completes (.portFrameReceive n b false true c u f) s fun d =>
       statOf d n P.RX_L2CTL = (statOf s.dev n P.RX_L2CTL + 1) % 2 ^ 40 ∧
       Keeps [.stats, .mon] [R.PORT_HALF_LO n, R.PORT_HALF_HI n] s.dev d) ∧
     ((parseEth f).etype ≠ 0x8808 → (parseEth f).dst / 16 ≠ 0x0180C200000 → poolPolicy s.dev 0 = 0 →
       poolRoom s.dev 0 (cellsOf f.length) = true → s.dev.up .cls = false →
       Completes (.portFrameReceive n b false true c u f) s fun d =>
       statOf d n P.RX_FRAMES_OK = (statOf s.dev n P.RX_FRAMES_OK + 1) % 2 ^ 40 ∧ Counted K.CLS_DROP_DISABLED s.dev d ∧
       Keeps [.stats, .mon, .cnts] [R.PORT_HALF_LO n, R.PORT_HALF_HI n] s.dev d))) ∧
  (∀ (s : State) (b r slot len : Nat) (f : Bytes), linkIsUp s.dev 16 = true → s.dev.powered 11 = true →
     badFrame s.dev 16 (f.length + 4) false true = none → s.dev.up (.port 16) = true → s.dev.fg (F.PORT_STATUS_rx_cal 16) = 2 →
     (parseEth f).etype ≠ 0x8808 → frameRxRing s.dev 16 = some r → ringMoves s.dev r = true →
     (s.dev.ring r).posted = [{ slot, len, bad := false }] → f.length ≤ len → f ≠ [] → s.dev.fb (F.HIF_RING_STATUS_phase r) = false →
     Completes (.mgmtFrameReceive b false true f) s fun d =>
       (d.ring r).posted = [] ∧ Sent (.dma r f) s.dev d ∧
       Sent (.cqe r (s.dev.ring r).cqTail
         (withPhase (frameRxCqe (rxStamp s.dev 16 (b % 125)) f.length 0 16 0) false)) s.dev d ∧
       statOf d 16 P.RX_FRAMES_OK = (statOf s.dev 16 P.RX_FRAMES_OK + 1) % 2 ^ 40)

/-- R204: alignment held without faults brings the link up and calibrations start; its loss takes it down, counted. R209: the probe's 1,024
measurements of each receive strobe set the phase, write PORTn_ING_PHASE and make the port READY; the check of each second calibrates anew
after a slip and changes nothing else otherwise. -/
def Obligations.PortLinks : Prop :=
  ((∀ (s : State) (n speed : Nat), n < 16 → portUsed s.dev n = true → portPowered s.dev n = true → portPll s.dev n = true →
     linkIsUp s.dev n = false → Completes (.linkUp n speed) s fun d =>
       linkIsUp d n = true ∧ d.fg (F.PORT_STATUS_link_chg n) = 1 ∧ d.fg (F.PORT_STATUS_rx_cal n) = 1 ∧
       d.fg (F.PEEL_P_STATUS_cal n) = 1 ∧ Keeps [.peel] [R.PORT_STATUS n, R.PEEL_P_STATUS n] s.dev d) ∧
   (∀ (s : State) (n : Nat) (aligned lf rf : Bool), n < 16 → linkIsUp s.dev n = true → (!aligned || lf || rf) = true →
     portBookings s.dev n = [] → Completes (.linkDown n aligned lf rf) s fun d =>
       linkIsUp d n = false ∧ d.fg (F.PORT_STATUS_link_chg n) = 1 ∧ d.fb (F.PORT_STATUS_aligned n) = aligned ∧
       d.fb (F.PORT_STATUS_local_fault n) = lf ∧ d.fb (F.PORT_STATUS_remote_fault n) = rf ∧ d.fg (F.PORT_STATUS_rx_cal n) = 0 ∧
       statOf d n P.LINK_DOWN = (statOf s.dev n P.LINK_DOWN + 1) % 2 ^ 40 ∧
       Keeps [.peel, .stats, .nts] [R.PORT_STATUS n, R.PEEL_P_STATUS n, R.PORT_HALF_LO n, R.PORT_HALF_HI n] s.dev d)) ∧
  ((∀ (s : State) (n : Nat), n < 16 → s.dev.fg (F.PORT_STATUS_rx_cal n) = 1 → probeValid s.dev = true →
     probeHas s.dev (rxLanes s.dev n) 1024 = true → Completes (.rxCalDone n) s fun d =>
       d.fg (F.PORT_STATUS_rx_cal n) = 2 ∧
       amGet [] d.peel.ingOff n = (rxLanes s.dev n).map (fun k => divNearI (probeMean s.dev k) psU) ∧
       Keeps [.peel] [R.PORT_STATUS n, R.PORT_ING_PHASE n] s.dev d) ∧
   (∀ (s : State) (n : Nat), n < 16 → s.dev.fg (F.PORT_STATUS_rx_cal n) = 2 → s.dev.fb (F.PORT_STATUS_rx_lpi n) = false →
     probeHas s.dev (rxLanes s.dev n) 16 = true → amGet 0 s.dev.peel.calAt (0x100 + n) + 800000000 ≤ s.dev.tm.osc →
     Completes (.rxCalCheck n) s fun d =>
       amGet 0 d.peel.calAt (0x100 + n) = s.dev.tm.osc ∧
       ((d.fg (F.PORT_STATUS_rx_cal n) = 2 ∧ Keeps [.peel] [] s.dev d) ∨
        (d.fg (F.PORT_STATUS_rx_cal n) = 1 ∧ d.fg (F.PORT_STATUS_slip n) = 1 ∧ Keeps [.peel, .mon, .cnts] [R.PORT_STATUS n] s.dev d))))

/-- R200, R202, R215: a stopped group takes a mode, one that is not is refused with cfg_err; a port with a MAC address is enabled, one without
is refused; stat_clr clears the port's counters and half-range flags and no other port's. R216, R217, R218, R220: low-power idle is
permitted only on PMDs that have it and without SyncE; its times wake a sleeping port; an idle port falls asleep and counts it, as does
the partner's side; SyncE is refused on a fifth port, on port 16 and with LPI. R221, R222: a valid ESMC PDU gives the received QL; 5 s
without one takes valid down; each second, and after a change, a port books and commits a PDU with the QL to be sent. -/
def Obligations.PortSettings : Prop :=
  ((∀ (s : State) (g : Nat) (w : Word), g < 4 → Reach s (R.PORT_MODE (4 * g)) → bits w.toNat 16 2 ≠ 3 → bits w.toNat 12 2 ≠ 3 →
     ((∀ p, p < 4 → s.dev.down (.port (4 * g + p)) = true ∧ linkIsUp s.dev (4 * g + p) = false) →
       Completes (.portModeWrite (4 * g) w) s fun d =>
         d.fg (F.PORT_MODE_grp (4 * g)) = bits w.toNat 16 2 ∧ d.fg (F.PORT_MODE_pmd (4 * g)) = bits w.toNat 12 2 ∧
         d.fg (F.PORT_MODE_an (4 * g)) = bits w.toNat 8 1 ∧ Keeps [] [R.PORT_MODE (4 * g)] s.dev d) ∧
     ((∃ p, p < 4 ∧ s.dev.down (.port (4 * g + p)) = false) →
       Completes (.portModeWrite (4 * g) w) s fun d =>
         d.fg (F.PORT_STATUS_cfg_err (4 * g)) = 1 ∧ Keeps [] [R.PORT_STATUS (4 * g)] s.dev d)) ∧
   (∀ (s : State) (n : Nat), Reach s (R.PORT_CTL n) → portUsed s.dev n = true → s.dev.fb (F.PORT_CTL_en n) = false →
     (portMac s.dev n ≠ 0 → s.dev.stopOf (.port n) = none → linkIsUp s.dev n = false → Completes (.portEnable n) s fun d =>
       d.fb (F.PORT_CTL_en n) = true ∧ d.fb (F.PORT_CTL_drained n) = false ∧ Keeps [] [R.PORT_CTL n] s.dev d) ∧
     (portMac s.dev n = 0 → Completes (.portEnable n) s fun d =>
       d.fg (F.PORT_STATUS_cfg_err n) = 1 ∧ Keeps [] [R.PORT_STATUS n] s.dev d)) ∧
   (∀ (s : State) (n : Nat), n < 17 → Reach s (R.PORT_CTL n) → Completes (.portStatClear n) s fun d =>
     (∀ k, k < 42 → statOf d n k = 0) ∧ (∀ m k, m ≠ n → k < 64 → statOf d m k = statOf s.dev m k) ∧
     d.rd (R.PORT_HALF_LO n) = 0 ∧ d.rd (R.PORT_HALF_HI n) = 0 ∧
     Keeps [.stats] [R.PORT_HALF_LO n, R.PORT_HALF_HI n] s.dev d)) ∧
  ((∀ (s : State) (n : Nat), n < 17 → Reach s (R.PORT_CTL n) →
     (lpiPmd s.dev n = true → s.dev.fb (F.PORT_SYNCE_ref_en n) = false → s.dev.fb (F.PORT_SYNCE_esmc_en n) = false →
       Completes (.portLpiEnable n true) s fun d => d.fg (F.PORT_CTL_lpi_en n) = 1 ∧ Keeps [] [R.PORT_CTL n] s.dev d) ∧
     ((lpiPmd s.dev n && !s.dev.fb (F.PORT_SYNCE_ref_en n) && !s.dev.fb (F.PORT_SYNCE_esmc_en n)) = false →
       Completes (.portLpiEnable n true) s fun d => d.fg (F.PORT_STATUS_cfg_err n) = 1 ∧ Keeps [] [R.PORT_STATUS n] s.dev d)) ∧
   (∀ (s : State) (n : Nat) (w : Word), n < 17 → Reach s (R.PORT_LPI n) → Completes (.portLpiWrite n w) s fun d =>
     d.fg (F.PORT_LPI_tw n) = bits w.toNat 16 16 ∧ d.fg (F.PORT_LPI_ts n) = bits w.toNat 4 12 ∧ d.fb (F.PORT_STATUS_tx_lpi n) = false ∧
     Keeps [] [R.PORT_LPI n, R.PORT_STATUS n] s.dev d) ∧
   (∀ (s : State) (n : Nat), n < 17 → s.dev.fb (F.PORT_CTL_lpi_en n) = true → lpiPmd s.dev n = true → s.dev.fg (F.PORT_LPI_tw n) ≠ 0 →
     linkIsUp s.dev n = true → s.dev.fb (F.PORT_STATUS_tx_lpi n) = false → portBookings s.dev n = [] →
     Completes (.txLpiEntry n) s fun d => d.fg (F.PORT_STATUS_tx_lpi n) = 1 ∧
       statOf d n P.TX_LPI = (statOf s.dev n P.TX_LPI + 1) % 2 ^ 40 ∧
       Keeps [.stats] [R.PORT_STATUS n, R.PORT_HALF_LO n, R.PORT_HALF_HI n] s.dev d) ∧
   (∀ (s : State) (n : Nat) (asleep : Bool), n < 17 → linkIsUp s.dev n = true →
     Completes (.partnerLpiChange n asleep) s fun d => d.fb (F.PORT_STATUS_rx_lpi n) = asleep ∧
       statOf d n P.RX_LPI = (statOf s.dev n P.RX_LPI + if asleep && !s.dev.fb (F.PORT_STATUS_rx_lpi n) then 1 else 0) % 2 ^ 40 ∧
       Keeps [.stats] [R.PORT_STATUS n, R.PORT_HALF_LO n, R.PORT_HALF_HI n] s.dev d) ∧
   (∀ (s : State) (n : Nat) (w : Word), n < 17 → Reach s (R.PORT_SYNCE n) →
     let others := ((List.range 16).filter fun p => !(p == n) && s.dev.fb (F.PORT_SYNCE_ref_en p)).length
     let refused := (w.getLsbD 31 && (n == 16 || decide (4 ≤ others))) || bits w.toNat 16 5 == 31 ||
       (s.dev.fb (F.PORT_CTL_lpi_en n) && (w.getLsbD 31 || w.getLsbD 30))
     (refused = false → Completes (.portSynceWrite n w) s fun d => d.fb (F.PORT_SYNCE_ref_en n) = w.getLsbD 31 ∧
       d.fb (F.PORT_SYNCE_esmc_en n) = w.getLsbD 30 ∧ d.fb (F.PORT_SYNCE_ext_en n) = w.getLsbD 29 ∧
       d.fg (F.PORT_SYNCE_refslot n) = bits w.toNat 16 5 ∧ Keeps [] [R.PORT_SYNCE n] s.dev d) ∧
     (refused = true → Completes (.portSynceWrite n w) s fun d =>
       d.fg (F.PORT_STATUS_cfg_err n) = 1 ∧ Keeps [] [R.PORT_STATUS n] s.dev d))) ∧
  ((∀ (s : State) (n : Nat) (f : Bytes), n < 16 → linkIsUp s.dev n = true → portUsed s.dev n = true → s.dev.powered 9 = true →
     badFrame s.dev n (f.length + 4) false true = none → s.dev.up (.port n) = true → s.dev.fg (F.PORT_STATUS_rx_cal n) = 2 →
     s.dev.fb (F.PORT_SYNCE_esmc_en n) = true → esmcGood f = true → (parseEth f).etype = 0x8809 → (parseEth f).dst = 0x0180C2000002 →
     Completes (.esmcReceive n f) s fun d =>
       d.fg (F.PORT_ESMC_RX_ssm n) = byteAt f 27 % 16 ∧ d.fg (F.PORT_ESMC_RX_valid n) = 1 ∧ (d.portSt n).esmcAt = s.dev.tm.osc ∧
       statOf d n P.RX_L2CTL = (statOf s.dev n P.RX_L2CTL + 1) % 2 ^ 40 ∧
       Keeps [.stats, .mon, .ports] [R.PORT_ESMC_RX n, R.PORT_HALF_LO n, R.PORT_HALF_HI n] s.dev d) ∧
   (∀ (s : State) (n : Nat), n < 16 → s.dev.fb (F.PORT_ESMC_RX_valid n) = true →
     (s.dev.portSt n).esmcAt + 5 * 800000000 ≤ s.dev.tm.osc → Completes (.esmcRxTimeout n) s fun d =>
       d.fg (F.PORT_ESMC_RX_valid n) = 0 ∧ Keeps [] [R.PORT_ESMC_RX n] s.dev d) ∧
   (∀ (s : State) (n ord : Nat) (t : Inst) (event : Bool), esmcOn s.dev n = true →
     let te := if event then s.dev.now else s.dev.nowSec * secU + 10000000 * n * nsU
     let f := esmcPdu s.dev n event
     Bookable s.dev n te (te + 10000000 * nsU) (f.length + 4) (gateClass s.dev n none) ord t →
     let sent (d : Device) := (d.portSt n).sent = some (qlToSend s.dev n) ∧ d.fg (F.PORT_ESMC_TX_ssm n) = (qlToSend s.dev n).1 % 16 ∧
       Booked s.dev d n t f ∧ Keeps [.ports, .peel, .sched, .mon] [R.PORT_ESMC_TX n, R.TROUGH_STATUS] s.dev d
     (event = false → (s.dev.portSt n).infoSec ≠ s.dev.nowSec → Completes (.esmcInfoSend n) s fun d =>
       (d.portSt n).infoSec = s.dev.nowSec ∧ sent d) ∧
     (∀ q, event = true → (s.dev.portSt n).sent = some q → q ≠ qlToSend s.dev n → Completes (.esmcEventSend n) s sent)))

/-- R115, R116: an accepted booking holds its launch point, the first of the grid in the window that no earlier than now + g_lead qualifies,
and answers the handle; one whose window ends before now + g_lead is PAST, one that begins beyond 60 s TOO_FAR, and a refused one holds
nothing. R117, R119: a commit at or before T − g_commit stores the frame; a later one voids the booking, as does the lack of one: the slot
is missed, counted, and its requester is told PAST; so is a committed frame whose first cell is not there at T − 40 ns. -/
def Obligations.PeelBookings : Prop :=
  (∀ (s : State) (n : Nat) (te tl : Inst) (len gcls : Nat) (mayRp : Bool),
     (∀ (ord : Nat) (t : Inst), bookCode s.dev n te tl len (gcls % 8) = (T.ACCEPTED, ord, t) → (wheelPlace s.dev t).1 < 3 →
       nearOf s.dev n < 32768 → Completes (.peelBook n te tl len gcls mayRp) s fun d =>
         te ≤ t ∧ s.dev.now + gLead s.dev ≤ t ∧ t ≤ tl ∧ t = ptTime (portMode s.dev n) (amGet [] s.dev.peel.laneOff n) ord ∧
         (∃ b, d.peel = { s.dev.peel with bookings := s.dev.peel.bookings ++ [b] } ∧ b.handle = s.dev.sched.nextHandle ∧ b.port = n ∧
           b.due = t ∧ b.pt = ord ∧ b.len = len ∧ b.gcls = gcls % 8 ∧ b.mayRp = mayRp ∧ b.frame = none ∧
           b.guardC = s.dev.fg F.PEEL_GUARD_g_commit) ∧
         Sends [.peelReply s.dev.sched.nextHandle T.ACCEPTED t] s.dev d ∧ d.sched.pend = s.dev.sched.pend ∧
         Keeps [.peel, .sched] [] s.dev d) ∧
     (portOpen s.dev n = true → TimeOk s → s.dev.fg (F.PEEL_P_STATUS_cal n) = 2 →
       (tl < s.dev.now + gLead s.dev → Completes (.peelBook n te tl len gcls mayRp) s fun d =>
         Sends [.peelReply 0 T.PAST 0] s.dev d ∧ Keeps [] [] s.dev d) ∧
       (s.dev.now + gLead s.dev ≤ tl → s.dev.now + 60 * secU < te → Completes (.peelBook n te tl len gcls mayRp) s fun d =>
         Sends [.peelReply 0 T.TOO_FAR 0] s.dev d ∧ Keeps [] [] s.dev d))) ∧
  (∀ (s : State) (h : Nat) (f : Bytes) (b : Booking), findBooking s.dev h = some b → b.handle = h → b.owner = .engine none →
     b.resp = none →
     (b.frame = none → s.dev.now + b.guardC * nsU ≤ b.due → Completes (.peelCommit h f) s fun d =>
       (∃ b', findBooking d h = some b' ∧ b'.frame = some f ∧ b'.due = b.due ∧ b'.port = b.port ∧ b'.pt = b.pt) ∧
       Keeps [.peel, .mon] [R.TROUGH_STATUS] s.dev d) ∧
     (b.frame = none → b.due < s.dev.now + b.guardC * nsU → b.mayRp = false → Completes (.peelCommit h f) s fun d =>
       findBooking d h = none ∧ Counted (K.PEEL_DROP_MISS b.port) s.dev d ∧ Sends [.peelReply h T.PAST 0] s.dev d ∧
       Keeps [.peel, .mon, .cnts] [] s.dev d) ∧
     (b.frame = none → b.due < s.dev.now + b.guardC * nsU → TimeOk s → Completes (.bookingVoid h) s fun d =>
       findBooking d h = none ∧
       Counted (if b.mayRp && !b.again then K.PEEL_REPROMISED b.port else K.PEEL_DROP_MISS b.port) s.dev d ∧
       Sends [.peelReply h T.PAST (if b.mayRp && !b.again then b.due else 0)] s.dev d ∧ Keeps [.peel, .cnts] [] s.dev d) ∧
     (b.frame = some f → b.due < s.dev.now + 40 * nsU + s.dev.tm.tickLen → TimeOk s → b.mayRp = false →
       Completes (.peelFetchMiss h) s fun d =>
       findBooking d h = none ∧ d.cntOf (K.PEEL_MISS_FETCH b.port) = (s.dev.cntOf (K.PEEL_MISS_FETCH b.port) + 1) % 2 ^ 48 ∧
       d.cntOf (K.PEEL_DROP_MISS b.port) = (s.dev.cntOf (K.PEEL_DROP_MISS b.port) + 1) % 2 ^ 48 ∧
       Sends [.peelReply h T.PAST 0] s.dev d ∧ Keeps [.peel, .cnts] [] s.dev d))

/-- R115, R34: a committed frame whose instant lies in the tick in progress leaves at exactly that instant, and its booking ends; nothing
leaves before that tick. R135: a sleeping port with a booking due within its wake time and 100 ns is signalled to wake. R125, R126:
entries move from the wheel's slots down as their ticks are reached, and from the far list into the wheels within the last second and
1.31072 ms; no booking is lost. R118: the clamped guard times are stored if g_commit is below g_lead; else the whole write is ignored. -/
def Obligations.PeelLaunches : Prop :=
  (∀ (s : State) (h : Nat) (f : Bytes) (b : Booking), findBooking s.dev h = some b → b.handle = h → b.frame = some f → TimeOk s →
     (b.due < s.dev.now + s.dev.tm.tickLen → b.owner = .engine none → b.resp = none → b.port < 16 →
       Completes (.peelLaunch h) s fun d =>
       findBooking d h = none ∧ Sends [.frame b.port b.due f] s.dev d ∧ Counted (K.PEEL_LAUNCHED b.port) s.dev d ∧
       Keeps [.peel, .cnts, .stats] [R.PORT_HALF_LO b.port, R.PORT_HALF_HI b.port] s.dev d) ∧
     (s.dev.now + s.dev.tm.tickLen ≤ b.due → Completes (.peelLaunch h) s fun d => Sends [] s.dev d ∧ Keeps [] [] s.dev d)) ∧
  (∀ (s : State) (n : Nat) (b : Booking), s.dev.fb (F.PORT_STATUS_tx_lpi n) = true → b ∈ s.dev.peel.bookings → b.port = n →
     b.due ≤ s.dev.now + (s.dev.fg (F.PORT_LPI_tw n) + 100) * nsU + s.dev.tm.tickLen → n < 17 →
     Completes (.peelLpiWake n) s fun d => d.fb (F.PORT_STATUS_tx_lpi n) = false ∧ Sends [.portWake n] s.dev d ∧
       Keeps [] [R.PORT_STATUS n] s.dev d) ∧
  (∀ (s : State) (n : Nat), (s.dev.peel.bookings.map (·.handle)).Nodup →
     (Completes (.farListRelease n) s fun d =>
       d.peel.bookings = s.dev.peel.bookings.map (fun b =>
         if b.port = n ∧ b.level = 3 ∧ b.due ≤ s.dev.now + secU + 1310720 * nsU then { b with level := 2 } else b) ∧
       Keeps [.peel] [] s.dev d) ∧
     (Completes (.wheelSlotCascade n) s fun d =>
       d.peel.bookings.map (fun b => (b.handle, b.level)) = s.dev.peel.bookings.map (fun b => (b.handle,
         if b.port = n ∧ (b.level = 1 ∨ b.level = 2) ∧ b.tick / 2 ^ 10 ≤ s.dev.tm.ticks / 2 ^ 10 then 0
         else if b.port = n ∧ b.level = 2 ∧ b.tick / 2 ^ 20 ≤ s.dev.tm.ticks / 2 ^ 20 then 1 else b.level)) ∧
       Keeps [.peel] [R.TROUGH_STATUS] s.dev d)) ∧
  (∀ (s : State) (w : Word), Reach s R.PEEL_GUARD →
     let c := clamp 200 1000 (bits w.toNat 16 16)
     let l := clamp 250 4000 (bits w.toNat 0 16)
     Completes (.peelGuardWrite w) s fun d =>
       d.fg F.PEEL_GUARD_g_commit = (if c < l then c else s.dev.fg F.PEEL_GUARD_g_commit) ∧
       d.fg F.PEEL_GUARD_g_lead = (if c < l then l else s.dev.fg F.PEEL_GUARD_g_lead) ∧ Keeps [] [R.PEEL_GUARD] s.dev d)

/-- R128, R129, R315: the probe's measurements add up per strobe; 1,024 of each lane give the port's grid and make it calibrated; the check of
each second discards the port's bookings after a slip and changes nothing else otherwise. R134: WRITE and READ move one entry of the
selected port's staged list between the registers and the list. R132, R134, R33, R131: a REQUEST that is accepted schedules the staged
list at the first cycle start at or after its instant; one with an interval below 40 ns or a cycle below 1,000 ns is PAST; a cancel in
time ends it; at the change instant the list is in force. -/
def Obligations.EgressAndGates : Prop :=
  ((∀ (s : State) (k : Nat) (ps : Int), probeValid s.dev = true → TimeOk s → Completes (.probeMeasurement k ps) s fun d =>
       probeOf d k = ((probeOf s.dev k).1 + 1, (probeOf s.dev k).2 + ps) ∧ Keeps [.peel] [] s.dev d) ∧
   (∀ (s : State) (n : Nat), n < 16 → s.dev.fg (F.PEEL_P_STATUS_cal n) = 1 → probeValid s.dev = true →
     probeHas s.dev (lanesOf s.dev n) 1024 = true → Completes (.peelCalDone n) s fun d =>
       d.fg (F.PEEL_P_STATUS_cal n) = 2 ∧ (amGet [] d.peel.laneOff n).length = (lanesOf s.dev n).length ∧
       amGet 0 d.peel.calAt n = s.dev.tm.osc ∧ d.peel.bookings = s.dev.peel.bookings ∧
       Keeps [.peel] [R.PEEL_P_STATUS n, R.PEEL_P_EGR_PHASE n] s.dev d) ∧
   (∀ (s : State) (n : Nat), n < 16 → s.dev.fg (F.PEEL_P_STATUS_cal n) = 2 → probeHas s.dev (lanesOf s.dev n) 16 = true →
     amGet 0 s.dev.peel.calAt n + 800000000 ≤ s.dev.tm.osc → portBookings s.dev n = [] →
     Completes (.peelCalCheck n) s fun d =>
       amGet 0 d.peel.calAt n = s.dev.tm.osc ∧ d.peel.bookings = s.dev.peel.bookings ∧
       ((d.fg (F.PEEL_P_STATUS_cal n) = 2 ∧ Keeps [.peel] [] s.dev d) ∨
        (d.fg (F.PEEL_P_STATUS_cal n) = 1 ∧ d.fg (F.PEEL_P_STATUS_slip n) = 1 ∧
         Keeps [.peel, .mon, .cnts] [R.PEEL_P_STATUS n] s.dev d)))) ∧
  (∀ (s : State) (w : Word), Reach s R.PEEL_GCL_CMD →
     let e := s.dev.fg F.PEEL_GCL_IDX_entry
     (Completes (.gclWrite w) s fun d =>
       gclEntry d (gclPort s.dev) e = (s.dev.rn R.PEEL_GCL_LO, s.dev.fg F.PEEL_GCL_HI) ∧
       (∀ m k, k < 256 → e < 256 → (m, k) ≠ (gclPort s.dev, e) → gclEntry d m k = gclEntry s.dev m k) ∧
       Keeps [.peel] [R.PEEL_GCL_CMD] s.dev d) ∧
     (Completes (.gclRead w) s fun d =>
       d.rd R.PEEL_GCL_LO = BitVec.ofNat 32 (gclEntry s.dev (gclPort s.dev) e).1 ∧
       d.fg F.PEEL_GCL_HI = (gclEntry s.dev (gclPort s.dev) e).2 % 2 ^ 16 ∧
       Keeps [] [R.PEEL_GCL_CMD, R.PEEL_GCL_LO, R.PEEL_GCL_HI] s.dev d)) ∧
  ((∀ (s : State) (w : Word), Reach s R.PEEL_GCL_CMD →
     let n := gclPort s.dev
     let g := gclStaged (gclLenWrite w s.dev) n
     let at_ := dtSub (ofDt96 (s.dev.rn3 (R.PEEL_GCL_AT_W 0)))
     let h := s.dev.sched.nextHandle
     let regs := [R.PEEL_GCL_CMD, R.PEEL_GCL_RESULT, R.PEEL_GCL_HANDLE]
     requestCode s.dev (.gclChange n) (ofDtSub at_) = T.ACCEPTED →
     ((∀ e ∈ g.entries, 40 ≤ e.1) → 1000 ≤ s.dev.rn R.PEEL_GCL_CYCLE_NS → portBookings s.dev n = [] →
       Completes (.gclRequest w) s fun d =>
         d.fg F.PEEL_GCL_RESULT = T.ACCEPTED ∧ d.rd R.PEEL_GCL_HANDLE = BitVec.ofNat 32 h ∧
         (∃ due, due = ofDtSub (gclFirst g at_) ∧ (h, due, g) ∈ amGet [] d.peel.gatePend n ∧ d.sched.pend = s.dev.sched.pend ++
           [{ handle := h, due, act := .gclChange n, notify := false, tag := 0, stepped := false }]) ∧
         (∀ m, m ≠ n → amGet [] d.peel.gatePend m = amGet [] s.dev.peel.gatePend m) ∧ d.peel.bookings = s.dev.peel.bookings ∧
         Keeps [.peel, .sched] regs s.dev d) ∧
     ((∃ e ∈ g.entries, e.1 < 40) ∨ s.dev.rn R.PEEL_GCL_CYCLE_NS < 1000 → Completes (.gclRequest w) s fun d =>
         d.fg F.PEEL_GCL_RESULT = T.PAST ∧ d.rd R.PEEL_GCL_HANDLE = 0 ∧ Keeps [.peel] regs s.dev d)) ∧
   (∀ (s : State) (w : Word) (n : Nat) (e : TimedAct), Reach s R.PEEL_GCL_CMD → s.dev.sched.pend = [e] → e.act = .gclChange n →
     e.notify = false → e.handle = s.dev.rn R.PEEL_GCL_HANDLE →
     (s.dev.now + actLead e.act ≤ e.due → Completes (.gclCancel w) s fun d =>
       d.fg F.PEEL_GCL_RESULT = T.CANCELLED ∧ d.sched.pend = [] ∧ Sends [.timedOutcome e.handle T.CANCELLED] s.dev d ∧
       Keeps [.peel, .sched] [R.PEEL_GCL_CMD, R.PEEL_GCL_RESULT] s.dev d) ∧
     (TimeOk s → e.due < s.dev.now + actLead e.act → Completes (.gclCancel w) s fun d =>
       d.fg F.PEEL_GCL_RESULT = T.TOO_LATE ∧ d.sched.pend = [e] ∧
       Keeps [.peel] [R.PEEL_GCL_CMD, R.PEEL_GCL_RESULT] s.dev d)) ∧
   (∀ (s : State) (n : Nat) (e : TimedAct) (g : GateList), n < 16 → s.dev.sched.pend = [e] → isDue s.dev e = true →
     e.act = .gclChange n → e.notify = false → amGet [] s.dev.peel.gatePend n = [(e.handle, e.due, g)] →
     Completes (.gclChange n) s fun d =>
       (n, g) ∈ d.peel.gates ∧ (∀ p ∈ d.peel.gates, p.1 = n → p.2 = g) ∧ d.fg (F.PEEL_P_STATUS_gate_active n) = 1 ∧
       d.sched.pend = [] ∧ Sends [.timedOutcome e.handle (doneCode e)] s.dev d ∧
       Keeps [.peel, .sched] [R.PEEL_P_STATUS n, R.PEEL_P_GCL_STATUS n] s.dev d))

/-- R170, R154: a MINT job that ends gives its session one more cookie under the generation the job holds; the job is counted and leaves the
Oven. R171, R70: a mismatch or a failed test takes an Oven out of service, raises OVEN_FAULT and is recorded, and no job stays in it; a
passed known-answer test puts it back; setting a cleared bit of OVN_CTL starts that test. -/
def Obligations.Ovens : Prop :=
  (∀ (s : State) (id sid : Nat) (c2s s2c : Bytes) (j : OvenJob) (g : Gen) (st : Stream), s.dev.nts.jobs = [j] → j.id = id → j.oven < 24 →
     j.work = .mintJob sid c2s s2c → j.gens.head? = some g → s.dev.nts.streams = [st] → st.sid = sid → st.phase = .mint →
     st.cookies.length + 1 < st.ncookies → Completes (.ovenJobComplete id) s fun d =>
       d.nts.jobs = [] ∧ d.cntOf (K.OVN_JOBS j.oven) = (s.dev.cntOf (K.OVN_JOBS j.oven) + 1) % 2 ^ 48 ∧
       d.cntOf (K.OVN_BLOCKS j.oven) = (s.dev.cntOf (K.OVN_BLOCKS j.oven) + 9) % 2 ^ 48 ∧
       d.cntOf K.NTS_COOKIES_ISSUED = (s.dev.cntOf K.NTS_COOKIES_ISSUED + 1) % 2 ^ 48 ∧
       (∃ c, d.nts.streams = [{ st with cookies := st.cookies ++ [c] }] ∧ beAt c 2 2 = g.num % 65536 ∧ byteAt c 0 / 16 = 1) ∧
       Keeps [.nts, .cnts, .mon, .draws] [] s.dev d) ∧
  ((∀ (s : State) (k : Nat), k < 24 →
     let failed (d : Device) := (d.fg F.OVN_FAULT).testBit k = true ∧ (∀ i, i < 24 → i ≠ k →
         (d.fg F.OVN_FAULT).testBit i = (s.dev.fg F.OVN_FAULT).testBit i) ∧
       S.OVEN_FAULT ∈ d.intc.latched ∧ (∀ j ∈ d.nts.jobs, j.oven ≠ k)
     (∀ (j : OvenJob) (r : NtsReq), s.dev.nts.jobs = [j] → j.oven = k → j.work = .openJob r → Completes (.ovenMismatch k) s fun d =>
       failed d ∧ Keeps [.nts, .mon, .cnts, .peel] [R.OVN_FAULT] s.dev d) ∧
     (ovenOk s.dev k = true → s.dev.nts.jobs = [] → Completes (.ovenSelfTest k false) s fun d =>
       failed d ∧ Keeps [.nts, .mon, .cnts] [R.OVN_FAULT] s.dev d) ∧
     (k ∈ s.dev.nts.kat → Completes (.ovenKatDone k true) s fun d =>
       (d.fg F.OVN_FAULT).testBit k = false ∧ k ∉ d.nts.kat ∧ Keeps [.nts] [R.OVN_FAULT] s.dev d)) ∧
   (∀ (s : State) (w : Word), Reach s R.OVN_CTL → s.dev.stopOf .ovn = none → s.dev.fb F.OVN_CTL_en = true → w.getLsbD 31 = true →
     Completes (.ovnCtlWrite w) s fun d =>
       d.fg F.OVN_CTL_ovens = bits w.toNat 0 24 ∧ d.fb F.OVN_CTL_en = true ∧ d.fb F.OVN_CTL_stop = w.getLsbD 30 ∧
       (∀ k, k < 24 → w.getLsbD k = true → (s.dev.fg F.OVN_CTL_ovens).testBit k = false → k ∉ s.dev.nts.dead → k ∈ d.nts.kat) ∧
       Keeps [.nts] [R.OVN_CTL] s.dev d))

/-- R150, R151, R152: an OPEN that none of the refusals meets begins a session with a window of 16,384 bytes and is answered OPENED; a second
one of the same ID is RESET with BAD_STREAM; DATA takes window and waits as TLS bytes until a record is whole, and past the window ends
the session with WINDOW; FIN from the host completes the device's own FIN, and RESET ends the session. R151: a handshake or a request that
takes longer than its limit is RESET with TIMEOUT, counted and CLOSED; 1 s after the device's FIN the session is CLOSED. -/
def Obligations.KeSessions : Prop :=
  ((∀ (s : State) (n sid client tcpPort sa : Nat), canTake s.dev n 3 = true → 0 < sid → sid < 2 ^ 32 → sa < 256 →
     (openRefusal s.dev sid client sa = none → Completes (.streamOpen n sid client tcpPort sa) s fun d =>
       (∃ st, d.nts.streams = s.dev.nts.streams ++ [st] ∧ st.sid = sid ∧ st.ring = n ∧ st.client = BitVec.ofNat 128 client ∧
         st.tcpPort = tcpPort % 65536 ∧ st.sa = sa ∧ st.window = 16384 ∧ st.phase = .hello ∧ st.rx = []) ∧
       Sent (.streamEvent sid 8 0 0 []) s.dev d ∧ Keeps [.rings, .nts] [R.HIF_RING_STATUS n, R.HIF_RING_DONE n] s.dev d) ∧
     (∀ r, openRefusal s.dev sid client sa = some r → r ≠ 1 → Completes (.streamOpen n sid client tcpPort sa) s fun d =>
       Sent (.streamEvent sid 9 r 0 []) s.dev d ∧ Keeps [.rings] [R.HIF_RING_STATUS n, R.HIF_RING_DONE n] s.dev d)) ∧
   (∀ (s : State) (n sid : Nat) (bs : Bytes) (st : Stream), canTake s.dev n 3 = true → s.dev.nts.streams = [st] → st.sid = sid →
     st.ring = n → 0 < sid →
     let regs := [R.HIF_RING_STATUS n, R.HIF_RING_DONE n]
     (bs ≠ [] → bs.length ≤ 4096 → bs.length ≤ st.window → st.phase = .hello → (st.rx ++ bs).length < 5 →
       Completes (.streamData n sid bs) s fun d =>
       d.nts.streams = [{ st with window := st.window - bs.length, rx := st.rx ++ bs }] ∧ Keeps [.rings, .nts] regs s.dev d) ∧
     (bs.length ≤ 4096 → st.window < bs.length → Completes (.streamData n sid bs) s fun d =>
       d.nts.streams = [] ∧ Sent (.streamEvent sid 0xC 5 0 []) s.dev d ∧ Sent (.streamEvent sid 0xE 0 0 []) s.dev d ∧
       Keeps [.rings, .nts] regs s.dev d) ∧
     (st.phase = .closing → Completes (.streamFin n sid) s fun d =>
       d.nts.streams = [] ∧ Sent (.streamEvent sid 0xE 0 0 []) s.dev d ∧ Keeps [.rings, .nts] regs s.dev d) ∧
     (Completes (.streamReset n sid) s fun d =>
       d.nts.streams = [] ∧ Sent (.streamEvent sid 0xE 0 0 []) s.dev d ∧ Keeps [.rings, .nts] regs s.dev d))) ∧
  (∀ (s : State) (sid : Nat) (st : Stream), s.dev.nts.streams = [st] → st.sid = sid → st.ring < 256 → hostReach s.dev = true →
     let regs := [R.HIF_RING_STATUS st.ring, R.HIF_RING_DONE st.ring]
     let timeout (d : Device) := d.nts.streams = [] ∧ Sent (.streamEvent sid 0xC 4 0 []) s.dev d ∧
       Sent (.streamEvent sid 0xE 0 0 []) s.dev d ∧ d.cntOf K.NTSKE_TIMEOUT = (s.dev.cntOf K.NTSKE_TIMEOUT + 1) % 2 ^ 48 ∧
       Keeps [.rings, .nts, .cnts] regs s.dev d
     (st.phase = .hello ∨ st.phase = .kex ∨ st.phase = .sign ∨ st.phase = .finish → st.acceptAt + st.hsLimit * 80000000 ≤ s.dev.tm.osc →
       Completes (.keHandshakeTimeout sid) s timeout) ∧
     (st.phase = .request → st.hsAt + st.reqLimit * 80000000 ≤ s.dev.tm.osc → Completes (.keRequestTimeout sid) s timeout) ∧
     (∀ t, st.finAt = some t → t + 800000000 ≤ s.dev.tm.osc → Completes (.keCloseTimer sid) s fun d =>
       d.nts.streams = [] ∧ Sent (.streamEvent sid 0xE 0 0 []) s.dev d ∧ Keeps [.rings, .nts, .cnts] regs s.dev d))

/-- R157, R158, R159: the earliest rotation within 60 s gets its pending generation, numbered above every one held; a rotation makes it
current, moves the others down and retires the oldest; without one in flash it waits another second and sets fault; what retired is wiped
once no job uses it. R159, R160: a ROTATE outside 60 s of an automatic one, with none of the host's waiting, is scheduled; its cancel ends
it; PURGE is denied unless the policy allows it, and otherwise stops all minting until one new generation stands alone. -/
def Obligations.Starter : Prop :=
  ((∀ (s : State) (g : Gen) (r : Rotation), TimeOk s → s.dev.starter.current = some g → s.dev.starter.pending = none →
     autoRot s.dev = false → s.dev.starter.rotations = [r] → r.due ≤ s.dev.now + 60 * secU → linkUp s.dev = false →
     purging s.dev = false → Completes .starterPrepare s fun d =>
       (∃ p, d.starter.pending = some p ∧ p.num = (topGen s.dev.starter + 1) % 2 ^ 32) ∧
       d.starter.current = s.dev.starter.current ∧ d.starter.prior1 = s.dev.starter.prior1 ∧
       d.starter.prior2 = s.dev.starter.prior2 ∧ d.fg F.OVN_STARTER_STATUS_pending = 1 ∧
       Keeps [.nts, .trust, .draws] [R.OVN_STARTER_STATUS, R.OVN_STARTER_GEN] s.dev d) ∧
   (∀ (s : State) (e : TimedAct) (r : Rotation), s.dev.sched.pend = [e] → isDue s.dev e = true → e.act = .starterRotate r.auto →
     e.notify = false → s.dev.starter.rotations = [r] → r.handle = e.handle → e.handle ≠ 0 →
     (∀ p, s.dev.starter.pending = some p → p.inFlash = true → Completes .starterRotate s fun d =>
       d.starter.current = some p ∧ d.starter.prior1 = s.dev.starter.current ∧ d.starter.prior2 = s.dev.starter.prior1 ∧
       d.starter.pending = none ∧ d.starter.retired = s.dev.starter.retired ++ s.dev.starter.prior2.toList ∧
       d.starter.rotations = [] ∧ d.sched.pend = [] ∧ d.fg F.OVN_STARTER_STATUS_rotated = 1 ∧
       d.rd R.OVN_STARTER_GEN = BitVec.ofNat 32 p.num ∧ Sent (.timedOutcome e.handle (doneCode e)) s.dev d ∧
       Keeps [.nts, .trust, .sched, .mon, .cnts] [R.OVN_STARTER_STATUS, R.OVN_STARTER_GEN] s.dev d) ∧
     (s.dev.starter.pending = none → r.deferrals < 60 → Completes .starterRotate s fun d =>
       d.starter = { s.dev.starter with rotations := [{ r with due := r.due + secU, deferrals := r.deferrals + 1 }] } ∧
       d.sched.pend = [{ e with due := r.due + secU, stepped := false }] ∧ d.fg F.OVN_STARTER_STATUS_fault = 1 ∧
       Keeps [.nts, .sched, .mon, .cnts] [R.OVN_STARTER_STATUS] s.dev d) ∧
     (∀ p, s.dev.starter.pending = some p → p.inFlash = false → r.deferrals < 60 → Completes .starterRotate s fun d =>
       d.starter.current = s.dev.starter.current ∧ d.starter.prior1 = s.dev.starter.prior1 ∧
       d.starter.rotations = [{ r with due := r.due + secU, deferrals := r.deferrals + 1 }] ∧
       d.sched.pend = [{ e with due := r.due + secU, stepped := false }] ∧ d.fg F.OVN_STARTER_STATUS_fault = 1 ∧
       Keeps [.nts, .trust, .draws, .sched, .mon, .cnts] [R.OVN_STARTER_STATUS, R.OVN_STARTER_GEN] s.dev d)) ∧
   (∀ s : State, s.dev.nts.jobs = [] → Completes .starterWipeRetired s fun d =>
       d.starter = { s.dev.starter with retired := [] } ∧ Keeps [.nts] [] s.dev d)) ∧
  ((∀ s : State, Reach s R.OVN_STARTER_CMD → linkUp s.dev = false →
     let t := ofDt96 (s.dev.rn3 (R.OVN_STARTER_AT_W 0))
     let h := s.dev.sched.nextHandle
     (requestCode s.dev (.starterRotate false) t = T.ACCEPTED → s.dev.starter.rotations = [] → autoRot s.dev = true →
       nearAuto s.dev t = false → nextAuto s.dev * secU ≤ t → Completes .starterRotateRequest s fun d =>
       d.rd R.OVN_STARTER_RESULT = BitVec.ofNat 32 T.ACCEPTED ∧ d.rd R.OVN_STARTER_HANDLE = BitVec.ofNat 32 h ∧
       d.starter.rotations = [{ handle := h, due := t, auto := false, deferrals := 0 }] ∧
       d.sched.pend = s.dev.sched.pend ++
         [{ handle := h, due := t, act := .starterRotate false, notify := false, tag := 0, stepped := false }] ∧
       Keeps [.nts, .sched] [R.OVN_STARTER_RESULT, R.OVN_STARTER_HANDLE] s.dev d) ∧
     ((∃ r ∈ s.dev.starter.rotations, r.auto = false) → Completes .starterRotateRequest s fun d =>
       d.rd R.OVN_STARTER_RESULT = BitVec.ofNat 32 T.FULL ∧ Keeps [] [R.OVN_STARTER_RESULT] s.dev d) ∧
     (∀ (e : TimedAct) (r : Rotation), s.dev.sched.pend = [e] → e.act = .starterRotate false → e.notify = false →
       e.handle = s.dev.rn R.OVN_STARTER_HANDLE → e.handle ≠ 0 → s.dev.starter.rotations = [r] → r.handle = e.handle →
       r.auto = false → s.dev.starter.pending = none → s.dev.now + 100000000 * nsU ≤ e.due → Completes .starterCancel s fun d =>
       d.rd R.OVN_STARTER_RESULT = BitVec.ofNat 32 T.CANCELLED ∧ d.starter.rotations = [] ∧ d.sched.pend = [] ∧
       Sent (.timedOutcome e.handle T.CANCELLED) s.dev d ∧
       Keeps [.nts, .sched] [R.OVN_STARTER_RESULT, R.OVN_STARTER_STATUS, R.OVN_STARTER_GEN] s.dev d) ∧
     (s.dev.fb F.OVN_STARTER_POLICY_purge_host = false → Completes .starterPurge s fun d =>
       d.fg F.OVN_STARTER_STATUS_denied = 1 ∧ Keeps [] [R.OVN_STARTER_STATUS] s.dev d) ∧
     (s.dev.fb F.OVN_STARTER_POLICY_purge_host = true → Completes .starterPurge s fun d =>
       purging d = true ∧ gensNow d = [] ∧ Keeps [] [R.OVN_STARTER_STATUS] s.dev d)) ∧
   (∀ s : State, purging s.dev = true → linkUp s.dev = false → s.dev.starter.rotations = [] → s.dev.nts.streams = [] →
     Completes .purgeComplete s fun d => purging d = false ∧
       (∃ g, d.starter.current = some g ∧ g.num = (topGen s.dev.starter + 1) % 2 ^ 32 ∧ gensNow d = [g]) ∧
       d.starter.pending = none ∧ d.starter.prior1 = none ∧ d.starter.prior2 = none ∧ d.starter.retired = [] ∧
       Keeps [.nts, .trust, .draws] [R.OVN_STARTER_STATUS, R.OVN_STARTER_GEN] s.dev d))

/-- R179, R196: setting en of a stopped instance whose configuration passes the checks enables it; else err names the first that fails and it
stays disabled; a write of its profile field takes the profile's default rates with it. R183: at its lead before a nominal instant a
multicast Sync of a SERVER port is put as an item of 6 quarter-slots into the queue of its slice. R182, R184, R189, R193, R176: when one
is due, and the Peel gives a launch point, an Announce, a peer delay request, a unicast request for the three types an instance lacks and
the answer to a Management GET are built for that point and committed. -/
def Obligations.PtpServes : Prop :=
  (∀ (s : State) (i : Nat), i < 8 → Reach s (R.CLS_PTP_CFG i) → s.dev.fb (UnitId.ptp i).en = false →
     (ptpCheck s.dev i = 0 → Completes (.ptpInstanceEnable i) s fun d =>
       d.fb (UnitId.ptp i).en = true ∧ d.fb (UnitId.ptp i).drained = false ∧ Keeps [.ptp] [R.CLS_PTP_CFG i] s.dev d) ∧
     (ptpCheck s.dev i ≠ 0 → Completes (.ptpInstanceEnable i) s fun d =>
       d.fg (F.CLS_PTP_STATUS_err i) = ptpCheck s.dev i ∧ d.fb (UnitId.ptp i).en = false ∧
       Keeps [] [R.CLS_PTP_STATUS i] s.dev d) ∧
     (∀ p, p < 8 → Completes (.ptpProfileWrite i p) s fun d =>
       let (sy, an, rq, tmo) := profRates p
       d.fg (F.CLS_PTP_CFG_profile i) = p ∧ signed 8 (d.fg (F.CLS_PTP_RATES_sync i)) = sy ∧
       signed 8 (d.fg (F.CLS_PTP_RATES_ann i)) = an ∧ signed 8 (d.fg (F.CLS_PTP_RATES_dreq i)) = rq ∧
       d.fg (F.CLS_PTP_RATES_timeout i) = tmo ∧ Keeps [] [R.CLS_PTP_CFG i, R.CLS_PTP_RATES i] s.dev d)) ∧
  (∀ (s : State) (i port h k : Nat), i < 8 → s.dev.up (.ptp i) = true → ptpSilent s.dev = false → TimeOk s →
     ptpServer s.dev i port = true → ptpUnicast s.dev i = false →
     let iv := logDur (rateLog s.dev (F.CLS_PTP_RATES_sync i))
     let t := nominalAt s.dev iv (s.dev.rn (R.CLS_PTP_PHASE i) * nsU % iv)
     amGet 0 (s.dev.ptpInst i).lastSync port < t → s.dev.now ≤ t → s.dev.cls.meter.quota.getD 0 none = none →
     homeSlice s.dev (BitVec.ofNat 128 (ptpSteer s.dev i port none)).toNat = some h → placeIn s.dev h 6 = some (k, false) →
     Completes (.syncEmit i port none) s fun d =>
       (∃ it, (d.slcOf k).queue = (s.dev.slcOf k).queue ++ [it] ∧ it.work = .sync i port none t ∧ it.cost = 6 ∧ it.port = port) ∧
       (∀ j, j ≠ k → d.slcOf j = s.dev.slcOf j) ∧ amGet 0 (d.ptpInst i).lastSync port = t ∧
       d.cntOf (K.CLS_C_ADMITTED 0) = (s.dev.cntOf (K.CLS_C_ADMITTED 0) + 1) % 2 ^ 48 ∧
       Keeps [.ptp, .cls, .cnts, .slices] [] s.dev d) ∧
  (∀ (s : State) (i port ord : Nat) (t : Inst), i < 8 → s.dev.up (.ptp i) = true → TimeOk s →
     let x := s.dev.ptpInst i
     let vlan := ptpVlan s.dev i
     let gc := gateClass s.dev port (ptpTci s.dev i vlan)
     (let lg := rateLog s.dev (F.CLS_PTP_RATES_ann i)
      let f (t : Inst) := ptpFrame s.dev i port vlan none false false (announceMsg s.dev i port (seqOf x port 1) lg false t)
      ptpSilent s.dev = false → ptpServer s.dev i port = true → ptpUnicast s.dev i = false →
      (∀ e ∈ x.lastAnn, e.1 = port → e.2 + logDur lg ≤ s.dev.now) →
      Bookable s.dev port s.dev.now (s.dev.now + logDur lg) ((f s.dev.now).length + 4) gc ord t →
      Completes (.ptpAnnounceSend i port none) s fun d => Booked s.dev d port t (f t) ∧
        seqOf (d.ptpInst i) port 1 = (seqOf x port 1 + 1) % 65536 ∧ Keeps [.ptp, .peel, .sched, .mon] [R.TROUGH_STATUS] s.dev d) ∧
     (let lg := rateLog s.dev (F.CLS_PTPP_CTL_pd_log port)
      let f := ptpFrame s.dev i port vlan none true true (requestMsg s.dev i port true false (seqOf x port 3) lg)
      ptpDelay s.dev port = 1 → ptpServer s.dev i port = true → (∀ e ∈ x.lastReq, e.1 = port → e.2 + logDur lg ≤ s.dev.now) →
      Bookable s.dev port s.dev.now (s.dev.now + logDur lg) (f.length + 4) gc ord t →
      Completes (.ptpRequestSend i port) s fun d => Booked s.dev d port t f ∧
        seqOf (d.ptpInst i) port 3 = (seqOf x port 3 + 1) % 65536 ∧
        (∃ r ∈ (d.ptpInst i).delays, r.peer = true ∧ r.port = port ∧ r.seq = seqOf x port 3 ∧ r.sent = egrVal s.dev port t) ∧
        Keeps [.ptp, .peel, .sched, .mon] [R.TROUGH_STATUS] s.dev d) ∧
     (∀ mac a, (List.range 16).find? (fun p => ptpClient s.dev i p) = some port → x.up = [] → upstreamTo s.dev i = some (mac, a) →
      let dur := clamp 10 1000 (s.dev.fg (F.CLS_PTP_UNI_max_dur i))
      let body := requestTlv 11 (rateLog s.dev (F.CLS_PTP_RATES_ann i)) dur ++ requestTlv 0 (rateLog s.dev (F.CLS_PTP_RATES_sync i)) dur ++
        requestTlv 9 (rateLog s.dev (F.CLS_PTP_RATES_dreq i)) dur
      let f := ptpFrame s.dev i port vlan (some (mac, a)) false false
        (signalMsg s.dev i port (seqOf x port 4) (2 ^ 64 - 1) 65535 body)
      Bookable s.dev port s.dev.now (s.dev.now + secU) (f.length + 4) gc ord t →
      Completes (.ptpUnicastRenew i) s fun d => Booked s.dev d port t f ∧
        seqOf (d.ptpInst i) port 4 = (seqOf x port 4 + 1) % 65536 ∧ Keeps [.ptp, .peel, .sched, .mon] [R.TROUGH_STATUS] s.dev d) ∧
     (∀ (m : PtpMsg) (data : Bytes), s.dev.ptp.intake = [m] → m.inst = i → m.port = port → msgType m.msg = 13 →
      byteAt m.msg 46 % 16 = 0 → mgmtData s.dev i port (beAt m.msg 52 2) = some data →
      let tlv := beBytes 2 1 ++ beBytes 2 (2 + data.length) ++ beBytes 2 (beAt m.msg 52 2) ++ data
      let body := slice m.msg 20 10 ++ zeros 2 ++ beBytes 1 2 ++ zeros 1 ++ tlv
      let f := ptpFrame s.dev i port m.vlan (some (m.mac, m.src)) false false
        (ptpHdr s.dev i port 13 (34 + body.length) (flagOctets true 0) 0 (msgSeq m.msg) 127 ++ body)
      Bookable s.dev port s.dev.now (s.dev.now + secU) (f.length + 4) (gateClass s.dev port (ptpTci s.dev i m.vlan)) ord t →
      Completes .ptpManagement s fun d => Booked s.dev d port t f ∧ d.ptp.intake = [] ∧
        Keeps [.ptp, .peel, .sched, .mon] [R.TROUGH_STATUS] s.dev d))

/-- R186, R187, R193, R194: a request within the instance's limits is granted for the shorter of the two durations, and denied and counted
while the instance is silent; a cancel, its acknowledgement, an expiry, and 3 s without an acknowledgement end a grant, and the entry goes
with its last type; a grant of the upstream is kept. R193: an Announce of the unicast upstream makes it the chosen one, and one on a
SERVER port is counted as foreign; an upstream silent for its timeout is removed; a Follow_Up completes the awaited Sync, a Delay_Resp
gives the mean path delay and a Pdelay_Resp_Follow_Up the mean link delay. -/
def Obligations.PtpPeers : Prop :=
  ((∀ (s : State) (m : PtpMsg) (v : Bytes) (b : Nat), s.dev.ptp.intake = [m] → msgType m.msg = 12 → signalTlvs m.msg = [(4, v)] →
     grantBit (byteAt v 0 / 16) = some b → s.dev.ptp.grants = [] →
     let i := m.inst
     let want := beAt v 2 4
     let exp := s.dev.nowSec + min want (clamp 10 1000 (s.dev.fg (F.CLS_PTP_UNI_max_dur i)))
     let regs := [R.TROUGH_STATUS, R.PEEL_STATUS, R.TROUGH_POOL_DROPS 7]
     (s.dev.up (.ptp i) = true → ptpUnicast s.dev i = true → ptpServer s.dev i m.port = true → ptpSilent s.dev = false →
       inR (reqRange s.dev i b) (signed 8 (byteAt v 1)) = true → 10 ≤ want → 0 < s.dev.fg (F.CLS_PTP_UNI_max_grants i) →
       poolRoom s.dev 8 8 = true → sync128 (signed 8 (byteAt v 1)) ≤ 8388608 * 128 → Completes .ptpUnicastRequest s fun d =>
       (∃ e, d.ptp.grants = [(0, e)] ∧ e.inst = i ∧ e.lport = m.port ∧ e.addr = m.src ∧ e.peerId = srcClock m.msg ∧
         e.peerPort = srcPortNum m.msg ∧ e.granted = 2 ^ b ∧ (b = 0 → e.expAnn = exp) ∧ (b = 1 → e.expSync = exp) ∧
         (b = 2 → e.expDresp = exp)) ∧ d.ptp.intake = [] ∧
       d.cntOf (K.PTP_GRANTS i) = (s.dev.cntOf (K.PTP_GRANTS i) + 1) % 2 ^ 48 ∧
       Keeps [.ptp, .cnts, .peel, .sched, .mon] regs s.dev d) ∧
     (ptpSilent s.dev = true → Completes .ptpUnicastRequest s fun d =>
       d.ptp.grants = [] ∧ d.cntOf (K.PTP_GRANT_DENIED i) = (s.dev.cntOf (K.PTP_GRANT_DENIED i) + 1) % 2 ^ 48 ∧
       Keeps [.ptp, .cnts, .peel, .sched, .mon] regs s.dev d)) ∧
   (∀ (s : State) (m : PtpMsg) (v : Bytes) (g b : Nat) (e : Grant), s.dev.ptp.intake = [m] → msgType m.msg = 12 →
     grantOf s.dev m = some (g, e) → s.dev.ptp.grants = [(g, e)] → grantBit (byteAt v 0 / 16) = some b → e.granted = 2 ^ b →
     (signalTlvs m.msg = [(6, v)] → Completes .ptpCancelUnicast s fun d => d.ptp.grants = [] ∧ d.ptp.intake = [] ∧
       Keeps [.ptp, .peel, .sched, .mon] [R.TROUGH_STATUS, R.PEEL_STATUS, R.TROUGH_POOL_DROPS 7] s.dev d) ∧
     (signalTlvs m.msg = [(7, v)] → e.cancelAt.isSome = true → Completes .ptpCancelAckReceive s fun d =>
       d.ptp.grants = [] ∧ d.ptp.intake = [] ∧ Keeps [.ptp] [] s.dev d)) ∧
   (∀ (s : State) (g : Nat) (e : Grant), s.dev.ptp.grants = [(g, e)] → TimeOk s →
     (∀ b exp, b < 3 → e.granted = 2 ^ b → exp = (if b = 0 then e.expAnn else if b = 1 then e.expSync else e.expDresp) →
       exp ≤ s.dev.nowSec → Completes (.ptpGrantExpire g b) s fun d => d.ptp.grants = [] ∧ Keeps [.ptp] [] s.dev d) ∧
     (∀ t, e.cancelAt = some t → t + 3 * secU ≤ s.dev.now → Completes (.ptpCancelAckTimeout g) s fun d =>
       d.ptp.grants = [] ∧ Keeps [.ptp] [] s.dev d)) ∧
   (∀ (s : State) (m : PtpMsg) (v : Bytes), s.dev.ptp.intake = [m] → msgType m.msg = 12 → signalTlvs m.msg = [(5, v)] →
     ptpClient s.dev m.inst m.port = true → m.src = ptpUpstream s.dev m.inst → 0 < beAt v 2 4 → Completes .ptpGrantReceive s fun d =>
       (∃ u ∈ (d.ptpInst m.inst).up, u.mtype = byteAt v 0 / 16 ∧ u.dur = beAt v 2 4 ∧ u.at_ = s.dev.now ∧ u.asked = false) ∧
       d.ptp.intake = [] ∧ Keeps [.ptp] [] s.dev d)) ∧
  ((∀ (s : State) (m : PtpMsg), s.dev.ptp.intake = [m] → msgType m.msg = 11 →
     let i := m.inst
     (ptpServer s.dev i m.port = true → Completes .ptpAnnounceReceive s fun d =>
       d.fg (F.CLS_PTP_STATUS_foreign i) = 1 ∧ Counted (K.PTP_FOREIGN_ON_SERVER i) s.dev d ∧ d.ptp.intake = [] ∧
       Keeps [.ptp, .cnts] [R.CLS_PTP_STATUS i] s.dev d) ∧
     (ptpServer s.dev i m.port = false → ptpClient s.dev i m.port = true → s.dev.up (.ptp i) = true →
       srcClock m.msg ≠ ptpId s.dev i → beAt m.msg 61 2 < 255 → ptpUnicast s.dev i = true → m.src = ptpUpstream s.dev i →
       (s.dev.ptpInst i).foreign = [] → Completes .ptpAnnounceReceive s fun d =>
       (d.ptpInst i).best = some (m.port, srcClock m.msg, srcPortNum m.msg) ∧ d.fg (F.CLS_PTP_STATUS_upstream i) = 1 ∧
       (d.slot (ptpRefslot s.dev i)).adv = beAt m.msg 48 1 ∧ Keeps [.ptp, .refs] [R.CLS_PTP_STATUS i] s.dev d)) ∧
   (∀ (s : State) (i : Nat), i < 8 → s.dev.up (.ptp i) = true → TimeOk s → ptpUnicast s.dev i = false →
     (∀ f ∈ (s.dev.ptpInst i).foreign,
       f.heard + s.dev.fg (F.CLS_PTP_RATES_timeout i) * logDur (rateLog s.dev (F.CLS_PTP_RATES_ann i)) ≤ s.dev.now) →
     Completes (.ptpAnnounceTimeout i) s fun d =>
       (d.ptpInst i).foreign = [] ∧ (d.ptpInst i).best = none ∧ d.fg (F.CLS_PTP_STATUS_upstream i) = 0 ∧
       Keeps [.ptp, .refs] [R.CLS_PTP_STATUS i] s.dev d) ∧
   (∀ (s : State) (m : PtpMsg), s.dev.ptp.intake = [m] →
     let i := m.inst
     let x := s.dev.ptpInst i
     (∀ sr, msgType m.msg = 8 → x.sync = some sr → sr.port = m.port → sr.clockId = srcClock m.msg → sr.portNum = srcPortNum m.msg →
       sr.seq = msgSeq m.msg → ptpDelay s.dev m.port = 0 → x.mpd = none → Completes .ptpGeneralReceive s fun d =>
       (d.ptpInst i).ms = some (ingVal s.dev m.port sr.t2 -
         (tsVal m.msg 34 + (sr.corr + corrOf m.msg) + signed 32 (s.dev.rn (R.CLS_PTPP_ASYM m.port)))) ∧
       (d.ptpInst i).sync = none ∧ Keeps [.ptp] [] s.dev d) ∧
     (∀ r ms, msgType m.msg = 9 → x.delays = [r] → r.peer = false → r.port = m.port → r.seq = msgSeq m.msg →
       beAt m.msg 44 8 = ptpId s.dev i → beAt m.msg 52 2 = m.port + 1 → x.best = some (m.port, srcClock m.msg, srcPortNum m.msg) →
       x.ms = some ms → Completes .ptpGeneralReceive s fun d =>
       (d.ptpInst i).mpd = some ((ms + (tsVal m.msg 34 - corrOf m.msg - r.sent)) / 2) ∧ (d.ptpInst i).delays = [] ∧
       Keeps [.ptp] [] s.dev d) ∧
     (∀ r t4 t2 corr, msgType m.msg = 10 → x.delays = [r] → r.peer = true → r.port = m.port → r.seq = msgSeq m.msg →
       r.back = some (t4, t2, corr) → Completes .ptpGeneralReceive s fun d =>
       d.rd (R.CLS_PTPP_MLD m.port) =
         BitVec.ofNat 32 (unsigned 32 (((t4 - r.sent) - (tsVal m.msg 34 - t2) - corr - corrOf m.msg) / 2)) ∧
       (d.ptpInst i).delays = [] ∧ Keeps [.ptp] [R.CLS_PTPP_MLD m.port] s.dev d)))

/-- R227, R258: an enable that the checks pass begins the slot anew, another sets err; a disable makes it ABSENT at once and discards its
measurements; requal ends a DRIFT hold and Proofing begins. R228, R247, R249, R250, R331: a raw comparison joins the second's mean of its
slot; that of the SELECTED slot also updates the DPLL, which commits one new increment within ±20,000 ns/s of nominal. R256, R260: a poll
that is due is booked and committed with T1 its launch point; the first valid response gives θ less the slot's delay as a comparison; a
Tamco message labels the edge that follows it. -/
def Obligations.References : Prop :=
  (∀ (s : State) (n : Nat), n < 32 → Reach s (R.REF_CFG n) →
     (refEn s.dev n = false → refEnableErr s.dev n = 0 → Completes (.refEnable n) s fun d =>
       refEn d n = true ∧ d.fb (F.REF_CFG_drained n) = false ∧ d.fg (F.REF_STATUS_err n) = 0 ∧
       d.fb (F.REF_STATUS_time_kind n) = timeType (refType s.dev n) ∧ d.slot n = RefSlot.init ∧
       (∀ m, m ≠ n → d.slot m = s.dev.slot m) ∧ Keeps [.refs] [R.REF_CFG n, R.REF_STATUS n] s.dev d) ∧
     (refEn s.dev n = false → refEnableErr s.dev n ≠ 0 → Completes (.refEnable n) s fun d =>
       refEn d n = false ∧ d.fg (F.REF_STATUS_err n) = refEnableErr s.dev n ∧ Keeps [] [R.REF_STATUS n] s.dev d) ∧
     (∀ cut : Bool, refEn s.dev n = true → s.dev.refs.sel ≠ some n → refState s.dev n ≠ 3 → Completes (.refDisable n cut) s fun d =>
       refEn d n = false ∧ refState d n = 0 ∧ d.slot n = RefSlot.init ∧ (∀ m, m ≠ n → d.slot m = s.dev.slot m) ∧
       d.stopOf (.ref n) = some false ∧
       Keeps [.refs, .stopping, .cnts, .mon] [R.REF_CFG n, R.REF_STATUS n, R.REF_EVT n] s.dev d) ∧
     (refState s.dev n = 5 → s.dev.fg (F.REF_STATUS_dq_reason n) = 1 → (s.dev.slot n).present = true →
       Completes (.refRequal n) s fun d =>
       refState d n = 1 ∧ d.fg (F.REF_PROOF_T_secs n) = 0 ∧ d.fg (F.REF_EVT_state_chg n) = 1 ∧
       d.cntOf (K.REF_STATE_CHG n) = (s.dev.cntOf (K.REF_STATE_CHG n) + 1) % 2 ^ 48 ∧
       Keeps [.refs, .cnts, .mon] [R.REF_STATUS n, R.REF_EVT n, R.REF_PROOF_T n] s.dev d)) ∧
  (∀ (s : State) (n : Nat) (x : Int), n < 32 → refEn s.dev n = true → TimeOk s →
     let taken (d : Device) := (d.slot n).sum = (s.dev.slot n).sum + x ∧ (d.slot n).count = (s.dev.slot n).count + 1 ∧
       (d.slot n).lastX = some x ∧ (d.slot n).heard = some s.dev.tm.osc ∧ (d.slot n).hist = (s.dev.slot n).hist ∧
       ∀ m, m ≠ n → d.slot m = s.dev.slot m
     (s.dev.refs.sel ≠ some n → Completes (.refRawComparison n x) s fun d => taken d ∧ Keeps [.refs] [] s.dev d) ∧
     (s.dev.refs.sel = some n → steering s.dev = true → s.dev.refs.build = false → Completes (.refRawComparison n x) s fun d =>
       taken d ∧ (∃ q : Rat, -20000 ≤ q ∧ q ≤ 20000 ∧ d.refs.steer = q ∧ d.tm = { s.dev.tm with commit := some (BitVec.ofNat 56 (incrFor q)) } ∧
         d.rd R.TB_STEER = BitVec.ofNat 32 (femto q)) ∧ d.cls = { s.dev.cls with refTime := s.dev.nowSec * secU } ∧
       Keeps [.refs, .tm, .mon, .cls] [R.TB_STEER, R.REF_STATUS n] s.dev d)) ∧
  ((∀ (s : State) (n ord : Nat) (t : Inst), n < 32 → refEn s.dev n = true → refType s.dev n = 7 →
     let e := saOf s.dev (s.dev.fg (F.REF_NTP_CTL_sa n))
     let port := s.dev.fg (F.REF_NTP_CTL_port n)
     e.valid = true → e.owned = true → (s.dev.slot n).polledAt = none →
     Bookable s.dev port (s.dev.now + gLead s.dev) (s.dev.now + gLead s.dev + s.dev.rn R.PEEL_SEARCH * nsU)
       (max 60 (ntpPoll s.dev n 0).length + 4) (gateClass s.dev port (vlanTci s.dev e.vlan)) ord t →
     Completes (.ntpPollSend n) s fun d => Booked s.dev d port t (ntpPoll s.dev n t) ∧ (d.slot n).ntpT1 = some t ∧
       (d.slot n).polledAt = some s.dev.tm.osc ∧ Keeps [.refs, .peel, .sched, .mon] [R.TROUGH_STATUS] s.dev d) ∧
   (∀ (s : State) (n : Nat) (msg : Bytes) (t1 t4 : Inst), n < 32 → refEn s.dev n = true → refType s.dev n = 7 → TimeOk s →
     s.dev.refs.sel ≠ some n → (s.dev.slot n).ntpT1 = some t1 → (s.dev.slot n).samples = [] → byteAt msg 0 % 8 = 4 →
     48 ≤ msg.length → beAt msg 24 8 = ntpOf s.dev t1 →
     let th := divNearI (ntpDiff (beAt msg 32 8) (ntpOf s.dev t1) + ntpDiff (beAt msg 40 8) (ntpOf s.dev t4)) 2
     Completes (.ntpUpstreamResponse n (s.dev.fg (F.REF_NTP_CTL_port n)) (ntpUpstream s.dev n) 123 msg t4) s fun d =>
       (d.slot n).lastX = some (th - lenSub (s.dev.rs (R.REF_DELAY n) * psU)) ∧ (d.slot n).ntpT1 = none ∧ (d.slot n).missed = 0 ∧
       (d.slot n).adv = (if byteAt msg 0 / 64 = 3 then 16 else byteAt msg 1) ∧ Keeps [.refs] [] s.dev d) ∧
   (∀ (s : State) (n tin l : Nat) (msg : Bytes), n < 32 → refEn s.dev n = true → refType s.dev n = 2 →
     s.dev.fg (F.REF_TOD_tin n) = tin → s.dev.fg (F.REF_TOD_fmt n) = 1 → s.dev.fb (F.REF_TOD_label n) = false →
     tamcoLabel msg = some l → (∀ m, m < 32 → m ≠ n → refEn s.dev m = false) → Completes (.todMessageReceive tin msg) s fun d =>
       d.slot n = { s.dev.slot n with label := some l } ∧ (∀ m, m ≠ n → d.slot m = s.dev.slot m) ∧ Keeps [.refs] [] s.dev d))

/-- R235, R236: each second is evaluated once; an enabled slot whose signal has come, with a rank and not held, enters PROOFING. R239, R240,
R252: with no SELECTED slot in a tracking mode, the selector takes the best qualified slot, or the timebase enters HOLDOVER and says so.
R238, R248, R12: the first ready time reference sets Device Time to where it puts it, and no booking of the unset scale is left (log entry
105); a scheduled step moves Device Time by its size once its boundary has come; both set stepped. R245: a reanchor takes the newest 10 s
of tracking, or waits for them; the anchor is taken once they are there. -/
def Obligations.Selection : Prop :=
  ((∀ s : State, TimeOk s → s.dev.nowSec ≠ s.dev.refs.evalSec → Completes .refSecondEval s fun d =>
       d.refs.evalSec = s.dev.nowSec ∧ KeepsBut [.refs, .mon, .cnts, .cls, .tm] (fun o => domainOf o == 8) s.dev d) ∧
   (∀ (s : State) (n : Nat), n < 32 → TimeOk s → s.dev.nowSec ≠ s.dev.refs.evalSec → refEn s.dev n = true → refType s.dev n = 1 →
     (∀ m, m < 32 → m ≠ n → refEn s.dev m = false) → refState s.dev n = 0 → sigPresent s.dev n = true →
     s.dev.fb (F.REF_CFG_hold n) = false → rankOf s.dev n < 15 → s.dev.refs.sel = none → s.dev.fg F.TB_SEL_STATUS_mode = 0 →
     Completes .refSecondEval s fun d => refState d n = 1 ∧ (d.slot n).present = true ∧ d.fg (F.REF_EVT_state_chg n) = 1 ∧
       KeepsBut [.refs, .mon, .cnts, .cls] (fun o => domainOf o == 8) s.dev d) ∧
   (∀ s : State, s.dev.nowSec = s.dev.refs.evalSec → Completes .refSecondEval s (Keeps [] [] s.dev))) ∧
  (∀ s : State, s.dev.refs.sel = none → s.dev.fg F.TB_SEL_STATUS_mode = 1 ∨ s.dev.fg F.TB_SEL_STATUS_mode = 2 → steering s.dev = true →
     (∀ n, pickOf s.dev = some n → n < 32 → Completes .selectorRerun s fun d =>
       d.refs.sel = some n ∧ refState d n = 3 ∧ d.fg F.TB_SEL_STATUS_slot = n ∧
       d.fg F.TB_SEL_STATUS_mode = (if timeType (refType s.dev n) then 1 else 2) ∧
       d.cntOf K.REF_SWITCH = (s.dev.cntOf K.REF_SWITCH + 1) % 2 ^ 48 ∧
       KeepsBut [.refs, .mon, .cnts, .cls, .tm] (fun o => domainOf o == 8) s.dev d) ∧
     (pickOf s.dev = none → Completes .selectorRerun s fun d =>
       d.refs.sel = none ∧ d.fg F.TB_SEL_STATUS_mode = 3 ∧ d.fg F.TB_SEL_STATUS_rank = 15 ∧ S.HOLDOVER ∈ d.intc.latched ∧
       d.tm.commit = some (BitVec.ofNat 56 (incrFor (max (-20000) (min 20000 d.refs.sH)))) ∧
       KeepsBut [.refs, .mon, .cnts, .cls, .tm] (fun o => domainOf o == 8) s.dev d)) ∧
  ((∀ (s : State) (n : Nat), s.dev.fb F.TB_STATUS_dt_set = false → TimeOk s →
     leastBy (selKey s.dev) ((List.range 32).filter (readyToSet s.dev)) = some n →
     let target := ofDtSub (dtSub ((s.dev.now : Int) + subLen ((s.dev.slot n).lastX.getD 0)).toNat)
     target < 2 ^ 48 * secU → Completes .deviceTimeSet s fun d =>
       d.now = target ∧ d.fb F.TB_STATUS_dt_set = true ∧ d.fb F.TB_STATUS_stepped = true ∧ d.tm.incr = s.dev.tm.incr ∧
       (∀ b ∈ d.peel.bookings, (spanTimes (portMode s.dev b.port) b.due b.len).2 ≤ s.dev.now) ∧
       (s.dev.peel.bookings = [] → KeepsBut [.tm, .refs, .mon, .tic, .peel, .sched, .cnts, .ptp] (fun o => domainOf o == 8 || o == R.PEEL_STATUS) s.dev d)) ∧
   (∀ (s : State) (at_ : Inst) (size : Int), s.dev.refs.stepAt = some (at_, size) → TimeOk s → at_ ≤ s.dev.now →
     ((s.dev.now : Int) + size).toNat < 2 ^ 48 * secU → Completes .deviceTimeStep s fun d =>
       d.now = ((s.dev.now : Int) + size).toNat / 125 * 125 ∧ d.refs.stepAt = none ∧
       d.refs.b = s.dev.refs.b - lenSub size ∧ d.fg F.TB_SEL_STATUS_step_pending = 0 ∧ d.fb F.TB_STATUS_stepped = true ∧
       KeepsBut [.tm, .refs, .mon, .tic, .peel, .sched, .cnts, .ptp] (fun o => domainOf o == 8 || o == R.PEEL_STATUS) s.dev d)) ∧
  ((∀ s : State, Reach s R.TB_OSC_CTL →
     (∀ t l, s.dev.refs.last10 = some (t, l) → Completes .oscReanchor s fun d =>
       d.refs.anchor = some (t, meanQ l) ∧ d.fg F.TB_OSC_CTL_anchored = 1 ∧ Keeps [.refs] [R.TB_OSC_CTL] s.dev d) ∧
     (s.dev.refs.last10 = none → Completes .oscReanchor s fun d =>
       d.refs = { s.dev.refs with reanchor := true } ∧ Keeps [.refs] [] s.dev d)) ∧
   (∀ (s : State) (t : Nat) (l : List Rat), s.dev.refs.reanchor = true → 10 ≤ s.dev.refs.oRun.length →
     s.dev.refs.last10 = some (t, l) → Completes .oscAnchor s fun d =>
       d.refs.anchor = some (t, meanQ l) ∧ d.refs.reanchor = false ∧ d.fg F.TB_OSC_CTL_anchored = 1 ∧
       Keeps [.refs] [R.TB_OSC_CTL] s.dev d))

/-- R267, R268: an antenna whose fault input goes low shows its fault bit, raises GNSS_ANT and loses every channel, until the input returns
high; a stream whose level or clipping is out of range sets level_alarm; clk_ok follows the measured clock edge. R269, R270, R272: once a
second, while the receiver tracks, every satellite of an enabled system above the mask less 5° has a GA channel and none has one at or
below it; a detection above the threshold hands a satellite to its channel; a channel out of lock on both bands for 2 s is released. R277,
R279: an epoch of a tracking receiver solves over the channels' measurements and shows the outcome; with no position and no survey there
is no solution. R275, R276: what was staged comes into force at the epoch after a commit, which counts, and a declared position makes the
source KNOWN. R278: a survey begins with no epochs, and an abort goes back to the source before it. -/
def Obligations.GnssReceiver : Prop :=
  ((∀ (s : State) (gb : Bool), antFault s.dev gb = false → Completes (.gnssAntFault gb) s fun d =>
       antFault d gb = true ∧ S.GNSS_ANT ∈ d.intc.latched ∧ (∀ e ∈ d.gnss.chans, e.2.gb ≠ gb) ∧
       (∀ e ∈ s.dev.gnss.chans, e.2.gb ≠ gb → e ∈ d.gnss.chans) ∧ Keeps [.gnss, .mon, .cnts] [R.GNSS_STATUS] s.dev d) ∧
   (∀ (s : State) (gb : Bool), Completes (.gnssAntFaultEnd gb) s fun d =>
       antFault d gb = false ∧ antFault d (!gb) = antFault s.dev (!gb) ∧ Keeps [] [R.GNSS_STATUS] s.dev d) ∧
   (∀ (s : State) (rms clip : List Nat), s.dev.up .gnss = true → TimeOk s → rms.length = 4 → clip.length = 4 →
     Completes (.gnssLevelCheck rms clip) s fun d =>
       (∀ k, k < 4 → bits (d.rn R.GNSS_LEVEL) (8 * k) 8 = min 255 (rms.getD k 0) ∧
         bits (d.rn R.GNSS_CLIP) (8 * k) 8 = min 255 (clip.getD k 0)) ∧
       (s.dev.fb F.GNSS_PORT_CTL_ga_en = true → (rms.getD 0 0 < 32 ∨ 128 < rms.getD 0 0 ∨ 512 < 100 * clip.getD 0 0) →
         d.fb F.GNSS_STATUS_level_alarm = true) ∧
       (s.dev.fb F.GNSS_PORT_CTL_gb_en = true → (rms.getD 3 0 < 32 ∨ 128 < rms.getD 3 0 ∨ 512 < 100 * clip.getD 3 0) →
         d.fb F.GNSS_STATUS_level_alarm = true) ∧
       ((∀ k, k < 4 → 32 ≤ rms.getD k 0 ∧ rms.getD k 0 ≤ 128 ∧ 100 * clip.getD k 0 ≤ 512) →
         d.fb F.GNSS_STATUS_level_alarm = s.dev.fb F.GNSS_STATUS_level_alarm) ∧
       Keeps [] [R.GNSS_STATUS, R.GNSS_LEVEL, R.GNSS_CLIP] s.dev d) ∧
   (∀ (s : State) (err : Int), probeValid s.dev = true → s.dev.powered 7 = true → TimeOk s → Completes (.gnssClockCheck err) s fun d =>
       d.fb F.GNSS_STATUS_clk_ok = decide (err.natAbs ≤ 50) ∧ Keeps [] [R.GNSS_STATUS] s.dev d)) ∧
  ((∀ (s : State) (sky : List SatView), gnssTracks s.dev = true → s.dev.gnss.allocSec < s.dev.nowSec →
     sky.length + s.dev.gnss.chans.length ≤ 192 → Completes (.gnssChannelAlloc sky) s fun d =>
       (antFault s.dev false = false → s.dev.fb F.GNSS_PORT_CTL_ga_en = true → ∀ v ∈ sky, sysEnabled s.dev v.sys = true →
         gMask s.dev - 500 < v.elev → (chanOf d.gnss.chans v.sys v.svid false).isSome) ∧
       (∀ v ∈ sky, (∀ u ∈ sky, u.sys = v.sys → u.svid = v.svid → u.elev ≤ gMask s.dev - 500) → ∀ gb,
         chanOf d.gnss.chans v.sys v.svid gb = none) ∧
       d.gnss.allocSec = s.dev.nowSec ∧ Keeps [.gnss] [R.GNSS_STATUS] s.dev d) ∧
   (∀ (s : State) (k sys svid cn0 : Nat) (gb : Bool) (c : GChan), gnssTracks s.dev = true → s.dev.gnss.chans = [(k, c)] →
     c.sys = sys → c.svid = svid → c.gb = gb → c.acquired = false →
     (s.dev.fg F.GNSS_ACQ_CTL_thr < cn0 → Completes (.gnssAcqDetect sys svid gb cn0) s fun d =>
       d.gnss.chans = [(k, { c with acquired := true, outAt := some s.dev.tm.osc })] ∧ Keeps [.gnss] [] s.dev d) ∧
     (cn0 ≤ s.dev.fg F.GNSS_ACQ_CTL_thr → Completes (.gnssAcqDetect sys svid gb cn0) s (Keeps [] [] s.dev))) ∧
   (∀ (s : State) (k t : Nat) (c : GChan), s.dev.gnss.chans = [(k, c)] → c.acquired = true → c.outAt = some t →
     t + 2 * 800000000 ≤ s.dev.tm.osc → Completes (.gnssChannelRelease k) s fun d =>
       d.gnss.chans = [] ∧ Keeps [.gnss] [R.GNSS_STATUS] s.dev d)) ∧
  ((∀ (s : State) (ms : List GnssMeas) (gal bds : Option Int) (utc : Int), gnssTracks s.dev = true → s.dev.gnss.epochSec < s.dev.nowSec →
     s.dev.gnss.snapMode = false → s.dev.fg F.GNSS_CTL_mode = 0 → s.dev.gnss.commit = false → gnssSlots s.dev = [] →
     s.dev.fb F.GNSS_MEAS_CTL_en = false → posSrc s.dev ≠ 1 → Completes (.gnssEpoch ms gal bds utc) s fun d =>
       let d1 := showChans (ms.foldl chanEpoch { s.dev with gnss := { s.dev.gnss with epochSec := s.dev.nowSec } })
       let sol := (solve d1 0 ms gal bds).1
       d.fb F.GNSS_SOL_STATUS_valid = sol.valid ∧ d.fg F.GNSS_SOL_STATUS_integrity = sol.integrity ∧
       d.rn R.GNSS_SOL_ERR = min (2 ^ 32 - 1) (eRx d1 sol) ∧ d.gnss.seq = (s.dev.gnss.seq + 1) % 65536 ∧
       d.gnss.epochSec = s.dev.nowSec ∧ (posSrc s.dev = 0 → d.fb F.GNSS_SOL_STATUS_valid = false) ∧
       Keeps [.gnss, .mon, .cnts] [R.GNSS_STATUS, R.GNSS_SOL_STATUS, R.GNSS_SOL_ERR, R.GNSS_SPOOF_STATUS] s.dev d) ∧
   (∀ (s : State), Reach s R.GNSS_CTL → Completes .gnssCalCommit s fun d =>
       d.gnss = { s.dev.gnss with commit := true } ∧ Keeps [.gnss] [] s.dev d) ∧
   (∀ (s : State) (v : Word) (gal bds : Option Int) (utc : Int), TimeOk s → s.dev.up .gnss = false → s.dev.gnss.epochSec < s.dev.nowSec →
     s.dev.gnss.snapMode = false → s.dev.fg F.GNSS_CTL_mode = 0 → s.dev.gnss.commit = true → Completes (.gnssEpoch [] gal bds utc) s fun d =>
       (s.dev.gnss.staged = [(R.GNSS_DLY 0, v)] → d.rd (R.GNSS_DLY 0) = v ∧
         posSrc d = posSrc s.dev) ∧
       (s.dev.gnss.staged = [(R.GNSS_POS_LO 0, v)] → v ≠ 0 → d.rd (R.GNSS_POS_LO 0) = v ∧ posSrc d = 3) ∧
       (s.dev.gnss.staged = [] → d.cntOf K.GNSS_CAL_COMMIT = (s.dev.cntOf K.GNSS_CAL_COMMIT + 1) % 2 ^ 48) ∧
       d.gnss.staged = [] ∧ d.gnss.commit = false)) ∧
  ((∀ s : State, Reach s R.GNSS_SURVEY → Completes .gnssSurveyStart s fun d =>
       posSrc d = 1 ∧ d.rd R.GNSS_SURVEY_STATUS = 0 ∧ Keeps [.gnss] [R.GNSS_SOL_STATUS, R.GNSS_SURVEY_STATUS] s.dev d) ∧
   (∀ s : State, Reach s R.GNSS_SURVEY → posSrc s.dev = 1 → s.dev.gnss.before < 4 → Completes .gnssSurveyAbort s fun d =>
       posSrc d = s.dev.gnss.before ∧ Keeps [] [R.GNSS_SOL_STATUS] s.dev d))

/-- R289: a write of mode changes the field alone, and the mode comes into force at the next epoch, where SNAPSHOT releases every channel; in
SNAPSHOT a capture falls at every second that the period divides, and too few ephemerides make it a burst of 60 s. R290, R296, R31, R33: a
capture is requested and cancelled as a timed action; at its instant it begins at the first sample instant, and after its length the
capture stands in P_SNAP with its 64-byte header. -/
def Obligations.GnssModesAndCaptures : Prop :=
  ((∀ (s : State) (mode : Nat), Reach s R.GNSS_CTL → Completes (.gnssModeWrite mode) s fun d =>
       d.fg F.GNSS_CTL_mode = (if mode = 1 then 1 else 0) ∧ d.fb F.GNSS_CTL_gps = s.dev.fb F.GNSS_CTL_gps ∧
       d.fb UnitId.gnss.en = s.dev.fb UnitId.gnss.en ∧ Keeps [] [R.GNSS_CTL] s.dev d) ∧
   (∀ (s : State) (gal bds : Option Int) (utc : Int), TimeOk s → s.dev.up .gnss = true → s.dev.powered 7 = true → s.dev.gnss.epochSec < s.dev.nowSec →
     s.dev.gnss.snapMode = false → s.dev.fg F.GNSS_CTL_mode = 1 → s.dev.gnss.commit = false → gnssSlots s.dev = [] →
     Completes (.gnssEpoch [] gal bds utc) s fun d =>
       d.gnss.snapMode = true ∧ d.gnss.chans = [] ∧ d.fg F.GNSS_STATUS_tracking = 0 ∧ Keeps [.gnss] [R.GNSS_STATUS] s.dev d) ∧
   (∀ (s : State) (res : Option Int), periodicDue s.dev = true → Completes (.gnssSnapPeriodic res) s fun d =>
       d.fb F.GNSS_STATUS_snap_busy = true ∧
       (∃ c, d.gnss.caps = s.dev.gnss.caps ++ [c] ∧ c.trigger = 1 ∧ c.handle = 0 ∧ c.len = snapLen s.dev ∧ c.start = sampleAt s.dev.now) ∧
       (s.dev.fb F.GNSS_SNAP_CTL_solve = true → d.rd R.GNSS_SNAP_RES = (match res with | some v => BitVec.ofInt 32 v | none => 0x80000000#32)) ∧
       (s.dev.fb F.GNSS_SNAP_CTL_solve = false → d.rd R.GNSS_SNAP_RES = s.dev.rd R.GNSS_SNAP_RES) ∧
       Keeps [.gnss, .mon, .cnts] [R.GNSS_STATUS, R.GNSS_SNAP_RES] s.dev d) ∧
   (∀ (s : State) (sky : List SatView), periodicDue s.dev = true → freshEph s.dev sky 7200 < 6 → Completes (.gnssEphRefresh sky) s fun d =>
       d.gnss = { s.dev.gnss with snapSec := some s.dev.nowSec, burst := some (s.dev.now + 60 * secU) } ∧ Keeps [.gnss] [] s.dev d)) ∧
  ((∀ s : State, Reach s R.GNSS_SNAP_CTL →
     let t := ofDt96 (s.dev.rn3 (R.GNSS_SNAP_AT_W 0))
     let a := Act.gnssCapture (snapLen s.dev)
     (requestCode s.dev a t = T.ACCEPTED → Completes .gnssCaptureRequest s fun d =>
       d.fg F.GNSS_SNAP_RESULT = T.ACCEPTED ∧ d.rd R.GNSS_SNAP_HANDLE = BitVec.ofNat 32 s.dev.sched.nextHandle ∧
       d.sched.pend = s.dev.sched.pend ++ [{ handle := s.dev.sched.nextHandle, due := t, act := a, notify := false, tag := 0, stepped := false }] ∧
       Keeps [.sched] [R.GNSS_SNAP_RESULT, R.GNSS_SNAP_HANDLE] s.dev d) ∧
     (requestCode s.dev a t ≠ T.ACCEPTED → Completes .gnssCaptureRequest s fun d =>
       d.fg F.GNSS_SNAP_RESULT = requestCode s.dev a t ∧ d.rd R.GNSS_SNAP_HANDLE = 0 ∧
       Keeps [] [R.GNSS_SNAP_RESULT, R.GNSS_SNAP_HANDLE] s.dev d)) ∧
   (∀ (s : State) (e : TimedAct) (len : Nat), Reach s R.GNSS_SNAP_CTL → s.dev.sched.pend = [e] → e.act = .gnssCapture len → e.notify = false →
     e.handle = s.dev.rn R.GNSS_SNAP_HANDLE → s.dev.now + 10000 * nsU ≤ e.due → TimeOk s → Completes .gnssCaptureCancel s fun d =>
       d.fg F.GNSS_SNAP_RESULT = T.CANCELLED ∧ d.sched.pend = [] ∧ Sent (.timedOutcome e.handle T.CANCELLED) s.dev d ∧
       Keeps [.sched] [R.GNSS_SNAP_RESULT] s.dev d) ∧
   (∀ (s : State) (e : TimedAct) (len : Nat), TimeOk s → s.dev.sched.pend = [e] → isDue s.dev e = true → e.act = .gnssCapture len →
     e.notify = false → s.dev.up .gnss = true → Completes .gnssCaptureExecute s fun d =>
       (∃ c, d.gnss.caps = s.dev.gnss.caps ++ [c] ∧ c.trigger = 0 ∧ c.handle = e.handle ∧ c.len = len ∧ c.start = sampleAt s.dev.now) ∧
       d.fb F.GNSS_STATUS_snap_busy = true ∧ d.sched.pend = [] ∧ Sent (.timedOutcome e.handle (doneCode e)) s.dev d ∧
       Keeps [.gnss, .sched] [R.GNSS_STATUS] s.dev d) ∧
   (∀ (s : State) (c : Capture) (samples : Bytes), TimeOk s → s.dev.gnss.caps = [c] → c.start + c.len * 1000000 * nsU ≤ s.dev.now →
     s.dev.gnss.snaps = [] → c.streams = 15 → poolPolicy s.dev 5 = 1 → poolRoom s.dev 5 (cellsOf (c.len * 245520 + 64)) = true →
     recordOpen s.dev (s.dev.fg F.GNSS_MEAS_CTL_ring) 7 = false → Completes (.gnssCaptureComplete samples) s fun d =>
       d.gnss.caps = [] ∧ d.fb F.GNSS_STATUS_snap_busy = false ∧
       (∃ x, d.gnss.snaps = [x] ∧ x.data = samples ∧ x.head = captureHead s.dev c ∧ x.head.length = 64 ∧ x.sent = 0) ∧
       Keeps [.gnss] [R.GNSS_STATUS] s.dev d))

/-- R301, R302, R306, R307: of a prescaled input only every 2^p-th edge counts, and one within 3.0 ns of the last is lost and counted; an
accepted edge opens an armed pair of its channel with its stamp, and the edge of the other channel closes it with the interval between
them. R312, R322: setting en arms a pair, and starts a channel that has a valid table; of one without it is ignored. R310, R311: a cycle
begins on every channel, by command or when its period has passed; the hits of 2^22 edges that pass the checks become the line's table and
that line serves; those that do not are reported and change no table. -/
def Obligations.TicEdgesAndCalibration : Prop :=
  ((∀ (s : State) (n code : Nat), n < 8 → code < 512 → s.dev.up (.ticCh n) = true → TimeOk s →
     let c := s.dev.ticCh n
     c.serving.valid = true →
     (c.presc + 1 < 2 ^ min 6 (s.dev.fg (F.TIC_CH_CFG_presc n)) → Completes (.ticEdge n code) s fun d =>
       d.ticCh n = { c with presc := c.presc + 1 } ∧ Keeps [.tic] [] s.dev d) ∧
     (2 ^ min 6 (s.dev.fg (F.TIC_CH_CFG_presc n)) ≤ c.presc + 1 → (codeOf c.serving code).1 = true →
       let phi := (c.serving.tbl.getD code (0, 0)).1
       let wid := (c.serving.tbl.getD code (0, 0)).2
       let fine := phiLen s.dev phi
       let delay : Int := s.dev.rs (R.TIC_CH_DELAY n) * (psU : Int)
       let e : TicFirst := { ch := n, tick := s.dev.tm.ticks, run := s.dev.tm.run, fine := fine - (delay : Rat),
                             wid := phiLen s.dev wid, phi, stamp := to32 (((s.dev.now : Int) - delay : Int) + fine) }
       (∀ p, c.lastEdge = some p → s.dev.tm.run + (fine + 1 / 2).floor.toNat < p + 3 * nsU → Completes (.ticEdge n code) s fun d =>
         (d.ticCh n).nlost = c.nlost + 1 ∧ Counted (K.TIC_CH_LOST n) s.dev d ∧
         Keeps [.tic, .cnts] [R.TIC_CH_STAT n] s.dev d) ∧
       ((∀ p, c.lastEdge = some p → p + 3 * nsU ≤ s.dev.tm.run + (fine + 1 / 2).floor.toNat) → s.dev.fb F.TIC_RING_en = false → (∀ r, r < 32 → refEn s.dev r = false) → ∀ p, p < 4 →
         s.dev.up (.ticPair p) = true → (∀ q, q < 4 → q ≠ p → s.dev.up (.ticPair q) = false) →
         (pairStart s.dev p = n ∨ pairStop s.dev p = n) →
         ((s.dev.ticPair p).st = 1 → (s.dev.ticPair p).first = none → Completes (.ticEdge n code) s fun d =>
           d.ticPair p = { s.dev.ticPair p with st := 2, first := some e } ∧ Keeps [.tic] [] s.dev d) ∧
         (∀ a, (s.dev.ticPair p).st = 2 → (s.dev.ticPair p).first = some a → pairIsOver s.dev a = false → a.ch = pairStart s.dev p →
           pairStop s.dev p = n → a.ch ≠ n → a.tick ≠ s.dev.tm.ticks → max a.wid e.wid ≤ interval a e →
           Completes (.ticEdge n code) s fun d =>
           (d.ticPair p).last = unsigned 64 (roundQ (interval a e / (subU : Rat))) ∧
           (d.ticPair p).st = (if s.dev.fb (F.TIC_PAIR_CFG_single p) then 0 else 1) ∧ (d.ticPair p).first = none ∧
           Keeps [.tic, .mon] [] s.dev d))))) ∧
  ((∀ (s : State) (p : Nat), p < 4 → Reach s (R.TIC_PAIR_CFG p) → s.dev.fb (UnitId.ticPair p).en = false →
     Completes (.ticPairEnable p) s fun d => d.fb (UnitId.ticPair p).en = true ∧ d.fb (UnitId.ticPair p).drained = false ∧
       (d.ticPair p).st = 1 ∧ (d.ticPair p).first = none ∧ Keeps [.tic] [R.TIC_PAIR_CFG p] s.dev d) ∧
   (∀ (s : State) (n : Nat), n < 8 → Reach s (R.TIC_CH_CFG n) → s.dev.fb (UnitId.ticCh n).en = false →
     ((s.dev.ticCh n).a.valid = true → s.dev.stopOf (.ticCh n) = none → Completes (.ticChannelEnable n) s fun d =>
       d.fb (UnitId.ticCh n).en = true ∧ d.fb (UnitId.ticCh n).drained = false ∧ (d.ticCh n).lastEdge = none ∧
       Keeps [.tic] [R.TIC_CH_CFG n] s.dev d) ∧
     ((s.dev.ticCh n).a.valid = false → (s.dev.ticCh n).b.valid = false →
       Completes (.ticChannelEnable n) s (Keeps [] [] s.dev)))) ∧
  ((∀ s : State, calBusy s.dev = false →
     let began (d : Device) := (∀ n, n < 9 → (d.ticCh n).stage = 1) ∧ calBusy d = true ∧ d.tic.calStart = some s.dev.tm.osc ∧
       Keeps [.tic] [R.TIC_STATUS] s.dev d
     (Reach s R.TIC_CAL_CTL → Completes .ticCalStart s began) ∧
     (∀ (temp : Int) (t : Nat), s.dev.fb F.TIC_CAL_CTL_auto = true → s.dev.fg F.TIC_CAL_CTL_period ≠ 0 → s.dev.tic.calStart = some t →
       t + max 60 (s.dev.fg F.TIC_CAL_CTL_period) * 800000000 ≤ s.dev.tm.osc → Completes (.ticCalAuto temp) s began)) ∧
   (∀ (s : State) (n : Nat) (hits : List Nat) (temp : Int), n < 9 → (s.dev.ticCh n).stage = 1 → (s.dev.ticCh n).serving.valid = true →
     hits.length = 512 → sumOf id hits = 2 ^ 22 →
     let c := s.dev.ticCh n
     (calCheck hits = 0 → Completes (.ticLineCalDone n hits temp) s fun d =>
       (d.ticCh n).onB = !c.onB ∧ (d.ticCh n).serving.valid = true ∧ (d.ticCh n).serving.tbl = calTable (2 ^ 22) 0 hits ∧
       (d.ticCh n).stage = 2 ∧ (d.fg F.TIC_STATUS_valid).testBit n = true ∧
       Keeps [.tic] (if n < 8 then [R.TIC_STATUS, R.TIC_CH_STAT n] else [R.TIC_STATUS]) s.dev d) ∧
     (calCheck hits ≠ 0 → Completes (.ticLineCalDone n hits temp) s fun d =>
       d.ticCh n = { c with stage := 0 } ∧ d.fg F.TIC_CAL_STATUS_err = calCheck hits ∧ d.fg F.TIC_CAL_STATUS_chan = n ∧
       d.fg F.TIC_STATUS_cal_fail = 1 ∧ Keeps [.tic] [R.TIC_STATUS, R.TIC_CAL_STATUS] s.dev d)))

/-- R308: a pair that reaches 2^40 − 1 ticks while open emits a result with ovf set: the highest value when the first edge was on the start
channel, the lowest when it was on the stop channel. -/
def Obligations.PairOverflows : Prop :=
  ∀ (s : State) (p : Nat) (a : TicFirst), p < 4 → (s.dev.ticPair p).st = 2 → (s.dev.ticPair p).first = some a →
    a.tick + (2 ^ 40 - 1) ≤ s.dev.tm.ticks →
    let gave (v : Nat) (d : Device) : Prop := (d.ticPair p).last = v ∧ (d.ticPair p).flags / 4 % 2 = 1 ∧ (d.ticPair p).first = none ∧
      (d.ticPair p).st ≠ 2 ∧ (s.dev.fb F.TIC_RING_en = false → Keeps [.tic] [] s.dev d)
    (a.ch = pairStart s.dev p → Completes (.ticPairOverflow p) s (gave 0x7FFFFFFFFFFFFFFF)) ∧
    (a.ch = pairStop s.dev p → a.ch ≠ pairStart s.dev p → Completes (.ticPairOverflow p) s (gave 0x8000000000000001))

/-- R325, R326, R330, R332: OSC_WARM_N high after warm-up sets warm_lost; warm-up ends with both its conditions; MANUAL is entered from no
reference or HOLDOVER only, and set with one followed is refused with manual_ref. R328, R329, R333, R529: a good window of every locked
clock records the pair of Device Time and raw count; the second bad window in a row of an output's synthesizer declares its loss; a relock
attempt is counted and, when it succeeds, ends the fallback; at the restore Device Time goes on from the last pair by the raw count. -/
def Obligations.ClocksAndMode : Prop :=
  ((∀ (s : State) (high : Bool), s.dev.tb.warmN ≠ high → Completes (.oscWarmChange high) s fun d =>
       d.tb = { s.dev.tb with warmN := high, warmLowAt := if high then s.dev.tb.warmLowAt else s.dev.tm.osc } ∧
       d.fb F.TB_TBS_warm_lost = (s.dev.fb F.TB_TBS_warm_lost || (high && s.dev.tb.warm)) ∧
       Keeps [.tb, .mon, .cnts] [R.TB_TBS] s.dev d) ∧
   (∀ s : State, s.dev.tb.warm = false → warmDone s.dev = true → TimeOk s → s.dev.fb F.TB_TBC_manual = false →
     s.dev.fg F.TB_SEL_STATUS_mode = 0 → pickOf s.dev = none → Completes .warmupEnd s fun d =>
       d.tb.warm = true ∧ d.fg F.TB_TBS_state = 2 ∧
       Keeps [.tb, .refs, .mon, .cnts] [R.TB_TBS, R.TB_STATUS, R.TB_ERR_WIDEN, R.TB_HOLD_TIME, R.TB_HOLD_LEFT] s.dev d) ∧
   (∀ (s : State) (w : Word), Reach s R.TB_TBC →
     (w.getLsbD 31 = true → s.dev.fb F.TB_TBC_manual = false → s.dev.fg F.TB_SEL_STATUS_mode = 0 ∨ s.dev.fg F.TB_SEL_STATUS_mode = 3 →
       Completes (.manualWrite w) s fun d => d.fb F.TB_TBC_manual = true ∧ d.tb.manE = s.dev.refs.errEst ∧
       Keeps [.tb, .mon, .cnts] [R.TB_TBC, R.TB_TBS] s.dev d) ∧
     (w.getLsbD 31 = true → s.dev.fb F.TB_TBC_manual = false → s.dev.fg F.TB_SEL_STATUS_mode = 1 ∨ s.dev.fg F.TB_SEL_STATUS_mode = 2 →
       Completes (.manualWrite w) s fun d => d.fg F.TB_TBS_manual_ref = 1 ∧ Keeps [] [R.TB_TBS] s.dev d) ∧
     (w.getLsbD 31 = false → s.dev.fb F.TB_TBC_manual = true → Completes (.manualWrite w) s fun d =>
       d.fb F.TB_TBC_manual = false ∧ d.refs.steer = incrSteer s.dev ∧ d.tm = s.dev.tm ∧
       Keeps [.refs, .mon, .cnts] [R.TB_TBC, R.TB_TBS] s.dev d))) ∧
  ((∀ s : State, TimeOk s → (∀ b, b < 17 → pllChecked s.dev b = true ∧ pllLocked s.dev b = true) →
     (Completes (.pllLockWindow (2 ^ 17 - 1)) s fun d =>
       d.tm.pairD = s.dev.now - s.dev.tm.osc % 80 * s.dev.tm.tickLen ∧ d.tm.pairN = s.dev.tm.osc - s.dev.tm.osc % 80 ∧
       d.now = s.dev.now ∧ Keeps [.tm, .tb] [] s.dev d) ∧
     (∀ m, m < 4 → amGet 0 s.dev.tb.bad (12 + m) = 1 → Completes (.pllLockWindow (2 ^ 17 - 1 - 2 ^ (12 + m))) s fun d =>
       pllLocked d (12 + m) = false ∧ (∀ b, b < 17 → b ≠ 12 + m → pllLocked d b = true) ∧ (d.rn R.PWR_PLL_EVT).testBit (12 + m) = true ∧
       d.fb (F.FOUT_STATUS_lock m) = false ∧ S.PLL_LOSS ∈ d.intc.latched ∧
       Keeps [.tm, .tb, .mon, .cnts] [R.PWR_PLL_STATUS, R.PWR_PLL_EVT] s.dev d)) ∧
   (∀ (s : State) (k : Nat), k < 2 → k ∈ s.dev.life.aonClk →
     let n := amGet 0 s.dev.life.attempts k
     (n < 2 → Completes (.pllRelockAttempt k false) s fun d =>
       d.life = { s.dev.life with attempts := amSet 0 s.dev.life.attempts k (n + 1) } ∧ Keeps [.life] [] s.dev d) ∧
     (n < 3 → Completes (.pllRelockAttempt k true) s fun d =>
       k ∉ d.life.aonClk ∧ pllLocked d k = true ∧ amGet 0 d.life.attempts k = n + 1 ∧
       Keeps [.life, .mon, .cnts] [R.PWR_PLL_STATUS, R.GLB_STATUS] s.dev d)) ∧
   (∀ s : State, s.dev.dtInvalid = true → pllLocked s.dev 4 = true → pllLocked s.dev 16 = true → s.dev.tm.osc % 80 = 0 →
     s.dev.tb.oscLost = false → s.dev.sched.pend = [] → s.dev.peel.bookings = [] → (∀ n, n < 16 → s.dev.fb (F.PORT_STATUS_link_up n) = false) →
     s.dev.starter.rotations = [] → s.dev.trust.pend = none → s.dev.pair.held = false →
     let t := s.dev.tm.pairD + (s.dev.tm.osc - s.dev.tm.pairN) * s.dev.tm.tickLen
     t < 2 ^ 48 * secU → Completes .deviceTimeRestore s fun d =>
       d.now = t / 125 * 125 ∧ d.dtInvalid = false ∧ d.fb F.TB_TBS_restored = true ∧ d.fb F.TB_STATUS_stepped = true ∧
       d.rn R.TB_LOSS_GAP = lossGap s.dev ∧
       KeepsBut [.tm, .tb, .refs, .mon, .cnts, .ptp] (fun o => domainOf o == 8 || o == R.PEEL_STATUS) s.dev d))

/-- R335, R336, R338, R343: an enabled output starts at its second boundary, a FOUT only with its synthesizer locked; the phase check corrects
by 10 ps at most and reports an error above 500 ps; squelch ends at its boundary. R342, R33, R349: an event is scheduled for an EVENT
output and refused FULL for another; a cancel in time ends it; at its instant the output takes its level, and a pulse its LOW after the
width. -/
def Obligations.Outputs : Prop :=
  ((∀ (s : State) (n : Nat), n < 8 → s.dev.fb (F.TOUT_CFG_en n) = true → s.dev.fb (F.TOUT_STATUS_running n) = false → TimeOk s →
     startBoundary (s.dev.outOf n).enAt ≤ s.dev.now → Completes (.toutStart n) s fun d =>
       d.fb (F.TOUT_STATUS_running n) = true ∧ (d.outOf n).startAt = some (startBoundary (s.dev.outOf n).enAt) ∧
       (d.outOf n).level = 0 ∧ Keeps [.outs] [] s.dev d) ∧
   (∀ (s : State) (m : Nat), m < 4 → s.dev.fb (F.FOUT_CFG_en m) = true → s.dev.fb (F.FOUT_STATUS_running m) = false → TimeOk s →
     s.dev.fb (F.FOUT_STATUS_lock m) = true → startBoundary (s.dev.outOf (8 + m)).enAt ≤ s.dev.now → Completes (.foutStart m) s fun d =>
       d.fb (F.FOUT_STATUS_running m) = true ∧ (d.outOf (8 + m)).startAt = some (s.dev.now / secU * secU) ∧ Keeps [.outs] [] s.dev d) ∧
   (∀ (s : State) (n : Nat) (err : Int), n < 8 → s.dev.fb (F.TOUT_STATUS_running n) = true → (s.dev.outOf n).checkAt = none →
     probeValid s.dev = true → TimeOk s → Completes (.outputPhaseCheck n err) s fun d =>
       (d.outOf n).corr = (s.dev.outOf n).corr + max (-10) (min 10 err) ∧
       (500 < err.natAbs → d.fg (F.TOUT_STATUS_phase_err n) = 1) ∧ Keeps [.outs, .mon, .cnts] [] s.dev d) ∧
   (∀ (s : State) (n t : Nat), n < 12 → (s.dev.outOf n).clearAt = some t → s.dev.fb (sqFlag n) = true → sqCause s.dev n = false →
     t + 8000000 ≤ s.dev.tm.osc → s.dev.now ≤ s.dev.now / secU * secU + (s.dev.tm.osc - t - 8000000) * 1250 * psU →
     Completes (.squelchEnd n) s fun d => d.fb (sqFlag n) = false ∧ (d.outOf n).clearAt = none ∧ Keeps [.outs] [] s.dev d)) ∧
  ((∀ (s : State) (w : Word), Reach s R.OUT_EV_CMD →
     let n := bits w.toNat 0 3
     let t := ofDt96 (s.dev.rn3 (R.OUT_EV_AT_W 0))
     let a := Act.outEvent n (bits w.toNat 26 2) (max 10 (s.dev.rn R.OUT_EV_WIDTH))
     let h := s.dev.sched.nextHandle
     let regs := [R.OUT_EV_CMD, R.OUT_EV_RESULT, R.OUT_EV_HANDLE]
     (s.dev.fg (F.TOUT_CFG_func n) = 6 → requestCode s.dev a t = T.ACCEPTED → Completes (.outEventRequest w) s fun d =>
       d.fg F.OUT_EV_RESULT = T.ACCEPTED ∧ d.rd R.OUT_EV_HANDLE = BitVec.ofNat 32 h ∧
       d.sched.pend = s.dev.sched.pend ++ [{ handle := h, due := t, act := a, notify := false, tag := 0, stepped := false }] ∧
       Keeps [.sched] regs s.dev d) ∧
     (s.dev.fg (F.TOUT_CFG_func n) ≠ 6 → Completes (.outEventRequest w) s fun d =>
       d.fg F.OUT_EV_RESULT = T.FULL ∧ Keeps [] regs s.dev d)) ∧
   (∀ (s : State) (w : Word) (e : TimedAct) (n a width : Nat), Reach s R.OUT_EV_CMD → s.dev.sched.pend = [e] → e.act = .outEvent n a width →
     e.notify = false → e.handle = s.dev.rn R.OUT_EV_HANDLE → s.dev.now + 5000 * nsU ≤ e.due → Completes (.outEventCancel w) s fun d =>
       d.fg F.OUT_EV_RESULT = T.CANCELLED ∧ d.sched.pend = [] ∧ Sent (.timedOutcome e.handle T.CANCELLED) s.dev d ∧
       Keeps [.sched] [R.OUT_EV_CMD, R.OUT_EV_RESULT] s.dev d) ∧
   (∀ (s : State) (e : TimedAct) (n a width : Nat), n < 8 → TimeOk s → s.dev.sched.pend = [e] → isDue s.dev e = true →
     e.act = .outEvent n a width → e.notify = false → (s.dev.outOf n).lows = [] → s.dev.fb (F.TOUT_STATUS_sq n) = false →
     s.dev.fb (F.TOUT_STATUS_running n) = true → s.dev.fg (F.TOUT_CFG_func n) = 6 → Completes (.outEventExecute n) s fun d =>
       let l := if a = 0 ∨ a = 2 then 1 else if a = 1 then 0 else 1 - (s.dev.outOf n).level
       (d.outOf n).level = l ∧ (d.outOf n).lows = (if a = 2 then [(e.due + width * nsU, e.handle)] else []) ∧
       d.sched.pend = [] ∧ Sent (.pin ("TOUT" ++ toString n) l e.due) s.dev d ∧ Sent (.timedOutcome e.handle (doneCode e)) s.dev d ∧
       Keeps [.outs, .sched] [] s.dev d))

/-- R369, R446: a stage command writes its input at its offset of the staging buffer, and of the bank that does not run, and nothing else
there; an input that could not be read completes with DMA_ERR and changes nothing. R445, R447: a descriptor of no op, or with a length its
op does not have, completes with BAD_DESC and has no other effect. R509: a table read writes one 96-byte record per entry from its index
on, 1,024 at most; with room for none it completes with SHORT_BUF. -/
def Obligations.Staging : Prop :=
  ((∀ (s : State) (n : Nat) (desc bs : Bytes), CmdReady s.dev n 1 desc → 1 ≤ cLen desc → cLen desc ≤ 4096 → cArg0 desc + cLen desc ≤ 1048576 →
     cArg1 desc ≤ 65535 → bs.length = cLen desc →
     (Completes (.batchStage n desc (some bs)) s fun d => CmdDone n desc B.OK 0 0 [] s.dev d ∧
       (∀ k, amGet 0 d.trust.staging k =
         if cArg0 desc ≤ k ∧ k < cArg0 desc + cLen desc then bs.getD (k - cArg0 desc) 0 else amGet 0 s.dev.trust.staging k) ∧
       { d.trust with staging := s.dev.trust.staging } = s.dev.trust ∧ Keeps [.rings, .trust] (ringRegs n) s.dev d) ∧
     (Completes (.batchStage n desc none) s fun d => CmdDone n desc C.DMA_ERR 0 0 [] s.dev d ∧ Keeps [.rings] (ringRegs n) s.dev d)) ∧
   (∀ (s : State) (n : Nat) (desc bs : Bytes), CmdReady s.dev n 5 desc → 1 ≤ cLen desc → cLen desc ≤ 4096 → cArg0 desc + cLen desc ≤ 16777216 →
     cArg1 desc ≤ 65535 → bs.length = cLen desc → (fwBank s.dev (fwOther s.dev)).factory = false →
     Completes (.fwStage n desc (some bs) true) s fun d => CmdDone n desc B.OK 0 0 [] s.dev d ∧
       (∀ k, amGet 0xFF (fwBank d (fwOther d)).cells k =
         if cArg0 desc ≤ k ∧ k < cArg0 desc + cLen desc then bs.getD (k - cArg0 desc) 0
         else amGet 0xFF (fwBank s.dev (fwOther s.dev)).cells k) ∧
       fwBank d (1 - fwOther d) = fwBank s.dev (1 - fwOther s.dev) ∧ Keeps [.rings, .trust] (ringRegs n) s.dev d) ∧
   (∀ (s : State) (n : Nat) (desc : Bytes) (i : Instr), canTake s.dev n 0 = true → desc.length = 32 → cmdOps.contains (cOp desc) = false →
     i ∈ [.batchStage n desc none, .batchCheck n desc, .fwConfirm n desc, .claimNonce n desc, .flashErase n desc true, .cancel n desc] →
     Completes i s fun d => CmdDone n desc C.BAD_DESC 0 0 [] s.dev d ∧ Keeps [.rings] (ringRegs n) s.dev d) ∧
   (∀ (s : State) (n : Nat) (desc : Bytes), CmdReady s.dev n 2 desc → 0 < cLen desc → Completes (.batchCheck n desc) s fun d =>
       CmdDone n desc C.BAD_DESC 0 0 [] s.dev d ∧ Keeps [.rings] (ringRegs n) s.dev d)) ∧
  ((∀ (s : State) (n : Nat) (desc : Bytes), CmdReady s.dev n 0x20 desc → cLen desc = 0 → cArg0 desc < 2 ^ 26 → cArg1 desc ≤ 65535 →
     (cArg1 desc < 96 → Completes (.ctRead n desc true) s fun d =>
       CmdDone n desc C.SHORT_BUF 0 0 [] s.dev d ∧ Keeps [.rings] (ringRegs n) s.dev d) ∧
     (96 ≤ cArg1 desc → Completes (.ctRead n desc true) s fun d =>
       (∃ out, CmdDone n desc B.OK 0 0 out s.dev d ∧ out.length = 96 * min (cArg1 desc / 96) 1024 ∧
         ∀ j, j < min (cArg1 desc / 96) 1024 → slice out (96 * j) 96 =
           tableRecord 0x70 ((cArg0 desc + j) % 2 ^ 26) s.dev.now (ctBytes (amGet CtEntry.init s.dev.cls.ct ((cArg0 desc + j) % 2 ^ 26)))) ∧
       Keeps [.rings] (ringRegs n) s.dev d)) ∧
   (∀ (s : State) (n : Nat) (desc : Bytes), CmdReady s.dev n 0x21 desc → cLen desc = 0 → cArg0 desc < 2 ^ 16 → cArg1 desc ≤ 65535 →
     96 ≤ cArg1 desc → Completes (.grantRead n desc true) s fun d =>
       (∃ out, CmdDone n desc B.OK 0 0 out s.dev d ∧ out.length = 96 * min (cArg1 desc / 96) 1024 ∧
         ∀ j, j < min (cArg1 desc / 96) 1024 → s.dev.grant ((cArg0 desc + j) % 2 ^ 16) = none → slice out (96 * j) 96 =
           tableRecord 0x71 ((cArg0 desc + j) % 2 ^ 16) s.dev.now []) ∧
       Keeps [.rings] (ringRegs n) s.dev d))

/-- R370: a check answers the code of the first failure in the order of the table, which SEC_BATCH_RESULT keeps, and every refusal counts; the
nonce of a claim is discarded by the check. R371, R372, R373: a commit of a good Batch writes the free bank and requests the apply, 100 ms
on when its instant is zero; while an apply waits a commit answers BUSY; a cancel voids the bank. At the apply tick the Batch's bank is in
force, and a Batch that fails the recheck changes nothing and voids its bank. R374: after a boot the apply of a committed Batch is
requested once Device Time is set, for its instant or the next tick. R446, R31, R33: a timed register change of an open register is
requested and at its instant replaces the bits of its mask; a write of the SEC block completes with BAD_DESC; a cancel in time ends it. -/
def Obligations.Batches : Prop :=
  (∀ (s : State) (n : Nat) (desc : Bytes), CmdReady s.dev n 2 desc → plainBad desc = false →
     let b := stagedBatch s.dev
     let bound := if bPair b then paired s.dev && bBind b == pairId s.dev else bBind b == Config.serial.toNat
     let refused (c : Nat) := Completes (.batchCheck n desc) s fun d =>
       CmdDone n desc c 0 0 [] s.dev d ∧ d.fg F.SEC_BATCH_RESULT = c ∧ Counted K.SEC_BATCH_REFUSED s.dev d ∧
       Keeps [.rings, .cnts] ([R.SEC_BATCH_RESULT] ++ ringRegs n) s.dev d
     (headBad b = true → refused B.BAD_FORMAT) ∧
     (headBad b = false → 1048576 < bTotal b → refused B.TOO_LONG) ∧
     (headBad b = false → bTotal b ≤ 1048576 →
       (batchItems b = none → refused B.BAD_FORMAT) ∧
       (∀ l, batchItems b = some l → bClaim b = false →
         (bound = false → refused B.BIND) ∧
         (bound = true →
           (claimed s.dev = false → refused B.NOT_OWNED) ∧
           (claimed s.dev = true → ∀ k, s.dev.trust.owner = some k →
             (keyId k.1 k.2 ≠ bOwnerId b → refused B.OWNER_ID) ∧
             (keyId k.1 k.2 = bOwnerId b →
               (bEpoch b ≠ s.dev.fg F.SEC_FUSE_EPOCH → refused B.EPOCH) ∧
               (bEpoch b = s.dev.fg F.SEC_FUSE_EPOCH → batchSigned b k = true → (∀ i, i < 2 → (s.dev.bank i).commit = none) → l = [] →
                 Completes (.batchCheck n desc) s fun d =>
                   CmdDone n desc B.OK 0 0 [] s.dev d ∧ d.fg F.SEC_BATCH_RESULT = B.OK ∧
                   Keeps [.rings, .cnts] ([R.SEC_BATCH_RESULT] ++ ringRegs n) s.dev d))))) ∧
       (∀ l, batchItems b = some l → bClaim b = true → bound = true → claimed s.dev = true →
         Completes (.batchCheck n desc) s fun d => CmdDone n desc B.NOT_OWNED 0 0 [] s.dev d ∧
           d.fb F.SEC_STATUS_claim_armed = false ∧ (∀ k, k < 8 → d.rd (R.SEC_CLAIM_NONCE k) = 0)))) ∧
  ((∀ (s : State) (n : Nat) (desc : Bytes), CmdReady s.dev n 3 desc → plainBad desc = false →
     (s.dev.trust.pend.isSome = true → Completes (.batchCommit n desc true) s fun d =>
       CmdDone n desc B.BUSY 0 0 [] s.dev d ∧ d.fg F.SEC_BATCH_RESULT = B.BUSY ∧ Keeps [.rings] ([R.SEC_BATCH_RESULT] ++ ringRegs n) s.dev d) ∧
     (s.dev.trust.pend = none → let b := stagedBatch s.dev; let h := s.dev.sched.nextHandle; let i := freeBank s.dev
       let due := if bApplyAt b = 0 then s.dev.now + 100 * 1000000 * nsU else bApplyAt b
       batchCheck (moreBad s.dev) s.dev b = B.OK → bClaim b = false → requestCode s.dev .batchApply due = T.ACCEPTED →
       Completes (.batchCommit n desc true) s fun d => CmdDone n desc B.OK h T.ACCEPTED [] s.dev d ∧
         (d.bank i).data = b.take (bTotal b) ∧ (d.bank i).valid = true ∧ (d.bank i).applied = none ∧ d.bank (1 - i) = s.dev.bank (1 - i) ∧
         d.trust.pend = some (i, some h) ∧ d.fb F.SEC_STATUS_batch_pending = true ∧
         d.sched.pend = s.dev.sched.pend ++ [{ handle := h, due, act := .batchApply, notify := cNotify desc, tag := cTag desc, stepped := false }] ∧
         Keeps [.rings, .cnts, .sched, .trust] ([R.SEC_BATCH_RESULT, R.SEC_STATUS] ++ ringRegs n) s.dev d)) ∧
   (∀ (s : State) (n i : Nat) (desc : Bytes) (e : TimedAct), CmdReady s.dev n 4 desc → cLen desc = 0 → cArg1 desc ≤ 65535 →
     s.dev.sched.pend = [e] → e.act = .batchApply → e.handle = cArg0 desc → s.dev.trust.pend = some (i, some e.handle) → TimeOk s →
     s.dev.now + 100 * 1000000 * nsU ≤ e.due → s.dev.fb F.HIF_CTL_evt_en = false → Completes (.batchCancel n desc) s fun d =>
       CmdDone n desc B.OK 0 T.CANCELLED [] s.dev d ∧ d.sched.pend = [] ∧ d.trust.pend = none ∧ (d.bank i).void = true ∧
       d.fb F.SEC_STATUS_batch_pending = false ∧ Keeps [.rings, .sched, .trust] ([R.SEC_STATUS] ++ ringRegs n) s.dev d) ∧
   (∀ (s : State) (i : Nat) (e : TimedAct) (l : List BItem), TimeOk s → s.dev.sched.pend = [e] → isDue s.dev e = true → e.act = .batchApply →
     s.dev.trust.pend = some (i, some e.handle) → s.dev.fb F.HIF_CTL_evt_en = false → batchItems (s.dev.bank i).data = some l →
     (recheckBad s.dev (s.dev.bank i).data = true → Completes .batchApply s fun d =>
       (d.bank i).void = true ∧ d.sched.pend = [] ∧ d.trust.pend = none ∧ Sent (.timedOutcome e.handle (doneCode e)) s.dev d ∧
       Keeps [.sched, .trust] [R.SEC_STATUS] s.dev d) ∧
     (recheckBad s.dev (s.dev.bank i).data = false → l = [] → (s.dev.bank i).valid = true → (s.dev.bank (1 - i)).applied = none → i < 2 →
       Completes .batchApply s fun d => bankInForce d = some i ∧ d.bank i = { s.dev.bank i with applied := some [] } ∧
         d.trust.pend = none ∧ S.BATCH ∈ d.intc.latched ∧ Sent (.timedOutcome e.handle (doneCode e)) s.dev d ∧
         d.trust.chain = [] ∧ d.trust.ext = none))) ∧
  (∀ (s : State) (i : Nat) (c : Nat × Bytes × Inst), s.dev.trust.pend = some (i, none) → (s.dev.bank i).commit = some c → TimeOk s →
     s.dev.fb F.TB_STATUS_dt_set = true → Completes .batchApply s fun d =>
       d.trust.pend = some (i, some s.dev.sched.nextHandle) ∧
       d.sched.pend = s.dev.sched.pend ++ [{ handle := s.dev.sched.nextHandle, due := max c.2.2 s.dev.now, act := .batchApply, notify := false, tag := 0, stepped := false }] ∧
       Keeps [.sched, .trust] [R.SEC_STATUS] s.dev d) ∧
  ((∀ (s : State) (n : Nat) (desc : Bytes), CmdReady s.dev n 0x10 desc → cLen desc = 0 →
     let o := leAt desc 20 4
     let m := leAt desc 24 4
     let t := ofDt96 (leAt desc 8 12)
     let a := Act.regWrite o m (leAt desc 28 4)
     let h := s.dev.sched.nextHandle
     (timedBad s.dev o m = false → requestCode s.dev a t = T.ACCEPTED → Completes (.timedWrite n desc) s fun d =>
       CmdDone n desc B.OK h T.ACCEPTED [] s.dev d ∧
       d.sched.pend = s.dev.sched.pend ++ [{ handle := h, due := t, act := a, notify := cNotify desc, tag := cTag desc, stepped := false }] ∧
       Keeps [.rings, .sched] (ringRegs n) s.dev d) ∧
     (timedBad s.dev o m = false → requestCode s.dev a t ≠ T.ACCEPTED → Completes (.timedWrite n desc) s fun d =>
       CmdDone n desc B.OK 0 (requestCode s.dev a t) [] s.dev d ∧ Keeps [.rings] (ringRegs n) s.dev d) ∧
     (0xE000 ≤ o ∧ o < 0xF000 → Completes (.timedWrite n desc) s fun d =>
       CmdDone n desc C.BAD_DESC 0 0 [] s.dev d ∧ Keeps [.rings] (ringRegs n) s.dev d)) ∧
   (∀ (s : State) (e : TimedAct) (m v : Nat), TimeOk s → s.dev.sched.pend = [e] → isDue s.dev e = true →
     e.act = .regWrite R.GNSS_CHAN_CTL m v → m < 128 → v < 128 → e.notify = false → Reach s R.GNSS_CHAN_CTL → Completes .timedWriteExecute s fun d =>
       d.rn R.GNSS_CHAN_CTL = maskPut (s.dev.rn R.GNSS_CHAN_CTL) m v ∧ d.sched.pend = [] ∧
       Sent (.timedOutcome e.handle (doneCode e)) s.dev d ∧ Keeps [.sched] [R.GNSS_CHAN_CTL] s.dev d) ∧
   (∀ (s : State) (n o m v : Nat) (desc : Bytes) (e : TimedAct), CmdReady s.dev n 0x11 desc → cLen desc = 0 → cArg1 desc ≤ 65535 →
     s.dev.sched.pend = [e] → e.act = .regWrite o m v → e.handle = cArg0 desc → TimeOk s → s.dev.now + 10000 * nsU ≤ e.due → e.notify = false →
     s.dev.trust.pend = none → Completes (.cancel n desc) s fun d =>
       CmdDone n desc B.OK 0 T.CANCELLED [] s.dev d ∧ d.sched.pend = [] ∧ Sent (.timedOutcome e.handle T.CANCELLED) s.dev d ∧
       Keeps [.rings, .sched] (ringRegs n) s.dev d))

/-- R375, R376: a commit of firmware answers the code of its first failed check, and of a good image marks the bank committed; confirmation
brings the fuses up to the running image's svn, by command or after 86,400 s of service. R358: with CLAIM_N low a nonce is drawn and
claim_armed set, with CLAIM_N high the command answers CLAIM; a rise of CLAIM_N or 600 s discard the nonce. -/
def Obligations.FirmwareAndClaim : Prop :=
  ((∀ (s : State) (n : Nat) (desc : Bytes), CmdReady s.dev n 6 desc → plainBad desc = false → let i := fwOther s.dev
     (fwCheck s.dev i ≠ B.OK → Completes (.fwCommit n desc true) s fun d =>
       CmdDone n desc (fwCheck s.dev i) 0 0 [] s.dev d ∧ Keeps [.rings] (ringRegs n) s.dev d) ∧
     (fwCheck s.dev i = B.OK → Completes (.fwCommit n desc true) s fun d =>
       CmdDone n desc B.OK 0 0 [] s.dev d ∧ fwBank d i = { fwBank s.dev i with commit := true, failed := false, tries := 0 } ∧
       fwBank d (1 - i) = fwBank s.dev (1 - i) ∧ Keeps [.rings, .cnts, .trust] (ringRegs n) s.dev d) ∧
     ((fwBank s.dev i).factory = false → leAt (fwBytes s.dev i 0 192) 0 4 ≠ 0x4957464D → fwCheck s.dev i = B.BAD_FORMAT)) ∧
   (∀ (s : State) (n : Nat) (desc : Bytes), CmdReady s.dev n 7 desc → plainBad desc = false → Completes (.fwConfirm n desc) s fun d =>
       CmdDone n desc B.OK 0 0 [] s.dev d ∧ d.fg F.SEC_FUSE_SVN = max (s.dev.fg F.SEC_FUSE_SVN) (min 64 (fwRunning s.dev).1) ∧
       Keeps [.rings] ([R.SEC_FUSE_SVN, R.SEC_STATUS] ++ ringRegs n) s.dev d) ∧
   (∀ s : State, s.dev.fb F.SEC_CTL_auto_confirm = true → s.dev.fg F.GLB_STATUS_stage = 5 →
     s.dev.trust.servedAt + 86400 * 800000000 ≤ s.dev.tm.osc → Completes .fwAutoConfirm s fun d =>
       d.fg F.SEC_FUSE_SVN = max (s.dev.fg F.SEC_FUSE_SVN) (min 64 (fwRunning s.dev).1) ∧ Keeps [] [R.SEC_FUSE_SVN, R.SEC_STATUS] s.dev d)) ∧
  ((∀ (s : State) (n : Nat) (desc : Bytes), CmdReady s.dev n 8 desc → plainBad desc = false →
     (s.dev.trust.claimN = true → Completes (.claimNonce n desc) s fun d =>
       CmdDone n desc B.CLAIM 0 0 [] s.dev d ∧ Keeps [.rings] (ringRegs n) s.dev d) ∧
     (s.dev.trust.claimN = false → Completes (.claimNonce n desc) s fun d =>
       CmdDone n desc B.OK 0 0 [] s.dev d ∧ d.fb F.SEC_STATUS_claim_armed = true ∧ d.draws = s.dev.draws + 1 ∧
       d.trust.nonceAt = s.dev.tm.osc ∧
       Keeps [.rings, .trust, .draws] ([R.SEC_STATUS] ++ (List.range 8).map R.SEC_CLAIM_NONCE ++ ringRegs n) s.dev d)) ∧
   (∀ s : State, Completes (.claimDisarm (some true)) s fun d =>
       d.trust = { s.dev.trust with claimN := true } ∧ d.fb F.SEC_STATUS_claim_armed = false ∧ (∀ k, k < 8 → d.rd (R.SEC_CLAIM_NONCE k) = 0) ∧
       Keeps [.trust] ([R.SEC_STATUS] ++ (List.range 8).map R.SEC_CLAIM_NONCE) s.dev d) ∧
   (∀ s : State, Completes (.claimDisarm (some false)) s fun d =>
       d.trust = { s.dev.trust with claimN := false } ∧ Keeps [.trust] [] s.dev d) ∧
   (∀ s : State, s.dev.fb F.SEC_STATUS_claim_armed = true → s.dev.trust.nonceAt + 600 * 800000000 ≤ s.dev.tm.osc →
     Completes (.claimDisarm none) s fun d => d.fb F.SEC_STATUS_claim_armed = false ∧ (∀ k, k < 8 → d.rd (R.SEC_CLAIM_NONCE k) = 0) ∧
       Keeps [] ([R.SEC_STATUS] ++ (List.range 8).map R.SEC_CLAIM_NONCE) s.dev d))

/-- R378, R353, R368, R446: a quote of 400 bytes over the host's nonce is written, unless its buffer is shorter; the chain and the next TLS
key are returned. -/
def Obligations.QuotesAndKeys : Prop :=
  (∀ (s : State) (n : Nat) (desc nonce : Bytes), CmdReady s.dev n 9 desc → cLen desc = 32 → cArg0 desc = 0 → cArg1 desc ≤ 65535 → nonce.length = 32 →
    (cArg1 desc < 400 → Completes (.quote n desc (some nonce) true) s fun d =>
      CmdDone n desc C.SHORT_BUF 0 0 [] s.dev d ∧ Keeps [.rings] (ringRegs n) s.dev d) ∧
    (400 ≤ cArg1 desc → Completes (.quote n desc (some nonce) true) s fun d =>
      (∃ q, CmdDone n desc B.OK 0 0 q s.dev d ∧ q.length = 400 ∧ leAt q 0 4 = 0x544F5551 ∧ slice q 16 32 = nonce ∧
        (byteAt q 6).testBit 0 = claimed s.dev ∧ (byteAt q 6).testBit 1 = s.dev.fb F.TB_STATUS_time_valid ∧
        leAt q 120 4 = s.dev.fg F.SEC_FUSE_EPOCH ∧ leAt q 284 4 = s.dev.rn R.SEC_TAMPER_STATUS) ∧
      Keeps [.rings, .cnts, .draws] (ringRegs n) s.dev d)) ∧
  (∀ (s : State) (n : Nat) (desc : Bytes), CmdReady s.dev n 10 desc → plainBad desc = false →
    Completes (.certRead n desc true) s fun d =>
      (if Config.identityChain.length ≤ cArg1 desc then CmdDone n desc B.OK 0 0 Config.identityChain s.dev d
       else CmdDone n desc C.SHORT_BUF 0 0 [] s.dev d) ∧ Keeps [.rings] (ringRegs n) s.dev d) ∧
  (∀ (s : State) (n : Nat) (desc : Bytes), CmdReady s.dev n 11 desc → plainBad desc = false → (tlsSpki s.dev.trust.tlsNext).length ≤ cArg1 desc →
    (Completes (.tlsPubkey n desc true) s fun d =>
      CmdDone n desc B.OK 0 0 (tlsSpki s.dev.trust.tlsNext) s.dev d ∧ Keeps [.rings] (ringRegs n) s.dev d) ∧
    (Completes (.tlsPubkey n desc false) s fun d =>
      CmdDone n desc C.DMA_ERR 0 0 [] s.dev d ∧ Keeps [.rings] (ringRegs n) s.dev d))

/-- R355, R446: the flash commands read, write and erase the host region: every byte written reads as written, every other as before, and an
erased sector reads as 0xFF; other offsets complete with FLASH and change nothing. -/
def Obligations.FlashHostRegion : Prop :=
  (∀ (s : State) (n : Nat) (desc : Bytes), CmdReady s.dev n 12 desc → cLen desc = 0 → cArg1 desc ≤ 65535 →
    (flashIn (cArg0 desc) (cArg1 desc) = true → Completes (.flashRead n desc true) s fun d =>
      CmdDone n desc B.OK 0 0 ((List.range (cArg1 desc)).map fun k => flashAt s.dev (cArg0 desc + k)) s.dev d ∧
      Keeps [.rings] (ringRegs n) s.dev d) ∧
    (flashIn (cArg0 desc) (cArg1 desc) = false → Completes (.flashRead n desc true) s fun d =>
      CmdDone n desc B.FLASH 0 0 [] s.dev d ∧ Keeps [.rings] (ringRegs n) s.dev d)) ∧
  (∀ (s : State) (n : Nat) (desc bs : Bytes), CmdReady s.dev n 13 desc → 1 ≤ cLen desc → cLen desc ≤ 4096 → cArg1 desc ≤ 65535 →
    bs.length = cLen desc →
    (flashIn (cArg0 desc) (cLen desc) = true → Completes (.flashWrite n desc (some bs) true) s fun d =>
      CmdDone n desc B.OK 0 0 [] s.dev d ∧
      (∀ k, flashAt d k = if cArg0 desc ≤ k ∧ k < cArg0 desc + cLen desc then bs.getD (k - cArg0 desc) 0 else flashAt s.dev k) ∧
      { d.trust with flash := s.dev.trust.flash } = s.dev.trust ∧ (Memory.wf s.dev.trust.flash = true → Memory.wf d.trust.flash = true) ∧
      Keeps [.rings, .trust] (ringRegs n) s.dev d) ∧
    (flashIn (cArg0 desc) (cLen desc) = false → Completes (.flashWrite n desc (some bs) true) s fun d =>
      CmdDone n desc B.FLASH 0 0 [] s.dev d ∧ Keeps [.rings] (ringRegs n) s.dev d)) ∧
  (∀ (s : State) (n : Nat) (desc : Bytes), CmdReady s.dev n 14 desc → cLen desc = 0 → cArg1 desc ≤ 65535 → cArg0 desc % 4096 = 0 →
    (flashIn (cArg0 desc) 4096 = true → Completes (.flashErase n desc true) s fun d =>
      CmdDone n desc B.OK 0 0 [] s.dev d ∧
      (∀ k, flashAt d k = if cArg0 desc ≤ k ∧ k < cArg0 desc + 4096 then 0xFF else flashAt s.dev k) ∧
      { d.trust with flash := s.dev.trust.flash } = s.dev.trust ∧ (Memory.wf s.dev.trust.flash = true → Memory.wf d.trust.flash = true) ∧
      Keeps [.rings, .trust] (ringRegs n) s.dev d) ∧
    (flashIn (cArg0 desc) 4096 = false → Completes (.flashErase n desc true) s fun d =>
      CmdDone n desc B.FLASH 0 0 [] s.dev d ∧ Keeps [.rings] (ringRegs n) s.dev d))

/-- R377, R380, R381, R525: a module that faults is FAULTED and reported; a sensor latches its bit, counts and is reported; with the reaction
ZEROIZE the fuse is burned and the vault's slots are wiped, and RESET and ZEROIZE end in a time-keeping reset. -/
def Obligations.FaultsAndTamper : Prop :=
  (∀ s : State, s.dev.fg F.SEC_EXT_STATUS_state = 1 → Completes .extModuleFault s fun d =>
      d.fg F.SEC_EXT_STATUS_state = 2 ∧ d.trust = { s.dev.trust with extFault := true } ∧ S.EXT_FAULT ∈ d.intc.latched ∧
      Keeps [.trust, .mon, .cnts] [R.SEC_EXT_STATUS] s.dev d) ∧
  (∀ (s : State) (k : Nat), 2 ≤ k → k < 5 → coldHeld s.dev = false → tamperReact s.dev k = 0 → Completes (.tamperSensor k) s fun d =>
      (d.rn R.SEC_TAMPER_STATUS).testBit (k - 1) = true ∧ S.TAMPER ∈ d.intc.latched ∧
      d.cntOf K.SEC_TAMPER_EVENTS = (s.dev.cntOf K.SEC_TAMPER_EVENTS + 1) % 2 ^ 48 ∧
      Keeps [.mon, .cnts, .life] [R.SEC_TAMPER_STATUS] s.dev d) ∧
  (∀ (s : State) (k : Nat), k < 6 → coldHeld s.dev = false → tamperReact s.dev k = 1 → Completes (.tamperSensor k) s fun d =>
      (d.rn R.SEC_TAMPER_STATUS).testBit (tamperBit k) = true ∧ d.rn R.GLB_RST_CAUSE = 5 + 256 ∧ d.fb F.GLB_STATUS_kept = true ∧
      d.tm = s.dev.tm ∧ d.trust.owner = s.dev.trust.owner ∧ d.rd R.SEC_FUSE_ZCNT = s.dev.rd R.SEC_FUSE_ZCNT ∧ d.pke.jobs = []) ∧
  (∀ (s : State) (k : Nat), k < 6 → coldHeld s.dev = false → tamperReact s.dev k = 2 → s.dev.fg F.SEC_FUSE_ZCNT < 32 → Completes (.tamperSensor k) s fun d =>
      (d.rn R.SEC_TAMPER_STATUS).testBit (tamperBit k) = true ∧ d.fb F.SEC_TAMPER_STATUS_zeroized = true ∧ d.rn R.GLB_RST_CAUSE = 5 + 256 ∧
      d.tm = s.dev.tm ∧ d.fg F.SEC_FUSE_ZCNT = s.dev.fg F.SEC_FUSE_ZCNT + 1 ∧ d.trust.owner = none ∧ d.trust.tlsCur = none ∧
      d.trust.tlsNext = none ∧ d.pke.jobs = [])

/-- R386, R387, R389, R403: a malformed job of an engine is answered BAD_DESC, one of a slot it may not name DENIED, one for a stopped pool
FLUSHED, and one beyond its queue quota QUOTA, and none of these is queued; a good job that is alone starts at once on the lowest core
that can take it, for its fixed time, and waits while no core can; a bad job of a host ring completes on the ring. R391, R392, R396, R400:
a job does not end before its fixed time; at it, its completion carries the status and the output of its operation, zeros of the full
length where it failed; where the two computations differ it ends with FAULT and zeros, and its core is out of service. R400, R403: a self
test that fails puts its core out of service, and after three within 24 h for good; a bit of PKE_CORE_EN that rises starts the core's
test, and a pass brings the core back; clearing en under CUT flushes every waiting job, and an idle pool is drained at once. -/
def Obligations.PkeJobs : Prop :=
  ((∀ (s : State) (req : Nat) (desc image : Bytes), req < 4 → desc.length = 32 →
     let refused (c : Nat) (cnts : List Part) := Completes (.pkeJobSubmit req 0 desc image) s fun d =>
       Sent (.pkeReply req (pkeCqe desc c 0 0 0) []) s.dev d ∧ d.pke = s.dev.pke ∧ Keeps cnts [] s.dev d
     (pkeBad desc image = true → refused J.BAD_DESC []) ∧
     (pkeBad desc image = false → jVkey desc = true → vaultKey s.dev req (jSlot desc) (jOp desc) = none → refused J.DENIED []) ∧
     (pkeBad desc image = false → jVkey desc = false → s.dev.up .pke = false → refused J.FLUSHED [.cnts]) ∧
     (pkeBad desc image = false → jVkey desc = false → s.dev.up .pke = true → queueQuota s.dev req ≤ (pkeWaiting s.dev req).length →
       refused J.QUOTA [.cnts] ∧ Completes (.pkeJobSubmit req 0 desc image) s (Counted (K.PKE_REFUSED req) s.dev)) ∧
     (pkeBad desc image = false → jVkey desc = false → s.dev.up .pke = true → s.dev.pke.jobs = [] →
       let j : PkeJob := { id := s.dev.pke.nextId, req, desc, image, dest := .engine req, arrive := s.dev.tm.osc, start := none, ends := 0, discard := false }
       ((∀ k, k < 64 → coreFree s.dev k = false) → Completes (.pkeJobSubmit req 0 desc image) s fun d =>
         d.pke.jobs = [j] ∧ d.pke.nextId = s.dev.pke.nextId + 1 ∧ d.fg (F.PKE_RQ_STAT_waiting req) = 1 ∧
         Keeps [.pke] pkeShown s.dev d) ∧
       (∀ k, k < 64 → coreFree s.dev k = true → (∀ i, i < k → coreFree s.dev i = false) → pkeReady s.dev = true → s.dev.powered 6 = true →
         0 < runQuota s.dev req → Completes (.pkeJobSubmit req 0 desc image) s fun d =>
           d.pke.jobs = [{ j with start := some (k, s.dev.tm.osc), ends := s.dev.tm.osc + jobTime s.dev desc }] ∧
           d.fg (F.PKE_RQ_STAT_running req) = 1 ∧ d.fg F.PKE_STATUS_busy = 1 ∧ Keeps [.pke, .mon] pkeShown s.dev d))) ∧
   (∀ (s : State) (n : Nat) (desc image : Bytes), canTake s.dev n 4 = true → desc.length = 32 → pkeBad desc image = true →
     Completes (.pkeJobSubmit 4 n desc image) s fun d =>
       Sent (.cqe n (s.dev.ring n).cqTail (withPhase (pkeCqe desc J.BAD_DESC 0 0 0) (s.dev.fb (F.HIF_RING_STATUS_phase n)))) s.dev d ∧
       (d.ring n).sqHead = ((s.dev.ring n).sqHead + 1) % ringSize s.dev n ∧ Keeps [.rings] (ringRegs n) s.dev d)) ∧
  (∀ (s : State) (j : PkeJob) (k t r : Nat), s.dev.pke.jobs = [j] → j.start = some (k, t) → j.dest = .engine r → k < 64 → j.req < 4 →
     jVkey j.desc = false →
     (∀ mm, s.dev.tm.osc < j.ends → Completes (.pkeJobEnd j.id mm) s (Keeps [] [] s.dev)) ∧
     (j.ends ≤ s.dev.tm.osc → s.dev.stopOf .pke = none →
       let res := (pkeOp (jOp j.desc) (jInLen j.desc) j.image none (jEph j.desc) (jPre j.desc) (jDt2 j.desc || s.dev.fb F.PKE_CTL_dt2_all) s.dev).1
       let wait := (t - j.arrive) / 800
       (res.1 = J.OK → Completes (.pkeJobEnd j.id false) s fun d =>
         Sent (.pkeReply r (pkeCqe j.desc J.OK res.2.length k wait) res.2) s.dev d ∧ d.pke.jobs = [] ∧
         Counted (K.PKE_OK j.req) s.dev d ∧ Keeps [.pke, .cnts, .draws] pkeShown s.dev d) ∧
       (res.1 ≠ J.OK → res.1 ≠ J.FAULT → Completes (.pkeJobEnd j.id false) s fun d =>
         Sent (.pkeReply r (pkeCqe j.desc res.1 (pkeOutLen j.desc) k wait) (zeros (pkeOutLen j.desc))) s.dev d ∧ d.pke.jobs = [] ∧
         Counted (K.PKE_FAIL j.req) s.dev d ∧ Keeps [.pke, .cnts, .draws] pkeShown s.dev d) ∧
       (Completes (.pkeJobEnd j.id true) s fun d =>
         Sent (.pkeReply r (pkeCqe j.desc J.FAULT (pkeOutLen j.desc) k wait) (zeros (pkeOutLen j.desc))) s.dev d ∧ d.pke.jobs = [] ∧
         coreFault d k = true ∧ coreFree d k = false ∧ (∀ i, i < 64 → i ≠ k → coreFault d i = coreFault s.dev i) ∧
         d.fb F.PKE_STATUS_fault_evt = true ∧ Keeps [.pke, .cnts, .draws, .mon] (pkeShown ++ [R.PKE_FAULT 0, R.PKE_FAULT 1]) s.dev d))) ∧
  ((∀ (s : State) (k : Nat), k < 64 → coreFree s.dev k = true →
     (Completes (.pkeCoreSelfTest k true) s (Keeps [] [] s.dev)) ∧
     (Completes (.pkeCoreSelfTest k false) s fun d => coreFault d k = true ∧ coreFree d k = false ∧ d.fb F.PKE_STATUS_fault_evt = true ∧
       (∀ t u, amGet [] s.dev.pke.faults k = [t, u] → s.dev.tm.osc < t + 86400 * 800000000 → s.dev.tm.osc < u + 86400 * 800000000 →
         k ∈ d.pke.dead) ∧
       Keeps [.pke, .mon, .cnts] (pkeShown ++ [R.PKE_FAULT (k / 32)]) s.dev d)) ∧
   (∀ (s : State) (i b : Nat), i < 2 → b < 32 → Reach s (R.PKE_CORE_EN i) → s.dev.rd (R.PKE_CORE_EN i) = 0 → 32 * i + b ∉ s.dev.pke.dead →
     Completes (.pkeCoreEnable i (BitVec.ofNat 32 (2 ^ b))) s fun d =>
       d.rn (R.PKE_CORE_EN i) = 2 ^ b ∧ (32 * i + b, s.dev.tm.osc + 400 * 800) ∈ d.pke.kat ∧
       Keeps [.pke] (pkeShown ++ [R.PKE_CORE_EN i]) s.dev d) ∧
   (∀ (s : State) (k t : Nat), k < 64 → s.dev.pke.kat = [(k, t)] → s.dev.pke.jobs = [] →
     (Completes (.pkeKatDone k true) s fun d => coreFault d k = false ∧ d.pke.kat = [] ∧
       Keeps [.pke] (pkeShown ++ [R.PKE_FAULT (k / 32)]) s.dev d) ∧
     (Completes (.pkeKatDone k false) s fun d => coreFault d k = true ∧ d.pke.kat = [] ∧
       Keeps [.pke, .mon, .cnts] (pkeShown ++ [R.PKE_FAULT (k / 32)]) s.dev d)) ∧
   (∀ (s : State) (cut : Bool), Reach s R.PKE_CTL → s.dev.fb F.PKE_CTL_en = true → s.dev.stopOf .pke = none →
     (s.dev.pke.jobs = [] → Completes (.pkeDisable cut) s fun d =>
       d.fb F.PKE_CTL_en = false ∧ d.fb UnitId.pke.drained = true ∧ Keeps [.pke] (pkeShown ++ [R.PKE_CTL]) s.dev d) ∧
     (∀ j r, s.dev.pke.jobs = [j] → j.start = none → j.dest = .engine r → j.req < 5 →
       (Completes (.pkeDisable true) s fun d =>
         d.fb F.PKE_CTL_en = false ∧ d.fb UnitId.pke.drained = true ∧ d.pke.jobs = [] ∧
         Sent (.pkeReply r (pkeCqe j.desc J.FLUSHED 0 0 0) []) s.dev d ∧ Counted (K.PKE_FLUSHED j.req) s.dev d ∧
         Keeps [.pke, .cnts] (pkeShown ++ [R.PKE_CTL]) s.dev d) ∧
       (Completes (.pkeDisable false) s fun d => d.fb F.PKE_CTL_en = false ∧ d.fb UnitId.pke.drained = false ∧ d.pke = s.dev.pke ∧
         Keeps [.stopping] [R.PKE_CTL] s.dev d))))

/-- R409, R411: a frame that is too short or whose CRC is wrong is dropped and counted under PAIR_CRC_ERR, and one that is not sealed where it
must be is counted under PAIR_AUTH_FAIL; neither has any other effect. R410, R413, R414, R415: alignment takes the link to HELLO and sends
the HELLO; the partner's HELLO is answered by a QUOTE, and with both of its frames a pairwise key is made in ATTESTING; the checks passed
the link is UP, failed it is REFUSED with the first failure's code and the key wiped; a loss of block lock takes an UP link back to
TRAINING and wipes the key. R416: on an UP link a heartbeat carries the role and flags; one accepted shows whether the partner serves and
restarts the watch; 300 µs without one count as a loss and take the link down; before that, nothing happens. -/
def Obligations.PairMeets : Prop :=
  (∀ (s : State) (f : Bytes) (i : Instr), i ∈ [.pairHbReceive f, .pairRoleReceive f, .pairResignReceive f, .pairAckReceive f,
       .pairStarterReceive f, .pairStartCmdReceive f, .pairGenchkReceive f, .pairBatchReceive f, .pairCalRequest (some f)] →
     (f.length < 16 ∨ leVal (f.drop (f.length - 4)) ≠ (crcStd (f.take (f.length - 4))).toNat → Completes i s fun d =>
       Counted K.PAIR_CRC_ERR s.dev d ∧ Keeps [.cnts] [] s.dev d) ∧
     (16 ≤ f.length → leVal (f.drop (f.length - 4)) = (crcStd (f.take (f.length - 4))).toNat → (byteAt f 1).testBit 7 = false →
       byteAt f 0 = 3 → Completes (.pairHbReceive f) s fun d => Counted K.PAIR_AUTH_FAIL s.dev d ∧ Keeps [.cnts] [] s.dev d)) ∧
  ((∀ s : State, link s.dev = 1 → Completes .pairLinkTrained s fun d =>
       link d = 2 ∧ d.pair.hello.length = 213 ∧ leAt d.pair.hello 0 6 = pairId s.dev % 2 ^ 48 ∧ Sent (.elvod 1 false 1 d.pair.hello) s.dev d ∧
       d.pair.txSeq = 1 ∧ d.pair.rxSeq = 0 ∧ d.pair.peerHello = [] ∧ S.PAIR_LINK ∈ d.intc.latched ∧
       Keeps [.pair, .draws, .mon, .cnts] [R.PAIR_STATUS] s.dev d) ∧
   (∀ (s : State) (f p : Bytes) (seq : Nat), link s.dev = 2 → Accepts s.dev 1 f p seq → p.length = 213 → s.dev.pair.peerHello = [] →
     s.dev.pair.peerQuote = [] → Completes (.pairHelloReceive f) s fun d =>
       d.pair.peerHello = p ∧ link d = 2 ∧ d.pair.rxSeq = seq ∧
       (∃ q, q.length = 400 ∧ slice q 16 32 = quoteNonce (slice p 12 32) s.dev.pair.hello ∧ Sent (.elvod 2 false (s.dev.pair.txSeq + 1) q) s.dev d) ∧
       Keeps [.pair, .draws, .cnts] [] s.dev d) ∧
   (∀ (s : State) (f p : Bytes) (seq : Nat), link s.dev = 2 → Accepts s.dev 2 f p seq → s.dev.pair.peerQuote = [] → p ≠ [] →
     (s.dev.pair.peerHello = [] → Completes (.pairQuoteReceive f) s fun d =>
       d.pair.peerQuote = p ∧ link d = 2 ∧ Keeps [.pair] [] s.dev d) ∧
     (s.dev.pair.peerHello ≠ [] → Completes (.pairQuoteReceive f) s fun d =>
       d.pair.peerQuote = p ∧ link d = 3 ∧ (∀ x, sharedX s.dev = some x → d.trust.pairKey.isSome = true) ∧
       S.PAIR_LINK ∈ d.intc.latched ∧ Keeps [.pair, .trust, .mon, .cnts] [R.PAIR_STATUS] s.dev d)) ∧
   (∀ s : State, link s.dev = 3 →
     (attErr s.dev ≠ 0 → s.dev.pair.cal = none → Completes .pairAttestDone s fun d => link d = 5 ∧ d.fg F.PAIR_STATUS_att_err = attErr s.dev ∧
       d.trust.pairKey = none ∧ Keeps [.trust, .mon, .cnts] [R.PAIR_STATUS] s.dev d) ∧
     (role s.dev = 0 → fenceIn s.dev ≠ 2 → modeAA s.dev = false → pairBatch s.dev = (0, zeros 32) → marked s.dev = [] → s.dev.pair.cal = none →
       Completes .pairAttestDone s fun d =>
       if attErr s.dev = 0 then
         link d = 4 ∧ d.fg F.PAIR_STATUS_att_err = 0 ∧
         role d = (if member s.dev = s.dev.fg F.PAIR_CFG_pref then 2 else 1) ∧ d.pair.reached = true ∧ d.pair.watch = true ∧
         Sent (.elvod 6 true (s.dev.pair.txSeq + 1) (genchkPayload s.dev.starter)) s.dev d ∧ d.trust = s.dev.trust ∧
         Keeps [.pair, .mon, .cnts] [R.PAIR_STATUS] s.dev d
       else link d = 5 ∧ role d = 0)) ∧
   (∀ s : State, link s.dev = 4 → s.dev.pair.cal = none → Completes .elvodBlockLockLoss s fun d =>
       link d = 1 ∧ d.trust.pairKey = none ∧ role d = role s.dev ∧ Keeps [.pair, .trust, .mon, .cnts] [R.PAIR_STATUS] s.dev d)) ∧
  ((∀ s : State, link s.dev = 4 → s.dev.pair.held = false → fenceOut s.dev ≠ 0 → Completes .pairHbSend s fun d =>
       (∃ fl, Sent (.elvod 3 true (s.dev.pair.txSeq + 1) (leBytes 1 (role s.dev) ++ leBytes 1 fl ++ leBytes 4 (s.dev.rn R.OVN_STARTER_GEN))) s.dev d ∧
         fl.testBit 0 = servingRole (role s.dev) ∧ fl.testBit 1 = s.dev.fb F.TB_STATUS_time_valid ∧ fl.testBit 2 = s.dev.dtInvalid) ∧
       d.pair = { s.dev.pair with txSeq := s.dev.pair.txSeq + 1 } ∧ Keeps [.pair] [] s.dev d) ∧
   (∀ (s : State) (f p : Bytes) (seq : Nat), Accepts s.dev 3 f p seq → s.dev.pair.cal = none → role s.dev ≠ 3 → Completes (.pairHbReceive f) s fun d =>
       d.pair = { s.dev.pair with rxSeq := seq, hbRx := s.dev.tm.osc, watch := true, peer := (byteAt p 0, byteAt p 1, leAt p 2 4) } ∧
       d.fb F.PAIR_STATUS_partner_serving = (byteAt p 1).testBit 0 ∧ Keeps [.pair] [R.PAIR_STATUS] s.dev d) ∧
   (∀ s : State, s.dev.pair.watch = true → s.dev.pair.cal = none →
     (s.dev.tm.osc < s.dev.pair.hbRx + 240000 → Completes .pairHbLoss s (Keeps [] [] s.dev)) ∧
     (s.dev.pair.hbRx + 240000 ≤ s.dev.tm.osc → link s.dev = 4 → fenceIn s.dev = 1 → paired s.dev = true → s.dev.fb F.PAIR_CTL_en = true →
       role s.dev ≠ 0 → Completes .pairHbLoss s fun d =>
         d.cntOf K.PAIR_HB_LOSS = (s.dev.cntOf K.PAIR_HB_LOSS + 1) % 2 ^ 48 ∧ link d = 1 ∧ d.fb F.PAIR_STATUS_split = true ∧ role d = role s.dev ∧
         d.fb F.PAIR_STATUS_partner_serving = false ∧ d.pair.watch = false ∧ Keeps [.pair, .trust, .mon, .cnts] [R.PAIR_STATUS] s.dev d)))

/-- R408, R417: on a change of fence_in a member whose link is not UP takes over when the partner is DEAD, and splits when it is ALIVE; FENCE
fences it, but for member 0 while both drive FENCE; without a refresh ALIVE becomes DEAD; the outcome is also judged 1 s after en. R419,
R420, R421: a member whose partner is DEAD, or resigns, takes over: it drives FENCE, is SOLE, owns every marked entry, and announces them
now, after 1 s and after 2 s; the repeated sets go out when they are due. R420, R421: a proposed change of roles takes effect at its
instant; a member ordered to resign sends RESIGN, is STANDBY and drives DEAD, also in FAULT_STOP, until the ACK or 1 ms; HANDBACK proposes
the change for a second boundary at least 1 s ahead, and is refused while the partner's time is not valid. -/
def Obligations.PairRolesMove : Prop :=
  ((∀ s : State, paired s.dev = true → s.dev.fb F.PAIR_CTL_en = true →
     (link s.dev ≠ 4 → fenceIn s.dev ≠ 1 → role s.dev ≠ 0 → Completes (.fenceChange 1) s fun d =>
       fenceIn d = 1 ∧ d.fb F.PAIR_STATUS_split = true ∧ role d = role s.dev ∧ Keeps [.mon, .cnts] [R.PAIR_STATUS] s.dev d) ∧
     (fenceIn s.dev ≠ 2 → fenceOut s.dev ≠ 2 → marked s.dev = [] → Completes (.fenceChange 2) s fun d =>
       fenceIn d = 2 ∧ role d = 4 ∧ d.fb F.PAIR_STATUS_split = false ∧ Keeps [.pair, .mon, .cnts] [R.PAIR_STATUS] s.dev d) ∧
     (fenceIn s.dev ≠ 2 → fenceOut s.dev = 2 → member s.dev = 0 → Completes (.fenceChange 2) s fun d =>
       fenceIn d = 2 ∧ role d = role s.dev ∧ fenceOut d = 2 ∧ Counted K.PAIR_SPLIT_SERVE s.dev d ∧ Keeps [.cnts] [R.PAIR_STATUS] s.dev d) ∧
     (fenceIn s.dev ≠ 2 → fenceOut s.dev = 2 → member s.dev = 1 → marked s.dev = [] → Completes (.fenceChange 2) s fun d =>
       role d = 4 ∧ fenceOut d = 1 ∧ d.cntOf K.PAIR_SPLIT_SERVE = (s.dev.cntOf K.PAIR_SPLIT_SERVE + 1) % 2 ^ 48 ∧
       Keeps [.pair, .mon, .cnts] [R.PAIR_STATUS] s.dev d) ∧
     (link s.dev = 4 → fenceIn s.dev = 1 → Completes (.fenceChange 0) s fun d =>
       fenceIn d = 0 ∧ role d = role s.dev ∧ Keeps [] [R.PAIR_STATUS] s.dev d) ∧
     (s.dev.pair.reached = false → s.dev.pair.upJudged = false → s.dev.pair.enAt + 800000000 ≤ s.dev.tm.osc → link s.dev ≠ 4 → fenceIn s.dev = 1 →
       role s.dev ≠ 0 → Completes .pairUpTimeout s fun d =>
         d.pair.upJudged = true ∧ d.fb F.PAIR_STATUS_split = true ∧ role d = role s.dev ∧ Keeps [.pair, .mon, .cnts] [R.PAIR_STATUS] s.dev d)) ∧
   (∀ s : State, fenceOut s.dev = 1 → Completes .fenceRefreshTimeout s fun d => fenceOut d = 0 ∧ Keeps [] [R.PAIR_STATUS] s.dev d)) ∧
  ((∀ s : State, paired s.dev = true → s.dev.fb F.PAIR_CTL_en = true → link s.dev ≠ 4 → fenceIn s.dev ≠ 0 → s.dev.pair.held = false → role s.dev ≠ 3 →
     s.dev.fb F.PAIR_CTL_auto_pwr = false → s.dev.fb F.PAIR_CTL_gnss_track = false →
     (Completes (.fenceChange 0) s fun d => role d = 3 ∧ fenceOut d = 2 ∧ d.fb F.PAIR_STATUS_takeover = true ∧ d.fb F.PAIR_STATUS_split = false ∧
       S.PAIR_ROLE ∈ d.intc.latched ∧ (∀ i, i ∈ marked s.dev → (saOf s.dev i).valid = true → (saOf d i).attr.toNat.testBit 30 = true) ∧
       (∀ i, i ∉ marked s.dev → saOf d i = saOf s.dev i) ∧
       d.pair.announce = s.dev.pair.announce ++ [(s.dev.tm.osc + 800000000, marked s.dev), (s.dev.tm.osc + 1600000000, marked s.dev)]) ∧
     (marked s.dev = [] → Completes (.fenceChange 0) s fun d =>
       d.cntOf K.PAIR_TAKEOVER = (s.dev.cntOf K.PAIR_TAKEOVER + 1) % 2 ^ 48 ∧ Keeps [.pair, .mon, .cnts] [R.PAIR_STATUS] s.dev d)) ∧
   (∀ (s : State) (f p : Bytes) (seq : Nat), Accepts s.dev 10 f p seq → link s.dev = 4 → role s.dev ≠ 3 → s.dev.fb F.PAIR_CTL_auto_pwr = false →
     s.dev.fb F.PAIR_CTL_gnss_track = false → marked s.dev = [] → Completes (.pairResignReceive f) s fun d =>
       role d = 3 ∧ fenceOut d = 2 ∧ d.fb F.PAIR_STATUS_resign_rx = true ∧
       Sent (.elvod 12 true (s.dev.pair.txSeq + 1) (leBytes 1 10 ++ leBytes 8 seq)) s.dev d ∧
       Keeps [.pair, .mon, .cnts] [R.PAIR_STATUS] s.dev d) ∧
   (∀ (s : State) (t : Nat) (l : List Nat), s.dev.pair.announce = [(t, l)] → t ≤ s.dev.tm.osc → (∀ i ∈ l, (saOf s.dev i).valid = false) →
     Completes .pairAnnounceRepeat s fun d => d.pair = { s.dev.pair with announce := [] } ∧ Keeps [.pair] [] s.dev d)) ∧
  ((∀ (s : State) (f p : Bytes) (seq : Nat), Accepts s.dev 9 f p seq → Completes (.pairRoleReceive f) s fun d =>
       d.pair = { s.dev.pair with rxSeq := seq, change := some (byteAt p 0, byteAt p 1, ofDt96 (leAt p 2 12)) } ∧ Keeps [.pair] [] s.dev d) ∧
   (∀ (s : State) (r0 r1 : Nat) (t : Inst), s.dev.pair.change = some (r0, r1, t) → TimeOk s → t ≤ s.dev.now → r0 < 5 → r1 < 5 → marked s.dev = [] →
     role s.dev ≠ 4 → role s.dev ≠ 3 → (r0 ≠ 4 ∧ r1 ≠ 4) → Completes .pairRoleChange s fun d => role d = (if member s.dev = 0 then r0 else r1) ∧ d.pair = { s.dev.pair with change := none } ∧
       Keeps [.pair, .mon, .cnts] [R.PAIR_STATUS] s.dev d) ∧
   (∀ (s : State) (r0 r1 : Nat) (t : Inst), s.dev.pair.change = some (r0, r1, t) → s.dev.now < t →
     Completes .pairRoleChange s (Keeps [] [] s.dev)) ∧
   (∀ s : State, servingRole (role s.dev) = true → link s.dev = 4 → marked s.dev = [] →
     (Reach s R.PAIR_CMD → Completes .pairResign s fun d => role d = 1 ∧ fenceOut d = 0 ∧ d.pair.resign = some (s.dev.tm.osc, false) ∧ d.pair.held = false ∧
       (∃ pl, Sent (.elvod 10 true (s.dev.pair.txSeq + 1) pl) s.dev d) ∧ Keeps [.pair, .mon, .cnts] [R.PAIR_STATUS] s.dev d) ∧
     (faultStop s.dev = true → Completes .pairAutoResign s fun d => role d = 1 ∧ fenceOut d = 0 ∧ d.pair.held = true ∧
       (∃ pl, Sent (.elvod 10 true (s.dev.pair.txSeq + 1) pl) s.dev d) ∧ Keeps [.pair, .mon, .cnts] [R.PAIR_STATUS] s.dev d)) ∧
   (∀ (s : State) (t : Nat), s.dev.pair.resign = some (t, false) → s.dev.pair.held = false → fenceOut s.dev = 0 → s.dev.fb F.PAIR_CTL_en = true →
     paired s.dev = true →
     (∀ f p seq, Accepts s.dev 12 f p seq → byteAt p 0 = 10 → Completes (.pairAckReceive f) s fun d =>
       d.pair = { s.dev.pair with rxSeq := seq, resign := none } ∧ fenceOut d = 1 ∧ Keeps [.pair] [R.PAIR_STATUS] s.dev d) ∧
     (t + 800000 ≤ s.dev.tm.osc → Completes .resignAckTimeout s fun d =>
       d.pair = { s.dev.pair with resign := none } ∧ fenceOut d = 1 ∧ Keeps [.pair] [R.PAIR_STATUS] s.dev d) ∧
     (s.dev.tm.osc < t + 800000 → Completes .resignAckTimeout s (Keeps [] [] s.dev))) ∧
   (∀ s : State, Reach s R.PAIR_CMD → role s.dev = 3 → link s.dev = 4 → modeAA s.dev = false →
     (s.dev.pair.peer.2.1.testBit 1 = false → Completes .pairHandback s fun d =>
       d.fb F.PAIR_STATUS_cal_fail = true ∧ Keeps [] [R.PAIR_STATUS] s.dev d) ∧
     (s.dev.pair.peer.2.1.testBit 1 = true → Completes .pairHandback s fun d =>
       ∃ t, d.pair.change = some (if member s.dev = 0 then (1, 2, t) else (2, 1, t)) ∧ t % secU = 0 ∧ s.dev.now + secU ≤ t ∧
         t < s.dev.now + 2 * secU ∧ Keeps [.pair] [] s.dev d)) ∧
   (∀ s : State, Reach s R.PAIR_CTL → s.dev.fb F.PAIR_CTL_en = true → s.dev.stopOf .pair = none → role s.dev = 1 → marked s.dev = [] →
     s.dev.pair.resign = none → refType s.dev 31 ≠ 8 → s.dev.refs.sel = some 0 → s.dev.pair.cal = none → Completes (.pairDisable true) s fun d =>
       d.fb F.PAIR_CTL_en = false ∧ d.fb UnitId.pair.drained = true ∧ link d = 0 ∧ fenceOut d = 0 ∧ role d = 0 ∧
       (link s.dev = 4 → d.trust.pairKey = none) ∧ Keeps [.pair, .trust, .mon, .cnts] [R.PAIR_CTL, R.PAIR_STATUS] s.dev d))

/-- R423, R424, R430: one TIME frame goes out for each instant k × 1 ms + m × 500 µs, with its launch instant first; a frame received gives θ,
less α, as the comparison of REF31; a host write of PAIR_ASYM makes it valid, and while REF31 is SELECTED its change goes into the
build-out; PAIR_OFFSET reads the latest x. R425, R430: a calibration is refused with FULL while the link is not UP or one is pending, and
otherwise requested and forwarded; a cancel ends it; both orientations swap at A + 1 s and return at A + 2.01 s, and at A + 4 s α is
written from the three windows. R427, R428, R429: a pending generation the partner sends is held, its rotation scheduled and ACKed; a
PURGE on the partner purges here; member 1 makes its own generation 50 s before an automatic instant; generations already common stay; a
part of a Batch is kept until the whole is there. -/
def Obligations.PairTimeAndState : Prop :=
  ((∀ (s : State) (k : Nat) (tx : Inst), link s.dev = 4 → TimeOk s → s.dev.pair.cal = none → s.dev.sched.pend = [] → s.dev.pair.timeK < k → member s.dev < 2 →
     timeInstant s.dev k ≤ tx → tx < timeInstant s.dev (k + 1) → tx ≤ s.dev.now + s.dev.tm.tickLen → Completes (.pairTimeSend tx) s fun d =>
       d.pair = { s.dev.pair with timeK := k, txSeq := s.dev.pair.txSeq + 1 } ∧
       (∃ pl, Sent (.elvod 4 true (s.dev.pair.txSeq + 1) pl) s.dev d ∧ slice pl 0 12 = dt96Bytes tx ∧
         leAt pl 36 4 = min (2 ^ 32 - 1) s.dev.refs.errEst ∧ (byteAt pl 43).testBit 6 = s.dev.fb F.TB_STATUS_time_valid) ∧
       Keeps [.pair] [] s.dev d) ∧
   (∀ (s : State) (f p : Bytes) (seq : Nat) (t4 : Inst), Accepts s.dev 4 f p seq → TimeOk s → s.dev.sched.pend = [] → s.dev.pair.cal = none →
     leAt p 12 12 ≠ 0 → refType s.dev 31 = 8 → refEn s.dev 31 = true → s.dev.refs.sel ≠ some 31 → s.dev.fb F.PAIR_STATUS_swapped = false →
     Completes (.pairTimeReceive t4 f) s fun d =>
       let th2 : Int := ((ofDt96 (leAt p 24 12) : Int) - ofDt96 (leAt p 12 12)) + ((ofDt96 (leAt p 0 12) : Int) - t4)
       let x := divNearI (th2 - 2 * s.dev.rs R.PAIR_ASYM * (psU : Int)) (2 * subU)
       d.pair.offset = x ∧ d.pair.last = some (ofDt96 (leAt p 0 12), t4) ∧ (d.slot 31).lastX = some x ∧
       (d.slot 31).sum = (s.dev.slot 31).sum + x ∧ (d.slot 31).count = (s.dev.slot 31).count + 1 ∧
       (d.slot 31).own = leAt p 36 4 + s.dev.rn R.PAIR_TT_UNC + (if s.dev.fb F.PAIR_STATUS_asym_valid then 0 else 2000) ∧
       Keeps [.pair, .refs, .mon] [] s.dev d) ∧
   (∀ (s : State) (w : Word), Reach s R.PAIR_ASYM → s.dev.refs.sel ≠ some 31 → Completes (.pairAsymWrite w) s fun d =>
       d.rd R.PAIR_ASYM = w ∧ d.fb F.PAIR_STATUS_asym_valid = true ∧ Keeps [] [R.PAIR_ASYM, R.PAIR_STATUS] s.dev d) ∧
   (∀ (s : State) (w : Word), Reach s R.PAIR_ASYM → s.dev.refs.sel = some 31 → Completes (.pairAsymWrite w) s fun d =>
       d.rd R.PAIR_ASYM = w ∧ d.refs = { s.dev.refs with b := bNow s.dev + lenSub ((s.dev.rs R.PAIR_ASYM - w.toInt) * (psU : Int)), bAt := s.dev.tm.osc } ∧
       Keeps [.refs] [R.PAIR_ASYM, R.PAIR_STATUS] s.dev d) ∧
   (∀ s : State, Reach s R.PAIR_OFFSET_LO → Completes .pairOffsetRead s fun d =>
       Sent (.hostRead (BitVec.ofInt 32 s.dev.pair.offset)) s.dev d ∧ d.rn R.PAIR_OFFSET_HI = unsigned 64 s.dev.pair.offset / 2 ^ 32 ∧
       Keeps [] [R.PAIR_OFFSET_LO, R.PAIR_OFFSET_HI] s.dev d)) ∧
  ((∀ s : State, Reach s R.PAIR_CAL_CMD →
     (link s.dev ≠ 4 → Completes (.pairCalRequest none) s fun d => d.rn R.PAIR_CAL_RESULT = T.FULL ∧ Keeps [] [R.PAIR_CAL_RESULT] s.dev d) ∧
     (let t := ofDt96 (s.dev.rn3 (R.PAIR_CAL_AT_W 0)); let h := s.dev.sched.nextHandle
      link s.dev = 4 → pairCalPending s.dev = false → h < 2 ^ 32 → requestCode s.dev .pairCal t = T.ACCEPTED → Completes (.pairCalRequest none) s fun d =>
       d.rn R.PAIR_CAL_RESULT = T.ACCEPTED ∧ d.rn R.PAIR_CAL_HANDLE = h ∧
       d.sched.pend = s.dev.sched.pend ++ [{ handle := h, due := t, act := .pairCal, notify := false, tag := 0, stepped := false }] ∧
       Sent (.elvod 11 true (s.dev.pair.txSeq + 1) (dt96Bytes t)) s.dev d ∧
       Keeps [.pair, .sched] [R.PAIR_CAL_RESULT, R.PAIR_CAL_HANDLE] s.dev d) ∧
     (∀ e : TimedAct, s.dev.sched.pend = [e] → e.act = .pairCal → e.notify = false → e.handle = s.dev.rn R.PAIR_CAL_HANDLE → TimeOk s →
       s.dev.now + 10000 * nsU ≤ e.due → Completes .pairCalCancel s fun d => d.rn R.PAIR_CAL_RESULT = T.CANCELLED ∧ d.sched.pend = [] ∧
         Sent (.timedOutcome e.handle T.CANCELLED) s.dev d ∧ Keeps [.sched] [R.PAIR_CAL_RESULT] s.dev d)) ∧
   (∀ s : State, member s.dev = 0 → s.dev.fb F.PAIR_CTL_auto_cal = true → link s.dev = 4 → s.dev.sched.pend = [] → s.dev.pair.cal = none → TimeOk s →
     s.dev.nowSec % 3600 = 1799 → s.dev.now + 10000 * nsU ≤ (s.dev.nowSec + 1) * secU → Completes .pairCalAuto s fun d =>
       d.sched.pend = [{ handle := s.dev.sched.nextHandle, due := (s.dev.nowSec + 1) * secU, act := .pairCal, notify := false, tag := 0, stepped := false }] ∧
       Keeps [.pair, .sched] [] s.dev d) ∧
   (∀ (s : State) (c : PairCal), TimeOk s → s.dev.sched.pend = [] → s.dev.pair.cal = some c →
     (c.stage = 0 → c.at_ + secU ≤ s.dev.now → Completes .pairCalSwap s fun d =>
       d.pair = { s.dev.pair with cal := some { c with stage := 1 } } ∧ d.fb F.PAIR_STATUS_swapped = true ∧ Keeps [.pair] [R.PAIR_STATUS] s.dev d) ∧
     (c.stage = 1 → c.at_ + 2010 * 1000000 * nsU ≤ s.dev.now → Completes .pairCalReturn s fun d =>
       d.pair = { s.dev.pair with cal := some { c with stage := 2 } } ∧ d.fb F.PAIR_STATUS_swapped = false ∧ Keeps [.pair] [R.PAIR_STATUS] s.dev d) ∧
     (c.stage = 2 → c.at_ + 4 * secU ≤ s.dev.now → s.dev.refs.sel ≠ some 31 →
       (c.n1.1 ≠ 0 → c.s.1 ≠ 0 → c.n2.1 ≠ 0 → Completes .pairCalFinish s fun d =>
         let m (w : Nat × Rat) : Rat := w.2 / (w.1 : Rat)
         d.rs R.PAIR_ASYM = satS 32 (roundQ (((m c.n1 + m c.n2) / 2 - m c.s) / 2)) ∧ d.fb F.PAIR_STATUS_asym_valid = true ∧ d.pair.cal = none ∧
         Keeps [.pair] [R.PAIR_ASYM, R.PAIR_STATUS] s.dev d) ∧
       (c.s.1 = 0 → Completes .pairCalFinish s fun d => d.rd R.PAIR_ASYM = s.dev.rd R.PAIR_ASYM ∧ d.fb F.PAIR_STATUS_cal_fail = true ∧
         d.pair.cal = none ∧ Keeps [.pair] [R.PAIR_STATUS] s.dev d)))) ∧
  ((∀ (s : State) (f p : Bytes) (seq : Nat), Accepts s.dev 5 f p seq → byteAt p 4 = 0 → link s.dev = 4 → s.dev.starter.rotations = [] → s.dev.sched.pend = [] →
     TimeOk s → requestCode s.dev (.starterRotate true) (ofDt96 (leAt p 8 12)) = T.ACCEPTED → Completes (.pairStarterReceive f) s fun d =>
       d.starter.pending = some { num := leAt p 0 4, key := slice p 20 32, inFlash := true } ∧
       d.starter.rotations = [{ handle := s.dev.sched.nextHandle, due := ofDt96 (leAt p 8 12), auto := true, deferrals := 0 }] ∧
       d.starter.current = s.dev.starter.current ∧
       Sent (.elvod 12 true (s.dev.pair.txSeq + 1) (leBytes 1 5 ++ leBytes 8 seq)) s.dev d ∧
       Keeps [.pair, .nts, .trust, .sched] [R.OVN_STARTER_STATUS, R.OVN_STARTER_GEN] s.dev d) ∧
   (∀ (s : State) (f p : Bytes) (seq : Nat), Accepts s.dev 7 f p seq → byteAt p 0 = 2 → Completes (.pairStartCmdReceive f) s fun d =>
       d.fb F.OVN_STARTER_STATUS_purging = true ∧ d.pair = { s.dev.pair with rxSeq := seq } ∧ Keeps [.pair] [R.OVN_STARTER_STATUS] s.dev d) ∧
   (∀ (s : State) (f p : Bytes) (seq : Nat), Accepts s.dev 6 f p seq → s.dev.starter = Starter.init → Completes (.pairGenchkReceive f) s fun d =>
       d.pair = { s.dev.pair with rxSeq := seq } ∧ Keeps [.pair, .cnts] [] s.dev d) ∧
   (∀ s : State, member s.dev = 1 → link s.dev = 4 → autoRot s.dev = true → s.dev.starter.pending = none → TimeOk s → s.dev.starter.rotations = [] →
     nextAuto s.dev * secU ≤ s.dev.now + 50 * secU → requestCode s.dev (.starterRotate true) (nextAuto s.dev * secU) = T.ACCEPTED →
     Completes .starterPartnerTimeout s fun d => d.starter.pending.isSome = true ∧
       d.starter.rotations = [{ handle := s.dev.sched.nextHandle, due := nextAuto s.dev * secU, auto := true, deferrals := 0 }] ∧
       Keeps [.nts, .sched, .trust, .draws] [R.OVN_STARTER_STATUS, R.OVN_STARTER_GEN] s.dev d) ∧
   (∀ (s : State) (f p : Bytes) (seq : Nat), Accepts s.dev 8 f p seq → leAt p 0 4 = 0 → p.length = 12 → Completes (.pairBatchReceive f) s fun d =>
       (∀ k, amGet 0 d.pair.batch k = if k < 8 then p.getD (k + 4) 0 else 0) ∧ d.pair.rxSeq = seq ∧ Keeps [.pair] [] s.dev d))

/-- R440, R441, R468: a tail in range gives the slots up to it to the device; one at or beyond the ring's size, or behind what is posted,
halts the ring with BAD_DB; a stopped or halted ring takes none; a write of another size is counted. R442, R461: a head in range returns
slots, and with arm re-arms; one beyond the tail halts the ring. R453, R456, R458: a good buffer descriptor is posted behind the others, a
malformed one completes with BAD_DESC; what waits takes the buffer. R459, R461: a partly filled buffer completes once its delay has
passed, and a ring whose moderation time has passed fires. R450, R451: a SEND descriptor that breaks its table completes with BAD_DESC; a
good one books its frame on its port and commits it when it has been read, or completes with the code of the refused booking. -/
def Obligations.RingsMoveData : Prop :=
  ((∀ (s : State) (n : Nat) (w : Word), let r := s.dev.ring n; let size := ringSize s.dev n; let v := w.toNat % 65536
     (ringRuns s n → v < size → (r.sqTail + size - r.sqHead) % size ≤ (v + size - r.sqHead) % size → Completes (.sqDoorbell n w) s fun d =>
       d.ring n = { r with sqTail := v, dbSq := w } ∧ (∀ m, m ≠ n → d.ring m = s.dev.ring m) ∧ Keeps [.rings] [] s.dev d) ∧
     (ringRuns s n → (size ≤ v ∨ (v + size - r.sqHead) % size < (r.sqTail + size - r.sqHead) % size) → Completes (.sqDoorbell n w) s fun d =>
       ringHalted d n = true ∧ d.fg (F.HIF_RING_STATUS_err n) = 1 ∧ (d.ring n).posted = [] ∧ (d.ring n).heldOut = [] ∧
       d.cntOf K.HIF_HALT_DISCARD = (s.dev.cntOf K.HIF_HALT_DISCARD + (r.posted.length + r.heldOut.length)) % 2 ^ 48 ∧
       S.HIF_RING_ERR ∈ d.intc.latched ∧ (∀ m, m ≠ n → d.ring m = s.dev.ring m) ∧
       Keeps [.rings, .mon, .cnts] [R.HIF_RING_STATUS n] s.dev d) ∧
     (n < 256 → s.dev.up (.ring n) = false ∨ ringHalted s.dev n = true → Completes (.sqDoorbell n w) s fun d =>
       d.ring n = { r with dbSq := w } ∧ (∀ m, m ≠ n → d.ring m = s.dev.ring m) ∧ Keeps [.rings] [] s.dev d) ∧
     (ringRuns s n → r.flush = [] → v < size → (v + size - r.cqHead) % size ≤ (r.cqTail + size - r.cqHead) % size →
       (w.getLsbD 31 = false → Completes (.cqDoorbell n w) s fun d =>
         d.ring n = { r with cqHead := v, dbCq := w } ∧ (∀ m, m ≠ n → d.ring m = s.dev.ring m) ∧ Keeps [.rings] [] s.dev d) ∧
       (w.getLsbD 31 = true → v = r.cqTail → Completes (.cqDoorbell n w) s fun d =>
         d.ring n = { r with cqHead := v, dbCq := w, fired := false, modCount := 0, modStart := none } ∧ Keeps [.rings] [] s.dev d) ∧
       (w.getLsbD 31 = true → v ≠ r.cqTail → s.dev.pcie.pf0D = 0 → Completes (.cqDoorbell n w) s fun d =>
         d.ring n = { r with cqHead := v, dbCq := w, fired := true, modCount := 0, modStart := none } ∧ Keeps [.rings] [] s.dev d)) ∧
     (ringRuns s n → size ≤ v ∨ (r.cqTail + size - r.cqHead) % size < (v + size - r.cqHead) % size → Completes (.cqDoorbell n w) s fun d =>
       ringHalted d n = true ∧ d.fg (F.HIF_RING_STATUS_err n) = 1 ∧ Keeps [.rings, .mon, .cnts] [R.HIF_RING_STATUS n] s.dev d)) ∧
   (∀ s : State, Completes .doorbellBadSize s fun d => Counted K.HIF_DB_BAD s.dev d ∧ Keeps [.cnts] [] s.dev d)) ∧
  ((∀ (s : State) (n len : Nat), canTake s.dev n 2 = true → (s.dev.ring n).posted = [] →
     (Completes (.frameRxBuf n len false) s fun d =>
       (d.ring n).posted = [{ slot := (s.dev.ring n).sqHead, len := len % 65536, bad := false }] ∧
       (d.ring n).sqHead = ((s.dev.ring n).sqHead + 1) % ringSize s.dev n ∧ Keeps [.rings] [] s.dev d) ∧
     (Completes (.frameRxBuf n len true) s fun d => (d.ring n).posted = [] ∧
       Sent (.cqe n (s.dev.ring n).cqTail (withPhase (frameRxCqe 0 0 1 0 0) (s.dev.fb (F.HIF_RING_STATUS_phase n)))) s.dev d ∧
       Keeps [.rings] (ringRegs n) s.dev d)) ∧
   (∀ (s : State) (n len : Nat), canTake s.dev n 3 = true → (s.dev.ring n).posted = [] → 4096 ≤ len → len < 65536 →
     ((s.dev.ring n).events = [] → Completes (.streamRxbuf n len false) s fun d =>
       (d.ring n).posted = [{ slot := (s.dev.ring n).sqHead, len, bad := false }] ∧ Keeps [.rings] [] s.dev d) ∧
     (∀ e, (s.dev.ring n).events = [e] → Completes (.streamRxbuf n len false) s fun d =>
       (d.ring n).posted = [] ∧ (d.ring n).events = [] ∧
       Sent (.cqe n (s.dev.ring n).cqTail (withPhase (streamCqe e.sid e.code e.reason e.data.length e.value (s.dev.ring n).sqHead)
         (s.dev.fb (F.HIF_RING_STATUS_phase n)))) s.dev d ∧ (e.data ≠ [] → Sent (.dma n e.data) s.dev d) ∧ Keeps [.rings] (ringRegs n) s.dev d)) ∧
   (∀ (s : State) (n len : Nat), canTake s.dev n 6 = true → (s.dev.ring n).posted = [] → len < 65536 →
     (len % 64 = 0 → 64 ≤ len → Completes (.recordBuf n len false) s fun d =>
       (d.ring n).posted = [{ slot := (s.dev.ring n).sqHead, len, bad := false }] ∧ Keeps [.rings] [] s.dev d) ∧
     (len % 64 ≠ 0 ∨ len < 64 → Completes (.recordBuf n len false) s fun d => (d.ring n).posted = [] ∧
       Sent (.cqe n (s.dev.ring n).cqTail (withPhase (recordCqe (s.dev.ring n).sqHead 0 0 0 1 0) (s.dev.fb (F.HIF_RING_STATUS_phase n)))) s.dev d ∧
       Keeps [.rings] (ringRegs n) s.dev d)) ∧
   (∀ (s : State) (n t : Nat), n < 256 → (s.dev.ring n).partStart = some t →
     (t + recordDelay s.dev n ≤ s.dev.tm.osc → ∀ p, (s.dev.ring n).posted = [p] → ringMoves s.dev n = true → Completes (.bufferTimeout n) s fun d =>
       (d.ring n).posted = [] ∧ (d.ring n).part = [] ∧ (d.ring n).partStart = none ∧ ((s.dev.ring n).part ≠ [] → Sent (.dma n (s.dev.ring n).part) s.dev d) ∧
       Keeps [.rings] (ringRegs n) s.dev d) ∧
     (s.dev.tm.osc < t + recordDelay s.dev n → Completes (.bufferTimeout n) s (Keeps [] [] s.dev))) ∧
   (∀ (s : State) (n t : Nat), n < 256 → (s.dev.ring n).modStart = some t → (s.dev.ring n).fired = false → s.dev.fg (F.HIF_RING_MOD_time n) ≠ 0 →
     t + s.dev.fg (F.HIF_RING_MOD_time n) * 800 ≤ s.dev.tm.osc →
     (s.dev.pcie.pf0D = 0 → Completes (.ringModTimer n) s fun d => d.ring n = { s.dev.ring n with fired := true, modCount := 0, modStart := none } ∧
       Keeps [.rings] [] s.dev d) ∧
     (s.dev.pcie.pf0D = 3 → s.dev.fb (F.HIF_RING_CTL_wake n) = true → s.dev.pcie.pmeEn = true → Completes (.ringModTimer n) s fun d =>
       (d.ring n).fired = true ∧ d.pcie.pmeStatus = true ∧ Sent (.pme false) s.dev d ∧ Keeps [.rings, .pcie] [] s.dev d))) ∧
  (∀ (s : State) (n : Nat) (desc fr : Bytes), canTake s.dev n 1 = true → desc.length = 32 →
     let port := byteAt desc 4
     let len := leAt desc 2 2
     let te := if leAt desc 16 12 = 0 then s.dev.now + gLead s.dev else ofDt96 (leAt desc 16 12)
     let tl := te + leAt desc 28 4 * nsU
     let gcls := frameClass s.dev port ((padTo len fr).take len)
     (txBad s.dev desc = true → Completes (.frameTxSend n desc (.done fr)) s fun d =>
       Sent (.cqe n (s.dev.ring n).cqTail (withPhase (frameTxCqe 0 (s.dev.ring n).sqHead 0 1 (port % 32)) (s.dev.fb (F.HIF_RING_STATUS_phase n)))) s.dev d ∧
       Keeps [.rings] (ringRegs n) s.dev d) ∧
     (txBad s.dev desc = false → port < 16 → poolPolicy s.dev 2 ≠ 1 → poolRoom s.dev 2 (cellsOf len) = true →
       (∀ ord t, Bookable s.dev port te tl (max len 60 + 4) gcls ord t → Completes (.frameTxSend n desc (.done fr)) s fun d =>
         Booked s.dev d port t ((padTo len fr).take len) ∧ (d.ring n).sqHead = ((s.dev.ring n).sqHead + 1) % ringSize s.dev n ∧
         Keeps [.rings, .peel, .mon, .sched] [R.TROUGH_STATUS] s.dev d) ∧
       ((bookCode s.dev port te tl (max len 60 + 4) gcls).1 ≠ T.ACCEPTED → Completes (.frameTxSend n desc (.done fr)) s fun d =>
         Sent (.cqe n (s.dev.ring n).cqTail (withPhase (frameTxCqe 0 (s.dev.ring n).sqHead (bookCode s.dev port te tl (max len 60 + 4) gcls).1 0 port)
           (s.dev.fb (F.HIF_RING_STATUS_phase n)))) s.dev d ∧ Keeps [.rings, .peel, .cnts] (ringRegs n) s.dev d)))

/-- R437, R467, R469: en starts a ring afresh with phase 1, but a second LEDGER ring is refused with BAD_CFG; clearing en of an idle ring
completes the descriptors not read with FLUSHED and drains it; a write of resume takes every ring out of its pause. R462, R464, R465,
R466, R467: the endpoint's power states and link: outside D0 nothing is held back but host memory; PME_Turn_Off is acknowledged; a reset
or a loss of the link leaves the rings, and its end pauses every enabled one; a held message goes out at the end of its hold only if its
target still has a source. R470, R485: a function level reset of PF0 gives the rings and the HIF registers their reset values, keeping
Device Time, serving and the source configuration; one of PF1 changes only its own D-state. -/
def Obligations.RingsAndLink : Prop :=
  ((∀ (s : State) (n : Nat), n < 256 → Reach s (R.HIF_RING_CTL n) → s.dev.fb (F.HIF_RING_CTL_en n) = false → s.dev.stopOf (.ring n) = none →
     (ringClass s.dev n ≠ 5 → Completes (.ringEnable n) s fun d =>
       d.fb (F.HIF_RING_CTL_en n) = true ∧ d.fb (F.HIF_RING_CTL_drained n) = false ∧ d.fb (F.HIF_RING_STATUS_phase n) = true ∧ ringHalted d n = false ∧
       ringPaused d n = false ∧ d.ring n = { Ring.init with dbSq := (s.dev.ring n).dbSq, dbCq := (s.dev.ring n).dbCq } ∧ d.rd (R.HIF_RING_DONE n) = 0 ∧
       Keeps [.rings] (R.HIF_RING_CTL n :: ringRegs n) s.dev d) ∧
     (ringClass s.dev n = 5 → ledgerTaken s.dev n = true → Completes (.ringEnable n) s fun d =>
       d.fb (F.HIF_RING_CTL_en n) = false ∧ d.fg (F.HIF_RING_STATUS_err n) = 4 ∧ Keeps [] [R.HIF_RING_STATUS n] s.dev d)) ∧
   (∀ (s : State) (n : Nat) (cut : Bool) (desc : Bytes), n < 256 → Reach s (R.HIF_RING_CTL n) → s.dev.fb (F.HIF_RING_CTL_en n) = true →
     s.dev.stopOf (.ring n) = none → ringClass s.dev n = 0 → ringMoves s.dev n = true →
     let r := s.dev.ring n
     r.posted = [] → r.heldOut = [] → r.part = [] → r.flush = [] → r.events = [] → r.sqHead < ringSize s.dev n → unreturned s.dev n < ringSize s.dev n - 1 →
     s.dev.nts.streams = [] → s.dev.peel.bookings = [] → s.dev.pke.jobs = [] → (s.dev.portSt 16).hostQ = [] → desc.length = 32 →
     r.sqTail = (r.sqHead + 1) % ringSize s.dev n → Completes (.ringDisable n cut [desc]) s fun d =>
       d.fb (F.HIF_RING_CTL_en n) = false ∧ (d.ring n).flush = [] ∧
       Sent (.cqe n r.cqTail (withPhase (cmdCqe (cTag desc) 0x21 (cOp desc) 0 0 0) (s.dev.fb (F.HIF_RING_STATUS_phase n)))) s.dev d ∧
       Keeps [.rings, .stopping, .ports, .nts, .pke, .peel] (ringRegs n ++ R.HIF_RING_CTL n :: pkeShown) s.dev d) ∧
   (∀ s : State, Reach s R.HIF_CTL → (∀ m, s.dev.ring m = { s.dev.ring m with heldOut := [], flush := [] }) → Completes .ringResume s fun d =>
       (∀ n, n < 256 → ringPaused d n = false) ∧ (∀ n, ringHalted d n = ringHalted s.dev n) ∧
       Keeps [.rings] ((List.range 256).map R.HIF_RING_STATUS) s.dev d)) ∧
  ((∀ (s : State) (bme pmeEn fnMask aspm : Bool), s.dev.pcie.linkUp = true → s.dev.pcie.perstLow = false →
     Completes (.pf0DStateChange 3 bme pmeEn fnMask aspm) s fun d =>
       d.pcie = { s.dev.pcie with pf0D := 3, bme, pmeEn, fnMask, aspmL1En := aspm, l1 := false } ∧ hostReach d = false ∧ Keeps [.pcie] [] s.dev d) ∧
   (∀ s : State, s.dev.pcie.linkUp = true → s.dev.pcie.perstLow = false →
     (Completes .pmeTurnOff s fun d => Sent .pmeToAck s.dev d ∧ d.pcie.l23 = true ∧ Keeps [.pcie] [] s.dev d) ∧
     (Completes .pcieLinkDown s fun d => d.pcie.linkUp = false ∧ d.pcie.bme = s.dev.pcie.bme ∧ hostReach d = false ∧ Keeps [.pcie] [] s.dev d) ∧
     (s.dev.pcie.aspmL1En = true → s.dev.pcie.l23 = false → noTargets s → Completes .aspmL1Entry s fun d =>
       d.pcie.l1 = true ∧ d.fb F.HIF_STATUS_l1 = true ∧ Keeps [] [] s.dev d)) ∧
   (∀ s : State, Completes .perstAssert s fun d => d.pcie.perstLow = true ∧ d.pcie.linkUp = false ∧ d.pcie.bme = false ∧ d.pcie.pf0D = (if s.dev.pcie.l23 then 4 else 0) ∧ Keeps [.pcie] [] s.dev d) ∧
   (∀ (s : State) (speed width : Nat),
     (s.dev.pcie.perstLow = true → Completes (.perstRelease speed width) s fun d => d.pcie.perstLow = false ∧ d.pcie.linkUp = true ∧ d.pcie.pf0D = 0 ∧
       (∀ n, n < 256 → ringPaused d n = (ringPaused s.dev n || s.dev.fb (F.HIF_RING_CTL_en n))) ∧
       ((∃ n, n < 256 ∧ s.dev.fb (F.HIF_RING_CTL_en n) = true) → d.fb F.HIF_STATUS_perst_seen = true) ∧
       Keeps [.pcie] ((List.range 256).map R.HIF_RING_STATUS) s.dev d) ∧
     (s.dev.pcie.perstLow = false → s.dev.pcie.linkUp = false → Completes (.pcieLinkReturn speed width) s fun d => d.pcie.linkUp = true ∧
       (∀ n, n < 256 → ringPaused d n = (ringPaused s.dev n || s.dev.fb (F.HIF_RING_CTL_en n))) ∧
       Keeps [.pcie] ((List.range 256).map R.HIF_RING_STATUS) s.dev d)) ∧
   (∀ (s : State) (vec k : Nat), vec < 16 → k < 16 → msgHeld s.dev vec = false → s.dev.intc.held = [k] → s.dev.fg (F.INTC_TGT_CTL_vec (16 + k)) = vec →
     ((offeredTo s.dev (16 + k)).isEmpty = false → Completes (.msixHoldRelease vec) s fun d =>
       Sent (.msix vec) s.dev d ∧ k ∉ d.intc.held ∧ Keeps [] [] s.dev d) ∧
     (noTargets s → Completes (.msixHoldRelease vec) s fun d =>
       d.out = s.dev.out ∧ d.intc.held = [] ∧ Keeps [] [] s.dev d))) ∧
  ((∀ s : State, Completes .functionLevelReset s fun d =>
       d.rings = [] ∧ d.pcie.bme = false ∧ (∀ n, n < 256 → d.rd (R.HIF_RING_CTL n) = regReset (R.HIF_RING_CTL n)) ∧ d.tm = s.dev.tm ∧ d.cls = s.dev.cls ∧
       d.refs = s.dev.refs ∧ (∀ k, k < 1024 → d.rd (R.INTC_SRC_CFG k) = s.dev.rd (R.INTC_SRC_CFG k)) ∧ (∀ e ∈ d.intc.active, e.2 < 16) ∧
       (∀ e ∈ s.dev.intc.active, e.2 < 16 → e ∈ d.intc.active)) ∧
   (∀ s : State, Completes .pf1Flr s fun d => d.pcie = { s.dev.pcie with pf1D := 0, l1 := d.pcie.l1 } ∧ Keeps [.pcie] [] s.dev d))

/-- R485: a function level reset of PF0: every source active on a host target becomes inactive, and pends again if its sense and line warrant;
the registers of the host targets take their reset values; source configuration, engine targets and the delivery mode are unchanged. -/
def Obligations.FlrInterrupts : Prop :=
  ∀ s : State, Completes .functionLevelReset s fun d =>
    (∀ e, e ∈ d.intc.active ↔ e ∈ s.dev.intc.active ∧ e.2 < 16) ∧
    (∀ src, srcReserved src = false → senseOf d src = 0 → src ∈ d.intc.lines → pends d src = true) ∧
    (∀ o, R.INTC_TGT_CTL 16 ≤ o → o < R.INTC_TGT_CTL 32 → d.rd o = regReset o) ∧
    (∀ k, k < 1024 → d.rd (R.INTC_SRC_CFG k) = s.dev.rd (R.INTC_SRC_CFG k)) ∧
    (∀ o, R.INTC_TGT_CTL 0 ≤ o → o < R.INTC_TGT_CTL 16 → d.rd o = s.dev.rd o) ∧ d.fb F.INTC_CTL_mode = s.dev.fb F.INTC_CTL_mode ∧
    d.intc.run = s.dev.intc.run

/-- R476, R479, R481: a read of a host target's CLAIM returns the winning source, which becomes active there and is no longer latched or
pending by software, and moves the round-robin pointer; with none offered it returns 0x3FF, spurious if a message had gone out; on an
engine target it returns 0x3FF and claims nothing. An EOI of an active source ends it, any other is refused and counted. R474, R475, R476,
R488: a set-pending bit makes a host-side source pend until it is claimed, and a clear-pending bit withdraws its latched and software
pending; a write of an engine-side source's configuration is refused and counted, of a host-side one it sets enable, priority and mask,
and the sense only while it is disabled; a pulse latches its source, and a line of the service firmware follows its level. -/
def Obligations.HostInterrupts : Prop :=
  ((∀ (s : State) (t : Nat), 16 ≤ t → t < 32 → Reach s (R.INTC_TGT_CLAIM t) →
     (∀ src, winner s.dev t = some src → Settled s.dev → Completes (.intcClaimRead t) s fun d =>
       Sent (.hostRead (BitVec.ofNat 32 src)) s.dev d ∧ d.intc.active = s.dev.intc.active ++ [(src, t)] ∧ src ∉ d.intc.soft ∧
       amGet 32 d.intc.rrPtr src = t ∧ offered d src t = false ∧ Keeps [.irq] [] s.dev d) ∧
     (winner s.dev t = none → t - 16 ∉ s.dev.intc.msgOut → Completes (.intcClaimRead t) s fun d =>
       Sent (.hostRead 0x3FF) s.dev d ∧ Keeps [] [] s.dev d) ∧
     (winner s.dev t = none → t - 16 ∈ s.dev.intc.msgOut → Completes (.intcClaimRead t) s fun d =>
       Sent (.hostRead 0x3FF) s.dev d ∧ d.fb F.INTC_STATUS_spurious = true ∧ Counted K.INTC_SPURIOUS s.dev d ∧
       Keeps [.cnts] [R.INTC_STATUS] s.dev d)) ∧
   (∀ (s : State) (t : Nat), t < 16 → Reach s (R.INTC_TGT_CLAIM t) → Completes (.intcClaimRead t) s fun d =>
       Sent (.hostRead 0x3FF) s.dev d ∧ Keeps [] [] s.dev d) ∧
   (∀ (s : State) (t : Nat) (w : Word), 16 ≤ t → t < 32 → Reach s (R.INTC_TGT_EOI t) → let src := w.toNat % 1024
     ((src, t) ∈ s.dev.intc.active → Completes (.intcEoi t w) s fun d =>
       d.intc.active = s.dev.intc.active.filter (fun e => !(e == (src, t))) ∧ Keeps [.irq] [] s.dev d) ∧
     ((src, t) ∉ s.dev.intc.active → Completes (.intcEoi t w) s fun d =>
       d.fb F.INTC_STATUS_bad_eoi = true ∧ Counted K.INTC_BAD_EOI s.dev d ∧ Keeps [.cnts] [R.INTC_STATUS] s.dev d)) ∧
   (∀ (s : State) (t : Nat) (w : Word), t < 16 → Reach s (R.INTC_TGT_EOI t) → Completes (.intcEoi t w) s (Keeps [] [] s.dev))) ∧
  ((∀ (s : State) (w k : Nat), w < 32 → k < 32 → let src := 32 * w + k
     srcReserved src = false → s.dev.fb (F.INTC_SRC_CFG_side src) = true →
     (Reach s (R.INTC_SETP w) → Completes (.intcSetPending w (BitVec.ofNat 32 (2 ^ k))) s fun d =>
       src ∈ d.intc.soft ∧ pends d src = true ∧ (∀ x, x ≠ src → (x ∈ d.intc.soft ↔ x ∈ s.dev.intc.soft)) ∧ Keeps [.irq] [] s.dev d) ∧
     (Reach s (R.INTC_PEND w) → Completes (.intcClearPending w (BitVec.ofNat 32 (2 ^ k))) s fun d =>
       src ∉ d.intc.soft ∧ (∀ x, x ≠ src → (x ∈ d.intc.soft ↔ x ∈ s.dev.intc.soft)) ∧ Keeps [.irq] [] s.dev d)) ∧
   (∀ (s : State) (n : Nat) (w : Word), n < 1024 → srcReserved n = false → Reach s (R.INTC_SRC_CFG n) →
     (s.dev.fb (F.INTC_SRC_CFG_side n) = false → Completes (.intcSrcCfgWrite n w) s fun d =>
       Counted K.INTC_HOST_DENIED s.dev d ∧ Keeps [.cnts] [] s.dev d) ∧
     (s.dev.fb (F.INTC_SRC_CFG_side n) = true → Completes (.intcSrcCfgWrite n w) s fun d =>
       d.fb (F.INTC_SRC_CFG_en n) = w.getLsbD 31 ∧ d.fg (F.INTC_SRC_CFG_prio n) = bits w.toNat 24 4 ∧
       d.fg (F.INTC_SRC_CFG_tmask n) = bits w.toNat 0 16 ∧ d.fb (F.INTC_SRC_CFG_side n) = true ∧
       d.fg (F.INTC_SRC_CFG_sense n) = (if s.dev.fb (F.INTC_SRC_CFG_en n) then s.dev.fg (F.INTC_SRC_CFG_sense n) else bits w.toNat 29 2) ∧
       Keeps [] [R.INTC_SRC_CFG n] s.dev d)) ∧
   (∀ (s : State) (src : Nat), 0x200 ≤ src → src ≤ 0x2FF →
     (Completes (.intcSourceEvent src true) s fun d => src ∈ d.intc.fw ∧ src ∈ d.intc.lines ∧ Keeps [.irq] [] s.dev d) ∧
     (Completes (.intcSourceEvent src false) s fun d => src ∉ d.intc.fw ∧ (∀ x, x ≠ src → (x ∈ d.intc.fw ↔ x ∈ s.dev.intc.fw)) ∧ Keeps [.irq] [] s.dev d)) ∧
   (∀ (s : State) (src : Nat), statusLine src = false → src < 0x200 → srcReserved src = false → Completes (.intcSourceEvent src true) s fun d =>
       src ∈ d.intc.latched ∧ pends d src = true ∧ Keeps [] [] s.dev d))

/-- R477, R479, R482, R483, R484: an engine that accepts an offer claims the most urgent source then offered and runs at its priority, or the
vector 0x3FF, which is counted; its return completes the source and restores the level below; under ROUND_ROBIN an offer not claimed in
time moves to the next admitted target. -/
def Obligations.EngineInterrupts : Prop :=
  (∀ (s : State) (k : Nat), k < 16 →
    (∀ src, winner s.dev k = some src → Completes (.engineInterruptEntry k) s fun d =>
      d.intc.active = s.dev.intc.active ++ [(src, k)] ∧ runPrio d k = srcPrio s.dev src ∧ src ∉ d.intc.soft ∧ Keeps [.irq] [] s.dev d) ∧
    (winner s.dev k = none → Completes (.engineInterruptEntry k) s fun d =>
      Counted K.INTC_SPURIOUS s.dev d ∧ Keeps [.cnts] [] s.dev d)) ∧
  (∀ (s : State) (k src p : Nat), k < 16 → s.dev.intc.run = [(k, [(src, p)])] → s.dev.intc.active = [(src, k)] →
    (∀ x, x < 1024 → s.dev.fb (F.INTC_SRC_CFG_en x) = false) → Completes (.engineInterruptReturn k) s fun d =>
      d.intc.active = [] ∧ d.intc.run = [] ∧ runPrio d k = 16 ∧ Keeps [.irq] [] s.dev d) ∧
  (∀ (s : State) (src t u : Nat), Settled s.dev → s.dev.fb F.INTC_CTL_mode = true → t < 32 → s.dev.intc.rrOffer = [(src, t)] →
    amGet 0 s.dev.intc.rrSince src + max 1 (s.dev.fg F.INTC_CTL_rr_to) * 800 ≤ s.dev.tm.osc → nextTarget s.dev src t = some u → src ∈ pendSet s.dev →
    troughSettle s.dev = s.dev → outSettle s.dev = s.dev → Completes (.intcRrTimeout src) s fun d =>
      amGet 32 d.intc.rrOffer src = u ∧ Keeps [] [] s.dev d)

/-- R475, R480: after every command the controller sees the lines as the block drives them, and each host target that is newly offered a
source has its message sent or held. Every step answers a next state: no command of the block is refused or faults, and the queue loses
its front and nothing more. -/
def Obligations.CommandsSettle : Prop :=
  ((∀ (i : Instr) (s : State), ∃ d, exec i s = finish s d) ∧
   (∀ (s : State) (d : Device), ∃ t, finish s d = .next t ∧ t.pending = s.pending ∧ Settled t.dev ∧
     ∀ k, k ∈ t.dev.intc.told → k ∉ d.intc.told → k ∈ t.dev.intc.msgOut ∨ k ∈ t.dev.intc.held)) ∧
  (∀ s : State, ∃ t, step s = .next t ∧ t.pending = s.pending.tail)

/-- R491, R492, R382, R510: a read of MON_CNT_LO returns the low word of the value the view and index select (the counter now, in the latest
snapshot or the one before, a port statistic, a latched result) and latches its high word; a read of the low word of a seq of the Ledger
or of a Batch latches the high word. R494, R495, R511: NOW copies the counters and statistics into the other bank, adds 1 to MON_SNAP_SEQ,
writes its instant and reports DONE with handle 0; AT schedules a snapshot under its handle, or reports why not; at its instant it copies;
a cancel in time ends it. -/
def Obligations.CountersRead : Prop :=
  ((∀ (s : State) (i v : Nat), Reach s R.MON_CNT_LO → s.dev.fg F.MON_CNT_IDX_index = i →
     (s.dev.fg F.MON_CNT_IDX_view = 0 ∧ i < 4096 ∧ v = s.dev.cntOf i) ∨
     (s.dev.fg F.MON_CNT_IDX_view = 1 ∧ i < 4096 ∧ v = amGet 0 s.dev.mon.snap i) ∨
     (s.dev.fg F.MON_CNT_IDX_view = 2 ∧ i < 4096 ∧ v = amGet 0 s.dev.mon.snapPrev i) ∨
     (s.dev.fg F.MON_CNT_IDX_view = 3 ∧ i / 64 < 17 ∧ i % 64 < 42 ∧ v = statOf s.dev (i / 64) (i % 64)) ∨
     (s.dev.fg F.MON_CNT_IDX_view = 4 ∧ i / 64 < 17 ∧ i % 64 < 42 ∧ v = amGet 0 s.dev.mon.snapStat i) ∨
     (s.dev.fg F.MON_CNT_IDX_view = 5 ∧ i / 128 < 256 ∧ i % 128 ≠ 66 ∧ i % 128 ≠ 67 ∧ v = amGet 0 (s.dev.hist (i / 128)).latched (i % 128)) ∨
     (6 ≤ s.dev.fg F.MON_CNT_IDX_view ∧ v = 0) →
     Completes .monCntRead s fun d => Sent (.hostRead (BitVec.ofNat 32 v)) s.dev d ∧
       d.mon = { s.dev.mon with cntHi := BitVec.ofNat 32 (v / 2 ^ 32) } ∧ Keeps [.mon] [] s.dev d) ∧
   (∀ s : State,
     (Reach s R.MON_LEDGER_SEQ_LO → Completes (.ledgerSeqRead false) s fun d =>
       Sent (.hostRead (BitVec.ofNat 32 s.dev.mon.ledgerSeq)) s.dev d ∧
       d.rd R.MON_LEDGER_SEQ_HI = BitVec.ofNat 32 (s.dev.mon.ledgerSeq / 2 ^ 32) ∧ Keeps [] [R.MON_LEDGER_SEQ_HI] s.dev d) ∧
     (∀ seq bs rest, s.dev.mon.ledger = (seq, bs) :: rest → Reach s R.MON_LEDGER_OLD_LO → Completes (.ledgerSeqRead true) s fun d =>
       Sent (.hostRead (BitVec.ofNat 32 seq)) s.dev d ∧
       d.rd R.MON_LEDGER_OLD_HI = BitVec.ofNat 32 (seq / 2 ^ 32) ∧ Keeps [] [R.MON_LEDGER_OLD_HI] s.dev d) ∧
     (∀ b, batchInForce s.dev = some b → Reach s R.SEC_BATCH_SEQ_LO → Completes (.secBatchSeqRead false) s fun d =>
       Sent (.hostRead (BitVec.ofNat 32 (bSeq b))) s.dev d ∧
       d.rd R.SEC_BATCH_SEQ_HI = BitVec.ofNat 32 (bSeq b / 2 ^ 32) ∧ Keeps [] [R.SEC_BATCH_SEQ_HI] s.dev d) ∧
     (∀ i h, s.dev.trust.pend = some (i, h) → Reach s R.SEC_BATCH_PEND_LO → Completes (.secBatchSeqRead true) s fun d =>
       Sent (.hostRead (BitVec.ofNat 32 (bSeq (s.dev.bank i).data))) s.dev d ∧
       d.rd R.SEC_BATCH_PEND_HI = BitVec.ofNat 32 (bSeq (s.dev.bank i).data / 2 ^ 32) ∧ Keeps [] [R.SEC_BATCH_PEND_HI] s.dev d))) ∧
  ((∀ (s : State) (w : Word), Reach s R.MON_SNAP_CMD →
     let t := ofDt96 (s.dev.rn3 (R.MON_SNAP_AT_W 0))
     let h := s.dev.sched.nextHandle
     (TimeOk s → Completes (.snapshotNow w) s fun d =>
       Snapped s.dev.now s.dev d ∧ d.rn R.MON_SNAP_RESULT = T.DONE ∧ d.rn R.MON_SNAP_HANDLE = 0 ∧
       Keeps [.mon] ([R.MON_SNAP_CMD, R.MON_SNAP_RESULT, R.MON_SNAP_HANDLE] ++ snapShown) s.dev d) ∧
     (requestCode s.dev .snapshot t = T.ACCEPTED → Completes (.snapshotAt w) s fun d =>
       d.sched.pend = s.dev.sched.pend ++
         [{ handle := h, due := t, act := .snapshot, notify := w.getLsbD 28, tag := 0, stepped := false }] ∧
       d.rn R.MON_SNAP_RESULT = T.ACCEPTED ∧ d.rd R.MON_SNAP_HANDLE = BitVec.ofNat 32 h ∧
       Keeps [.sched] [R.MON_SNAP_CMD, R.MON_SNAP_RESULT, R.MON_SNAP_HANDLE] s.dev d) ∧
     (∀ c, requestCode s.dev .snapshot t = c → c ≠ T.ACCEPTED → Completes (.snapshotAt w) s fun d =>
       d.rn R.MON_SNAP_RESULT = c ∧ d.rn R.MON_SNAP_HANDLE = 0 ∧
       Keeps [] [R.MON_SNAP_CMD, R.MON_SNAP_RESULT, R.MON_SNAP_HANDLE] s.dev d) ∧
     (∀ e, s.dev.sched.pend = [e] → e.act = .snapshot → e.notify = false → e.handle = s.dev.rn R.MON_SNAP_HANDLE →
       s.dev.now + 10000 * nsU ≤ e.due → Completes (.snapshotCancel w) s fun d =>
       d.sched.pend = [] ∧ d.rn R.MON_SNAP_RESULT = T.CANCELLED ∧ Sent (.timedOutcome e.handle T.CANCELLED) s.dev d ∧
       Keeps [.sched] [R.MON_SNAP_CMD, R.MON_SNAP_RESULT] s.dev d)) ∧
   (∀ (s : State) (e : TimedAct), s.dev.sched.pend = [e] → isDue s.dev e = true → e.act = .snapshot → e.notify = false →
     Completes .snapshotExecute s fun d =>
       Snapped (if e.stepped then s.dev.now else e.due) s.dev d ∧ d.sched.pend = [] ∧ Sent (.timedOutcome e.handle (doneCode e)) s.dev d ∧
       Keeps [.mon, .sched] snapShown s.dev d))

/-- R496, R497: a monitor with an open window places the value at the head of its queue, or a latency of the Trough measured now: in bin 0
below lo, in bin k in the k-th step of w above it, or LOG2 in the bin of the power of two of its distance in steps; and it updates count,
sum, min and max. R498, R499, R500, R511: a PERIODIC boundary latches the window and starts the next from zero; a timed START or END is
scheduled under its handle and at its instant latches the open window, a START then opening the next; a cancel in time ends it. -/
def Obligations.Histograms : Prop :=
  (∀ (s : State) (h : Nat) (v : Int) (q : List Int) (m : Option Int), h < 256 → s.dev.up (.hist h) = true →
     (s.dev.hist h).win.isOpen = true →
     (m = none ∧ (s.dev.hist h).queue = v :: q) ∨ (m = some v ∧ (s.dev.hist h).queue = [] ∧ q = [] ∧ TimeOk s ∧
       s.dev.fg (F.MON_HIST_CFG_src h) = 14 ∧ s.dev.fg (F.MON_HIST_CFG_arg h) < 4) →
     let x := (s.dev.hist h).win
     let lo := s.dev.rs (R.MON_HIST_LO h)
     let w : Int := max 1 (s.dev.rn (R.MON_HIST_W h))
     let old (k : Nat) : Nat := amGet 0 x.bins k
     x.sum + v < 2 ^ 63 → -(2 ^ 63) ≤ x.sum + v → x.count + 1 < 2 ^ 48 → (∀ k, old k + 1 < 2 ^ 48) →
     let placed (k : Nat) : Prop := Completes (.histValue h m) s fun d =>
       (∀ j, amGet 0 (d.hist h).win.bins j = if j = k then old k + 1 else old j) ∧ (d.hist h).queue = q ∧
       { (d.hist h).win with bins := x.bins } = { x with count := x.count + 1, sum := x.sum + v, min := min x.min v, max := max x.max v } ∧
       (∀ k, k ≠ h → d.hist k = s.dev.hist k) ∧ Keeps [.mon] [] s.dev d
     (v < lo → placed 0) ∧
     (s.dev.fb (F.MON_HIST_CFG_scheme h) = false → (∀ k : Nat, 1 ≤ k → k ≤ 62 → lo + (k - 1) * w ≤ v → v < lo + k * w → placed k) ∧
       (lo + 62 * w ≤ v → placed 63)) ∧
     (s.dev.fb (F.MON_HIST_CFG_scheme h) = true → (lo ≤ v → v < lo + w → placed 0) ∧
       (∀ k : Nat, 1 ≤ k → k ≤ 62 → lo + 2 ^ (k - 1) * w ≤ v → v < lo + 2 ^ k * w → placed k) ∧ (lo + 2 ^ 62 * w ≤ v → placed 63))) ∧
  (let latches (h : Nat) (t : Inst) (a d : Device) : Prop :=
     let x := a.hist h
     (∀ k, k < 64 → amGet 0 (d.hist h).latched k = amGet 0 x.win.bins k) ∧ amGet 0 (d.hist h).latched 64 = x.win.count ∧
     amGet 0 (d.hist h).latched 65 = unsigned 64 x.win.sum ∧ amGet 0 (d.hist h).latched 66 = unsigned 64 x.win.min ∧
     amGet 0 (d.hist h).latched 67 = unsigned 64 x.win.max ∧ amGet 0 (d.hist h).latched 68 = x.win.start / secU ∧
     amGet 0 (d.hist h).latched 69 = x.win.start % secU / nsU ∧ amGet 0 (d.hist h).latched 70 = t / secU ∧ amGet 0 (d.hist h).latched 71 = t % secU / nsU ∧
     amGet 0 (d.hist h).latched 72 = x.seq + 1 ∧ amGet 0 (d.hist h).latched 74 = x.win.dropped ∧
     amGet 0 (d.hist h).latched 75 = a.fg (F.MON_HIST_CFG_src h) + 256 * a.fg (F.MON_HIST_CFG_arg h) ∧ (d.hist h).seq = x.seq + 1
   let ready (h : Nat) (a : Device) : Prop := h < 256 ∧ a.up (.hist h) = true ∧ (a.hist h).win.isOpen = true ∧ (a.hist h).queue = [] ∧
     ∀ e ∈ (a.hist h).win.bins, e.1 < 64
   (∀ (s : State) (h : Nat), TimeOk s → ready h s.dev → s.dev.fg (F.MON_HIST_CFG_wmode h) = 0 → s.dev.sched.pend = [] →
     let b := histBoundary s.dev h
     b ≤ s.dev.now → Completes (.histWindowEnd h) s fun d => latches h b s.dev d ∧ (d.hist h).mark = b ∧
       (d.hist h).win = { Window.init with isOpen := true, start := b } ∧ (∀ k, k ≠ h → d.hist k = s.dev.hist k) ∧ Keeps [.mon] [] s.dev d) ∧
   (∀ (s : State) (w : Word), Reach s R.MON_HW_CMD →
     let t := ofDt96 (s.dev.rn3 (R.MON_HW_AT_W 0))
     let h := s.dev.sched.nextHandle
     let asked (start : Bool) (d : Device) : Prop :=
       d.sched.pend = s.dev.sched.pend ++ [{ handle := h, due := t, act := .histWindow (bits w.toNat 0 8) start,
                                             notify := w.getLsbD 28, tag := 0, stepped := false }] ∧
       d.rn R.MON_HW_RESULT = T.ACCEPTED ∧ d.rd R.MON_HW_HANDLE = BitVec.ofNat 32 h ∧
       Keeps [.sched] [R.MON_HW_CMD, R.MON_HW_RESULT, R.MON_HW_HANDLE] s.dev d
     (requestCode s.dev (.histWindow (bits w.toNat 0 8) true) t = T.ACCEPTED → Completes (.hwStartRequest w) s (asked true)) ∧
     (requestCode s.dev (.histWindow (bits w.toNat 0 8) false) t = T.ACCEPTED → Completes (.hwEndRequest w) s (asked false)) ∧
     (∀ e k st, s.dev.sched.pend = [e] → e.act = .histWindow k st → e.notify = false → e.handle = s.dev.rn R.MON_HW_HANDLE →
       s.dev.now + 10000 * nsU ≤ e.due → Completes (.hwCancel w) s fun d =>
       d.sched.pend = [] ∧ d.rn R.MON_HW_RESULT = T.CANCELLED ∧ Sent (.timedOutcome e.handle T.CANCELLED) s.dev d ∧
       Keeps [.sched] [R.MON_HW_CMD, R.MON_HW_RESULT] s.dev d)) ∧
   (∀ (s : State) (h : Nat) (e : TimedAct) (start : Bool), s.dev.sched.pend = [e] → isDue s.dev e = true → e.act = .histWindow h start →
     e.notify = false → h < 256 →
     let t := if e.stepped then s.dev.now else e.due
     (ready h s.dev → Completes (.histTimedBoundary h) s fun d =>
       latches h t s.dev d ∧ d.sched.pend = [] ∧ Sent (.timedOutcome e.handle (doneCode e)) s.dev d ∧
       (d.hist h).win = (if start then { Window.init with isOpen := true, start := t } else Window.init) ∧
       (∀ k, k ≠ h → d.hist k = s.dev.hist k) ∧ Keeps [.mon, .sched] [] s.dev d) ∧
     ((s.dev.hist h).win.isOpen = false → s.dev.up (.hist h) = true → Completes (.histTimedBoundary h) s fun d =>
       d.sched.pend = [] ∧ Sent (.timedOutcome e.handle (doneCode e)) s.dev d ∧
       d.hist h = { s.dev.hist h with win := if start then { Window.init with isOpen := true, start := t } else (s.dev.hist h).win } ∧
       (∀ k, k ≠ h → d.hist k = s.dev.hist k) ∧ Keeps [.mon, .sched] [] s.dev d)))

/-- R501, R502: a record of a selected thread goes to the buffer of the sampler's EVENT ring, numbered and marked with its gap; one within 1
µs of the last, or that the ring refuses, is counted and leaves the gap. R503, R504, R506, R508: once a second is over its quality record,
512 bytes with its seq, its second and its events, joins P_LEDGER; the host may move MON_LEDGER_NEXT between the oldest record and the one
after the newest while no LEDGER ring is enabled, and not otherwise. -/
def Obligations.SamplingAndLedger : Prop :=
  (∀ (s : State) (eng th : Nat) (pc insn : Word) (ic lat stall : Nat) (taken : Bool), eng < 16 → th < 4 → s.dev.up .sample = true →
     (s.dev.fg F.SAMPLE_SEL_engines).testBit eng = true → (s.dev.fg F.SAMPLE_SEL_threads).testBit th = true →
     let k := 4 * eng + th
     let n := s.dev.fg F.SAMPLE_CTL_ring
     let seq := amGet 0 s.dev.mon.sampleSeq k
     let c := Instr.sampleRecord eng th pc insn ic taken lat stall
     (s.dev.mon.sampleAt = none → recordOpen s.dev n 6 = true → (s.dev.ring n).part = [] →
       (∀ p ps, (s.dev.ring n).posted = p :: ps → 32 ≤ p.len) → ic ≤ 7 → stall ≤ 4 → lat < 65536 → runPrio s.dev eng ≤ 16 → Completes c s fun d =>
       amGet 0 d.mon.sampleSeq k = (seq + 1) % 2 ^ 16 ∧ k ∉ d.mon.sampleGap ∧ d.mon.sampleAt = some s.dev.tm.osc ∧
       (let bs := (d.ring n).part
        bs.length = 32 ∧ byteAt bs 0 = 0x80 ∧ byteAt bs 1 = eng * 16 + th * 4 + (if k ∈ s.dev.mon.sampleGap then 2 else 0) ∧
        bs.drop 4 = leBytes 4 pc.toNat ++ leBytes 4 insn.toNat ++ (bs.drop 12) ∧ byteAt bs 12 = ic ∧ byteAt bs 13 / 32 = (if taken then 1 else 0) ∧
        byteAt bs 14 + 256 * byteAt bs 15 = lat ∧ byteAt bs 28 = stall) ∧
       Keeps [.mon, .rings] [] s.dev d) ∧
     (∀ t, s.dev.mon.sampleAt = some t → s.dev.tm.osc < t + 800 → Completes c s fun d =>
       amGet 0 d.mon.sampleSeq k = (seq + 1) % 2 ^ 16 ∧ k ∈ d.mon.sampleGap ∧ Counted K.MON_SAMPLE_DROP s.dev d ∧
       Keeps [.mon, .cnts] [] s.dev d) ∧
     (s.dev.mon.sampleAt = none → recordOpen s.dev n 6 = false → Completes c s fun d =>
       amGet 0 d.mon.sampleSeq k = (seq + 1) % 2 ^ 16 ∧ k ∈ d.mon.sampleGap ∧ Counted K.MON_SAMPLE_DROP s.dev d ∧
       Keeps [.mon, .cnts, .rings] [] s.dev d)) ∧
  ((∀ (s : State) (temp : Int), s.dev.fb F.TROUGH_STATUS_ready = true → s.dev.mon.closed = [] → s.dev.mon.secAt < s.dev.nowSec →
     s.dev.life.events = [] → s.dev.mon.events.length ≤ 12 → (∀ e ∈ s.dev.mon.events, ∀ t, e.at_ = some t → t < (s.dev.mon.secAt + 1) * secU) →
     poolRoom s.dev 4 4 = true → ledgerRing s.dev = none → Completes (.ledgerWrite temp) s fun d =>
       d.mon.ledgerSeq = s.dev.mon.ledgerSeq + 1 ∧ d.mon.secAt = s.dev.mon.secAt + 1 ∧ d.mon.events = [] ∧ d.mon.closed = [] ∧
       (∃ r, d.mon.ledger = s.dev.mon.ledger ++ [(s.dev.mon.ledgerSeq + 1, r)] ∧ r.length = 512 ∧ byteAt r 0 = 0x60 ∧
         byteAt r 2 = s.dev.mon.events.length ∧ (r.drop 8).take 8 = leBytes 8 (s.dev.mon.ledgerSeq + 1) ∧
         (r.drop 16).take 12 = dt96Bytes (s.dev.mon.secAt * secU)) ∧ d.mon.ledgerFirst = false ∧ Keeps [.mon] [R.TROUGH_STATUS] s.dev d) ∧
   (∀ (s : State) (w : Word),
     (Reach s R.MON_LEDGER_NEXT_LO → Completes (.ledgerNextLoWrite w) s fun d =>
       d.mon = { s.dev.mon with ledgerNextLo := w } ∧ Keeps [.mon] [] s.dev d) ∧
     (Reach s R.MON_LEDGER_NEXT_HI → let v := s.dev.mon.ledgerNextLo.toNat + 2 ^ 32 * w.toNat
       (ledgerRingOn s.dev = false → ledgerOld s.dev ≤ v → v ≤ s.dev.mon.ledgerSeq + 1 → Completes (.ledgerNextHiWrite w) s fun d =>
         d.mon = { s.dev.mon with ledgerNext := v } ∧ Keeps [.mon] [] s.dev d) ∧
       ((ledgerRingOn s.dev = true ∨ v < ledgerOld s.dev ∨ s.dev.mon.ledgerSeq + 1 < v) →
         Completes (.ledgerNextHiWrite w) s (Keeps [] [] s.dev)))))

/-- R521, R514, R567: POR_N low, a brown-out or TEST_EN high is a cold reset: every register but those of the fuses and straps reads its reset
value, GLB_RST_CAUSE names the cause, and of all state only the fuses and the flash are kept. R521, R523, R524, R534, R567: WRST_N low
with TIME_KEEP 0, op WARM with its key, the watchdog with action 1 and EXTEST are warm resets: the GLB registers, the tamper latches, the
vault, the port statistics and the raw count are kept, one more reset is counted and its cause shown, and the rest takes its reset values;
without its key the write is ignored. -/
def Obligations.ColdAndWarmResets : Prop :=
  (∀ (s : State) (c : Instr) (cause : Nat), ((c = .powerOnReset ∧ cause = 0) ∨ (c = .brownout ∧ cause = 1) ∨
       (c = .testEnHigh ∧ s.dev.life.testEn = false ∧ cause = 0)) →
     Completes c s fun d =>
       (∀ o, o ∉ settleRegs → o ≠ R.GLB_RST_CAUSE → d.rd o = if fuseReg o then s.dev.rd o else Device.init.rd o) ∧
       d.rn R.GLB_RST_CAUSE = cause ∧ coldHeld d = true ∧
       (∀ p : Part, p ∉ [.trust, .pcie, .tb, .sched, .life, .draws] → p.same Device.init d) ∧ d.sched.pend = [] ∧ d.life.events = [] ∧
       d.trust = { Trust.init with flash := s.dev.trust.flash, records := s.dev.trust.records, recSeq := s.dev.trust.recSeq,
                                   claimN := s.dev.trust.claimN, banks := s.dev.trust.banks, fw := s.dev.trust.fw }) ∧
  ((∀ (s : State) (c : Instr) (cause : Nat), rstHeld s.dev = false →
     ((c = .warmResetPin false ∧ cause = 2) ∨ (∃ w, c = .glbRstWarm w ∧ rstOp w 1 = true ∧ cause = 3) ∨
       (c = .watchdogExpire ∧ s.dev.fb F.GLB_WDOG_en = true ∧ s.dev.fb F.GLB_WDOG_action = true ∧ (s.dev.fg F.GLB_STATUS_stage = 4 ∨
         s.dev.fg F.GLB_STATUS_stage = 5) ∧ cause = 4) ∨ (c = .tapExtest ∧ cause = Config.extestCause.toNat)) →
     Completes c s fun d =>
       (∀ o, o ∉ settleRegs → o ∉ [R.GLB_RST_CAUSE, R.GLB_RST_CNT, R.GLB_STRAP, R.PWR_PD_STATUS, R.TB_OSCIN_CFG] →
         d.rd o = if warmReg o then s.dev.rd o else Device.init.rd o) ∧
       d.rn R.GLB_RST_CAUSE = cause ∧ d.rn R.GLB_RST_CNT = min 65535 (s.dev.rn R.GLB_RST_CNT + 1) ∧ d.fg F.PWR_PD_STATUS_powered = 1 ∧
       (∀ p : Part, p ∉ [.trust, .pcie, .tb, .sched, .life, .draws, .tm, .nts, .pke, .stats] → p.same Device.init d) ∧ d.sched.pend = [] ∧
       d.stats = s.dev.stats ∧
       d.tm = { TimeSt.init with osc := s.dev.tm.osc } ∧ d.nts = { Nts.init with dead := s.dev.nts.dead, faults := s.dev.nts.faults } ∧
       d.trust.owner = s.dev.trust.owner ∧ d.trust.tlsCur = s.dev.trust.tlsCur ∧ d.trust.flash = s.dev.trust.flash ∧
       d.trust.banks = s.dev.trust.banks ∧ d.life.keep = false) ∧
   (∀ (s : State) (w : Word), (w.toNat % 2 ^ 16 ≠ 0x5AFE ∨ rstHeld s.dev = true) →
     Completes (.glbRstWarm w) s (Keeps [] [] s.dev) ∧ Completes (.glbRstTimeKeep w) s (Keeps [] [] s.dev) ∧
     Completes (.glbRstPke w true) s (Keeps [] [] s.dev)))

/-- R521, R522, R523, R532: WRST_N low with TIME_KEEP 1, op TIME_KEEP, the watchdog with action 0 and FAULT_STOP's end are time-keeping
resets: Device Time, the axes, the outputs and the TIC run on, pending output events, gate changes and Batch applies remain, bookings and
the other pending actions are discarded, the timebase is in HOLDOVER with its slots ABSENT, and the other domains take their reset values.
R526: op PKE, with no job held, resets PD_PKE alone: the registers of the PKE take their reset values, and with its PLL locked anew, its
attempts fresh, ready is set; a FAULT of cause PKE_PLL is cleared. -/
def Obligations.KeepingResets : Prop :=
  (∀ (s : State) (c : Instr) (cause : Nat), rstHeld s.dev = false →
     ((c = .warmResetPin true ∧ cause = 2) ∨ (∃ w, c = .glbRstTimeKeep w ∧ rstOp w 2 = true ∧ cause = 3) ∨
       (c = .watchdogExpire ∧ s.dev.fb F.GLB_WDOG_en = true ∧ s.dev.fb F.GLB_WDOG_action = false ∧ (s.dev.fg F.GLB_STATUS_stage = 4 ∨
         s.dev.fg F.GLB_STATUS_stage = 5) ∧ cause = 4) ∨
       (c = .fstopAutoReset ∧ s.dev.fg F.GLB_STATUS_state = 2 ∧ s.dev.fb F.GLB_WDOG_fstop_auto = true ∧
         s.dev.life.stopAt + 80000000 ≤ s.dev.tm.osc ∧ cause = 6)) →
     Completes c s fun d =>
       (∀ o, o ∉ settleRegs → o ∉ [R.GLB_RST_CAUSE, R.GLB_RST_CNT, R.GLB_STRAP, R.GLB_STATUS, R.PWR_PD_STATUS, R.PWR_PLL_STATUS, R.GNSS_SPOOF_CTL] →
         (keepReg o = false → d.rd o = Device.init.rd o) ∧
         (keepReg o = true → timeReg o = false → d.rd o = s.dev.rd o) ∧
         (0xA000 ≤ o → o < 0xE000 → (∀ n, n < 16 → o ≠ R.PEEL_P_STATUS n) → d.rd o = s.dev.rd o)) ∧
       d.rn R.GLB_RST_CAUSE = cause + 256 ∧ d.fb F.GLB_STATUS_kept = true ∧ d.rn R.GLB_RST_CNT = min 65535 (s.dev.rn R.GLB_RST_CNT + 1) ∧
       (∀ p : Part, p ∈ [.axis0, .axis1, .outs, .tic, .stats] → p.same s.dev d) ∧ d.tm.now = s.dev.tm.now ∧ d.tm.osc = s.dev.tm.osc ∧
       (s.dev.refs.sel = none → d.tm = s.dev.tm) ∧
       (∀ p : Part, p ∈ [.cnts, .rings, .mon, .slices, .cls, .ptp, .gnss, .ports, .pair, .irq] → p.same Device.init d) ∧
       d.sched = { s.dev.sched with pend := s.dev.sched.pend.filter fun e => actKept e.act } ∧ d.peel.bookings = [] ∧
       d.refs.sel = none ∧ (∀ n, n < 32 → refEn s.dev n = true → d.fg (F.REF_STATUS_state n) = 0) ∧
       d.trust.owner = s.dev.trust.owner ∧ d.trust.pend = s.dev.trust.pend ∧ d.life.keep = true) ∧
  (∀ (s : State) (w : Word), rstOp w 3 = true → rstHeld s.dev = false → s.dev.pke.jobs = [] → Completes (.glbRstPke w true) s fun d =>
       d.fb F.PKE_STATUS_ready = true ∧ d.rn R.GLB_RST_CAUSE = 8 + 256 ∧
       d.fg F.GLB_STATUS_state = (if s.dev.fg F.GLB_STATUS_state = 1 ∧ s.dev.fg F.GLB_STATUS_cause = 3 then 0 else s.dev.fg F.GLB_STATUS_state) ∧
       pllLocked d 2 = true ∧ 2 ∉ d.life.aonClk ∧
       (∀ o, 0xF000 ≤ o → o < 0x10000 → o ≠ R.PKE_STATUS → d.rd o = Device.init.rd o) ∧
       d.pke = { Pke.init with dead := s.dev.pke.dead, faults := s.dev.pke.faults, nextId := s.dev.pke.nextId } ∧
       KeepsBut [.pke, .life, .stopping] (fun o => (decide (0xF000 ≤ o) && decide (o < 0x10000)) || o == R.GLB_RST_CAUSE || o == R.GLB_STATUS ||
         o == R.PWR_PLL_STATUS) s.dev d)

/-- R515, R521, R567, R324: the end of what held a reset: POR_N rises and the straps are sampled, or WRST_N, EXTEST or TEST_EN is released;
with nothing else holding it the boot begins with OSC_IN as strapped. R516, R375, R518: the stages of the boot in order: ROM chooses the
bank and counts the attempt, CLOCKS releases the domains and sets up the Trough, or goes to RECOVERY without a bank, LOAD checks the
image, ENGINES loads the vault, CONFIG ends in READY. R518: in RECOVERY start erases bank A and reads BUSY, then READY with room; each
word of the image goes to the next offset and takes room; done checks the image and, with its commit record written, begins a warm reset. -/
def Obligations.BootAndRecovery : Prop :=
  (∀ s : State,
     let began (strap : Nat) (d : Device) : Prop := rstHeld d = false ∧ d.fg F.TB_OSCIN_CFG_freq = strap
     (∀ straps, s.dev.life.porLow = true → s.dev.life.testEn = false → s.dev.life.wrstLow = false → s.dev.life.extest = false →
       Completes (.porRelease straps) s fun d => began (bits (straps % 32) F.GLB_STRAP_osc_fsel.lo F.GLB_STRAP_osc_fsel.len) d ∧
         d.rn R.GLB_STRAP = straps % 32 ∧ Keeps [.life] [R.GLB_STRAP, R.TB_OSCIN_CFG] s.dev d) ∧
     (s.dev.life.porLow = false → s.dev.life.testEn = false → s.dev.life.wrstLow = true → s.dev.life.extest = false →
       Completes .wrstRelease s fun d => began (s.dev.fg F.GLB_STRAP_osc_fsel) d ∧ Keeps [.life] [R.TB_OSCIN_CFG] s.dev d) ∧
     (s.dev.life.porLow = false → s.dev.life.testEn = false → s.dev.life.wrstLow = false → s.dev.life.extest = true →
       Completes .extestExit s fun d => began (s.dev.fg F.GLB_STRAP_osc_fsel) d ∧ Keeps [.life] [R.TB_OSCIN_CFG] s.dev d) ∧
     (s.dev.life.porLow = false → s.dev.life.testEn = true → s.dev.life.wrstLow = false → s.dev.life.extest = false →
       Completes .testEnLow s fun d => began (s.dev.fg F.GLB_STRAP_osc_fsel) d ∧ Keeps [.life] [R.TB_OSCIN_CFG] s.dev d)) ∧
  (∀ (s : State) (ms : Nat), rstHeld s.dev = false →
     (∀ i, s.dev.fg F.GLB_STATUS_stage = 0 → fwBest s.dev = some i → (∀ j, j < 2 → fwCand s.dev j = true → (fwBank s.dev j).tries < 3) →
       Completes (.bootStageEnd ms) s fun d => d.fg F.GLB_STATUS_stage = 1 ∧ d.fg F.SEC_STATUS_fw_bank = i ∧
         (fwBank d i).tries = (fwBank s.dev i).tries + 1 ∧ d.powered 0 = true ∧ d.powered 8 = true ∧
         Keeps [.trust] [R.GLB_STATUS, R.SEC_STATUS, R.PWR_PD_STATUS] s.dev d) ∧
     (∀ i, s.dev.fg F.GLB_STATUS_stage = 1 → fwBest s.dev = some i → bootPlls s.dev = true →
       Completes (.bootStageEnd ms) s fun d => d.fg F.GLB_STATUS_stage = 2 ∧ d.fb F.TROUGH_STATUS_ready = true ∧ d.fb F.MON_STATUS_ready = true ∧
         d.fb F.MON_STATUS_ledger_ok = true ∧ (∀ k, k ∈ [1, 2, 5, 6, 9, 10] → d.powered k = true) ∧ d.mon.events = s.dev.life.events ∧
         d.life.events = [] ∧ Keeps [.mon, .life, .draws] [R.GLB_STATUS, R.TROUGH_STATUS, R.MON_STATUS, R.PWR_PD_STATUS, R.CLS_CT_SEED,
           R.SLC_STEER_SEED] s.dev d) ∧
     (s.dev.fg F.GLB_STATUS_stage = 1 → fwBest s.dev = none → bootPlls s.dev = true → Completes (.bootStageEnd ms) s fun d =>
         d.fg F.GLB_STATUS_stage = 6 ∧ d.mon = Mon.init ∧ d.fg F.PWR_PD_STATUS_powered = 2 ^ 0 + 2 ^ 8 + 2 ^ 10 ∧
         KeepsBut [.mon] (fun o => o == R.GLB_STATUS || o == R.PWR_PD_STATUS || (decide (0x20000 ≤ o) && decide (o ≤ 0x3EFFF))) s.dev d) ∧
     (s.dev.fg F.GLB_STATUS_stage = 1 → bootPlls s.dev = false → Completes (.bootStageEnd ms) s (Keeps [] [] s.dev)) ∧
     (s.dev.fg F.GLB_STATUS_stage = 2 → fwCheck s.dev (s.dev.fg F.SEC_STATUS_fw_bank) = B.OK → Completes (.bootStageEnd ms) s fun d =>
         d.fg F.GLB_STATUS_stage = 3 ∧ Keeps [] [R.GLB_STATUS] s.dev d) ∧
     (s.dev.fg F.GLB_STATUS_stage = 3 → s.dev.trust.records = [] → Completes (.bootStageEnd ms) s fun d =>
         d.fg F.GLB_STATUS_stage = 4 ∧ d.fb F.SEC_STATUS_vault_ok = true ∧ d.fb F.PKE_STATUS_ready = true ∧ d.trust.owner = none ∧
         d.fb F.SEC_STATUS_owner = false ∧ (fwBank d (s.dev.fg F.SEC_STATUS_fw_bank)).tries = 0 ∧
         Keeps [.trust, .cnts] [R.GLB_STATUS, R.SEC_STATUS, R.PKE_STATUS] s.dev d) ∧
     (s.dev.fg F.GLB_STATUS_stage = 4 → s.dev.trust.banks = [] → s.dev.trust.records = [] → s.dev.life.keep = false →
       Completes (.bootStageEnd ms) s fun d =>
         d.fg F.GLB_STATUS_stage = 5 ∧ d.fb F.GLB_STATUS_ready = true ∧ d.rn R.GLB_BOOT_MS = min 65535 ms ∧ d.fb F.INTC_CTL_mode = false ∧
         d.fb F.TIC_STATUS_cal_busy = true ∧ (∃ g, d.nts.starter.current = some g) ∧ d.trust.servedAt = s.dev.tm.osc ∧
         Keeps [.trust, .nts, .tic, .mon, .cnts, .draws] [R.GLB_STATUS, R.GLB_BOOT_MS, R.INTC_CTL, R.TIC_STATUS, R.OVN_STARTER_STATUS,
           R.OVN_STARTER_GEN] s.dev d)) ∧
  (∀ s : State, s.dev.fg F.GLB_STATUS_stage = 6 →
     (Completes .recStart s fun d => (fwBank d 0).commit = false ∧ (fwBank d 0).cells = [] ∧ d.life.recLen = 0 ∧ d.fg F.GLB_REC_STATUS_result = 1 ∧
       d.fg F.GLB_REC_STATUS_room = 0 ∧ fwBank d 1 = fwBank s.dev 1 ∧ Keeps [.trust, .life] [R.GLB_REC_STATUS] s.dev d) ∧
     (s.dev.fg F.GLB_REC_STATUS_result = 1 → Completes .recEraseDone s fun d => d.fg F.GLB_REC_STATUS_result = 2 ∧
       d.fg F.GLB_REC_STATUS_room = min 4095 ((fwSize - s.dev.life.recLen) / 4) ∧ Keeps [] [R.GLB_REC_STATUS] s.dev d) ∧
     (∀ w, s.dev.fg F.GLB_REC_STATUS_result = 2 → 0 < s.dev.fg F.GLB_REC_STATUS_room → Completes (.recDataWrite w) s fun d =>
       (fwBank d 0).cells = putBytes 0xFF (fwBank s.dev 0).cells s.dev.life.recLen (leBytes 4 w.toNat) ∧ d.life.recLen = s.dev.life.recLen + 4 ∧
       d.fg F.GLB_REC_STATUS_room = min 4095 ((fwSize - d.life.recLen) / 4) ∧ d.fg F.GLB_REC_STATUS_result = 2 ∧
       Keeps [.trust, .life] [R.GLB_REC_STATUS] s.dev d) ∧
     (s.dev.fg F.GLB_REC_STATUS_result = 2 → fwCheck s.dev 0 ≠ B.OK → Completes (.recDone true) s fun d =>
       d.fg F.GLB_REC_STATUS_result = (if fwCheck s.dev 0 = B.SVN then 5 else 4) ∧ Keeps [] [R.GLB_REC_STATUS] s.dev d) ∧
     (s.dev.fg F.GLB_REC_STATUS_result = 2 → fwCheck s.dev 0 = B.OK → Completes (.recDone false) s fun d =>
       d.fg F.GLB_REC_STATUS_result = 6 ∧ Keeps [] [R.GLB_REC_STATUS] s.dev d) ∧
     (s.dev.fg F.GLB_REC_STATUS_result = 2 → fwCheck s.dev 0 = B.OK → rstHeld s.dev = false → Completes (.recDone true) s fun d =>
       (fwBank d 0).commit = true ∧ (fwBank d 0).failed = false ∧ d.rn R.GLB_RST_CAUSE = 7 ∧ d.fg F.GLB_STATUS_stage = 0))

/-- R531: FAULT_STOP shows its cause and FAULT_N, takes the links of ports 0 to 15 down, halts every enabled ring and leaves no selected slot;
its Ledger event 0x83 is held in PD_AON; a second cause changes nothing. R519: a Read Word answers the status word of its command code and
changes nothing; an unknown code is not acknowledged, and nothing answers in a cold reset. -/
def Obligations.FaultStopAndSmbus : Prop :=
  ((∀ (s : State) (cause : Nat), cause = 8 ∨ cause = 9 ∨ cause = 10 → s.dev.fg F.GLB_STATUS_state ≠ 2 → s.dev.life.events.length < 8 →
     Completes (.faultStopEnter cause) s fun d =>
       d.fg F.GLB_STATUS_state = 2 ∧ d.fg F.GLB_STATUS_cause = cause ∧ d.fb F.GLB_STATUS_fault_n = true ∧ d.life.stopAt = s.dev.tm.osc ∧
       (∀ n, n < 16 → linkIsUp d n = false) ∧ (∀ n, n < 256 → s.dev.fb (F.HIF_RING_CTL_en n) = true → d.fb (F.HIF_RING_STATUS_halted n) = true ∧
         (d.ring n).posted = []) ∧ d.refs.sel = none ∧
       (∃ e, d.life.events = s.dev.life.events ++ [e] ∧ e.code = 0x83 ∧ e.src = cause) ∧
       d.tm.now = s.dev.tm.now ∧
       KeepsBut [.tm, .cnts, .stats, .peel, .nts, .rings, .slices, .cls, .mon, .refs, .tb, .life, .sched, .ports, .pair] (fun o =>
         o == R.GLB_STATUS || (decide (0x4000 ≤ o) && decide (o < 0xA000)) || (decide (0xD000 ≤ o) && decide (o < 0xE000)) ||
         (decide (0x10000 ≤ o) && decide (o < 0x18000))) s.dev d) ∧
   (∀ (s : State) (cause : Nat), s.dev.fg F.GLB_STATUS_state = 2 → Completes (.faultStopEnter cause) s (Keeps [] [] s.dev))) ∧
  (∀ (s : State) (temp : Int),
     (∀ c v, coldHeld s.dev = false → ((c = 0 ∧ v = s.dev.rn R.GLB_STATUS % 2 ^ 16) ∨ (c = 1 ∧ v = s.dev.rn R.GLB_STATUS / 2 ^ 16) ∨
       (c = 2 ∧ v = unsigned 16 temp) ∨ (c = 3 ∧ v = s.dev.rn R.GLB_RST_CAUSE % 2 ^ 16) ∨ (c = 4 ∧ v = s.dev.rn R.TB_STATUS % 2 ^ 16) ∨
       (c = 5 ∧ v = s.dev.rn R.PWR_PLL_STATUS % 2 ^ 16)) →
       Completes (.smbusReadWord c temp) s fun d => Sent (.smbus v) s.dev d ∧ Keeps [] [] s.dev d) ∧
     (∀ c, 5 < c ∨ coldHeld s.dev = true → Completes (.smbusReadWord c temp) s fun d =>
       (∀ v, Sent (.smbus v) s.dev d → False) ∧ Keeps [] [] s.dev d))

/-- R8, R540, R542, R543, R546: a partial write, one to reserved space and one to a block that is off change nothing and are recorded, the
first with its kind and offset and all counted; any other to a register of the block SEC sets its RW fields, and its RWL ones before
SET-UP LOCK, clears W1C and sets W1S bits where it carries 1, and leaves the rest. R8, R544, R545: SET-UP LOCK holds until a reset; under
it a write that would change a SEC register's RWL field is ignored and counted in GLB_LOCK.denied, and a write that would change a SEAL
field is ignored and counted in SEC_SEAL_WRITES. -/
def Obligations.RegisterWrites : Prop :=
  ((∀ (s : State) (o : Nat) (w : Word) (full : Bool) (l : List Bytes) (kind : Nat), o < 2 ^ 18 →
     ((full = false ∧ kind = 1) ∨ (full = true ∧ accRow? o = none ∧ kind = 2) ∨ (full = true ∧ accRow? o ≠ none ∧ blockOff s.dev o = true ∧ kind = 3)) →
     Completes (.registerWrite o w full l) s fun d =>
       d.fb F.GLB_ACC_ERR_valid = true ∧ d.fg F.GLB_ACC_ERR_count = min 255 (s.dev.fg F.GLB_ACC_ERR_count + 1) ∧
       (s.dev.fb F.GLB_ACC_ERR_valid = false → d.fg F.GLB_ACC_ERR_kind = kind ∧ d.fg F.GLB_ACC_ERR_offset = o) ∧
       (s.dev.fb F.GLB_ACC_ERR_valid = true → d.fg F.GLB_ACC_ERR_kind = s.dev.fg F.GLB_ACC_ERR_kind ∧
         d.fg F.GLB_ACC_ERR_offset = s.dev.fg F.GLB_ACC_ERR_offset) ∧ Keeps [] [R.GLB_ACC_ERR] s.dev d) ∧
   (∀ (s : State) (o : Nat) (w : Word) (r : AccRow), 0xE000 ≤ o → o < 0xF000 → accRow? o = some r → Reach s o → o ≠ R.SEC_SEAL_WRITES →
     let locked := s.dev.fb F.GLB_LOCK_lock
     Completes (.registerWrite o w true []) s fun d =>
       (∀ k, k < 32 → (d.rd o).getLsbD k =
         if r.w1sM.testBit k && w.getLsbD k then true
         else if r.w1cM.testBit k && w.getLsbD k then false
         else if r.rwM.testBit k || (r.rwlM.testBit k && !locked) then w.getLsbD k
         else (s.dev.rd o).getLsbD k) ∧
       Keeps [] [o, R.SEC_SEAL_WRITES, R.GLB_LOCK] s.dev d)) ∧
  ((∀ s : State, Completes .setupLock s fun d => d.fb F.GLB_LOCK_lock = true ∧ d.fg F.GLB_LOCK_denied = s.dev.fg F.GLB_LOCK_denied ∧
     Keeps [] [R.GLB_LOCK] s.dev d) ∧
   (∀ (s : State) (w : Word), s.dev.fb F.GLB_LOCK_lock = true → s.dev.gnss.staged = [] → s.dev.rd R.SLC_STEER_SEED ≠ w → Reach s R.SLC_STEER_SEED →
     Completes (.registerWrite R.SLC_STEER_SEED w true []) s fun d =>
       d.fg F.GLB_LOCK_denied = min 65535 (s.dev.fg F.GLB_LOCK_denied + 1) ∧ Keeps [] [R.GLB_LOCK] s.dev d) ∧
   (∀ (s : State) (w : Word), s.dev.gnss.staged = [] → s.dev.fb F.SEC_CTL_auto_confirm ≠ w.getLsbD 0 → Reach s R.SEC_CTL →
     Completes (.registerWrite R.SEC_CTL w true []) s fun d =>
       d.rn R.SEC_SEAL_WRITES = min (2 ^ 32 - 1) (s.dev.rn R.SEC_SEAL_WRITES + 1) ∧ Keeps [] [R.SEC_SEAL_WRITES] s.dev d))

/-- R16, R257, R261, R327, R320, R41, R215: a read of a low word returns it and latches the rest of the value at the same tick: Device Time,
the error estimate, a slot's x, a pair's last interval, the raw count, an axis's cycle with the instant of its edge, a port statistic. -/
def Obligations.LatchingReads : Prop :=
  (∀ s : State,
    (Reach s R.TB_NOW_SEC_LO → Completes .tbNowRead s fun d => Sent (.hostRead (BitVec.ofNat 32 s.dev.tm.sec.toNat)) s.dev d ∧
      d.rn R.TB_NOW_SEC_LO + 2 ^ 32 * d.rn R.TB_NOW_SEC_HI = s.dev.tm.sec.toNat ∧ d.rn R.TB_NOW_NS = s.dev.tm.ns.toNat ∧
      d.rn R.TB_NOW_FRAC_LO + 2 ^ 32 * d.rn R.TB_NOW_FRAC_HI = s.dev.tm.frac.toNat ∧
      Keeps [] [R.TB_NOW_SEC_LO, R.TB_NOW_SEC_HI, R.TB_NOW_NS, R.TB_NOW_FRAC_LO, R.TB_NOW_FRAC_HI] s.dev d) ∧
    (Reach s R.TB_ERR_EST_LO → Completes .tbErrEstRead s fun d => Sent (.hostRead (BitVec.ofNat 32 s.dev.refs.errEst)) s.dev d ∧
      d.rn R.TB_ERR_EST_LO + 2 ^ 32 * d.rn R.TB_ERR_EST_HI = s.dev.refs.errEst % 2 ^ 64 ∧ Keeps [] [R.TB_ERR_EST_LO, R.TB_ERR_EST_HI] s.dev d) ∧
    (Reach s R.TB_RAW_LO → Completes .tbRawRead s fun d => Sent (.hostRead (BitVec.ofNat 32 s.dev.rawCount)) s.dev d ∧
      d.rn R.TB_RAW_LO + 2 ^ 32 * d.rn R.TB_RAW_HI = s.dev.tm.osc / 80 % 2 ^ 64 ∧ Keeps [] [R.TB_RAW_LO, R.TB_RAW_HI] s.dev d)) ∧
  (∀ (s : State) (n : Nat) (e : Nat) (x : Int) (l : List (Nat × Int)), n < 32 → Reach s (R.REF_PHASE_LO n) → (s.dev.slot n).hist = (e, x) :: l →
    Completes (.refPhaseRead n) s fun d => Sent (.hostRead (BitVec.ofNat 32 (unsigned 64 x))) s.dev d ∧
      d.rn (R.REF_PHASE_LO n) + 2 ^ 32 * d.rn (R.REF_PHASE_HI n) = unsigned 64 x ∧ Keeps [] [R.REF_PHASE_LO n, R.REF_PHASE_HI n] s.dev d) ∧
  (∀ (s : State) (p : Nat), p < 4 → Reach s (R.TIC_PAIR_LAST_LO p) → Completes (.ticPairLastRead p) s fun d =>
      Sent (.hostRead (BitVec.ofNat 32 (s.dev.ticPair p).last)) s.dev d ∧
      d.rn (R.TIC_PAIR_LAST_LO p) + 2 ^ 32 * d.rn (R.TIC_PAIR_LAST_HI p) = (s.dev.ticPair p).last % 2 ^ 64 ∧
      d.rd (R.TIC_PAIR_FLAGS p) = BitVec.ofNat 32 (s.dev.ticPair p).flags ∧
      Keeps [] [R.TIC_PAIR_LAST_LO p, R.TIC_PAIR_LAST_HI p, R.TIC_PAIR_FLAGS p] s.dev d) ∧
  (∀ (s : State) (n : Nat), n < 2 → Reach s (R.AXIS_CYCLE n) → Completes (.axisCycleRead n) s fun d =>
      let e := (if axisEncoder s.dev n then (s.dev.axis n).cycleEdge else (s.dev.axis n).lastEdge).toNat
      Sent (.hostRead (s.dev.rd (R.AXIS_CYCLE n))) s.dev d ∧
      d.rn (R.AXIS_EDGE_SEC_LO n) + 2 ^ 32 * d.rn (R.AXIS_EDGE_SEC_HI n) = e / secU % 2 ^ 48 ∧ d.rn (R.AXIS_EDGE_NS n) = e % secU / nsU ∧
      Keeps [] [R.AXIS_EDGE_SEC_LO n, R.AXIS_EDGE_SEC_HI n, R.AXIS_EDGE_NS n] s.dev d) ∧
  (∀ (s : State) (n k : Nat), n ≤ 16 → k < 42 → Reach s (R.PORT_STAT_LO n k) → Completes (.portStatRead n k) s fun d =>
      Sent (.hostRead (BitVec.ofNat 32 (statOf s.dev n k))) s.dev d ∧ (d.portSt n).latch = statOf s.dev n k / 2 ^ 32 ∧
      (∀ m, m ≠ n → d.portSt m = s.dev.portSt m) ∧ Keeps [.ports] [] s.dev d)

/-- R543, R546: while the power domain of its block is off, a read with a side effect returns 0 and has none, and a command's register write
does nothing but be recorded as OFF: the reads and the commands named. -/
def Obligations.OffBlocks : Prop :=
  (∀ (s : State) (c : Instr) (o : Nat), (c, o) ∈ [(.tbNowRead, R.TB_NOW_SEC_LO), (.tbErrEstRead, R.TB_ERR_EST_LO), (.monCntRead, R.MON_CNT_LO),
      (.pairOffsetRead, R.PAIR_OFFSET_LO), (.slcQueueRead 0, R.SLC_QUEUE 0), (.portStatRead 16 0, R.PORT_STAT_LO 16 0), (.poolUsedRead 0, R.TROUGH_POOL_USED 0)] →
    blockOff s.dev o = true → Completes c s fun d => Sent (.hostRead 0) s.dev d ∧ Keeps [] [] s.dev d) ∧
  (∀ (s : State) (w : Word) (c : Instr) (o : Nat), (c, o) ∈ [(.snapshotNow w, R.MON_SNAP_CMD), (.saWrite 0, R.CLS_SA_CMD), (.tbIncrHiWrite w, R.TB_INCR_HI),
      (.leapCommit, R.TB_LEAP_CTL), (.ovnCtlWrite w, R.OVN_CTL), (.portEnable 16, R.PORT_CTL 16), (.refEnable 0, R.REF_CFG 0), (.pkeDisable true, R.PKE_CTL),
      (.outEventRequest w, R.OUT_EV_CMD)] →
    blockOff s.dev o = true → s.dev.fb F.GLB_ACC_ERR_valid = false → Completes c s fun d =>
      d.fb F.GLB_ACC_ERR_valid = true ∧ d.fg F.GLB_ACC_ERR_kind = 3 ∧ d.fg F.GLB_ACC_ERR_offset = o ∧ Keeps [] [R.GLB_ACC_ERR] s.dev d)

/-- Model's own queue (log entries 1, 2): a step runs the command at the front of the queue with the queue's rest, whatever the command and
the state; on an empty queue the block idles. -/
def Obligations.StepRunsFront : Prop :=
  (∀ (c : Instr) (rest : List Instr) (d : Device), step { pending := c :: rest, dev := d } = exec c { pending := rest, dev := d }) ∧
  (∀ d : Device, step { pending := [], dev := d } = .next { pending := [], dev := d })

/-- Right after a cold reset the queue is empty, Device Time is 0 and not set, every event counter reads 0, no unit runs, no action is
pending, the interrupt controller is settled and the flash's table has its canonical form (R489, R520, R521). -/
def Obligations.ResetState : Prop :=
  State.reset.pending = [] ∧ State.reset.dev.now = 0 ∧ State.reset.dev.fb F.TB_STATUS_dt_set = false ∧ (∀ i, State.reset.dev.cntOf i = 0) ∧
  State.reset.dev.tm.incr = BitVec.ofNat 56 (125 * 2 ^ 48 / 100) ∧ State.reset.dev.sched.pend = [] ∧
  (∀ n, n < 17 → State.reset.dev.fb (F.PORT_CTL_en n) = false) ∧ Settled State.reset.dev ∧ Memory.wf State.reset.dev.trust.flash = true

/-- R475, R480: after every step from any settled state the interrupt controller is up to date with the block: it sees the lines as the block
drives them and has told the host targets to which a source is offered. -/
def Obligations.StepsSettle : Prop :=
  ∀ s t : State, Settled s.dev → step s = .next t → Settled t.dev

/-- Every step keeps the canonical form of the flash's table: offsets strictly rising, and no entry equal to an erased byte. -/
def Obligations.StepsKeepFlash : Prop :=
  ∀ s t : State, Memory.wf s.dev.trust.flash = true → step s = .next t → Memory.wf t.dev.trust.flash = true

/-- R11: every step keeps the nanoseconds field of Device Time below 10^9. -/
def Obligations.StepsKeepNanoseconds : Prop :=
  ∀ s t : State, s.dev.tm.ns.toNat < 1000000000 → step s = .next t → t.dev.tm.ns.toNat < 1000000000
end

