-- ==== Sys2Proof/Laws/Amap.lean ====
section
/-! SUPPORT. Sparse tables: a read after a write, writes elsewhere, and the canonical form every table operation keeps. -/

namespace Sys2Proof.Machine

theorem amGet_amIns {α : Type} (dflt : α) (l : List (Nat × α)) (k j : Nat) (v : α) :
    amGet dflt (amIns l k v) j = if j = k then v else amGet dflt l j := by
  induction l with
  | nil => simp [amIns, amGet]
  | cons e t ih =>
    obtain ⟨k', v'⟩ := e
    simp only [amIns]
    split
    · simp only [amGet]
    · split
      · rename_i h; subst h; simp only [amGet]; split <;> rfl
      · rename_i h1 h2
        simp only [amGet, ih]
        by_cases hj : j = k'
        · subst hj; rw [if_pos rfl, if_neg (fun h => h2 h.symm), if_pos rfl]
        · rw [if_neg hj, if_neg hj]

theorem amGet_filter {α : Type} (dflt : α) (p : Nat → Bool) (l : List (Nat × α)) (j : Nat) :
    amGet dflt (l.filter fun e => p e.1) j = if p j then amGet dflt l j else dflt := by
  induction l with
  | nil => simp [amGet]
  | cons e t ih =>
    obtain ⟨k', v'⟩ := e
    by_cases hp : p k' = true
    · rw [List.filter_cons_of_pos (by simpa using hp)]
      simp only [amGet, ih]
      by_cases hj : j = k'
      · subst hj; simp [hp]
      · simp [hj]
    · rw [List.filter_cons_of_neg (by simpa using hp), ih]
      simp only [amGet]
      by_cases hj : j = k'
      · subst hj; simp [hp]
      · simp [hj]

theorem amGet_amDel {α : Type} (dflt : α) (l : List (Nat × α)) (k j : Nat) :
    amGet dflt (amDel l k) j = if j = k then dflt else amGet dflt l j := by
  have h := amGet_filter dflt (fun x => !(x == k)) l j
  simp only [amDel, h]
  by_cases hj : j = k <;> simp [hj]

/-- A read after a write. -/
theorem amGet_amSet {α : Type} [DecidableEq α] (dflt : α) (l : List (Nat × α)) (k j : Nat) (v : α) :
    amGet dflt (amSet dflt l k v) j = if j = k then v else amGet dflt l j := by
  unfold amSet
  split
  · rename_i h; rw [amGet_amDel, h]
  · rw [amGet_amIns]

/-- A write leaves every other key alone, whatever an unlisted one reads as. -/
theorem amGet_amSet_ne {α : Type} [DecidableEq α] (dflt dflt' : α) (l : List (Nat × α)) {k j : Nat} (v : α) (h : j ≠ k) :
    amGet dflt' (amSet dflt l k v) j = amGet dflt' l j := by
  unfold amSet
  split
  · rw [amGet_amDel, if_neg h]
  · rw [amGet_amIns, if_neg h]

/-! ### The canonical form -/

/-- The canonical form, as two plain facts. -/
theorem amWf_iff {α : Type} [DecidableEq α] (dflt : Nat → α) (l : List (Nat × α)) :
    amWf dflt l = true ↔ (∀ e ∈ l, e.2 ≠ dflt e.1) ∧ l.Pairwise fun a b => a.1 < b.1 := by
  induction l with
  | nil => simp [amWf]
  | cons e t ih =>
    obtain ⟨k, v⟩ := e
    cases t with
    | nil => simp [amWf]
    | cons e' t =>
      obtain ⟨k', v'⟩ := e'
      simp only [amWf, Bool.and_eq_true, Bool.not_eq_true', beq_eq_false_iff_ne, ne_eq, decide_eq_true_eq, ih]
      constructor
      · rintro ⟨⟨h1, h2⟩, h3, h4⟩
        refine ⟨?_, ?_⟩
        · intro e he
          rcases List.mem_cons.1 he with rfl | he
          · exact h1
          · exact h3 e he
        · refine List.pairwise_cons.2 ⟨?_, h4⟩
          intro e he
          rcases List.mem_cons.1 he with rfl | he
          · exact h2
          · exact Nat.lt_trans h2 ((List.pairwise_cons.1 h4).1 e he)
      · rintro ⟨h1, h2⟩
        have h2' := List.pairwise_cons.1 h2
        exact ⟨⟨h1 (k, v) (by simp), h2'.1 (k', v') (by simp)⟩, fun e he => h1 e (List.mem_cons_of_mem _ he), h2'.2⟩

/-- Dropping entries keeps the canonical form. -/
theorem amWf_filter {α : Type} [DecidableEq α] (dflt : Nat → α) (p : Nat × α → Bool) (l : List (Nat × α))
    (h : amWf dflt l = true) : amWf dflt (l.filter p) = true := by
  rw [amWf_iff] at h ⊢
  exact ⟨fun e he => h.1 e (List.mem_filter.1 he).1, h.2.filter p⟩

theorem mem_amIns {α : Type} (l : List (Nat × α)) (k : Nat) (v : α) (e : Nat × α) (h : e ∈ amIns l k v) :
    e = (k, v) ∨ e ∈ l := by
  induction l with
  | nil => simpa [amIns] using h
  | cons e' t ih =>
    obtain ⟨k', v'⟩ := e'
    simp only [amIns] at h
    split at h
    · simpa using h
    · split at h
      · rcases List.mem_cons.1 h with h | h
        · exact .inl h
        · exact .inr (List.mem_cons_of_mem _ h)
      · rcases List.mem_cons.1 h with h | h
        · exact .inr (by simp [h])
        · rcases ih h with h | h
          · exact .inl h
          · exact .inr (List.mem_cons_of_mem _ h)

theorem pairwise_amIns {α : Type} (l : List (Nat × α)) (k : Nat) (v : α)
    (h : l.Pairwise fun a b => a.1 < b.1) : (amIns l k v).Pairwise fun a b => a.1 < b.1 := by
  induction l with
  | nil => simp [amIns]
  | cons e t ih =>
    obtain ⟨k', v'⟩ := e
    have h' := List.pairwise_cons.1 h
    simp only [amIns]
    split
    · rename_i hk
      refine List.pairwise_cons.2 ⟨fun e he => ?_, h⟩
      rcases List.mem_cons.1 he with rfl | he
      · exact hk
      · exact Nat.lt_trans hk (h'.1 e he)
    · split
      · rename_i hk; subst hk
        exact List.pairwise_cons.2 ⟨h'.1, h'.2⟩
      · rename_i h1 h2
        refine List.pairwise_cons.2 ⟨fun e he => ?_, ih h'.2⟩
        rcases mem_amIns _ _ _ _ he with rfl | he
        · show k' < k
          omega
        · exact h'.1 e he

/-- A write keeps the canonical form. -/
theorem amWf_amSet {α : Type} [DecidableEq α] (dflt : Nat → α) (l : List (Nat × α)) (k : Nat) (v : α)
    (h : amWf dflt l = true) : amWf dflt (amSet (dflt k) l k v) = true := by
  unfold amSet
  split
  · exact amWf_filter dflt _ l h
  · rename_i hv
    rw [amWf_iff] at h ⊢
    refine ⟨fun e he => ?_, pairwise_amIns l k v h.2⟩
    rcases mem_amIns _ _ _ _ he with rfl | he
    · exact hv
    · exact h.1 e he

end Sys2Proof.Machine
end

