-- ==== Sys2Proof/Laws/Crypto.lean ====
section
/-! SUPPORT. AES-SIV (R144, R409): what is sealed under a 64-byte key opens under it again. -/

namespace Sys2Proof.Machine

theorem xorBytes_length (a b : Bytes) : (xorBytes a b).length = min a.length b.length := by simp [xorBytes]

/-- XOR with a string at least as long, twice. -/
theorem xorBytes_twice (a b : Bytes) (h : a.length ≤ b.length) : xorBytes (xorBytes a b) b = a := by
  apply List.ext_getElem
  · simp [xorBytes_length]; omega
  · intro i h1 h2
    simp only [xorBytes, List.getElem_map, List.getElem_zip, BitVec.xor_assoc, BitVec.xor_self, BitVec.xor_zero]

theorem shiftRows_length (s : Bytes) : (shiftRows s).length = 16 := by simp [shiftRows]

/-- The words of an expanded key that has whole words are 4 bytes, and there are four for each round and one more. -/
theorem aesExpand_words (key : Bytes) (h : key.length = 32) :
    (aesExpand key).length = 60 ∧ ∀ w ∈ aesExpand key, w.length = 4 := by
  unfold aesExpand
  rw [h]
  have step : ∀ (l : List Nat) (s : List Bytes × Nat), 8 ≤ s.1.length → (∀ w ∈ s.1, w.length = 4) →
      ∀ n, s.1.length = 8 + n → l = (List.range (l.length + n)).drop n →
      let r := l.foldl (fun (s : List Bytes × Nat) j =>
        let i := 32 / 4 + j
        let t := s.1.getLastD []
        let t' := if i % (32 / 4) = 0 then xorBytes ((t.drop 1 ++ t.take 1).map sub) [BitVec.ofNat 8 s.2, 0, 0, 0]
          else if 6 < 32 / 4 ∧ i % (32 / 4) = 4 then t.map sub else t
        (s.1 ++ [xorBytes (s.1.getD (i - 32 / 4) []) t'], if i % (32 / 4) = 0 then xtime s.2 else s.2)) s
      r.1.length = 8 + n + l.length ∧ ∀ w ∈ r.1, w.length = 4 := by
    intro l
    induction l with
    | nil => intro s _ hw n hn _; exact ⟨by simpa using hn, hw⟩
    | cons j l ih =>
      intro s h8 hw n hn hl
      have hj : j = n := by
        have := congrArg (fun x => x.head?) hl
        simp [List.head?_drop] at this
        exact this
      have hl' : l = (List.range (l.length + (n + 1))).drop (n + 1) := by
        have := congrArg List.tail hl
        simp only [List.tail_cons, List.tail_drop, List.length_cons] at this
        rw [show l.length + (n + 1) = l.length + 1 + n by omega]
        exact this
      subst hj
      have hlast : (s.1.getLastD []).length = 4 := by
        rw [List.getLastD_eq_getLast?]
        cases hx : s.1.getLast? with
        | none => rw [List.getLast?_eq_none_iff] at hx; simp [hx] at h8
        | some w => exact hw _ (List.mem_of_getLast? hx)
      have hget : (s.1.getD (32 / 4 + j - 32 / 4) []).length = 4 := by
        have hlt : 32 / 4 + j - 32 / 4 < s.1.length := by omega
        rw [List.getD_eq_getElem?_getD, List.getElem?_eq_getElem hlt]
        exact hw _ (List.getElem_mem hlt)
      simp only [List.foldl_cons]
      have := ih (s.1 ++ [xorBytes (s.1.getD (32 / 4 + j - 32 / 4) [])
        (if (32 / 4 + j) % (32 / 4) = 0 then
          xorBytes (((s.1.getLastD []).drop 1 ++ (s.1.getLastD []).take 1).map sub) [BitVec.ofNat 8 s.2, 0, 0, 0]
         else if 6 < 32 / 4 ∧ (32 / 4 + j) % (32 / 4) = 4 then (s.1.getLastD []).map sub else s.1.getLastD [])],
        if (32 / 4 + j) % (32 / 4) = 0 then xtime s.2 else s.2) (by simp; omega)
        (by
          intro w hm
          rcases List.mem_append.1 hm with hm | hm
          · exact hw w hm
          · rw [List.mem_singleton] at hm
            rw [hm, xorBytes_length, hget]
            split
            · simp only [xorBytes_length, List.length_map, List.length_append, List.length_drop, List.length_take, hlast, List.length_cons,
                List.length_nil]
              omega
            · split
              · rw [List.length_map, hlast]; omega
              · rw [hlast]; omega)
        (j + 1) (by simp; omega) hl'
      simpa [Nat.add_assoc, Nat.add_comm, Nat.add_left_comm] using this
  have := step (List.range (4 * (32 / 4 + 7) - 32 / 4)) ((List.range (32 / 4)).map (fun i => slice key (4 * i) 4), 1) (by simp)
    (by
      intro w hm
      obtain ⟨i, hi, rfl⟩ := List.mem_map.1 hm
      rw [List.mem_range] at hi
      exact slice_length _ _ _ (by omega))
    0 (by simp) (by simp)
  simpa using this

/-- A block of AES under a 32-byte key is 16 bytes. -/
theorem aesEnc_length (key blk : Bytes) (h : key.length = 32) : (aesEnc key blk).length = 16 := by
  obtain ⟨hl, hw⟩ := aesExpand_words key h
  unfold aesEnc
  simp only [xorBytes_length, shiftRows_length, h]
  have : ((((aesExpand key).drop (4 * (32 / 4 + 6))).take 4).flatten).length = 16 := by
    rw [List.length_flatten]
    have hm : ((((aesExpand key).drop (4 * (32 / 4 + 6))).take 4).map List.length) = List.replicate 4 4 := by
      rw [List.eq_replicate_iff]
      refine ⟨by simp [hl], ?_⟩
      intro b hb
      obtain ⟨w, hm, rfl⟩ := List.mem_map.1 hb
      exact hw w (List.mem_of_mem_drop (List.mem_of_mem_take hm))
    rw [hm]; rfl
  omega

theorem cmac_length (key msg : Bytes) (h : key.length = 32) : (cmac key msg).length = 16 := by
  unfold cmac; exact aesEnc_length _ _ h

theorem s2v_length (key : Bytes) (ads : List Bytes) (pt : Bytes) (h : key.length = 32) : (s2v key ads pt).length = 16 := by
  unfold s2v
  dsimp only
  split <;> exact cmac_length _ _ h

theorem ctr_ks_length (key : Bytes) (v n : Nat) (h : key.length = 32) :
    ((List.range n).flatMap fun i => aesEnc key (beBytes 16 ((v + i) % 2 ^ 128))).length = 16 * n := by
  rw [List.length_flatMap]
  have : ((List.range n).map fun i => (aesEnc key (beBytes 16 ((v + i) % 2 ^ 128))).length) = List.replicate n 16 := by
    rw [List.eq_replicate_iff]
    refine ⟨by simp, ?_⟩
    intro b hb
    obtain ⟨i, _, rfl⟩ := List.mem_map.1 hb
    exact aesEnc_length _ _ h
  rw [this]; simp [Nat.mul_comm]

theorem ctr_length (key iv bs : Bytes) (h : key.length = 32) : (ctr key iv bs).length = bs.length := by
  unfold ctr
  simp only [xorBytes_length, ctr_ks_length _ _ _ h]
  omega

/-- Counter mode under the same key and block, twice. -/
theorem ctr_twice (key iv bs : Bytes) (h : key.length = 32) : ctr key iv (ctr key iv bs) = bs := by
  have hl := ctr_length key iv bs h
  rw [ctr, hl]
  unfold ctr
  exact xorBytes_twice _ _ (by rw [ctr_ks_length _ _ _ h]; omega)

/-- What is sealed opens. -/
theorem sivOpen_sivSeal (key : Bytes) (ads : List Bytes) (pt : Bytes) (h : key.length = 64) :
    sivOpen key ads (sivSeal key ads pt) = some pt := by
  have h1 : (key.take (key.length / 2)).length = 32 := by simp [h]
  have h2 : (key.drop (key.length / 2)).length = 32 := by simp [h]
  have hv := s2v_length (key.take (key.length / 2)) ads pt h1
  unfold sivOpen sivSeal
  dsimp only
  have ht (c : Bytes) : (s2v (key.take (key.length / 2)) ads pt ++ c).take 16 = s2v (key.take (key.length / 2)) ads pt :=
    List.take_left' hv
  have hd (c : Bytes) : (s2v (key.take (key.length / 2)) ads pt ++ c).drop 16 = c := List.drop_left' hv
  rw [if_neg (by rw [List.length_append, hv]; omega)]
  simp only [ht, hd, ctr_twice _ _ _ h2, beq_self_eq_true, if_true]

theorem sivSeal_length (key : Bytes) (ads : List Bytes) (pt : Bytes) (h : key.length = 64) :
    (sivSeal key ads pt).length = 16 + pt.length := by
  unfold sivSeal
  simp only [List.length_append, s2v_length _ _ _ (show (key.take (key.length / 2)).length = 32 by simp [h]),
    ctr_length _ _ _ (show (key.drop (key.length / 2)).length = 32 by simp [h])]

end Sys2Proof.Machine
end

