-- ==== Sys2Proof/Laws/State.lean ====
section
/-! SUPPORT. One lemma per named update and per field it leaves: what the block holds elsewhere stays. -/

namespace Sys2Proof.Machine

@[simp] theorem State.dev_setDev (s : State) (d : Device) : ({ s with dev := d } : State).dev = d := rfl
@[simp] theorem State.pending_setDev (s : State) (d : Device) : ({ s with dev := d } : State).pending = s.pending := rfl
@[simp] theorem State.dev_setPending (s : State) (l : List Instr) : ({ s with pending := l } : State).dev = s.dev := rfl
@[simp] theorem State.pending_setPending (s : State) (l : List Instr) : ({ s with pending := l } : State).pending = l := rfl

@[simp] theorem Device.wr_cnts (d : Device) (o : Nat) (v : Word) : (d.wr o v).cnts = d.cnts := rfl
@[simp] theorem Device.wr_stats (d : Device) (o : Nat) (v : Word) : (d.wr o v).stats = d.stats := rfl
@[simp] theorem Device.wr_stopping (d : Device) (o : Nat) (v : Word) : (d.wr o v).stopping = d.stopping := rfl
@[simp] theorem Device.wr_tm (d : Device) (o : Nat) (v : Word) : (d.wr o v).tm = d.tm := rfl
@[simp] theorem Device.wr_sched (d : Device) (o : Nat) (v : Word) : (d.wr o v).sched = d.sched := rfl
@[simp] theorem Device.wr_axis0 (d : Device) (o : Nat) (v : Word) : (d.wr o v).axis0 = d.axis0 := rfl
@[simp] theorem Device.wr_axis1 (d : Device) (o : Nat) (v : Word) : (d.wr o v).axis1 = d.axis1 := rfl
@[simp] theorem Device.wr_intc (d : Device) (o : Nat) (v : Word) : (d.wr o v).intc = d.intc := rfl
@[simp] theorem Device.wr_rings (d : Device) (o : Nat) (v : Word) : (d.wr o v).rings = d.rings := rfl
@[simp] theorem Device.wr_pcie (d : Device) (o : Nat) (v : Word) : (d.wr o v).pcie = d.pcie := rfl
@[simp] theorem Device.wr_mon (d : Device) (o : Nat) (v : Word) : (d.wr o v).mon = d.mon := rfl
@[simp] theorem Device.wr_trough (d : Device) (o : Nat) (v : Word) : (d.wr o v).trough = d.trough := rfl
@[simp] theorem Device.wr_slices (d : Device) (o : Nat) (v : Word) : (d.wr o v).slices = d.slices := rfl
@[simp] theorem Device.wr_cls (d : Device) (o : Nat) (v : Word) : (d.wr o v).cls = d.cls := rfl
@[simp] theorem Device.wr_peel (d : Device) (o : Nat) (v : Word) : (d.wr o v).peel = d.peel := rfl
@[simp] theorem Device.wr_nts (d : Device) (o : Nat) (v : Word) : (d.wr o v).nts = d.nts := rfl
@[simp] theorem Device.wr_refs (d : Device) (o : Nat) (v : Word) : (d.wr o v).refs = d.refs := rfl
@[simp] theorem Device.wr_tb (d : Device) (o : Nat) (v : Word) : (d.wr o v).tb = d.tb := rfl
@[simp] theorem Device.wr_outs (d : Device) (o : Nat) (v : Word) : (d.wr o v).outs = d.outs := rfl
@[simp] theorem Device.wr_ptp (d : Device) (o : Nat) (v : Word) : (d.wr o v).ptp = d.ptp := rfl
@[simp] theorem Device.wr_gnss (d : Device) (o : Nat) (v : Word) : (d.wr o v).gnss = d.gnss := rfl
@[simp] theorem Device.wr_tic (d : Device) (o : Nat) (v : Word) : (d.wr o v).tic = d.tic := rfl
@[simp] theorem Device.wr_trust (d : Device) (o : Nat) (v : Word) : (d.wr o v).trust = d.trust := rfl
@[simp] theorem Device.wr_pke (d : Device) (o : Nat) (v : Word) : (d.wr o v).pke = d.pke := rfl
@[simp] theorem Device.wr_ports (d : Device) (o : Nat) (v : Word) : (d.wr o v).ports = d.ports := rfl
@[simp] theorem Device.wr_pair (d : Device) (o : Nat) (v : Word) : (d.wr o v).pair = d.pair := rfl
@[simp] theorem Device.wr_life (d : Device) (o : Nat) (v : Word) : (d.wr o v).life = d.life := rfl
@[simp] theorem Device.wr_draws (d : Device) (o : Nat) (v : Word) : (d.wr o v).draws = d.draws := rfl
@[simp] theorem Device.wr_out (d : Device) (o : Nat) (v : Word) : (d.wr o v).out = d.out := rfl

@[simp] theorem Device.wn_cnts (d : Device) (o v : Nat) : (d.wn o v).cnts = d.cnts := rfl
@[simp] theorem Device.wn_stats (d : Device) (o v : Nat) : (d.wn o v).stats = d.stats := rfl
@[simp] theorem Device.wn_stopping (d : Device) (o v : Nat) : (d.wn o v).stopping = d.stopping := rfl
@[simp] theorem Device.wn_tm (d : Device) (o v : Nat) : (d.wn o v).tm = d.tm := rfl
@[simp] theorem Device.wn_sched (d : Device) (o v : Nat) : (d.wn o v).sched = d.sched := rfl
@[simp] theorem Device.wn_axis0 (d : Device) (o v : Nat) : (d.wn o v).axis0 = d.axis0 := rfl
@[simp] theorem Device.wn_axis1 (d : Device) (o v : Nat) : (d.wn o v).axis1 = d.axis1 := rfl
@[simp] theorem Device.wn_intc (d : Device) (o v : Nat) : (d.wn o v).intc = d.intc := rfl
@[simp] theorem Device.wn_rings (d : Device) (o v : Nat) : (d.wn o v).rings = d.rings := rfl
@[simp] theorem Device.wn_pcie (d : Device) (o v : Nat) : (d.wn o v).pcie = d.pcie := rfl
@[simp] theorem Device.wn_mon (d : Device) (o v : Nat) : (d.wn o v).mon = d.mon := rfl
@[simp] theorem Device.wn_trough (d : Device) (o v : Nat) : (d.wn o v).trough = d.trough := rfl
@[simp] theorem Device.wn_slices (d : Device) (o v : Nat) : (d.wn o v).slices = d.slices := rfl
@[simp] theorem Device.wn_cls (d : Device) (o v : Nat) : (d.wn o v).cls = d.cls := rfl
@[simp] theorem Device.wn_peel (d : Device) (o v : Nat) : (d.wn o v).peel = d.peel := rfl
@[simp] theorem Device.wn_nts (d : Device) (o v : Nat) : (d.wn o v).nts = d.nts := rfl
@[simp] theorem Device.wn_refs (d : Device) (o v : Nat) : (d.wn o v).refs = d.refs := rfl
@[simp] theorem Device.wn_tb (d : Device) (o v : Nat) : (d.wn o v).tb = d.tb := rfl
@[simp] theorem Device.wn_outs (d : Device) (o v : Nat) : (d.wn o v).outs = d.outs := rfl
@[simp] theorem Device.wn_ptp (d : Device) (o v : Nat) : (d.wn o v).ptp = d.ptp := rfl
@[simp] theorem Device.wn_gnss (d : Device) (o v : Nat) : (d.wn o v).gnss = d.gnss := rfl
@[simp] theorem Device.wn_tic (d : Device) (o v : Nat) : (d.wn o v).tic = d.tic := rfl
@[simp] theorem Device.wn_trust (d : Device) (o v : Nat) : (d.wn o v).trust = d.trust := rfl
@[simp] theorem Device.wn_pke (d : Device) (o v : Nat) : (d.wn o v).pke = d.pke := rfl
@[simp] theorem Device.wn_ports (d : Device) (o v : Nat) : (d.wn o v).ports = d.ports := rfl
@[simp] theorem Device.wn_pair (d : Device) (o v : Nat) : (d.wn o v).pair = d.pair := rfl
@[simp] theorem Device.wn_life (d : Device) (o v : Nat) : (d.wn o v).life = d.life := rfl
@[simp] theorem Device.wn_draws (d : Device) (o v : Nat) : (d.wn o v).draws = d.draws := rfl
@[simp] theorem Device.wn_out (d : Device) (o v : Nat) : (d.wn o v).out = d.out := rfl

@[simp] theorem Device.fs_cnts (d : Device) (f : Fld) (v : Nat) : (d.fs f v).cnts = d.cnts := rfl
@[simp] theorem Device.fs_stats (d : Device) (f : Fld) (v : Nat) : (d.fs f v).stats = d.stats := rfl
@[simp] theorem Device.fs_stopping (d : Device) (f : Fld) (v : Nat) : (d.fs f v).stopping = d.stopping := rfl
@[simp] theorem Device.fs_tm (d : Device) (f : Fld) (v : Nat) : (d.fs f v).tm = d.tm := rfl
@[simp] theorem Device.fs_sched (d : Device) (f : Fld) (v : Nat) : (d.fs f v).sched = d.sched := rfl
@[simp] theorem Device.fs_axis0 (d : Device) (f : Fld) (v : Nat) : (d.fs f v).axis0 = d.axis0 := rfl
@[simp] theorem Device.fs_axis1 (d : Device) (f : Fld) (v : Nat) : (d.fs f v).axis1 = d.axis1 := rfl
@[simp] theorem Device.fs_intc (d : Device) (f : Fld) (v : Nat) : (d.fs f v).intc = d.intc := rfl
@[simp] theorem Device.fs_rings (d : Device) (f : Fld) (v : Nat) : (d.fs f v).rings = d.rings := rfl
@[simp] theorem Device.fs_pcie (d : Device) (f : Fld) (v : Nat) : (d.fs f v).pcie = d.pcie := rfl
@[simp] theorem Device.fs_mon (d : Device) (f : Fld) (v : Nat) : (d.fs f v).mon = d.mon := rfl
@[simp] theorem Device.fs_trough (d : Device) (f : Fld) (v : Nat) : (d.fs f v).trough = d.trough := rfl
@[simp] theorem Device.fs_slices (d : Device) (f : Fld) (v : Nat) : (d.fs f v).slices = d.slices := rfl
@[simp] theorem Device.fs_cls (d : Device) (f : Fld) (v : Nat) : (d.fs f v).cls = d.cls := rfl
@[simp] theorem Device.fs_peel (d : Device) (f : Fld) (v : Nat) : (d.fs f v).peel = d.peel := rfl
@[simp] theorem Device.fs_nts (d : Device) (f : Fld) (v : Nat) : (d.fs f v).nts = d.nts := rfl
@[simp] theorem Device.fs_refs (d : Device) (f : Fld) (v : Nat) : (d.fs f v).refs = d.refs := rfl
@[simp] theorem Device.fs_tb (d : Device) (f : Fld) (v : Nat) : (d.fs f v).tb = d.tb := rfl
@[simp] theorem Device.fs_outs (d : Device) (f : Fld) (v : Nat) : (d.fs f v).outs = d.outs := rfl
@[simp] theorem Device.fs_ptp (d : Device) (f : Fld) (v : Nat) : (d.fs f v).ptp = d.ptp := rfl
@[simp] theorem Device.fs_gnss (d : Device) (f : Fld) (v : Nat) : (d.fs f v).gnss = d.gnss := rfl
@[simp] theorem Device.fs_tic (d : Device) (f : Fld) (v : Nat) : (d.fs f v).tic = d.tic := rfl
@[simp] theorem Device.fs_trust (d : Device) (f : Fld) (v : Nat) : (d.fs f v).trust = d.trust := rfl
@[simp] theorem Device.fs_pke (d : Device) (f : Fld) (v : Nat) : (d.fs f v).pke = d.pke := rfl
@[simp] theorem Device.fs_ports (d : Device) (f : Fld) (v : Nat) : (d.fs f v).ports = d.ports := rfl
@[simp] theorem Device.fs_pair (d : Device) (f : Fld) (v : Nat) : (d.fs f v).pair = d.pair := rfl
@[simp] theorem Device.fs_life (d : Device) (f : Fld) (v : Nat) : (d.fs f v).life = d.life := rfl
@[simp] theorem Device.fs_draws (d : Device) (f : Fld) (v : Nat) : (d.fs f v).draws = d.draws := rfl
@[simp] theorem Device.fs_out (d : Device) (f : Fld) (v : Nat) : (d.fs f v).out = d.out := rfl

@[simp] theorem Device.fss_cnts (d : Device) (f : Fld) (v : Int) : (d.fss f v).cnts = d.cnts := rfl
@[simp] theorem Device.fss_stats (d : Device) (f : Fld) (v : Int) : (d.fss f v).stats = d.stats := rfl
@[simp] theorem Device.fss_stopping (d : Device) (f : Fld) (v : Int) : (d.fss f v).stopping = d.stopping := rfl
@[simp] theorem Device.fss_tm (d : Device) (f : Fld) (v : Int) : (d.fss f v).tm = d.tm := rfl
@[simp] theorem Device.fss_sched (d : Device) (f : Fld) (v : Int) : (d.fss f v).sched = d.sched := rfl
@[simp] theorem Device.fss_axis0 (d : Device) (f : Fld) (v : Int) : (d.fss f v).axis0 = d.axis0 := rfl
@[simp] theorem Device.fss_axis1 (d : Device) (f : Fld) (v : Int) : (d.fss f v).axis1 = d.axis1 := rfl
@[simp] theorem Device.fss_intc (d : Device) (f : Fld) (v : Int) : (d.fss f v).intc = d.intc := rfl
@[simp] theorem Device.fss_rings (d : Device) (f : Fld) (v : Int) : (d.fss f v).rings = d.rings := rfl
@[simp] theorem Device.fss_pcie (d : Device) (f : Fld) (v : Int) : (d.fss f v).pcie = d.pcie := rfl
@[simp] theorem Device.fss_mon (d : Device) (f : Fld) (v : Int) : (d.fss f v).mon = d.mon := rfl
@[simp] theorem Device.fss_trough (d : Device) (f : Fld) (v : Int) : (d.fss f v).trough = d.trough := rfl
@[simp] theorem Device.fss_slices (d : Device) (f : Fld) (v : Int) : (d.fss f v).slices = d.slices := rfl
@[simp] theorem Device.fss_cls (d : Device) (f : Fld) (v : Int) : (d.fss f v).cls = d.cls := rfl
@[simp] theorem Device.fss_peel (d : Device) (f : Fld) (v : Int) : (d.fss f v).peel = d.peel := rfl
@[simp] theorem Device.fss_nts (d : Device) (f : Fld) (v : Int) : (d.fss f v).nts = d.nts := rfl
@[simp] theorem Device.fss_refs (d : Device) (f : Fld) (v : Int) : (d.fss f v).refs = d.refs := rfl
@[simp] theorem Device.fss_tb (d : Device) (f : Fld) (v : Int) : (d.fss f v).tb = d.tb := rfl
@[simp] theorem Device.fss_outs (d : Device) (f : Fld) (v : Int) : (d.fss f v).outs = d.outs := rfl
@[simp] theorem Device.fss_ptp (d : Device) (f : Fld) (v : Int) : (d.fss f v).ptp = d.ptp := rfl
@[simp] theorem Device.fss_gnss (d : Device) (f : Fld) (v : Int) : (d.fss f v).gnss = d.gnss := rfl
@[simp] theorem Device.fss_tic (d : Device) (f : Fld) (v : Int) : (d.fss f v).tic = d.tic := rfl
@[simp] theorem Device.fss_trust (d : Device) (f : Fld) (v : Int) : (d.fss f v).trust = d.trust := rfl
@[simp] theorem Device.fss_pke (d : Device) (f : Fld) (v : Int) : (d.fss f v).pke = d.pke := rfl
@[simp] theorem Device.fss_ports (d : Device) (f : Fld) (v : Int) : (d.fss f v).ports = d.ports := rfl
@[simp] theorem Device.fss_pair (d : Device) (f : Fld) (v : Int) : (d.fss f v).pair = d.pair := rfl
@[simp] theorem Device.fss_life (d : Device) (f : Fld) (v : Int) : (d.fss f v).life = d.life := rfl
@[simp] theorem Device.fss_draws (d : Device) (f : Fld) (v : Int) : (d.fss f v).draws = d.draws := rfl
@[simp] theorem Device.fss_out (d : Device) (f : Fld) (v : Int) : (d.fss f v).out = d.out := rfl

@[simp] theorem Device.set1_cnts (d : Device) (f : Fld) : (d.set1 f).cnts = d.cnts := rfl
@[simp] theorem Device.set1_stats (d : Device) (f : Fld) : (d.set1 f).stats = d.stats := rfl
@[simp] theorem Device.set1_stopping (d : Device) (f : Fld) : (d.set1 f).stopping = d.stopping := rfl
@[simp] theorem Device.set1_tm (d : Device) (f : Fld) : (d.set1 f).tm = d.tm := rfl
@[simp] theorem Device.set1_sched (d : Device) (f : Fld) : (d.set1 f).sched = d.sched := rfl
@[simp] theorem Device.set1_axis0 (d : Device) (f : Fld) : (d.set1 f).axis0 = d.axis0 := rfl
@[simp] theorem Device.set1_axis1 (d : Device) (f : Fld) : (d.set1 f).axis1 = d.axis1 := rfl
@[simp] theorem Device.set1_intc (d : Device) (f : Fld) : (d.set1 f).intc = d.intc := rfl
@[simp] theorem Device.set1_rings (d : Device) (f : Fld) : (d.set1 f).rings = d.rings := rfl
@[simp] theorem Device.set1_pcie (d : Device) (f : Fld) : (d.set1 f).pcie = d.pcie := rfl
@[simp] theorem Device.set1_mon (d : Device) (f : Fld) : (d.set1 f).mon = d.mon := rfl
@[simp] theorem Device.set1_trough (d : Device) (f : Fld) : (d.set1 f).trough = d.trough := rfl
@[simp] theorem Device.set1_slices (d : Device) (f : Fld) : (d.set1 f).slices = d.slices := rfl
@[simp] theorem Device.set1_cls (d : Device) (f : Fld) : (d.set1 f).cls = d.cls := rfl
@[simp] theorem Device.set1_peel (d : Device) (f : Fld) : (d.set1 f).peel = d.peel := rfl
@[simp] theorem Device.set1_nts (d : Device) (f : Fld) : (d.set1 f).nts = d.nts := rfl
@[simp] theorem Device.set1_refs (d : Device) (f : Fld) : (d.set1 f).refs = d.refs := rfl
@[simp] theorem Device.set1_tb (d : Device) (f : Fld) : (d.set1 f).tb = d.tb := rfl
@[simp] theorem Device.set1_outs (d : Device) (f : Fld) : (d.set1 f).outs = d.outs := rfl
@[simp] theorem Device.set1_ptp (d : Device) (f : Fld) : (d.set1 f).ptp = d.ptp := rfl
@[simp] theorem Device.set1_gnss (d : Device) (f : Fld) : (d.set1 f).gnss = d.gnss := rfl
@[simp] theorem Device.set1_tic (d : Device) (f : Fld) : (d.set1 f).tic = d.tic := rfl
@[simp] theorem Device.set1_trust (d : Device) (f : Fld) : (d.set1 f).trust = d.trust := rfl
@[simp] theorem Device.set1_pke (d : Device) (f : Fld) : (d.set1 f).pke = d.pke := rfl
@[simp] theorem Device.set1_ports (d : Device) (f : Fld) : (d.set1 f).ports = d.ports := rfl
@[simp] theorem Device.set1_pair (d : Device) (f : Fld) : (d.set1 f).pair = d.pair := rfl
@[simp] theorem Device.set1_life (d : Device) (f : Fld) : (d.set1 f).life = d.life := rfl
@[simp] theorem Device.set1_draws (d : Device) (f : Fld) : (d.set1 f).draws = d.draws := rfl
@[simp] theorem Device.set1_out (d : Device) (f : Fld) : (d.set1 f).out = d.out := rfl

@[simp] theorem Device.clr_cnts (d : Device) (f : Fld) : (d.clr f).cnts = d.cnts := rfl
@[simp] theorem Device.clr_stats (d : Device) (f : Fld) : (d.clr f).stats = d.stats := rfl
@[simp] theorem Device.clr_stopping (d : Device) (f : Fld) : (d.clr f).stopping = d.stopping := rfl
@[simp] theorem Device.clr_tm (d : Device) (f : Fld) : (d.clr f).tm = d.tm := rfl
@[simp] theorem Device.clr_sched (d : Device) (f : Fld) : (d.clr f).sched = d.sched := rfl
@[simp] theorem Device.clr_axis0 (d : Device) (f : Fld) : (d.clr f).axis0 = d.axis0 := rfl
@[simp] theorem Device.clr_axis1 (d : Device) (f : Fld) : (d.clr f).axis1 = d.axis1 := rfl
@[simp] theorem Device.clr_intc (d : Device) (f : Fld) : (d.clr f).intc = d.intc := rfl
@[simp] theorem Device.clr_rings (d : Device) (f : Fld) : (d.clr f).rings = d.rings := rfl
@[simp] theorem Device.clr_pcie (d : Device) (f : Fld) : (d.clr f).pcie = d.pcie := rfl
@[simp] theorem Device.clr_mon (d : Device) (f : Fld) : (d.clr f).mon = d.mon := rfl
@[simp] theorem Device.clr_trough (d : Device) (f : Fld) : (d.clr f).trough = d.trough := rfl
@[simp] theorem Device.clr_slices (d : Device) (f : Fld) : (d.clr f).slices = d.slices := rfl
@[simp] theorem Device.clr_cls (d : Device) (f : Fld) : (d.clr f).cls = d.cls := rfl
@[simp] theorem Device.clr_peel (d : Device) (f : Fld) : (d.clr f).peel = d.peel := rfl
@[simp] theorem Device.clr_nts (d : Device) (f : Fld) : (d.clr f).nts = d.nts := rfl
@[simp] theorem Device.clr_refs (d : Device) (f : Fld) : (d.clr f).refs = d.refs := rfl
@[simp] theorem Device.clr_tb (d : Device) (f : Fld) : (d.clr f).tb = d.tb := rfl
@[simp] theorem Device.clr_outs (d : Device) (f : Fld) : (d.clr f).outs = d.outs := rfl
@[simp] theorem Device.clr_ptp (d : Device) (f : Fld) : (d.clr f).ptp = d.ptp := rfl
@[simp] theorem Device.clr_gnss (d : Device) (f : Fld) : (d.clr f).gnss = d.gnss := rfl
@[simp] theorem Device.clr_tic (d : Device) (f : Fld) : (d.clr f).tic = d.tic := rfl
@[simp] theorem Device.clr_trust (d : Device) (f : Fld) : (d.clr f).trust = d.trust := rfl
@[simp] theorem Device.clr_pke (d : Device) (f : Fld) : (d.clr f).pke = d.pke := rfl
@[simp] theorem Device.clr_ports (d : Device) (f : Fld) : (d.clr f).ports = d.ports := rfl
@[simp] theorem Device.clr_pair (d : Device) (f : Fld) : (d.clr f).pair = d.pair := rfl
@[simp] theorem Device.clr_life (d : Device) (f : Fld) : (d.clr f).life = d.life := rfl
@[simp] theorem Device.clr_draws (d : Device) (f : Fld) : (d.clr f).draws = d.draws := rfl
@[simp] theorem Device.clr_out (d : Device) (f : Fld) : (d.clr f).out = d.out := rfl

@[simp] theorem Device.fsb_cnts (d : Device) (f : Fld) (b : Bool) : (d.fsb f b).cnts = d.cnts := rfl
@[simp] theorem Device.fsb_stats (d : Device) (f : Fld) (b : Bool) : (d.fsb f b).stats = d.stats := rfl
@[simp] theorem Device.fsb_stopping (d : Device) (f : Fld) (b : Bool) : (d.fsb f b).stopping = d.stopping := rfl
@[simp] theorem Device.fsb_tm (d : Device) (f : Fld) (b : Bool) : (d.fsb f b).tm = d.tm := rfl
@[simp] theorem Device.fsb_sched (d : Device) (f : Fld) (b : Bool) : (d.fsb f b).sched = d.sched := rfl
@[simp] theorem Device.fsb_axis0 (d : Device) (f : Fld) (b : Bool) : (d.fsb f b).axis0 = d.axis0 := rfl
@[simp] theorem Device.fsb_axis1 (d : Device) (f : Fld) (b : Bool) : (d.fsb f b).axis1 = d.axis1 := rfl
@[simp] theorem Device.fsb_intc (d : Device) (f : Fld) (b : Bool) : (d.fsb f b).intc = d.intc := rfl
@[simp] theorem Device.fsb_rings (d : Device) (f : Fld) (b : Bool) : (d.fsb f b).rings = d.rings := rfl
@[simp] theorem Device.fsb_pcie (d : Device) (f : Fld) (b : Bool) : (d.fsb f b).pcie = d.pcie := rfl
@[simp] theorem Device.fsb_mon (d : Device) (f : Fld) (b : Bool) : (d.fsb f b).mon = d.mon := rfl
@[simp] theorem Device.fsb_trough (d : Device) (f : Fld) (b : Bool) : (d.fsb f b).trough = d.trough := rfl
@[simp] theorem Device.fsb_slices (d : Device) (f : Fld) (b : Bool) : (d.fsb f b).slices = d.slices := rfl
@[simp] theorem Device.fsb_cls (d : Device) (f : Fld) (b : Bool) : (d.fsb f b).cls = d.cls := rfl
@[simp] theorem Device.fsb_peel (d : Device) (f : Fld) (b : Bool) : (d.fsb f b).peel = d.peel := rfl
@[simp] theorem Device.fsb_nts (d : Device) (f : Fld) (b : Bool) : (d.fsb f b).nts = d.nts := rfl
@[simp] theorem Device.fsb_refs (d : Device) (f : Fld) (b : Bool) : (d.fsb f b).refs = d.refs := rfl
@[simp] theorem Device.fsb_tb (d : Device) (f : Fld) (b : Bool) : (d.fsb f b).tb = d.tb := rfl
@[simp] theorem Device.fsb_outs (d : Device) (f : Fld) (b : Bool) : (d.fsb f b).outs = d.outs := rfl
@[simp] theorem Device.fsb_ptp (d : Device) (f : Fld) (b : Bool) : (d.fsb f b).ptp = d.ptp := rfl
@[simp] theorem Device.fsb_gnss (d : Device) (f : Fld) (b : Bool) : (d.fsb f b).gnss = d.gnss := rfl
@[simp] theorem Device.fsb_tic (d : Device) (f : Fld) (b : Bool) : (d.fsb f b).tic = d.tic := rfl
@[simp] theorem Device.fsb_trust (d : Device) (f : Fld) (b : Bool) : (d.fsb f b).trust = d.trust := rfl
@[simp] theorem Device.fsb_pke (d : Device) (f : Fld) (b : Bool) : (d.fsb f b).pke = d.pke := rfl
@[simp] theorem Device.fsb_ports (d : Device) (f : Fld) (b : Bool) : (d.fsb f b).ports = d.ports := rfl
@[simp] theorem Device.fsb_pair (d : Device) (f : Fld) (b : Bool) : (d.fsb f b).pair = d.pair := rfl
@[simp] theorem Device.fsb_life (d : Device) (f : Fld) (b : Bool) : (d.fsb f b).life = d.life := rfl
@[simp] theorem Device.fsb_draws (d : Device) (f : Fld) (b : Bool) : (d.fsb f b).draws = d.draws := rfl
@[simp] theorem Device.fsb_out (d : Device) (f : Fld) (b : Bool) : (d.fsb f b).out = d.out := rfl

@[simp] theorem Device.wn2_cnts (d : Device) (lo hi v : Nat) : (d.wn2 lo hi v).cnts = d.cnts := rfl
@[simp] theorem Device.wn2_stats (d : Device) (lo hi v : Nat) : (d.wn2 lo hi v).stats = d.stats := rfl
@[simp] theorem Device.wn2_stopping (d : Device) (lo hi v : Nat) : (d.wn2 lo hi v).stopping = d.stopping := rfl
@[simp] theorem Device.wn2_tm (d : Device) (lo hi v : Nat) : (d.wn2 lo hi v).tm = d.tm := rfl
@[simp] theorem Device.wn2_sched (d : Device) (lo hi v : Nat) : (d.wn2 lo hi v).sched = d.sched := rfl
@[simp] theorem Device.wn2_axis0 (d : Device) (lo hi v : Nat) : (d.wn2 lo hi v).axis0 = d.axis0 := rfl
@[simp] theorem Device.wn2_axis1 (d : Device) (lo hi v : Nat) : (d.wn2 lo hi v).axis1 = d.axis1 := rfl
@[simp] theorem Device.wn2_intc (d : Device) (lo hi v : Nat) : (d.wn2 lo hi v).intc = d.intc := rfl
@[simp] theorem Device.wn2_rings (d : Device) (lo hi v : Nat) : (d.wn2 lo hi v).rings = d.rings := rfl
@[simp] theorem Device.wn2_pcie (d : Device) (lo hi v : Nat) : (d.wn2 lo hi v).pcie = d.pcie := rfl
@[simp] theorem Device.wn2_mon (d : Device) (lo hi v : Nat) : (d.wn2 lo hi v).mon = d.mon := rfl
@[simp] theorem Device.wn2_trough (d : Device) (lo hi v : Nat) : (d.wn2 lo hi v).trough = d.trough := rfl
@[simp] theorem Device.wn2_slices (d : Device) (lo hi v : Nat) : (d.wn2 lo hi v).slices = d.slices := rfl
@[simp] theorem Device.wn2_cls (d : Device) (lo hi v : Nat) : (d.wn2 lo hi v).cls = d.cls := rfl
@[simp] theorem Device.wn2_peel (d : Device) (lo hi v : Nat) : (d.wn2 lo hi v).peel = d.peel := rfl
@[simp] theorem Device.wn2_nts (d : Device) (lo hi v : Nat) : (d.wn2 lo hi v).nts = d.nts := rfl
@[simp] theorem Device.wn2_refs (d : Device) (lo hi v : Nat) : (d.wn2 lo hi v).refs = d.refs := rfl
@[simp] theorem Device.wn2_tb (d : Device) (lo hi v : Nat) : (d.wn2 lo hi v).tb = d.tb := rfl
@[simp] theorem Device.wn2_outs (d : Device) (lo hi v : Nat) : (d.wn2 lo hi v).outs = d.outs := rfl
@[simp] theorem Device.wn2_ptp (d : Device) (lo hi v : Nat) : (d.wn2 lo hi v).ptp = d.ptp := rfl
@[simp] theorem Device.wn2_gnss (d : Device) (lo hi v : Nat) : (d.wn2 lo hi v).gnss = d.gnss := rfl
@[simp] theorem Device.wn2_tic (d : Device) (lo hi v : Nat) : (d.wn2 lo hi v).tic = d.tic := rfl
@[simp] theorem Device.wn2_trust (d : Device) (lo hi v : Nat) : (d.wn2 lo hi v).trust = d.trust := rfl
@[simp] theorem Device.wn2_pke (d : Device) (lo hi v : Nat) : (d.wn2 lo hi v).pke = d.pke := rfl
@[simp] theorem Device.wn2_ports (d : Device) (lo hi v : Nat) : (d.wn2 lo hi v).ports = d.ports := rfl
@[simp] theorem Device.wn2_pair (d : Device) (lo hi v : Nat) : (d.wn2 lo hi v).pair = d.pair := rfl
@[simp] theorem Device.wn2_life (d : Device) (lo hi v : Nat) : (d.wn2 lo hi v).life = d.life := rfl
@[simp] theorem Device.wn2_draws (d : Device) (lo hi v : Nat) : (d.wn2 lo hi v).draws = d.draws := rfl
@[simp] theorem Device.wn2_out (d : Device) (lo hi v : Nat) : (d.wn2 lo hi v).out = d.out := rfl

@[simp] theorem Device.wn3_cnts (d : Device) (o v : Nat) : (d.wn3 o v).cnts = d.cnts := rfl
@[simp] theorem Device.wn3_stats (d : Device) (o v : Nat) : (d.wn3 o v).stats = d.stats := rfl
@[simp] theorem Device.wn3_stopping (d : Device) (o v : Nat) : (d.wn3 o v).stopping = d.stopping := rfl
@[simp] theorem Device.wn3_tm (d : Device) (o v : Nat) : (d.wn3 o v).tm = d.tm := rfl
@[simp] theorem Device.wn3_sched (d : Device) (o v : Nat) : (d.wn3 o v).sched = d.sched := rfl
@[simp] theorem Device.wn3_axis0 (d : Device) (o v : Nat) : (d.wn3 o v).axis0 = d.axis0 := rfl
@[simp] theorem Device.wn3_axis1 (d : Device) (o v : Nat) : (d.wn3 o v).axis1 = d.axis1 := rfl
@[simp] theorem Device.wn3_intc (d : Device) (o v : Nat) : (d.wn3 o v).intc = d.intc := rfl
@[simp] theorem Device.wn3_rings (d : Device) (o v : Nat) : (d.wn3 o v).rings = d.rings := rfl
@[simp] theorem Device.wn3_pcie (d : Device) (o v : Nat) : (d.wn3 o v).pcie = d.pcie := rfl
@[simp] theorem Device.wn3_mon (d : Device) (o v : Nat) : (d.wn3 o v).mon = d.mon := rfl
@[simp] theorem Device.wn3_trough (d : Device) (o v : Nat) : (d.wn3 o v).trough = d.trough := rfl
@[simp] theorem Device.wn3_slices (d : Device) (o v : Nat) : (d.wn3 o v).slices = d.slices := rfl
@[simp] theorem Device.wn3_cls (d : Device) (o v : Nat) : (d.wn3 o v).cls = d.cls := rfl
@[simp] theorem Device.wn3_peel (d : Device) (o v : Nat) : (d.wn3 o v).peel = d.peel := rfl
@[simp] theorem Device.wn3_nts (d : Device) (o v : Nat) : (d.wn3 o v).nts = d.nts := rfl
@[simp] theorem Device.wn3_refs (d : Device) (o v : Nat) : (d.wn3 o v).refs = d.refs := rfl
@[simp] theorem Device.wn3_tb (d : Device) (o v : Nat) : (d.wn3 o v).tb = d.tb := rfl
@[simp] theorem Device.wn3_outs (d : Device) (o v : Nat) : (d.wn3 o v).outs = d.outs := rfl
@[simp] theorem Device.wn3_ptp (d : Device) (o v : Nat) : (d.wn3 o v).ptp = d.ptp := rfl
@[simp] theorem Device.wn3_gnss (d : Device) (o v : Nat) : (d.wn3 o v).gnss = d.gnss := rfl
@[simp] theorem Device.wn3_tic (d : Device) (o v : Nat) : (d.wn3 o v).tic = d.tic := rfl
@[simp] theorem Device.wn3_trust (d : Device) (o v : Nat) : (d.wn3 o v).trust = d.trust := rfl
@[simp] theorem Device.wn3_pke (d : Device) (o v : Nat) : (d.wn3 o v).pke = d.pke := rfl
@[simp] theorem Device.wn3_ports (d : Device) (o v : Nat) : (d.wn3 o v).ports = d.ports := rfl
@[simp] theorem Device.wn3_pair (d : Device) (o v : Nat) : (d.wn3 o v).pair = d.pair := rfl
@[simp] theorem Device.wn3_life (d : Device) (o v : Nat) : (d.wn3 o v).life = d.life := rfl
@[simp] theorem Device.wn3_draws (d : Device) (o v : Nat) : (d.wn3 o v).draws = d.draws := rfl
@[simp] theorem Device.wn3_out (d : Device) (o v : Nat) : (d.wn3 o v).out = d.out := rfl

@[simp] theorem Device.resetRegs_cnts (d : Device) (lo hi : Nat) : (d.resetRegs lo hi).cnts = d.cnts := rfl
@[simp] theorem Device.resetRegs_stats (d : Device) (lo hi : Nat) : (d.resetRegs lo hi).stats = d.stats := rfl
@[simp] theorem Device.resetRegs_stopping (d : Device) (lo hi : Nat) : (d.resetRegs lo hi).stopping = d.stopping := rfl
@[simp] theorem Device.resetRegs_tm (d : Device) (lo hi : Nat) : (d.resetRegs lo hi).tm = d.tm := rfl
@[simp] theorem Device.resetRegs_sched (d : Device) (lo hi : Nat) : (d.resetRegs lo hi).sched = d.sched := rfl
@[simp] theorem Device.resetRegs_axis0 (d : Device) (lo hi : Nat) : (d.resetRegs lo hi).axis0 = d.axis0 := rfl
@[simp] theorem Device.resetRegs_axis1 (d : Device) (lo hi : Nat) : (d.resetRegs lo hi).axis1 = d.axis1 := rfl
@[simp] theorem Device.resetRegs_intc (d : Device) (lo hi : Nat) : (d.resetRegs lo hi).intc = d.intc := rfl
@[simp] theorem Device.resetRegs_rings (d : Device) (lo hi : Nat) : (d.resetRegs lo hi).rings = d.rings := rfl
@[simp] theorem Device.resetRegs_pcie (d : Device) (lo hi : Nat) : (d.resetRegs lo hi).pcie = d.pcie := rfl
@[simp] theorem Device.resetRegs_mon (d : Device) (lo hi : Nat) : (d.resetRegs lo hi).mon = d.mon := rfl
@[simp] theorem Device.resetRegs_trough (d : Device) (lo hi : Nat) : (d.resetRegs lo hi).trough = d.trough := rfl
@[simp] theorem Device.resetRegs_slices (d : Device) (lo hi : Nat) : (d.resetRegs lo hi).slices = d.slices := rfl
@[simp] theorem Device.resetRegs_cls (d : Device) (lo hi : Nat) : (d.resetRegs lo hi).cls = d.cls := rfl
@[simp] theorem Device.resetRegs_peel (d : Device) (lo hi : Nat) : (d.resetRegs lo hi).peel = d.peel := rfl
@[simp] theorem Device.resetRegs_nts (d : Device) (lo hi : Nat) : (d.resetRegs lo hi).nts = d.nts := rfl
@[simp] theorem Device.resetRegs_refs (d : Device) (lo hi : Nat) : (d.resetRegs lo hi).refs = d.refs := rfl
@[simp] theorem Device.resetRegs_tb (d : Device) (lo hi : Nat) : (d.resetRegs lo hi).tb = d.tb := rfl
@[simp] theorem Device.resetRegs_outs (d : Device) (lo hi : Nat) : (d.resetRegs lo hi).outs = d.outs := rfl
@[simp] theorem Device.resetRegs_ptp (d : Device) (lo hi : Nat) : (d.resetRegs lo hi).ptp = d.ptp := rfl
@[simp] theorem Device.resetRegs_gnss (d : Device) (lo hi : Nat) : (d.resetRegs lo hi).gnss = d.gnss := rfl
@[simp] theorem Device.resetRegs_tic (d : Device) (lo hi : Nat) : (d.resetRegs lo hi).tic = d.tic := rfl
@[simp] theorem Device.resetRegs_trust (d : Device) (lo hi : Nat) : (d.resetRegs lo hi).trust = d.trust := rfl
@[simp] theorem Device.resetRegs_pke (d : Device) (lo hi : Nat) : (d.resetRegs lo hi).pke = d.pke := rfl
@[simp] theorem Device.resetRegs_ports (d : Device) (lo hi : Nat) : (d.resetRegs lo hi).ports = d.ports := rfl
@[simp] theorem Device.resetRegs_pair (d : Device) (lo hi : Nat) : (d.resetRegs lo hi).pair = d.pair := rfl
@[simp] theorem Device.resetRegs_life (d : Device) (lo hi : Nat) : (d.resetRegs lo hi).life = d.life := rfl
@[simp] theorem Device.resetRegs_draws (d : Device) (lo hi : Nat) : (d.resetRegs lo hi).draws = d.draws := rfl
@[simp] theorem Device.resetRegs_out (d : Device) (lo hi : Nat) : (d.resetRegs lo hi).out = d.out := rfl

@[simp] theorem Device.resetRegsBut_cnts (d : Device) (lo hi : Nat) (k : Nat → Bool) : (d.resetRegsBut lo hi k).cnts = d.cnts := rfl
@[simp] theorem Device.resetRegsBut_stats (d : Device) (lo hi : Nat) (k : Nat → Bool) : (d.resetRegsBut lo hi k).stats = d.stats := rfl
@[simp] theorem Device.resetRegsBut_stopping (d : Device) (lo hi : Nat) (k : Nat → Bool) : (d.resetRegsBut lo hi k).stopping = d.stopping := rfl
@[simp] theorem Device.resetRegsBut_tm (d : Device) (lo hi : Nat) (k : Nat → Bool) : (d.resetRegsBut lo hi k).tm = d.tm := rfl
@[simp] theorem Device.resetRegsBut_sched (d : Device) (lo hi : Nat) (k : Nat → Bool) : (d.resetRegsBut lo hi k).sched = d.sched := rfl
@[simp] theorem Device.resetRegsBut_axis0 (d : Device) (lo hi : Nat) (k : Nat → Bool) : (d.resetRegsBut lo hi k).axis0 = d.axis0 := rfl
@[simp] theorem Device.resetRegsBut_axis1 (d : Device) (lo hi : Nat) (k : Nat → Bool) : (d.resetRegsBut lo hi k).axis1 = d.axis1 := rfl
@[simp] theorem Device.resetRegsBut_intc (d : Device) (lo hi : Nat) (k : Nat → Bool) : (d.resetRegsBut lo hi k).intc = d.intc := rfl
@[simp] theorem Device.resetRegsBut_rings (d : Device) (lo hi : Nat) (k : Nat → Bool) : (d.resetRegsBut lo hi k).rings = d.rings := rfl
@[simp] theorem Device.resetRegsBut_pcie (d : Device) (lo hi : Nat) (k : Nat → Bool) : (d.resetRegsBut lo hi k).pcie = d.pcie := rfl
@[simp] theorem Device.resetRegsBut_mon (d : Device) (lo hi : Nat) (k : Nat → Bool) : (d.resetRegsBut lo hi k).mon = d.mon := rfl
@[simp] theorem Device.resetRegsBut_trough (d : Device) (lo hi : Nat) (k : Nat → Bool) : (d.resetRegsBut lo hi k).trough = d.trough := rfl
@[simp] theorem Device.resetRegsBut_slices (d : Device) (lo hi : Nat) (k : Nat → Bool) : (d.resetRegsBut lo hi k).slices = d.slices := rfl
@[simp] theorem Device.resetRegsBut_cls (d : Device) (lo hi : Nat) (k : Nat → Bool) : (d.resetRegsBut lo hi k).cls = d.cls := rfl
@[simp] theorem Device.resetRegsBut_peel (d : Device) (lo hi : Nat) (k : Nat → Bool) : (d.resetRegsBut lo hi k).peel = d.peel := rfl
@[simp] theorem Device.resetRegsBut_nts (d : Device) (lo hi : Nat) (k : Nat → Bool) : (d.resetRegsBut lo hi k).nts = d.nts := rfl
@[simp] theorem Device.resetRegsBut_refs (d : Device) (lo hi : Nat) (k : Nat → Bool) : (d.resetRegsBut lo hi k).refs = d.refs := rfl
@[simp] theorem Device.resetRegsBut_tb (d : Device) (lo hi : Nat) (k : Nat → Bool) : (d.resetRegsBut lo hi k).tb = d.tb := rfl
@[simp] theorem Device.resetRegsBut_outs (d : Device) (lo hi : Nat) (k : Nat → Bool) : (d.resetRegsBut lo hi k).outs = d.outs := rfl
@[simp] theorem Device.resetRegsBut_ptp (d : Device) (lo hi : Nat) (k : Nat → Bool) : (d.resetRegsBut lo hi k).ptp = d.ptp := rfl
@[simp] theorem Device.resetRegsBut_gnss (d : Device) (lo hi : Nat) (k : Nat → Bool) : (d.resetRegsBut lo hi k).gnss = d.gnss := rfl
@[simp] theorem Device.resetRegsBut_tic (d : Device) (lo hi : Nat) (k : Nat → Bool) : (d.resetRegsBut lo hi k).tic = d.tic := rfl
@[simp] theorem Device.resetRegsBut_trust (d : Device) (lo hi : Nat) (k : Nat → Bool) : (d.resetRegsBut lo hi k).trust = d.trust := rfl
@[simp] theorem Device.resetRegsBut_pke (d : Device) (lo hi : Nat) (k : Nat → Bool) : (d.resetRegsBut lo hi k).pke = d.pke := rfl
@[simp] theorem Device.resetRegsBut_ports (d : Device) (lo hi : Nat) (k : Nat → Bool) : (d.resetRegsBut lo hi k).ports = d.ports := rfl
@[simp] theorem Device.resetRegsBut_pair (d : Device) (lo hi : Nat) (k : Nat → Bool) : (d.resetRegsBut lo hi k).pair = d.pair := rfl
@[simp] theorem Device.resetRegsBut_life (d : Device) (lo hi : Nat) (k : Nat → Bool) : (d.resetRegsBut lo hi k).life = d.life := rfl
@[simp] theorem Device.resetRegsBut_draws (d : Device) (lo hi : Nat) (k : Nat → Bool) : (d.resetRegsBut lo hi k).draws = d.draws := rfl
@[simp] theorem Device.resetRegsBut_out (d : Device) (lo hi : Nat) (k : Nat → Bool) : (d.resetRegsBut lo hi k).out = d.out := rfl

@[simp] theorem Device.cntN_regs (d : Device) (i n : Nat) : (d.cntN i n).regs = d.regs := rfl
@[simp] theorem Device.cntN_stats (d : Device) (i n : Nat) : (d.cntN i n).stats = d.stats := rfl
@[simp] theorem Device.cntN_stopping (d : Device) (i n : Nat) : (d.cntN i n).stopping = d.stopping := rfl
@[simp] theorem Device.cntN_tm (d : Device) (i n : Nat) : (d.cntN i n).tm = d.tm := rfl
@[simp] theorem Device.cntN_sched (d : Device) (i n : Nat) : (d.cntN i n).sched = d.sched := rfl
@[simp] theorem Device.cntN_axis0 (d : Device) (i n : Nat) : (d.cntN i n).axis0 = d.axis0 := rfl
@[simp] theorem Device.cntN_axis1 (d : Device) (i n : Nat) : (d.cntN i n).axis1 = d.axis1 := rfl
@[simp] theorem Device.cntN_intc (d : Device) (i n : Nat) : (d.cntN i n).intc = d.intc := rfl
@[simp] theorem Device.cntN_rings (d : Device) (i n : Nat) : (d.cntN i n).rings = d.rings := rfl
@[simp] theorem Device.cntN_pcie (d : Device) (i n : Nat) : (d.cntN i n).pcie = d.pcie := rfl
@[simp] theorem Device.cntN_mon (d : Device) (i n : Nat) : (d.cntN i n).mon = d.mon := rfl
@[simp] theorem Device.cntN_trough (d : Device) (i n : Nat) : (d.cntN i n).trough = d.trough := rfl
@[simp] theorem Device.cntN_slices (d : Device) (i n : Nat) : (d.cntN i n).slices = d.slices := rfl
@[simp] theorem Device.cntN_cls (d : Device) (i n : Nat) : (d.cntN i n).cls = d.cls := rfl
@[simp] theorem Device.cntN_peel (d : Device) (i n : Nat) : (d.cntN i n).peel = d.peel := rfl
@[simp] theorem Device.cntN_nts (d : Device) (i n : Nat) : (d.cntN i n).nts = d.nts := rfl
@[simp] theorem Device.cntN_refs (d : Device) (i n : Nat) : (d.cntN i n).refs = d.refs := rfl
@[simp] theorem Device.cntN_tb (d : Device) (i n : Nat) : (d.cntN i n).tb = d.tb := rfl
@[simp] theorem Device.cntN_outs (d : Device) (i n : Nat) : (d.cntN i n).outs = d.outs := rfl
@[simp] theorem Device.cntN_ptp (d : Device) (i n : Nat) : (d.cntN i n).ptp = d.ptp := rfl
@[simp] theorem Device.cntN_gnss (d : Device) (i n : Nat) : (d.cntN i n).gnss = d.gnss := rfl
@[simp] theorem Device.cntN_tic (d : Device) (i n : Nat) : (d.cntN i n).tic = d.tic := rfl
@[simp] theorem Device.cntN_trust (d : Device) (i n : Nat) : (d.cntN i n).trust = d.trust := rfl
@[simp] theorem Device.cntN_pke (d : Device) (i n : Nat) : (d.cntN i n).pke = d.pke := rfl
@[simp] theorem Device.cntN_ports (d : Device) (i n : Nat) : (d.cntN i n).ports = d.ports := rfl
@[simp] theorem Device.cntN_pair (d : Device) (i n : Nat) : (d.cntN i n).pair = d.pair := rfl
@[simp] theorem Device.cntN_life (d : Device) (i n : Nat) : (d.cntN i n).life = d.life := rfl
@[simp] theorem Device.cntN_draws (d : Device) (i n : Nat) : (d.cntN i n).draws = d.draws := rfl
@[simp] theorem Device.cntN_out (d : Device) (i n : Nat) : (d.cntN i n).out = d.out := rfl

@[simp] theorem Device.cnt_regs (d : Device) (i : Nat) : (d.cnt i).regs = d.regs := rfl
@[simp] theorem Device.cnt_stats (d : Device) (i : Nat) : (d.cnt i).stats = d.stats := rfl
@[simp] theorem Device.cnt_stopping (d : Device) (i : Nat) : (d.cnt i).stopping = d.stopping := rfl
@[simp] theorem Device.cnt_tm (d : Device) (i : Nat) : (d.cnt i).tm = d.tm := rfl
@[simp] theorem Device.cnt_sched (d : Device) (i : Nat) : (d.cnt i).sched = d.sched := rfl
@[simp] theorem Device.cnt_axis0 (d : Device) (i : Nat) : (d.cnt i).axis0 = d.axis0 := rfl
@[simp] theorem Device.cnt_axis1 (d : Device) (i : Nat) : (d.cnt i).axis1 = d.axis1 := rfl
@[simp] theorem Device.cnt_intc (d : Device) (i : Nat) : (d.cnt i).intc = d.intc := rfl
@[simp] theorem Device.cnt_rings (d : Device) (i : Nat) : (d.cnt i).rings = d.rings := rfl
@[simp] theorem Device.cnt_pcie (d : Device) (i : Nat) : (d.cnt i).pcie = d.pcie := rfl
@[simp] theorem Device.cnt_mon (d : Device) (i : Nat) : (d.cnt i).mon = d.mon := rfl
@[simp] theorem Device.cnt_trough (d : Device) (i : Nat) : (d.cnt i).trough = d.trough := rfl
@[simp] theorem Device.cnt_slices (d : Device) (i : Nat) : (d.cnt i).slices = d.slices := rfl
@[simp] theorem Device.cnt_cls (d : Device) (i : Nat) : (d.cnt i).cls = d.cls := rfl
@[simp] theorem Device.cnt_peel (d : Device) (i : Nat) : (d.cnt i).peel = d.peel := rfl
@[simp] theorem Device.cnt_nts (d : Device) (i : Nat) : (d.cnt i).nts = d.nts := rfl
@[simp] theorem Device.cnt_refs (d : Device) (i : Nat) : (d.cnt i).refs = d.refs := rfl
@[simp] theorem Device.cnt_tb (d : Device) (i : Nat) : (d.cnt i).tb = d.tb := rfl
@[simp] theorem Device.cnt_outs (d : Device) (i : Nat) : (d.cnt i).outs = d.outs := rfl
@[simp] theorem Device.cnt_ptp (d : Device) (i : Nat) : (d.cnt i).ptp = d.ptp := rfl
@[simp] theorem Device.cnt_gnss (d : Device) (i : Nat) : (d.cnt i).gnss = d.gnss := rfl
@[simp] theorem Device.cnt_tic (d : Device) (i : Nat) : (d.cnt i).tic = d.tic := rfl
@[simp] theorem Device.cnt_trust (d : Device) (i : Nat) : (d.cnt i).trust = d.trust := rfl
@[simp] theorem Device.cnt_pke (d : Device) (i : Nat) : (d.cnt i).pke = d.pke := rfl
@[simp] theorem Device.cnt_ports (d : Device) (i : Nat) : (d.cnt i).ports = d.ports := rfl
@[simp] theorem Device.cnt_pair (d : Device) (i : Nat) : (d.cnt i).pair = d.pair := rfl
@[simp] theorem Device.cnt_life (d : Device) (i : Nat) : (d.cnt i).life = d.life := rfl
@[simp] theorem Device.cnt_draws (d : Device) (i : Nat) : (d.cnt i).draws = d.draws := rfl
@[simp] theorem Device.cnt_out (d : Device) (i : Nat) : (d.cnt i).out = d.out := rfl

@[simp] theorem Device.emit_regs (d : Device) (o : Output) : (d.emit o).regs = d.regs := rfl
@[simp] theorem Device.emit_cnts (d : Device) (o : Output) : (d.emit o).cnts = d.cnts := rfl
@[simp] theorem Device.emit_stats (d : Device) (o : Output) : (d.emit o).stats = d.stats := rfl
@[simp] theorem Device.emit_stopping (d : Device) (o : Output) : (d.emit o).stopping = d.stopping := rfl
@[simp] theorem Device.emit_tm (d : Device) (o : Output) : (d.emit o).tm = d.tm := rfl
@[simp] theorem Device.emit_sched (d : Device) (o : Output) : (d.emit o).sched = d.sched := rfl
@[simp] theorem Device.emit_axis0 (d : Device) (o : Output) : (d.emit o).axis0 = d.axis0 := rfl
@[simp] theorem Device.emit_axis1 (d : Device) (o : Output) : (d.emit o).axis1 = d.axis1 := rfl
@[simp] theorem Device.emit_intc (d : Device) (o : Output) : (d.emit o).intc = d.intc := rfl
@[simp] theorem Device.emit_rings (d : Device) (o : Output) : (d.emit o).rings = d.rings := rfl
@[simp] theorem Device.emit_pcie (d : Device) (o : Output) : (d.emit o).pcie = d.pcie := rfl
@[simp] theorem Device.emit_mon (d : Device) (o : Output) : (d.emit o).mon = d.mon := rfl
@[simp] theorem Device.emit_trough (d : Device) (o : Output) : (d.emit o).trough = d.trough := rfl
@[simp] theorem Device.emit_slices (d : Device) (o : Output) : (d.emit o).slices = d.slices := rfl
@[simp] theorem Device.emit_cls (d : Device) (o : Output) : (d.emit o).cls = d.cls := rfl
@[simp] theorem Device.emit_peel (d : Device) (o : Output) : (d.emit o).peel = d.peel := rfl
@[simp] theorem Device.emit_nts (d : Device) (o : Output) : (d.emit o).nts = d.nts := rfl
@[simp] theorem Device.emit_refs (d : Device) (o : Output) : (d.emit o).refs = d.refs := rfl
@[simp] theorem Device.emit_tb (d : Device) (o : Output) : (d.emit o).tb = d.tb := rfl
@[simp] theorem Device.emit_outs (d : Device) (o : Output) : (d.emit o).outs = d.outs := rfl
@[simp] theorem Device.emit_ptp (d : Device) (o : Output) : (d.emit o).ptp = d.ptp := rfl
@[simp] theorem Device.emit_gnss (d : Device) (o : Output) : (d.emit o).gnss = d.gnss := rfl
@[simp] theorem Device.emit_tic (d : Device) (o : Output) : (d.emit o).tic = d.tic := rfl
@[simp] theorem Device.emit_trust (d : Device) (o : Output) : (d.emit o).trust = d.trust := rfl
@[simp] theorem Device.emit_pke (d : Device) (o : Output) : (d.emit o).pke = d.pke := rfl
@[simp] theorem Device.emit_ports (d : Device) (o : Output) : (d.emit o).ports = d.ports := rfl
@[simp] theorem Device.emit_pair (d : Device) (o : Output) : (d.emit o).pair = d.pair := rfl
@[simp] theorem Device.emit_life (d : Device) (o : Output) : (d.emit o).life = d.life := rfl
@[simp] theorem Device.emit_draws (d : Device) (o : Output) : (d.emit o).draws = d.draws := rfl

@[simp] theorem Device.pulse_regs (d : Device) (x : Nat) : (d.pulse x).regs = d.regs := by unfold Device.pulse; split <;> rfl
@[simp] theorem Device.pulse_cnts (d : Device) (x : Nat) : (d.pulse x).cnts = d.cnts := by unfold Device.pulse; split <;> rfl
@[simp] theorem Device.pulse_stats (d : Device) (x : Nat) : (d.pulse x).stats = d.stats := by unfold Device.pulse; split <;> rfl
@[simp] theorem Device.pulse_stopping (d : Device) (x : Nat) : (d.pulse x).stopping = d.stopping := by unfold Device.pulse; split <;> rfl
@[simp] theorem Device.pulse_tm (d : Device) (x : Nat) : (d.pulse x).tm = d.tm := by unfold Device.pulse; split <;> rfl
@[simp] theorem Device.pulse_sched (d : Device) (x : Nat) : (d.pulse x).sched = d.sched := by unfold Device.pulse; split <;> rfl
@[simp] theorem Device.pulse_axis0 (d : Device) (x : Nat) : (d.pulse x).axis0 = d.axis0 := by unfold Device.pulse; split <;> rfl
@[simp] theorem Device.pulse_axis1 (d : Device) (x : Nat) : (d.pulse x).axis1 = d.axis1 := by unfold Device.pulse; split <;> rfl
@[simp] theorem Device.pulse_rings (d : Device) (x : Nat) : (d.pulse x).rings = d.rings := by unfold Device.pulse; split <;> rfl
@[simp] theorem Device.pulse_pcie (d : Device) (x : Nat) : (d.pulse x).pcie = d.pcie := by unfold Device.pulse; split <;> rfl
@[simp] theorem Device.pulse_mon (d : Device) (x : Nat) : (d.pulse x).mon = d.mon := by unfold Device.pulse; split <;> rfl
@[simp] theorem Device.pulse_trough (d : Device) (x : Nat) : (d.pulse x).trough = d.trough := by unfold Device.pulse; split <;> rfl
@[simp] theorem Device.pulse_slices (d : Device) (x : Nat) : (d.pulse x).slices = d.slices := by unfold Device.pulse; split <;> rfl
@[simp] theorem Device.pulse_cls (d : Device) (x : Nat) : (d.pulse x).cls = d.cls := by unfold Device.pulse; split <;> rfl
@[simp] theorem Device.pulse_peel (d : Device) (x : Nat) : (d.pulse x).peel = d.peel := by unfold Device.pulse; split <;> rfl
@[simp] theorem Device.pulse_nts (d : Device) (x : Nat) : (d.pulse x).nts = d.nts := by unfold Device.pulse; split <;> rfl
@[simp] theorem Device.pulse_refs (d : Device) (x : Nat) : (d.pulse x).refs = d.refs := by unfold Device.pulse; split <;> rfl
@[simp] theorem Device.pulse_tb (d : Device) (x : Nat) : (d.pulse x).tb = d.tb := by unfold Device.pulse; split <;> rfl
@[simp] theorem Device.pulse_outs (d : Device) (x : Nat) : (d.pulse x).outs = d.outs := by unfold Device.pulse; split <;> rfl
@[simp] theorem Device.pulse_ptp (d : Device) (x : Nat) : (d.pulse x).ptp = d.ptp := by unfold Device.pulse; split <;> rfl
@[simp] theorem Device.pulse_gnss (d : Device) (x : Nat) : (d.pulse x).gnss = d.gnss := by unfold Device.pulse; split <;> rfl
@[simp] theorem Device.pulse_tic (d : Device) (x : Nat) : (d.pulse x).tic = d.tic := by unfold Device.pulse; split <;> rfl
@[simp] theorem Device.pulse_trust (d : Device) (x : Nat) : (d.pulse x).trust = d.trust := by unfold Device.pulse; split <;> rfl
@[simp] theorem Device.pulse_pke (d : Device) (x : Nat) : (d.pulse x).pke = d.pke := by unfold Device.pulse; split <;> rfl
@[simp] theorem Device.pulse_ports (d : Device) (x : Nat) : (d.pulse x).ports = d.ports := by unfold Device.pulse; split <;> rfl
@[simp] theorem Device.pulse_pair (d : Device) (x : Nat) : (d.pulse x).pair = d.pair := by unfold Device.pulse; split <;> rfl
@[simp] theorem Device.pulse_life (d : Device) (x : Nat) : (d.pulse x).life = d.life := by unfold Device.pulse; split <;> rfl
@[simp] theorem Device.pulse_draws (d : Device) (x : Nat) : (d.pulse x).draws = d.draws := by unfold Device.pulse; split <;> rfl
@[simp] theorem Device.pulse_out (d : Device) (x : Nat) : (d.pulse x).out = d.out := by unfold Device.pulse; split <;> rfl

@[simp] theorem Device.ledger_regs (d : Device) (c x a b : Nat) : (d.ledger c x a b).regs = d.regs := by unfold Device.ledger; split <;> rfl
@[simp] theorem Device.ledger_stats (d : Device) (c x a b : Nat) : (d.ledger c x a b).stats = d.stats := by unfold Device.ledger; split <;> rfl
@[simp] theorem Device.ledger_stopping (d : Device) (c x a b : Nat) : (d.ledger c x a b).stopping = d.stopping := by unfold Device.ledger; split <;> rfl
@[simp] theorem Device.ledger_tm (d : Device) (c x a b : Nat) : (d.ledger c x a b).tm = d.tm := by unfold Device.ledger; split <;> rfl
@[simp] theorem Device.ledger_sched (d : Device) (c x a b : Nat) : (d.ledger c x a b).sched = d.sched := by unfold Device.ledger; split <;> rfl
@[simp] theorem Device.ledger_axis0 (d : Device) (c x a b : Nat) : (d.ledger c x a b).axis0 = d.axis0 := by unfold Device.ledger; split <;> rfl
@[simp] theorem Device.ledger_axis1 (d : Device) (c x a b : Nat) : (d.ledger c x a b).axis1 = d.axis1 := by unfold Device.ledger; split <;> rfl
@[simp] theorem Device.ledger_intc (d : Device) (c x a b : Nat) : (d.ledger c x a b).intc = d.intc := by unfold Device.ledger; split <;> rfl
@[simp] theorem Device.ledger_rings (d : Device) (c x a b : Nat) : (d.ledger c x a b).rings = d.rings := by unfold Device.ledger; split <;> rfl
@[simp] theorem Device.ledger_pcie (d : Device) (c x a b : Nat) : (d.ledger c x a b).pcie = d.pcie := by unfold Device.ledger; split <;> rfl
@[simp] theorem Device.ledger_trough (d : Device) (c x a b : Nat) : (d.ledger c x a b).trough = d.trough := by unfold Device.ledger; split <;> rfl
@[simp] theorem Device.ledger_slices (d : Device) (c x a b : Nat) : (d.ledger c x a b).slices = d.slices := by unfold Device.ledger; split <;> rfl
@[simp] theorem Device.ledger_cls (d : Device) (c x a b : Nat) : (d.ledger c x a b).cls = d.cls := by unfold Device.ledger; split <;> rfl
@[simp] theorem Device.ledger_peel (d : Device) (c x a b : Nat) : (d.ledger c x a b).peel = d.peel := by unfold Device.ledger; split <;> rfl
@[simp] theorem Device.ledger_nts (d : Device) (c x a b : Nat) : (d.ledger c x a b).nts = d.nts := by unfold Device.ledger; split <;> rfl
@[simp] theorem Device.ledger_refs (d : Device) (c x a b : Nat) : (d.ledger c x a b).refs = d.refs := by unfold Device.ledger; split <;> rfl
@[simp] theorem Device.ledger_tb (d : Device) (c x a b : Nat) : (d.ledger c x a b).tb = d.tb := by unfold Device.ledger; split <;> rfl
@[simp] theorem Device.ledger_outs (d : Device) (c x a b : Nat) : (d.ledger c x a b).outs = d.outs := by unfold Device.ledger; split <;> rfl
@[simp] theorem Device.ledger_ptp (d : Device) (c x a b : Nat) : (d.ledger c x a b).ptp = d.ptp := by unfold Device.ledger; split <;> rfl
@[simp] theorem Device.ledger_gnss (d : Device) (c x a b : Nat) : (d.ledger c x a b).gnss = d.gnss := by unfold Device.ledger; split <;> rfl
@[simp] theorem Device.ledger_tic (d : Device) (c x a b : Nat) : (d.ledger c x a b).tic = d.tic := by unfold Device.ledger; split <;> rfl
@[simp] theorem Device.ledger_trust (d : Device) (c x a b : Nat) : (d.ledger c x a b).trust = d.trust := by unfold Device.ledger; split <;> rfl
@[simp] theorem Device.ledger_pke (d : Device) (c x a b : Nat) : (d.ledger c x a b).pke = d.pke := by unfold Device.ledger; split <;> rfl
@[simp] theorem Device.ledger_ports (d : Device) (c x a b : Nat) : (d.ledger c x a b).ports = d.ports := by unfold Device.ledger; split <;> rfl
@[simp] theorem Device.ledger_pair (d : Device) (c x a b : Nat) : (d.ledger c x a b).pair = d.pair := by unfold Device.ledger; split <;> rfl
@[simp] theorem Device.ledger_life (d : Device) (c x a b : Nat) : (d.ledger c x a b).life = d.life := by unfold Device.ledger; split <;> rfl
@[simp] theorem Device.ledger_draws (d : Device) (c x a b : Nat) : (d.ledger c x a b).draws = d.draws := by unfold Device.ledger; split <;> rfl
@[simp] theorem Device.ledger_out (d : Device) (c x a b : Nat) : (d.ledger c x a b).out = d.out := by unfold Device.ledger; split <;> rfl

@[simp] theorem Device.setAxis_regs (d : Device) (n : Nat) (a : Axis) : (d.setAxis n a).regs = d.regs := by unfold Device.setAxis; split <;> rfl
@[simp] theorem Device.setAxis_cnts (d : Device) (n : Nat) (a : Axis) : (d.setAxis n a).cnts = d.cnts := by unfold Device.setAxis; split <;> rfl
@[simp] theorem Device.setAxis_stats (d : Device) (n : Nat) (a : Axis) : (d.setAxis n a).stats = d.stats := by unfold Device.setAxis; split <;> rfl
@[simp] theorem Device.setAxis_stopping (d : Device) (n : Nat) (a : Axis) : (d.setAxis n a).stopping = d.stopping := by unfold Device.setAxis; split <;> rfl
@[simp] theorem Device.setAxis_tm (d : Device) (n : Nat) (a : Axis) : (d.setAxis n a).tm = d.tm := by unfold Device.setAxis; split <;> rfl
@[simp] theorem Device.setAxis_sched (d : Device) (n : Nat) (a : Axis) : (d.setAxis n a).sched = d.sched := by unfold Device.setAxis; split <;> rfl
@[simp] theorem Device.setAxis_intc (d : Device) (n : Nat) (a : Axis) : (d.setAxis n a).intc = d.intc := by unfold Device.setAxis; split <;> rfl
@[simp] theorem Device.setAxis_rings (d : Device) (n : Nat) (a : Axis) : (d.setAxis n a).rings = d.rings := by unfold Device.setAxis; split <;> rfl
@[simp] theorem Device.setAxis_pcie (d : Device) (n : Nat) (a : Axis) : (d.setAxis n a).pcie = d.pcie := by unfold Device.setAxis; split <;> rfl
@[simp] theorem Device.setAxis_mon (d : Device) (n : Nat) (a : Axis) : (d.setAxis n a).mon = d.mon := by unfold Device.setAxis; split <;> rfl
@[simp] theorem Device.setAxis_trough (d : Device) (n : Nat) (a : Axis) : (d.setAxis n a).trough = d.trough := by unfold Device.setAxis; split <;> rfl
@[simp] theorem Device.setAxis_slices (d : Device) (n : Nat) (a : Axis) : (d.setAxis n a).slices = d.slices := by unfold Device.setAxis; split <;> rfl
@[simp] theorem Device.setAxis_cls (d : Device) (n : Nat) (a : Axis) : (d.setAxis n a).cls = d.cls := by unfold Device.setAxis; split <;> rfl
@[simp] theorem Device.setAxis_peel (d : Device) (n : Nat) (a : Axis) : (d.setAxis n a).peel = d.peel := by unfold Device.setAxis; split <;> rfl
@[simp] theorem Device.setAxis_nts (d : Device) (n : Nat) (a : Axis) : (d.setAxis n a).nts = d.nts := by unfold Device.setAxis; split <;> rfl
@[simp] theorem Device.setAxis_refs (d : Device) (n : Nat) (a : Axis) : (d.setAxis n a).refs = d.refs := by unfold Device.setAxis; split <;> rfl
@[simp] theorem Device.setAxis_tb (d : Device) (n : Nat) (a : Axis) : (d.setAxis n a).tb = d.tb := by unfold Device.setAxis; split <;> rfl
@[simp] theorem Device.setAxis_outs (d : Device) (n : Nat) (a : Axis) : (d.setAxis n a).outs = d.outs := by unfold Device.setAxis; split <;> rfl
@[simp] theorem Device.setAxis_ptp (d : Device) (n : Nat) (a : Axis) : (d.setAxis n a).ptp = d.ptp := by unfold Device.setAxis; split <;> rfl
@[simp] theorem Device.setAxis_gnss (d : Device) (n : Nat) (a : Axis) : (d.setAxis n a).gnss = d.gnss := by unfold Device.setAxis; split <;> rfl
@[simp] theorem Device.setAxis_tic (d : Device) (n : Nat) (a : Axis) : (d.setAxis n a).tic = d.tic := by unfold Device.setAxis; split <;> rfl
@[simp] theorem Device.setAxis_trust (d : Device) (n : Nat) (a : Axis) : (d.setAxis n a).trust = d.trust := by unfold Device.setAxis; split <;> rfl
@[simp] theorem Device.setAxis_pke (d : Device) (n : Nat) (a : Axis) : (d.setAxis n a).pke = d.pke := by unfold Device.setAxis; split <;> rfl
@[simp] theorem Device.setAxis_ports (d : Device) (n : Nat) (a : Axis) : (d.setAxis n a).ports = d.ports := by unfold Device.setAxis; split <;> rfl
@[simp] theorem Device.setAxis_pair (d : Device) (n : Nat) (a : Axis) : (d.setAxis n a).pair = d.pair := by unfold Device.setAxis; split <;> rfl
@[simp] theorem Device.setAxis_life (d : Device) (n : Nat) (a : Axis) : (d.setAxis n a).life = d.life := by unfold Device.setAxis; split <;> rfl
@[simp] theorem Device.setAxis_draws (d : Device) (n : Nat) (a : Axis) : (d.setAxis n a).draws = d.draws := by unfold Device.setAxis; split <;> rfl
@[simp] theorem Device.setAxis_out (d : Device) (n : Nat) (a : Axis) : (d.setAxis n a).out = d.out := by unfold Device.setAxis; split <;> rfl

@[simp] theorem Device.setHist_regs (d : Device) (n : Nat) (x : Hist) : (d.setHist n x).regs = d.regs := rfl
@[simp] theorem Device.setHist_cnts (d : Device) (n : Nat) (x : Hist) : (d.setHist n x).cnts = d.cnts := rfl
@[simp] theorem Device.setHist_stats (d : Device) (n : Nat) (x : Hist) : (d.setHist n x).stats = d.stats := rfl
@[simp] theorem Device.setHist_stopping (d : Device) (n : Nat) (x : Hist) : (d.setHist n x).stopping = d.stopping := rfl
@[simp] theorem Device.setHist_tm (d : Device) (n : Nat) (x : Hist) : (d.setHist n x).tm = d.tm := rfl
@[simp] theorem Device.setHist_sched (d : Device) (n : Nat) (x : Hist) : (d.setHist n x).sched = d.sched := rfl
@[simp] theorem Device.setHist_axis0 (d : Device) (n : Nat) (x : Hist) : (d.setHist n x).axis0 = d.axis0 := rfl
@[simp] theorem Device.setHist_axis1 (d : Device) (n : Nat) (x : Hist) : (d.setHist n x).axis1 = d.axis1 := rfl
@[simp] theorem Device.setHist_intc (d : Device) (n : Nat) (x : Hist) : (d.setHist n x).intc = d.intc := rfl
@[simp] theorem Device.setHist_rings (d : Device) (n : Nat) (x : Hist) : (d.setHist n x).rings = d.rings := rfl
@[simp] theorem Device.setHist_pcie (d : Device) (n : Nat) (x : Hist) : (d.setHist n x).pcie = d.pcie := rfl
@[simp] theorem Device.setHist_trough (d : Device) (n : Nat) (x : Hist) : (d.setHist n x).trough = d.trough := rfl
@[simp] theorem Device.setHist_slices (d : Device) (n : Nat) (x : Hist) : (d.setHist n x).slices = d.slices := rfl
@[simp] theorem Device.setHist_cls (d : Device) (n : Nat) (x : Hist) : (d.setHist n x).cls = d.cls := rfl
@[simp] theorem Device.setHist_peel (d : Device) (n : Nat) (x : Hist) : (d.setHist n x).peel = d.peel := rfl
@[simp] theorem Device.setHist_nts (d : Device) (n : Nat) (x : Hist) : (d.setHist n x).nts = d.nts := rfl
@[simp] theorem Device.setHist_refs (d : Device) (n : Nat) (x : Hist) : (d.setHist n x).refs = d.refs := rfl
@[simp] theorem Device.setHist_tb (d : Device) (n : Nat) (x : Hist) : (d.setHist n x).tb = d.tb := rfl
@[simp] theorem Device.setHist_outs (d : Device) (n : Nat) (x : Hist) : (d.setHist n x).outs = d.outs := rfl
@[simp] theorem Device.setHist_ptp (d : Device) (n : Nat) (x : Hist) : (d.setHist n x).ptp = d.ptp := rfl
@[simp] theorem Device.setHist_gnss (d : Device) (n : Nat) (x : Hist) : (d.setHist n x).gnss = d.gnss := rfl
@[simp] theorem Device.setHist_tic (d : Device) (n : Nat) (x : Hist) : (d.setHist n x).tic = d.tic := rfl
@[simp] theorem Device.setHist_trust (d : Device) (n : Nat) (x : Hist) : (d.setHist n x).trust = d.trust := rfl
@[simp] theorem Device.setHist_pke (d : Device) (n : Nat) (x : Hist) : (d.setHist n x).pke = d.pke := rfl
@[simp] theorem Device.setHist_ports (d : Device) (n : Nat) (x : Hist) : (d.setHist n x).ports = d.ports := rfl
@[simp] theorem Device.setHist_pair (d : Device) (n : Nat) (x : Hist) : (d.setHist n x).pair = d.pair := rfl
@[simp] theorem Device.setHist_life (d : Device) (n : Nat) (x : Hist) : (d.setHist n x).life = d.life := rfl
@[simp] theorem Device.setHist_draws (d : Device) (n : Nat) (x : Hist) : (d.setHist n x).draws = d.draws := rfl
@[simp] theorem Device.setHist_out (d : Device) (n : Nat) (x : Hist) : (d.setHist n x).out = d.out := rfl

@[simp] theorem Device.setMon_regs (d : Device) (m : Mon) : (d.setMon m).regs = d.regs := rfl
@[simp] theorem Device.setMon_cnts (d : Device) (m : Mon) : (d.setMon m).cnts = d.cnts := rfl
@[simp] theorem Device.setMon_stats (d : Device) (m : Mon) : (d.setMon m).stats = d.stats := rfl
@[simp] theorem Device.setMon_stopping (d : Device) (m : Mon) : (d.setMon m).stopping = d.stopping := rfl
@[simp] theorem Device.setMon_tm (d : Device) (m : Mon) : (d.setMon m).tm = d.tm := rfl
@[simp] theorem Device.setMon_sched (d : Device) (m : Mon) : (d.setMon m).sched = d.sched := rfl
@[simp] theorem Device.setMon_axis0 (d : Device) (m : Mon) : (d.setMon m).axis0 = d.axis0 := rfl
@[simp] theorem Device.setMon_axis1 (d : Device) (m : Mon) : (d.setMon m).axis1 = d.axis1 := rfl
@[simp] theorem Device.setMon_intc (d : Device) (m : Mon) : (d.setMon m).intc = d.intc := rfl
@[simp] theorem Device.setMon_rings (d : Device) (m : Mon) : (d.setMon m).rings = d.rings := rfl
@[simp] theorem Device.setMon_pcie (d : Device) (m : Mon) : (d.setMon m).pcie = d.pcie := rfl
@[simp] theorem Device.setMon_trough (d : Device) (m : Mon) : (d.setMon m).trough = d.trough := rfl
@[simp] theorem Device.setMon_slices (d : Device) (m : Mon) : (d.setMon m).slices = d.slices := rfl
@[simp] theorem Device.setMon_cls (d : Device) (m : Mon) : (d.setMon m).cls = d.cls := rfl
@[simp] theorem Device.setMon_peel (d : Device) (m : Mon) : (d.setMon m).peel = d.peel := rfl
@[simp] theorem Device.setMon_nts (d : Device) (m : Mon) : (d.setMon m).nts = d.nts := rfl
@[simp] theorem Device.setMon_refs (d : Device) (m : Mon) : (d.setMon m).refs = d.refs := rfl
@[simp] theorem Device.setMon_tb (d : Device) (m : Mon) : (d.setMon m).tb = d.tb := rfl
@[simp] theorem Device.setMon_outs (d : Device) (m : Mon) : (d.setMon m).outs = d.outs := rfl
@[simp] theorem Device.setMon_ptp (d : Device) (m : Mon) : (d.setMon m).ptp = d.ptp := rfl
@[simp] theorem Device.setMon_gnss (d : Device) (m : Mon) : (d.setMon m).gnss = d.gnss := rfl
@[simp] theorem Device.setMon_tic (d : Device) (m : Mon) : (d.setMon m).tic = d.tic := rfl
@[simp] theorem Device.setMon_trust (d : Device) (m : Mon) : (d.setMon m).trust = d.trust := rfl
@[simp] theorem Device.setMon_pke (d : Device) (m : Mon) : (d.setMon m).pke = d.pke := rfl
@[simp] theorem Device.setMon_ports (d : Device) (m : Mon) : (d.setMon m).ports = d.ports := rfl
@[simp] theorem Device.setMon_pair (d : Device) (m : Mon) : (d.setMon m).pair = d.pair := rfl
@[simp] theorem Device.setMon_life (d : Device) (m : Mon) : (d.setMon m).life = d.life := rfl
@[simp] theorem Device.setMon_draws (d : Device) (m : Mon) : (d.setMon m).draws = d.draws := rfl
@[simp] theorem Device.setMon_out (d : Device) (m : Mon) : (d.setMon m).out = d.out := rfl

@[simp] theorem Device.setOut_regs (d : Device) (n : Nat) (x : Out) : (d.setOut n x).regs = d.regs := rfl
@[simp] theorem Device.setOut_cnts (d : Device) (n : Nat) (x : Out) : (d.setOut n x).cnts = d.cnts := rfl
@[simp] theorem Device.setOut_stats (d : Device) (n : Nat) (x : Out) : (d.setOut n x).stats = d.stats := rfl
@[simp] theorem Device.setOut_stopping (d : Device) (n : Nat) (x : Out) : (d.setOut n x).stopping = d.stopping := rfl
@[simp] theorem Device.setOut_tm (d : Device) (n : Nat) (x : Out) : (d.setOut n x).tm = d.tm := rfl
@[simp] theorem Device.setOut_sched (d : Device) (n : Nat) (x : Out) : (d.setOut n x).sched = d.sched := rfl
@[simp] theorem Device.setOut_axis0 (d : Device) (n : Nat) (x : Out) : (d.setOut n x).axis0 = d.axis0 := rfl
@[simp] theorem Device.setOut_axis1 (d : Device) (n : Nat) (x : Out) : (d.setOut n x).axis1 = d.axis1 := rfl
@[simp] theorem Device.setOut_intc (d : Device) (n : Nat) (x : Out) : (d.setOut n x).intc = d.intc := rfl
@[simp] theorem Device.setOut_rings (d : Device) (n : Nat) (x : Out) : (d.setOut n x).rings = d.rings := rfl
@[simp] theorem Device.setOut_pcie (d : Device) (n : Nat) (x : Out) : (d.setOut n x).pcie = d.pcie := rfl
@[simp] theorem Device.setOut_mon (d : Device) (n : Nat) (x : Out) : (d.setOut n x).mon = d.mon := rfl
@[simp] theorem Device.setOut_trough (d : Device) (n : Nat) (x : Out) : (d.setOut n x).trough = d.trough := rfl
@[simp] theorem Device.setOut_slices (d : Device) (n : Nat) (x : Out) : (d.setOut n x).slices = d.slices := rfl
@[simp] theorem Device.setOut_cls (d : Device) (n : Nat) (x : Out) : (d.setOut n x).cls = d.cls := rfl
@[simp] theorem Device.setOut_peel (d : Device) (n : Nat) (x : Out) : (d.setOut n x).peel = d.peel := rfl
@[simp] theorem Device.setOut_nts (d : Device) (n : Nat) (x : Out) : (d.setOut n x).nts = d.nts := rfl
@[simp] theorem Device.setOut_refs (d : Device) (n : Nat) (x : Out) : (d.setOut n x).refs = d.refs := rfl
@[simp] theorem Device.setOut_tb (d : Device) (n : Nat) (x : Out) : (d.setOut n x).tb = d.tb := rfl
@[simp] theorem Device.setOut_ptp (d : Device) (n : Nat) (x : Out) : (d.setOut n x).ptp = d.ptp := rfl
@[simp] theorem Device.setOut_gnss (d : Device) (n : Nat) (x : Out) : (d.setOut n x).gnss = d.gnss := rfl
@[simp] theorem Device.setOut_tic (d : Device) (n : Nat) (x : Out) : (d.setOut n x).tic = d.tic := rfl
@[simp] theorem Device.setOut_trust (d : Device) (n : Nat) (x : Out) : (d.setOut n x).trust = d.trust := rfl
@[simp] theorem Device.setOut_pke (d : Device) (n : Nat) (x : Out) : (d.setOut n x).pke = d.pke := rfl
@[simp] theorem Device.setOut_ports (d : Device) (n : Nat) (x : Out) : (d.setOut n x).ports = d.ports := rfl
@[simp] theorem Device.setOut_pair (d : Device) (n : Nat) (x : Out) : (d.setOut n x).pair = d.pair := rfl
@[simp] theorem Device.setOut_life (d : Device) (n : Nat) (x : Out) : (d.setOut n x).life = d.life := rfl
@[simp] theorem Device.setOut_draws (d : Device) (n : Nat) (x : Out) : (d.setOut n x).draws = d.draws := rfl
@[simp] theorem Device.setOut_out (d : Device) (n : Nat) (x : Out) : (d.setOut n x).out = d.out := rfl

@[simp] theorem Device.setLife_regs (d : Device) (x : Life) : (d.setLife x).regs = d.regs := rfl
@[simp] theorem Device.setLife_cnts (d : Device) (x : Life) : (d.setLife x).cnts = d.cnts := rfl
@[simp] theorem Device.setLife_stats (d : Device) (x : Life) : (d.setLife x).stats = d.stats := rfl
@[simp] theorem Device.setLife_stopping (d : Device) (x : Life) : (d.setLife x).stopping = d.stopping := rfl
@[simp] theorem Device.setLife_tm (d : Device) (x : Life) : (d.setLife x).tm = d.tm := rfl
@[simp] theorem Device.setLife_sched (d : Device) (x : Life) : (d.setLife x).sched = d.sched := rfl
@[simp] theorem Device.setLife_axis0 (d : Device) (x : Life) : (d.setLife x).axis0 = d.axis0 := rfl
@[simp] theorem Device.setLife_axis1 (d : Device) (x : Life) : (d.setLife x).axis1 = d.axis1 := rfl
@[simp] theorem Device.setLife_intc (d : Device) (x : Life) : (d.setLife x).intc = d.intc := rfl
@[simp] theorem Device.setLife_rings (d : Device) (x : Life) : (d.setLife x).rings = d.rings := rfl
@[simp] theorem Device.setLife_pcie (d : Device) (x : Life) : (d.setLife x).pcie = d.pcie := rfl
@[simp] theorem Device.setLife_mon (d : Device) (x : Life) : (d.setLife x).mon = d.mon := rfl
@[simp] theorem Device.setLife_trough (d : Device) (x : Life) : (d.setLife x).trough = d.trough := rfl
@[simp] theorem Device.setLife_slices (d : Device) (x : Life) : (d.setLife x).slices = d.slices := rfl
@[simp] theorem Device.setLife_cls (d : Device) (x : Life) : (d.setLife x).cls = d.cls := rfl
@[simp] theorem Device.setLife_peel (d : Device) (x : Life) : (d.setLife x).peel = d.peel := rfl
@[simp] theorem Device.setLife_nts (d : Device) (x : Life) : (d.setLife x).nts = d.nts := rfl
@[simp] theorem Device.setLife_refs (d : Device) (x : Life) : (d.setLife x).refs = d.refs := rfl
@[simp] theorem Device.setLife_tb (d : Device) (x : Life) : (d.setLife x).tb = d.tb := rfl
@[simp] theorem Device.setLife_outs (d : Device) (x : Life) : (d.setLife x).outs = d.outs := rfl
@[simp] theorem Device.setLife_ptp (d : Device) (x : Life) : (d.setLife x).ptp = d.ptp := rfl
@[simp] theorem Device.setLife_gnss (d : Device) (x : Life) : (d.setLife x).gnss = d.gnss := rfl
@[simp] theorem Device.setLife_tic (d : Device) (x : Life) : (d.setLife x).tic = d.tic := rfl
@[simp] theorem Device.setLife_trust (d : Device) (x : Life) : (d.setLife x).trust = d.trust := rfl
@[simp] theorem Device.setLife_pke (d : Device) (x : Life) : (d.setLife x).pke = d.pke := rfl
@[simp] theorem Device.setLife_ports (d : Device) (x : Life) : (d.setLife x).ports = d.ports := rfl
@[simp] theorem Device.setLife_pair (d : Device) (x : Life) : (d.setLife x).pair = d.pair := rfl
@[simp] theorem Device.setLife_draws (d : Device) (x : Life) : (d.setLife x).draws = d.draws := rfl
@[simp] theorem Device.setLife_out (d : Device) (x : Life) : (d.setLife x).out = d.out := rfl

@[simp] theorem Device.setSlot_regs (d : Device) (n : Nat) (x : RefSlot) : (d.setSlot n x).regs = d.regs := rfl
@[simp] theorem Device.setSlot_cnts (d : Device) (n : Nat) (x : RefSlot) : (d.setSlot n x).cnts = d.cnts := rfl
@[simp] theorem Device.setSlot_stats (d : Device) (n : Nat) (x : RefSlot) : (d.setSlot n x).stats = d.stats := rfl
@[simp] theorem Device.setSlot_stopping (d : Device) (n : Nat) (x : RefSlot) : (d.setSlot n x).stopping = d.stopping := rfl
@[simp] theorem Device.setSlot_tm (d : Device) (n : Nat) (x : RefSlot) : (d.setSlot n x).tm = d.tm := rfl
@[simp] theorem Device.setSlot_sched (d : Device) (n : Nat) (x : RefSlot) : (d.setSlot n x).sched = d.sched := rfl
@[simp] theorem Device.setSlot_axis0 (d : Device) (n : Nat) (x : RefSlot) : (d.setSlot n x).axis0 = d.axis0 := rfl
@[simp] theorem Device.setSlot_axis1 (d : Device) (n : Nat) (x : RefSlot) : (d.setSlot n x).axis1 = d.axis1 := rfl
@[simp] theorem Device.setSlot_intc (d : Device) (n : Nat) (x : RefSlot) : (d.setSlot n x).intc = d.intc := rfl
@[simp] theorem Device.setSlot_rings (d : Device) (n : Nat) (x : RefSlot) : (d.setSlot n x).rings = d.rings := rfl
@[simp] theorem Device.setSlot_pcie (d : Device) (n : Nat) (x : RefSlot) : (d.setSlot n x).pcie = d.pcie := rfl
@[simp] theorem Device.setSlot_mon (d : Device) (n : Nat) (x : RefSlot) : (d.setSlot n x).mon = d.mon := rfl
@[simp] theorem Device.setSlot_trough (d : Device) (n : Nat) (x : RefSlot) : (d.setSlot n x).trough = d.trough := rfl
@[simp] theorem Device.setSlot_slices (d : Device) (n : Nat) (x : RefSlot) : (d.setSlot n x).slices = d.slices := rfl
@[simp] theorem Device.setSlot_cls (d : Device) (n : Nat) (x : RefSlot) : (d.setSlot n x).cls = d.cls := rfl
@[simp] theorem Device.setSlot_peel (d : Device) (n : Nat) (x : RefSlot) : (d.setSlot n x).peel = d.peel := rfl
@[simp] theorem Device.setSlot_nts (d : Device) (n : Nat) (x : RefSlot) : (d.setSlot n x).nts = d.nts := rfl
@[simp] theorem Device.setSlot_tb (d : Device) (n : Nat) (x : RefSlot) : (d.setSlot n x).tb = d.tb := rfl
@[simp] theorem Device.setSlot_outs (d : Device) (n : Nat) (x : RefSlot) : (d.setSlot n x).outs = d.outs := rfl
@[simp] theorem Device.setSlot_ptp (d : Device) (n : Nat) (x : RefSlot) : (d.setSlot n x).ptp = d.ptp := rfl
@[simp] theorem Device.setSlot_gnss (d : Device) (n : Nat) (x : RefSlot) : (d.setSlot n x).gnss = d.gnss := rfl
@[simp] theorem Device.setSlot_tic (d : Device) (n : Nat) (x : RefSlot) : (d.setSlot n x).tic = d.tic := rfl
@[simp] theorem Device.setSlot_trust (d : Device) (n : Nat) (x : RefSlot) : (d.setSlot n x).trust = d.trust := rfl
@[simp] theorem Device.setSlot_pke (d : Device) (n : Nat) (x : RefSlot) : (d.setSlot n x).pke = d.pke := rfl
@[simp] theorem Device.setSlot_ports (d : Device) (n : Nat) (x : RefSlot) : (d.setSlot n x).ports = d.ports := rfl
@[simp] theorem Device.setSlot_pair (d : Device) (n : Nat) (x : RefSlot) : (d.setSlot n x).pair = d.pair := rfl
@[simp] theorem Device.setSlot_life (d : Device) (n : Nat) (x : RefSlot) : (d.setSlot n x).life = d.life := rfl
@[simp] theorem Device.setSlot_draws (d : Device) (n : Nat) (x : RefSlot) : (d.setSlot n x).draws = d.draws := rfl
@[simp] theorem Device.setSlot_out (d : Device) (n : Nat) (x : RefSlot) : (d.setSlot n x).out = d.out := rfl

@[simp] theorem Device.setSlc_regs (d : Device) (n : Nat) (x : Slice) : (d.setSlc n x).regs = d.regs := rfl
@[simp] theorem Device.setSlc_cnts (d : Device) (n : Nat) (x : Slice) : (d.setSlc n x).cnts = d.cnts := rfl
@[simp] theorem Device.setSlc_stats (d : Device) (n : Nat) (x : Slice) : (d.setSlc n x).stats = d.stats := rfl
@[simp] theorem Device.setSlc_stopping (d : Device) (n : Nat) (x : Slice) : (d.setSlc n x).stopping = d.stopping := rfl
@[simp] theorem Device.setSlc_tm (d : Device) (n : Nat) (x : Slice) : (d.setSlc n x).tm = d.tm := rfl
@[simp] theorem Device.setSlc_sched (d : Device) (n : Nat) (x : Slice) : (d.setSlc n x).sched = d.sched := rfl
@[simp] theorem Device.setSlc_axis0 (d : Device) (n : Nat) (x : Slice) : (d.setSlc n x).axis0 = d.axis0 := rfl
@[simp] theorem Device.setSlc_axis1 (d : Device) (n : Nat) (x : Slice) : (d.setSlc n x).axis1 = d.axis1 := rfl
@[simp] theorem Device.setSlc_intc (d : Device) (n : Nat) (x : Slice) : (d.setSlc n x).intc = d.intc := rfl
@[simp] theorem Device.setSlc_rings (d : Device) (n : Nat) (x : Slice) : (d.setSlc n x).rings = d.rings := rfl
@[simp] theorem Device.setSlc_pcie (d : Device) (n : Nat) (x : Slice) : (d.setSlc n x).pcie = d.pcie := rfl
@[simp] theorem Device.setSlc_mon (d : Device) (n : Nat) (x : Slice) : (d.setSlc n x).mon = d.mon := rfl
@[simp] theorem Device.setSlc_trough (d : Device) (n : Nat) (x : Slice) : (d.setSlc n x).trough = d.trough := rfl
@[simp] theorem Device.setSlc_cls (d : Device) (n : Nat) (x : Slice) : (d.setSlc n x).cls = d.cls := rfl
@[simp] theorem Device.setSlc_peel (d : Device) (n : Nat) (x : Slice) : (d.setSlc n x).peel = d.peel := rfl
@[simp] theorem Device.setSlc_nts (d : Device) (n : Nat) (x : Slice) : (d.setSlc n x).nts = d.nts := rfl
@[simp] theorem Device.setSlc_refs (d : Device) (n : Nat) (x : Slice) : (d.setSlc n x).refs = d.refs := rfl
@[simp] theorem Device.setSlc_tb (d : Device) (n : Nat) (x : Slice) : (d.setSlc n x).tb = d.tb := rfl
@[simp] theorem Device.setSlc_outs (d : Device) (n : Nat) (x : Slice) : (d.setSlc n x).outs = d.outs := rfl
@[simp] theorem Device.setSlc_ptp (d : Device) (n : Nat) (x : Slice) : (d.setSlc n x).ptp = d.ptp := rfl
@[simp] theorem Device.setSlc_gnss (d : Device) (n : Nat) (x : Slice) : (d.setSlc n x).gnss = d.gnss := rfl
@[simp] theorem Device.setSlc_tic (d : Device) (n : Nat) (x : Slice) : (d.setSlc n x).tic = d.tic := rfl
@[simp] theorem Device.setSlc_trust (d : Device) (n : Nat) (x : Slice) : (d.setSlc n x).trust = d.trust := rfl
@[simp] theorem Device.setSlc_pke (d : Device) (n : Nat) (x : Slice) : (d.setSlc n x).pke = d.pke := rfl
@[simp] theorem Device.setSlc_ports (d : Device) (n : Nat) (x : Slice) : (d.setSlc n x).ports = d.ports := rfl
@[simp] theorem Device.setSlc_pair (d : Device) (n : Nat) (x : Slice) : (d.setSlc n x).pair = d.pair := rfl
@[simp] theorem Device.setSlc_life (d : Device) (n : Nat) (x : Slice) : (d.setSlc n x).life = d.life := rfl
@[simp] theorem Device.setSlc_draws (d : Device) (n : Nat) (x : Slice) : (d.setSlc n x).draws = d.draws := rfl
@[simp] theorem Device.setSlc_out (d : Device) (n : Nat) (x : Slice) : (d.setSlc n x).out = d.out := rfl

@[simp] theorem Device.setStarter_regs (d : Device) (x : Starter) : (d.setStarter x).regs = d.regs := rfl
@[simp] theorem Device.setStarter_cnts (d : Device) (x : Starter) : (d.setStarter x).cnts = d.cnts := rfl
@[simp] theorem Device.setStarter_stats (d : Device) (x : Starter) : (d.setStarter x).stats = d.stats := rfl
@[simp] theorem Device.setStarter_stopping (d : Device) (x : Starter) : (d.setStarter x).stopping = d.stopping := rfl
@[simp] theorem Device.setStarter_tm (d : Device) (x : Starter) : (d.setStarter x).tm = d.tm := rfl
@[simp] theorem Device.setStarter_sched (d : Device) (x : Starter) : (d.setStarter x).sched = d.sched := rfl
@[simp] theorem Device.setStarter_axis0 (d : Device) (x : Starter) : (d.setStarter x).axis0 = d.axis0 := rfl
@[simp] theorem Device.setStarter_axis1 (d : Device) (x : Starter) : (d.setStarter x).axis1 = d.axis1 := rfl
@[simp] theorem Device.setStarter_intc (d : Device) (x : Starter) : (d.setStarter x).intc = d.intc := rfl
@[simp] theorem Device.setStarter_rings (d : Device) (x : Starter) : (d.setStarter x).rings = d.rings := rfl
@[simp] theorem Device.setStarter_pcie (d : Device) (x : Starter) : (d.setStarter x).pcie = d.pcie := rfl
@[simp] theorem Device.setStarter_mon (d : Device) (x : Starter) : (d.setStarter x).mon = d.mon := rfl
@[simp] theorem Device.setStarter_trough (d : Device) (x : Starter) : (d.setStarter x).trough = d.trough := rfl
@[simp] theorem Device.setStarter_slices (d : Device) (x : Starter) : (d.setStarter x).slices = d.slices := rfl
@[simp] theorem Device.setStarter_cls (d : Device) (x : Starter) : (d.setStarter x).cls = d.cls := rfl
@[simp] theorem Device.setStarter_peel (d : Device) (x : Starter) : (d.setStarter x).peel = d.peel := rfl
@[simp] theorem Device.setStarter_refs (d : Device) (x : Starter) : (d.setStarter x).refs = d.refs := rfl
@[simp] theorem Device.setStarter_tb (d : Device) (x : Starter) : (d.setStarter x).tb = d.tb := rfl
@[simp] theorem Device.setStarter_outs (d : Device) (x : Starter) : (d.setStarter x).outs = d.outs := rfl
@[simp] theorem Device.setStarter_ptp (d : Device) (x : Starter) : (d.setStarter x).ptp = d.ptp := rfl
@[simp] theorem Device.setStarter_gnss (d : Device) (x : Starter) : (d.setStarter x).gnss = d.gnss := rfl
@[simp] theorem Device.setStarter_tic (d : Device) (x : Starter) : (d.setStarter x).tic = d.tic := rfl
@[simp] theorem Device.setStarter_trust (d : Device) (x : Starter) : (d.setStarter x).trust = d.trust := rfl
@[simp] theorem Device.setStarter_pke (d : Device) (x : Starter) : (d.setStarter x).pke = d.pke := rfl
@[simp] theorem Device.setStarter_ports (d : Device) (x : Starter) : (d.setStarter x).ports = d.ports := rfl
@[simp] theorem Device.setStarter_pair (d : Device) (x : Starter) : (d.setStarter x).pair = d.pair := rfl
@[simp] theorem Device.setStarter_life (d : Device) (x : Starter) : (d.setStarter x).life = d.life := rfl
@[simp] theorem Device.setStarter_draws (d : Device) (x : Starter) : (d.setStarter x).draws = d.draws := rfl
@[simp] theorem Device.setStarter_out (d : Device) (x : Starter) : (d.setStarter x).out = d.out := rfl

@[simp] theorem Device.setTicCh_regs (d : Device) (n : Nat) (x : TicCh) : (d.setTicCh n x).regs = d.regs := rfl
@[simp] theorem Device.setTicCh_cnts (d : Device) (n : Nat) (x : TicCh) : (d.setTicCh n x).cnts = d.cnts := rfl
@[simp] theorem Device.setTicCh_stats (d : Device) (n : Nat) (x : TicCh) : (d.setTicCh n x).stats = d.stats := rfl
@[simp] theorem Device.setTicCh_stopping (d : Device) (n : Nat) (x : TicCh) : (d.setTicCh n x).stopping = d.stopping := rfl
@[simp] theorem Device.setTicCh_tm (d : Device) (n : Nat) (x : TicCh) : (d.setTicCh n x).tm = d.tm := rfl
@[simp] theorem Device.setTicCh_sched (d : Device) (n : Nat) (x : TicCh) : (d.setTicCh n x).sched = d.sched := rfl
@[simp] theorem Device.setTicCh_axis0 (d : Device) (n : Nat) (x : TicCh) : (d.setTicCh n x).axis0 = d.axis0 := rfl
@[simp] theorem Device.setTicCh_axis1 (d : Device) (n : Nat) (x : TicCh) : (d.setTicCh n x).axis1 = d.axis1 := rfl
@[simp] theorem Device.setTicCh_intc (d : Device) (n : Nat) (x : TicCh) : (d.setTicCh n x).intc = d.intc := rfl
@[simp] theorem Device.setTicCh_rings (d : Device) (n : Nat) (x : TicCh) : (d.setTicCh n x).rings = d.rings := rfl
@[simp] theorem Device.setTicCh_pcie (d : Device) (n : Nat) (x : TicCh) : (d.setTicCh n x).pcie = d.pcie := rfl
@[simp] theorem Device.setTicCh_mon (d : Device) (n : Nat) (x : TicCh) : (d.setTicCh n x).mon = d.mon := rfl
@[simp] theorem Device.setTicCh_trough (d : Device) (n : Nat) (x : TicCh) : (d.setTicCh n x).trough = d.trough := rfl
@[simp] theorem Device.setTicCh_slices (d : Device) (n : Nat) (x : TicCh) : (d.setTicCh n x).slices = d.slices := rfl
@[simp] theorem Device.setTicCh_cls (d : Device) (n : Nat) (x : TicCh) : (d.setTicCh n x).cls = d.cls := rfl
@[simp] theorem Device.setTicCh_peel (d : Device) (n : Nat) (x : TicCh) : (d.setTicCh n x).peel = d.peel := rfl
@[simp] theorem Device.setTicCh_nts (d : Device) (n : Nat) (x : TicCh) : (d.setTicCh n x).nts = d.nts := rfl
@[simp] theorem Device.setTicCh_refs (d : Device) (n : Nat) (x : TicCh) : (d.setTicCh n x).refs = d.refs := rfl
@[simp] theorem Device.setTicCh_tb (d : Device) (n : Nat) (x : TicCh) : (d.setTicCh n x).tb = d.tb := rfl
@[simp] theorem Device.setTicCh_outs (d : Device) (n : Nat) (x : TicCh) : (d.setTicCh n x).outs = d.outs := rfl
@[simp] theorem Device.setTicCh_ptp (d : Device) (n : Nat) (x : TicCh) : (d.setTicCh n x).ptp = d.ptp := rfl
@[simp] theorem Device.setTicCh_gnss (d : Device) (n : Nat) (x : TicCh) : (d.setTicCh n x).gnss = d.gnss := rfl
@[simp] theorem Device.setTicCh_trust (d : Device) (n : Nat) (x : TicCh) : (d.setTicCh n x).trust = d.trust := rfl
@[simp] theorem Device.setTicCh_pke (d : Device) (n : Nat) (x : TicCh) : (d.setTicCh n x).pke = d.pke := rfl
@[simp] theorem Device.setTicCh_ports (d : Device) (n : Nat) (x : TicCh) : (d.setTicCh n x).ports = d.ports := rfl
@[simp] theorem Device.setTicCh_pair (d : Device) (n : Nat) (x : TicCh) : (d.setTicCh n x).pair = d.pair := rfl
@[simp] theorem Device.setTicCh_life (d : Device) (n : Nat) (x : TicCh) : (d.setTicCh n x).life = d.life := rfl
@[simp] theorem Device.setTicCh_draws (d : Device) (n : Nat) (x : TicCh) : (d.setTicCh n x).draws = d.draws := rfl
@[simp] theorem Device.setTicCh_out (d : Device) (n : Nat) (x : TicCh) : (d.setTicCh n x).out = d.out := rfl

@[simp] theorem Device.setTicPair_regs (d : Device) (n : Nat) (x : TicPair) : (d.setTicPair n x).regs = d.regs := rfl
@[simp] theorem Device.setTicPair_cnts (d : Device) (n : Nat) (x : TicPair) : (d.setTicPair n x).cnts = d.cnts := rfl
@[simp] theorem Device.setTicPair_stats (d : Device) (n : Nat) (x : TicPair) : (d.setTicPair n x).stats = d.stats := rfl
@[simp] theorem Device.setTicPair_stopping (d : Device) (n : Nat) (x : TicPair) : (d.setTicPair n x).stopping = d.stopping := rfl
@[simp] theorem Device.setTicPair_tm (d : Device) (n : Nat) (x : TicPair) : (d.setTicPair n x).tm = d.tm := rfl
@[simp] theorem Device.setTicPair_sched (d : Device) (n : Nat) (x : TicPair) : (d.setTicPair n x).sched = d.sched := rfl
@[simp] theorem Device.setTicPair_axis0 (d : Device) (n : Nat) (x : TicPair) : (d.setTicPair n x).axis0 = d.axis0 := rfl
@[simp] theorem Device.setTicPair_axis1 (d : Device) (n : Nat) (x : TicPair) : (d.setTicPair n x).axis1 = d.axis1 := rfl
@[simp] theorem Device.setTicPair_intc (d : Device) (n : Nat) (x : TicPair) : (d.setTicPair n x).intc = d.intc := rfl
@[simp] theorem Device.setTicPair_rings (d : Device) (n : Nat) (x : TicPair) : (d.setTicPair n x).rings = d.rings := rfl
@[simp] theorem Device.setTicPair_pcie (d : Device) (n : Nat) (x : TicPair) : (d.setTicPair n x).pcie = d.pcie := rfl
@[simp] theorem Device.setTicPair_mon (d : Device) (n : Nat) (x : TicPair) : (d.setTicPair n x).mon = d.mon := rfl
@[simp] theorem Device.setTicPair_trough (d : Device) (n : Nat) (x : TicPair) : (d.setTicPair n x).trough = d.trough := rfl
@[simp] theorem Device.setTicPair_slices (d : Device) (n : Nat) (x : TicPair) : (d.setTicPair n x).slices = d.slices := rfl
@[simp] theorem Device.setTicPair_cls (d : Device) (n : Nat) (x : TicPair) : (d.setTicPair n x).cls = d.cls := rfl
@[simp] theorem Device.setTicPair_peel (d : Device) (n : Nat) (x : TicPair) : (d.setTicPair n x).peel = d.peel := rfl
@[simp] theorem Device.setTicPair_nts (d : Device) (n : Nat) (x : TicPair) : (d.setTicPair n x).nts = d.nts := rfl
@[simp] theorem Device.setTicPair_refs (d : Device) (n : Nat) (x : TicPair) : (d.setTicPair n x).refs = d.refs := rfl
@[simp] theorem Device.setTicPair_tb (d : Device) (n : Nat) (x : TicPair) : (d.setTicPair n x).tb = d.tb := rfl
@[simp] theorem Device.setTicPair_outs (d : Device) (n : Nat) (x : TicPair) : (d.setTicPair n x).outs = d.outs := rfl
@[simp] theorem Device.setTicPair_ptp (d : Device) (n : Nat) (x : TicPair) : (d.setTicPair n x).ptp = d.ptp := rfl
@[simp] theorem Device.setTicPair_gnss (d : Device) (n : Nat) (x : TicPair) : (d.setTicPair n x).gnss = d.gnss := rfl
@[simp] theorem Device.setTicPair_trust (d : Device) (n : Nat) (x : TicPair) : (d.setTicPair n x).trust = d.trust := rfl
@[simp] theorem Device.setTicPair_pke (d : Device) (n : Nat) (x : TicPair) : (d.setTicPair n x).pke = d.pke := rfl
@[simp] theorem Device.setTicPair_ports (d : Device) (n : Nat) (x : TicPair) : (d.setTicPair n x).ports = d.ports := rfl
@[simp] theorem Device.setTicPair_pair (d : Device) (n : Nat) (x : TicPair) : (d.setTicPair n x).pair = d.pair := rfl
@[simp] theorem Device.setTicPair_life (d : Device) (n : Nat) (x : TicPair) : (d.setTicPair n x).life = d.life := rfl
@[simp] theorem Device.setTicPair_draws (d : Device) (n : Nat) (x : TicPair) : (d.setTicPair n x).draws = d.draws := rfl
@[simp] theorem Device.setTicPair_out (d : Device) (n : Nat) (x : TicPair) : (d.setTicPair n x).out = d.out := rfl

@[simp] theorem Device.setPortSt_regs (d : Device) (n : Nat) (x : PortSt) : (d.setPortSt n x).regs = d.regs := rfl
@[simp] theorem Device.setPortSt_cnts (d : Device) (n : Nat) (x : PortSt) : (d.setPortSt n x).cnts = d.cnts := rfl
@[simp] theorem Device.setPortSt_stats (d : Device) (n : Nat) (x : PortSt) : (d.setPortSt n x).stats = d.stats := rfl
@[simp] theorem Device.setPortSt_stopping (d : Device) (n : Nat) (x : PortSt) : (d.setPortSt n x).stopping = d.stopping := rfl
@[simp] theorem Device.setPortSt_tm (d : Device) (n : Nat) (x : PortSt) : (d.setPortSt n x).tm = d.tm := rfl
@[simp] theorem Device.setPortSt_sched (d : Device) (n : Nat) (x : PortSt) : (d.setPortSt n x).sched = d.sched := rfl
@[simp] theorem Device.setPortSt_axis0 (d : Device) (n : Nat) (x : PortSt) : (d.setPortSt n x).axis0 = d.axis0 := rfl
@[simp] theorem Device.setPortSt_axis1 (d : Device) (n : Nat) (x : PortSt) : (d.setPortSt n x).axis1 = d.axis1 := rfl
@[simp] theorem Device.setPortSt_intc (d : Device) (n : Nat) (x : PortSt) : (d.setPortSt n x).intc = d.intc := rfl
@[simp] theorem Device.setPortSt_rings (d : Device) (n : Nat) (x : PortSt) : (d.setPortSt n x).rings = d.rings := rfl
@[simp] theorem Device.setPortSt_pcie (d : Device) (n : Nat) (x : PortSt) : (d.setPortSt n x).pcie = d.pcie := rfl
@[simp] theorem Device.setPortSt_mon (d : Device) (n : Nat) (x : PortSt) : (d.setPortSt n x).mon = d.mon := rfl
@[simp] theorem Device.setPortSt_trough (d : Device) (n : Nat) (x : PortSt) : (d.setPortSt n x).trough = d.trough := rfl
@[simp] theorem Device.setPortSt_slices (d : Device) (n : Nat) (x : PortSt) : (d.setPortSt n x).slices = d.slices := rfl
@[simp] theorem Device.setPortSt_cls (d : Device) (n : Nat) (x : PortSt) : (d.setPortSt n x).cls = d.cls := rfl
@[simp] theorem Device.setPortSt_peel (d : Device) (n : Nat) (x : PortSt) : (d.setPortSt n x).peel = d.peel := rfl
@[simp] theorem Device.setPortSt_nts (d : Device) (n : Nat) (x : PortSt) : (d.setPortSt n x).nts = d.nts := rfl
@[simp] theorem Device.setPortSt_refs (d : Device) (n : Nat) (x : PortSt) : (d.setPortSt n x).refs = d.refs := rfl
@[simp] theorem Device.setPortSt_tb (d : Device) (n : Nat) (x : PortSt) : (d.setPortSt n x).tb = d.tb := rfl
@[simp] theorem Device.setPortSt_outs (d : Device) (n : Nat) (x : PortSt) : (d.setPortSt n x).outs = d.outs := rfl
@[simp] theorem Device.setPortSt_ptp (d : Device) (n : Nat) (x : PortSt) : (d.setPortSt n x).ptp = d.ptp := rfl
@[simp] theorem Device.setPortSt_gnss (d : Device) (n : Nat) (x : PortSt) : (d.setPortSt n x).gnss = d.gnss := rfl
@[simp] theorem Device.setPortSt_tic (d : Device) (n : Nat) (x : PortSt) : (d.setPortSt n x).tic = d.tic := rfl
@[simp] theorem Device.setPortSt_trust (d : Device) (n : Nat) (x : PortSt) : (d.setPortSt n x).trust = d.trust := rfl
@[simp] theorem Device.setPortSt_pke (d : Device) (n : Nat) (x : PortSt) : (d.setPortSt n x).pke = d.pke := rfl
@[simp] theorem Device.setPortSt_pair (d : Device) (n : Nat) (x : PortSt) : (d.setPortSt n x).pair = d.pair := rfl
@[simp] theorem Device.setPortSt_life (d : Device) (n : Nat) (x : PortSt) : (d.setPortSt n x).life = d.life := rfl
@[simp] theorem Device.setPortSt_draws (d : Device) (n : Nat) (x : PortSt) : (d.setPortSt n x).draws = d.draws := rfl
@[simp] theorem Device.setPortSt_out (d : Device) (n : Nat) (x : PortSt) : (d.setPortSt n x).out = d.out := rfl

@[simp] theorem Device.setPtpInst_regs (d : Device) (n : Nat) (x : PtpInst) : (d.setPtpInst n x).regs = d.regs := rfl
@[simp] theorem Device.setPtpInst_cnts (d : Device) (n : Nat) (x : PtpInst) : (d.setPtpInst n x).cnts = d.cnts := rfl
@[simp] theorem Device.setPtpInst_stats (d : Device) (n : Nat) (x : PtpInst) : (d.setPtpInst n x).stats = d.stats := rfl
@[simp] theorem Device.setPtpInst_stopping (d : Device) (n : Nat) (x : PtpInst) : (d.setPtpInst n x).stopping = d.stopping := rfl
@[simp] theorem Device.setPtpInst_tm (d : Device) (n : Nat) (x : PtpInst) : (d.setPtpInst n x).tm = d.tm := rfl
@[simp] theorem Device.setPtpInst_sched (d : Device) (n : Nat) (x : PtpInst) : (d.setPtpInst n x).sched = d.sched := rfl
@[simp] theorem Device.setPtpInst_axis0 (d : Device) (n : Nat) (x : PtpInst) : (d.setPtpInst n x).axis0 = d.axis0 := rfl
@[simp] theorem Device.setPtpInst_axis1 (d : Device) (n : Nat) (x : PtpInst) : (d.setPtpInst n x).axis1 = d.axis1 := rfl
@[simp] theorem Device.setPtpInst_intc (d : Device) (n : Nat) (x : PtpInst) : (d.setPtpInst n x).intc = d.intc := rfl
@[simp] theorem Device.setPtpInst_rings (d : Device) (n : Nat) (x : PtpInst) : (d.setPtpInst n x).rings = d.rings := rfl
@[simp] theorem Device.setPtpInst_pcie (d : Device) (n : Nat) (x : PtpInst) : (d.setPtpInst n x).pcie = d.pcie := rfl
@[simp] theorem Device.setPtpInst_mon (d : Device) (n : Nat) (x : PtpInst) : (d.setPtpInst n x).mon = d.mon := rfl
@[simp] theorem Device.setPtpInst_trough (d : Device) (n : Nat) (x : PtpInst) : (d.setPtpInst n x).trough = d.trough := rfl
@[simp] theorem Device.setPtpInst_slices (d : Device) (n : Nat) (x : PtpInst) : (d.setPtpInst n x).slices = d.slices := rfl
@[simp] theorem Device.setPtpInst_cls (d : Device) (n : Nat) (x : PtpInst) : (d.setPtpInst n x).cls = d.cls := rfl
@[simp] theorem Device.setPtpInst_peel (d : Device) (n : Nat) (x : PtpInst) : (d.setPtpInst n x).peel = d.peel := rfl
@[simp] theorem Device.setPtpInst_nts (d : Device) (n : Nat) (x : PtpInst) : (d.setPtpInst n x).nts = d.nts := rfl
@[simp] theorem Device.setPtpInst_refs (d : Device) (n : Nat) (x : PtpInst) : (d.setPtpInst n x).refs = d.refs := rfl
@[simp] theorem Device.setPtpInst_tb (d : Device) (n : Nat) (x : PtpInst) : (d.setPtpInst n x).tb = d.tb := rfl
@[simp] theorem Device.setPtpInst_outs (d : Device) (n : Nat) (x : PtpInst) : (d.setPtpInst n x).outs = d.outs := rfl
@[simp] theorem Device.setPtpInst_gnss (d : Device) (n : Nat) (x : PtpInst) : (d.setPtpInst n x).gnss = d.gnss := rfl
@[simp] theorem Device.setPtpInst_tic (d : Device) (n : Nat) (x : PtpInst) : (d.setPtpInst n x).tic = d.tic := rfl
@[simp] theorem Device.setPtpInst_trust (d : Device) (n : Nat) (x : PtpInst) : (d.setPtpInst n x).trust = d.trust := rfl
@[simp] theorem Device.setPtpInst_pke (d : Device) (n : Nat) (x : PtpInst) : (d.setPtpInst n x).pke = d.pke := rfl
@[simp] theorem Device.setPtpInst_ports (d : Device) (n : Nat) (x : PtpInst) : (d.setPtpInst n x).ports = d.ports := rfl
@[simp] theorem Device.setPtpInst_pair (d : Device) (n : Nat) (x : PtpInst) : (d.setPtpInst n x).pair = d.pair := rfl
@[simp] theorem Device.setPtpInst_life (d : Device) (n : Nat) (x : PtpInst) : (d.setPtpInst n x).life = d.life := rfl
@[simp] theorem Device.setPtpInst_draws (d : Device) (n : Nat) (x : PtpInst) : (d.setPtpInst n x).draws = d.draws := rfl
@[simp] theorem Device.setPtpInst_out (d : Device) (n : Nat) (x : PtpInst) : (d.setPtpInst n x).out = d.out := rfl

@[simp] theorem Device.setBank_regs (d : Device) (n : Nat) (x : Bank) : (d.setBank n x).regs = d.regs := rfl
@[simp] theorem Device.setBank_cnts (d : Device) (n : Nat) (x : Bank) : (d.setBank n x).cnts = d.cnts := rfl
@[simp] theorem Device.setBank_stats (d : Device) (n : Nat) (x : Bank) : (d.setBank n x).stats = d.stats := rfl
@[simp] theorem Device.setBank_stopping (d : Device) (n : Nat) (x : Bank) : (d.setBank n x).stopping = d.stopping := rfl
@[simp] theorem Device.setBank_tm (d : Device) (n : Nat) (x : Bank) : (d.setBank n x).tm = d.tm := rfl
@[simp] theorem Device.setBank_sched (d : Device) (n : Nat) (x : Bank) : (d.setBank n x).sched = d.sched := rfl
@[simp] theorem Device.setBank_axis0 (d : Device) (n : Nat) (x : Bank) : (d.setBank n x).axis0 = d.axis0 := rfl
@[simp] theorem Device.setBank_axis1 (d : Device) (n : Nat) (x : Bank) : (d.setBank n x).axis1 = d.axis1 := rfl
@[simp] theorem Device.setBank_intc (d : Device) (n : Nat) (x : Bank) : (d.setBank n x).intc = d.intc := rfl
@[simp] theorem Device.setBank_rings (d : Device) (n : Nat) (x : Bank) : (d.setBank n x).rings = d.rings := rfl
@[simp] theorem Device.setBank_pcie (d : Device) (n : Nat) (x : Bank) : (d.setBank n x).pcie = d.pcie := rfl
@[simp] theorem Device.setBank_mon (d : Device) (n : Nat) (x : Bank) : (d.setBank n x).mon = d.mon := rfl
@[simp] theorem Device.setBank_trough (d : Device) (n : Nat) (x : Bank) : (d.setBank n x).trough = d.trough := rfl
@[simp] theorem Device.setBank_slices (d : Device) (n : Nat) (x : Bank) : (d.setBank n x).slices = d.slices := rfl
@[simp] theorem Device.setBank_cls (d : Device) (n : Nat) (x : Bank) : (d.setBank n x).cls = d.cls := rfl
@[simp] theorem Device.setBank_peel (d : Device) (n : Nat) (x : Bank) : (d.setBank n x).peel = d.peel := rfl
@[simp] theorem Device.setBank_nts (d : Device) (n : Nat) (x : Bank) : (d.setBank n x).nts = d.nts := rfl
@[simp] theorem Device.setBank_refs (d : Device) (n : Nat) (x : Bank) : (d.setBank n x).refs = d.refs := rfl
@[simp] theorem Device.setBank_tb (d : Device) (n : Nat) (x : Bank) : (d.setBank n x).tb = d.tb := rfl
@[simp] theorem Device.setBank_outs (d : Device) (n : Nat) (x : Bank) : (d.setBank n x).outs = d.outs := rfl
@[simp] theorem Device.setBank_ptp (d : Device) (n : Nat) (x : Bank) : (d.setBank n x).ptp = d.ptp := rfl
@[simp] theorem Device.setBank_gnss (d : Device) (n : Nat) (x : Bank) : (d.setBank n x).gnss = d.gnss := rfl
@[simp] theorem Device.setBank_tic (d : Device) (n : Nat) (x : Bank) : (d.setBank n x).tic = d.tic := rfl
@[simp] theorem Device.setBank_pke (d : Device) (n : Nat) (x : Bank) : (d.setBank n x).pke = d.pke := rfl
@[simp] theorem Device.setBank_ports (d : Device) (n : Nat) (x : Bank) : (d.setBank n x).ports = d.ports := rfl
@[simp] theorem Device.setBank_pair (d : Device) (n : Nat) (x : Bank) : (d.setBank n x).pair = d.pair := rfl
@[simp] theorem Device.setBank_life (d : Device) (n : Nat) (x : Bank) : (d.setBank n x).life = d.life := rfl
@[simp] theorem Device.setBank_draws (d : Device) (n : Nat) (x : Bank) : (d.setBank n x).draws = d.draws := rfl
@[simp] theorem Device.setBank_out (d : Device) (n : Nat) (x : Bank) : (d.setBank n x).out = d.out := rfl

@[simp] theorem Device.setRing_regs (d : Device) (n : Nat) (x : Ring) : (d.setRing n x).regs = d.regs := rfl
@[simp] theorem Device.setRing_cnts (d : Device) (n : Nat) (x : Ring) : (d.setRing n x).cnts = d.cnts := rfl
@[simp] theorem Device.setRing_stats (d : Device) (n : Nat) (x : Ring) : (d.setRing n x).stats = d.stats := rfl
@[simp] theorem Device.setRing_stopping (d : Device) (n : Nat) (x : Ring) : (d.setRing n x).stopping = d.stopping := rfl
@[simp] theorem Device.setRing_tm (d : Device) (n : Nat) (x : Ring) : (d.setRing n x).tm = d.tm := rfl
@[simp] theorem Device.setRing_sched (d : Device) (n : Nat) (x : Ring) : (d.setRing n x).sched = d.sched := rfl
@[simp] theorem Device.setRing_axis0 (d : Device) (n : Nat) (x : Ring) : (d.setRing n x).axis0 = d.axis0 := rfl
@[simp] theorem Device.setRing_axis1 (d : Device) (n : Nat) (x : Ring) : (d.setRing n x).axis1 = d.axis1 := rfl
@[simp] theorem Device.setRing_intc (d : Device) (n : Nat) (x : Ring) : (d.setRing n x).intc = d.intc := rfl
@[simp] theorem Device.setRing_pcie (d : Device) (n : Nat) (x : Ring) : (d.setRing n x).pcie = d.pcie := rfl
@[simp] theorem Device.setRing_mon (d : Device) (n : Nat) (x : Ring) : (d.setRing n x).mon = d.mon := rfl
@[simp] theorem Device.setRing_trough (d : Device) (n : Nat) (x : Ring) : (d.setRing n x).trough = d.trough := rfl
@[simp] theorem Device.setRing_slices (d : Device) (n : Nat) (x : Ring) : (d.setRing n x).slices = d.slices := rfl
@[simp] theorem Device.setRing_cls (d : Device) (n : Nat) (x : Ring) : (d.setRing n x).cls = d.cls := rfl
@[simp] theorem Device.setRing_peel (d : Device) (n : Nat) (x : Ring) : (d.setRing n x).peel = d.peel := rfl
@[simp] theorem Device.setRing_nts (d : Device) (n : Nat) (x : Ring) : (d.setRing n x).nts = d.nts := rfl
@[simp] theorem Device.setRing_refs (d : Device) (n : Nat) (x : Ring) : (d.setRing n x).refs = d.refs := rfl
@[simp] theorem Device.setRing_tb (d : Device) (n : Nat) (x : Ring) : (d.setRing n x).tb = d.tb := rfl
@[simp] theorem Device.setRing_outs (d : Device) (n : Nat) (x : Ring) : (d.setRing n x).outs = d.outs := rfl
@[simp] theorem Device.setRing_ptp (d : Device) (n : Nat) (x : Ring) : (d.setRing n x).ptp = d.ptp := rfl
@[simp] theorem Device.setRing_gnss (d : Device) (n : Nat) (x : Ring) : (d.setRing n x).gnss = d.gnss := rfl
@[simp] theorem Device.setRing_tic (d : Device) (n : Nat) (x : Ring) : (d.setRing n x).tic = d.tic := rfl
@[simp] theorem Device.setRing_trust (d : Device) (n : Nat) (x : Ring) : (d.setRing n x).trust = d.trust := rfl
@[simp] theorem Device.setRing_pke (d : Device) (n : Nat) (x : Ring) : (d.setRing n x).pke = d.pke := rfl
@[simp] theorem Device.setRing_ports (d : Device) (n : Nat) (x : Ring) : (d.setRing n x).ports = d.ports := rfl
@[simp] theorem Device.setRing_pair (d : Device) (n : Nat) (x : Ring) : (d.setRing n x).pair = d.pair := rfl
@[simp] theorem Device.setRing_life (d : Device) (n : Nat) (x : Ring) : (d.setRing n x).life = d.life := rfl
@[simp] theorem Device.setRing_draws (d : Device) (n : Nat) (x : Ring) : (d.setRing n x).draws = d.draws := rfl
@[simp] theorem Device.setRing_out (d : Device) (n : Nat) (x : Ring) : (d.setRing n x).out = d.out := rfl

end Sys2Proof.Machine
end

