-- ==== Sys2Proof/Laws/Regs.lean ====
section
/-! SUPPORT. Register words and fields: a read after a write of the same register or field, and of another. -/

namespace Sys2Proof.Machine

theorem Device.rd_wr (d : Device) (o j : Nat) (v : Word) : (d.wr o v).rd j = if j = o then v else d.rd j := by
  unfold Device.wr Device.rd
  by_cases h : j = o
  · subst h; simp [amGet_amSet]
  · simp only [if_neg h]; exact amGet_amSet_ne _ _ _ _ h

@[simp] theorem Device.rd_wr_self (d : Device) (o : Nat) (v : Word) : (d.wr o v).rd o = v := by simp [Device.rd_wr]

theorem Device.rd_wr_ne (d : Device) {o j : Nat} (v : Word) (h : j ≠ o) : (d.wr o v).rd j = d.rd j := by
  simp [Device.rd_wr, h]

theorem Device.rd_wn (d : Device) (o j v : Nat) : (d.wn o v).rd j = if j = o then BitVec.ofNat 32 v else d.rd j :=
  Device.rd_wr d o j _

theorem Device.rd_fs_ne (d : Device) {f : Fld} {j : Nat} (v : Nat) (h : j ≠ f.off) : (d.fs f v).rd j = d.rd j :=
  Device.rd_wr_ne d _ h

/-- What a register reads depends on the bank alone. -/
theorem Device.rd_congr {d e : Device} (h : d.regs = e.regs) (o : Nat) : d.rd o = e.rd o := by
  unfold Device.rd; rw [h]

theorem Device.fg_congr {d e : Device} (f : Fld) (h : d.rd f.off = e.rd f.off) : d.fg f = e.fg f := by
  unfold Device.fg; rw [h]

theorem Device.fb_congr {d e : Device} (f : Fld) (h : d.rd f.off = e.rd f.off) : d.fb f = e.fb f := by
  unfold Device.fb; rw [Device.fg_congr f h]

/-! ### Bit fields of numbers -/

theorem bits_testBit (w lo len k : Nat) : (bits w lo len).testBit k = (decide (k < len) && w.testBit (lo + k)) := by
  unfold bits
  rw [Nat.testBit_mod_two_pow, Nat.testBit_div_two_pow, Nat.add_comm]

theorem bits_lt (w lo len : Nat) : bits w lo len < 2 ^ len := Nat.mod_lt _ (Nat.two_pow_pos len)

/-- A number cut in three: above, in and below a field. -/
theorem bits_split (w lo len : Nat) :
    w = w / 2 ^ (lo + len) * 2 ^ (lo + len) + bits w lo len * 2 ^ lo + w % 2 ^ lo := by
  have h1 := Nat.div_add_mod w (2 ^ lo)
  have h2 := Nat.div_add_mod (w / 2 ^ lo) (2 ^ len)
  have h3 : w / 2 ^ lo / 2 ^ len = w / 2 ^ (lo + len) := by rw [Nat.div_div_eq_div_mul, Nat.pow_add]
  unfold bits
  rw [h3] at h2
  have h4 : w / 2 ^ (lo + len) * 2 ^ (lo + len) + w / 2 ^ lo % 2 ^ len * 2 ^ lo = w / 2 ^ lo * 2 ^ lo := by
    have h5 : w / 2 ^ (lo + len) * 2 ^ (lo + len) = 2 ^ len * (w / 2 ^ (lo + len)) * 2 ^ lo := by
      rw [Nat.pow_add, Nat.mul_comm (2 ^ len) (w / (2 ^ lo * 2 ^ len)), Nat.mul_assoc, Nat.mul_comm (2 ^ len) (2 ^ lo)]
    rw [h5, ← Nat.add_mul, h2]
  rw [h4, Nat.mul_comm]; exact h1.symm

theorem putBits_eq (w lo len v : Nat) :
    putBits w lo len v = w / 2 ^ (lo + len) * 2 ^ (lo + len) + (v % 2 ^ len) * 2 ^ lo + w % 2 ^ lo := by
  unfold putBits
  have h := bits_split w lo len
  omega

theorem putBits_testBit (w lo len v k : Nat) :
    (putBits w lo len v).testBit k = if lo ≤ k ∧ k < lo + len then v.testBit (k - lo) else w.testBit k := by
  rw [putBits_eq]
  have hv : v % 2 ^ len * 2 ^ lo + w % 2 ^ lo < 2 ^ (lo + len) := by
    have h1 := Nat.mod_lt v (Nat.two_pow_pos len)
    have h2 := Nat.mod_lt w (Nat.two_pow_pos lo)
    rw [Nat.pow_add]
    have h3 : (v % 2 ^ len + 1) * 2 ^ lo ≤ 2 ^ len * 2 ^ lo := Nat.mul_le_mul_right _ h1
    rw [Nat.mul_comm (2 ^ lo) (2 ^ len)]
    rw [Nat.add_mul, Nat.one_mul] at h3
    omega
  rw [Nat.add_assoc, Nat.mul_comm _ (2 ^ (lo + len)), Nat.testBit_two_pow_mul_add _ hv]
  by_cases hk : k < lo + len
  · rw [if_pos hk, Nat.mul_comm _ (2 ^ lo), Nat.testBit_two_pow_mul_add _ (Nat.mod_lt w (Nat.two_pow_pos lo))]
    by_cases hl : k < lo
    · rw [if_pos hl, if_neg (by omega), Nat.testBit_mod_two_pow]; simp [hl]
    · rw [if_neg hl, if_pos (by omega), Nat.testBit_mod_two_pow]
      have : k - lo < len := by omega
      simp [this]
  · rw [if_neg hk, if_neg (by omega), Nat.testBit_div_two_pow]
    congr 1; omega

/-- A field after it was put. -/
theorem bits_putBits (w lo len v : Nat) : bits (putBits w lo len v) lo len = v % 2 ^ len := by
  apply Nat.eq_of_testBit_eq
  intro k
  rw [bits_testBit, putBits_testBit, Nat.testBit_mod_two_pow]
  by_cases hk : k < len
  · simp [hk]
  · simp [hk]

/-- Another field after a field was put. -/
theorem bits_putBits_disj (w lo len v lo' len' : Nat) (h : lo + len ≤ lo' ∨ lo' + len' ≤ lo) :
    bits (putBits w lo len v) lo' len' = bits w lo' len' := by
  apply Nat.eq_of_testBit_eq
  intro k
  rw [bits_testBit, bits_testBit, putBits_testBit]
  by_cases hk : k < len'
  · rw [if_neg (by omega)]
  · simp [hk]

theorem putBits_lt (w lo len v n : Nat) (hw : w < 2 ^ n) (h : lo + len ≤ n) : putBits w lo len v < 2 ^ n := by
  apply Nat.lt_pow_two_of_testBit
  intro k hk
  rw [putBits_testBit, if_neg (by omega)]
  exact Nat.testBit_lt_two_pow (Nat.lt_of_lt_of_le hw (Nat.pow_le_pow_right (by omega) hk))

/-! ### Fields -/

/-- The word after a field was set. -/
theorem Device.rn_fs (d : Device) (f : Fld) (v : Nat) (h : f.lo + f.len ≤ 32) :
    ((d.fs f v).rd f.off).toNat = putBits (d.rd f.off).toNat f.lo f.len v := by
  unfold Device.fs
  rw [Device.rd_wr_self, BitVec.toNat_ofNat, Nat.mod_eq_of_lt]
  exact putBits_lt _ _ _ _ _ (d.rd f.off).isLt h

/-- A field after it was set. -/
theorem Device.fg_fs (d : Device) (f : Fld) (v : Nat) (h : f.lo + f.len ≤ 32) : (d.fs f v).fg f = v % 2 ^ f.len := by
  unfold Device.fg
  rw [Device.rn_fs d f v h, bits_putBits]

/-- A field of another register. -/
theorem Device.fg_fs_off (d : Device) (f g : Fld) (v : Nat) (h : g.off ≠ f.off) : (d.fs f v).fg g = d.fg g := by
  unfold Device.fg; rw [Device.rd_fs_ne d v h]

/-- Another field of the same register. -/
theorem Device.fg_fs_disj (d : Device) (f g : Fld) (v : Nat) (ho : g.off = f.off) (h : f.lo + f.len ≤ 32)
    (hd : f.lo + f.len ≤ g.lo ∨ g.lo + g.len ≤ f.lo) : (d.fs f v).fg g = d.fg g := by
  unfold Device.fg
  rw [ho, Device.rn_fs d f v h, bits_putBits_disj _ _ _ _ _ _ hd]

/-- A field after its register took a word. -/
theorem Device.fg_wr (d : Device) (o : Nat) (v : Word) (f : Fld) :
    (d.wr o v).fg f = if f.off = o then bits v.toNat f.lo f.len else d.fg f := by
  unfold Device.fg
  rw [Device.rd_wr]
  split <;> rfl

end Sys2Proof.Machine
end

