-- ==== Sys2Proof/Laws/Settle.lean ====
section
/-! SUPPORT. What bringing the block up to date after a command leaves alone: everything but the pools' marks, the outputs' squelch,
the interrupt lines and the messages they raise. -/

namespace Sys2Proof.Machine

/-- A fold keeps what each of its steps keeps. -/
theorem foldl_keep {α β γ : Type} (f : α → β) (g : α → γ → α) (h : ∀ a x, f (g a x) = f a) (l : List γ) (a : α) :
    f (l.foldl g a) = f a := by
  induction l generalizing a with
  | nil => rfl
  | cons x t ih => rw [List.foldl_cons, ih, h]

/-- What a view of the block must not depend on to be kept by `settle`. -/
structure Steady {β : Type} (f : Device → β) : Prop where
  reg : ∀ d o v, o ∈ settleRegs → f (Device.wr d o v) = f d
  lines : ∀ (d : Device) l, f { d with intc := { d.intc with lines := l } } = f d
  latched : ∀ (d : Device) l, f { d with intc := { d.intc with latched := l } } = f d
  offer : ∀ (d : Device) a b, f { d with intc := { d.intc with rrOffer := a, rrSince := b } } = f d
  told : ∀ (d : Device) l, f { d with intc := { d.intc with told := l } } = f d
  held : ∀ (d : Device) l, f { d with intc := { d.intc with held := l } } = f d
  msgOut : ∀ (d : Device) l, f { d with intc := { d.intc with msgOut := l } } = f d
  trough : ∀ (d : Device) t, f { d with trough := t } = f d
  outs : ∀ (d : Device) n c, f (d.setOut n { d.outOf n with clearAt := c }) = f d
  l1 : ∀ (d : Device) b, f { d with pcie := { d.pcie with l1 := b } } = f d
  out : ∀ (d : Device) t, f { d with out := t } = f d

theorem sqFlag_mem (n : Nat) (h : n < 12) : (sqFlag n).off ∈ settleRegs := by
  unfold sqFlag settleRegs
  split
  · exact List.mem_append_left _ (List.mem_append_left _ (List.mem_map.2 ⟨n, by simpa using by assumption, rfl⟩))
  · exact List.mem_append_left _ (List.mem_append_right _ (List.mem_map.2 ⟨n - 8, by simp; omega, rfl⟩))

theorem foldl_keep_mem {α β γ : Type} (f : α → β) (g : α → γ → α) (l : List γ) (h : ∀ a x, x ∈ l → f (g a x) = f a) (a : α) :
    f (l.foldl g a) = f a := by
  induction l generalizing a with
  | nil => rfl
  | cons x t ih =>
    rw [List.foldl_cons, ih fun a y hy => h a y (List.mem_cons_of_mem _ hy), h a x (List.mem_cons_self ..)]

theorem Steady.pulse {β : Type} {f : Device → β} (h : Steady f) (d : Device) (s : Nat) : f (d.pulse s) = f d := by
  unfold Device.pulse; split
  · rfl
  · exact h.latched ..

theorem Steady.troughSettle {β : Type} {f : Device → β} (h : Steady f) (d : Device) : f (troughSettle d) = f d := by
  unfold Machine.troughSettle
  simp only []
  rw [h.trough]
  apply foldl_keep
  intro a x
  split
  · exact h.pulse ..
  · rfl

theorem Steady.outSettle {β : Type} {f : Device → β} (h : Steady f) (d : Device) : f (outSettle d) = f d := by
  unfold Machine.outSettle
  apply foldl_keep_mem
  intro a n hn
  split
  · exact (h.outs (a.set1 (sqFlag n)) n none).trans (h.reg _ _ _ (sqFlag_mem n (List.mem_range.1 hn)))
  · split
    · exact h.outs ..
    · rfl

theorem Steady.lineSettle {β : Type} {f : Device → β} (h : Steady f) (d : Device) : f (lineSettle d) = f d := by
  unfold Machine.lineSettle
  exact (h.latched { d with intc := { d.intc with lines := linesNow d } } _).trans (h.lines d _)

theorem Steady.rrSettle {β : Type} {f : Device → β} (h : Steady f) (d : Device) : f (rrSettle d) = f d := by
  unfold Machine.rrSettle
  split <;> exact h.offer ..

theorem Steady.sendMsg {β : Type} {f : Device → β} (h : Steady f) (d : Device) (k : Nat) : f (sendMsg d k) = f d := by
  unfold Machine.sendMsg
  simp only []
  split
  · unfold Device.wn
    rw [h.reg _ _ _ (by simp [settleRegs]), h.held]
  · unfold Device.emit
    rw [h.out]
    unfold leaveL1
    split
    · unfold Device.clr Device.fs
      rw [h.reg _ _ _ (by simp [settleRegs]), h.l1, h.msgOut]
    · rw [h.msgOut]

theorem Steady.toldSettle {β : Type} {f : Device → β} (h : Steady f) (d : Device) : f (toldSettle d) = f d := by
  unfold Machine.toldSettle
  simp only []
  rw [h.told]
  exact foldl_keep _ _ (fun a x => h.sendMsg a x) _ _

/-- A steady view is kept by `settle`. -/
theorem Steady.settle {β : Type} {f : Device → β} (h : Steady f) (d : Device) : f (settle d) = f d := by
  unfold Machine.settle
  rw [h.toldSettle, h.rrSettle, h.lineSettle, h.outSettle, h.troughSettle]

@[simp] theorem settle_cnts (d : Device) : (settle d).cnts = d.cnts :=
  Steady.settle (f := fun d => d.cnts)
    ⟨fun _ _ _ _ => rfl, fun _ _ => rfl, fun _ _ => rfl, fun _ _ _ => rfl, fun _ _ => rfl, fun _ _ => rfl, fun _ _ => rfl,
      fun _ _ => rfl, fun _ _ _ => rfl, fun _ _ => rfl, fun _ _ => rfl⟩ d
@[simp] theorem settle_stats (d : Device) : (settle d).stats = d.stats :=
  Steady.settle (f := fun d => d.stats)
    ⟨fun _ _ _ _ => rfl, fun _ _ => rfl, fun _ _ => rfl, fun _ _ _ => rfl, fun _ _ => rfl, fun _ _ => rfl, fun _ _ => rfl,
      fun _ _ => rfl, fun _ _ _ => rfl, fun _ _ => rfl, fun _ _ => rfl⟩ d
@[simp] theorem settle_stopping (d : Device) : (settle d).stopping = d.stopping :=
  Steady.settle (f := fun d => d.stopping)
    ⟨fun _ _ _ _ => rfl, fun _ _ => rfl, fun _ _ => rfl, fun _ _ _ => rfl, fun _ _ => rfl, fun _ _ => rfl, fun _ _ => rfl,
      fun _ _ => rfl, fun _ _ _ => rfl, fun _ _ => rfl, fun _ _ => rfl⟩ d
@[simp] theorem settle_tm (d : Device) : (settle d).tm = d.tm :=
  Steady.settle (f := fun d => d.tm)
    ⟨fun _ _ _ _ => rfl, fun _ _ => rfl, fun _ _ => rfl, fun _ _ _ => rfl, fun _ _ => rfl, fun _ _ => rfl, fun _ _ => rfl,
      fun _ _ => rfl, fun _ _ _ => rfl, fun _ _ => rfl, fun _ _ => rfl⟩ d
@[simp] theorem settle_sched (d : Device) : (settle d).sched = d.sched :=
  Steady.settle (f := fun d => d.sched)
    ⟨fun _ _ _ _ => rfl, fun _ _ => rfl, fun _ _ => rfl, fun _ _ _ => rfl, fun _ _ => rfl, fun _ _ => rfl, fun _ _ => rfl,
      fun _ _ => rfl, fun _ _ _ => rfl, fun _ _ => rfl, fun _ _ => rfl⟩ d
@[simp] theorem settle_axis0 (d : Device) : (settle d).axis0 = d.axis0 :=
  Steady.settle (f := fun d => d.axis0)
    ⟨fun _ _ _ _ => rfl, fun _ _ => rfl, fun _ _ => rfl, fun _ _ _ => rfl, fun _ _ => rfl, fun _ _ => rfl, fun _ _ => rfl,
      fun _ _ => rfl, fun _ _ _ => rfl, fun _ _ => rfl, fun _ _ => rfl⟩ d
@[simp] theorem settle_axis1 (d : Device) : (settle d).axis1 = d.axis1 :=
  Steady.settle (f := fun d => d.axis1)
    ⟨fun _ _ _ _ => rfl, fun _ _ => rfl, fun _ _ => rfl, fun _ _ _ => rfl, fun _ _ => rfl, fun _ _ => rfl, fun _ _ => rfl,
      fun _ _ => rfl, fun _ _ _ => rfl, fun _ _ => rfl, fun _ _ => rfl⟩ d
@[simp] theorem settle_rings (d : Device) : (settle d).rings = d.rings :=
  Steady.settle (f := fun d => d.rings)
    ⟨fun _ _ _ _ => rfl, fun _ _ => rfl, fun _ _ => rfl, fun _ _ _ => rfl, fun _ _ => rfl, fun _ _ => rfl, fun _ _ => rfl,
      fun _ _ => rfl, fun _ _ _ => rfl, fun _ _ => rfl, fun _ _ => rfl⟩ d
@[simp] theorem settle_mon (d : Device) : (settle d).mon = d.mon :=
  Steady.settle (f := fun d => d.mon)
    ⟨fun _ _ _ _ => rfl, fun _ _ => rfl, fun _ _ => rfl, fun _ _ _ => rfl, fun _ _ => rfl, fun _ _ => rfl, fun _ _ => rfl,
      fun _ _ => rfl, fun _ _ _ => rfl, fun _ _ => rfl, fun _ _ => rfl⟩ d
@[simp] theorem settle_slices (d : Device) : (settle d).slices = d.slices :=
  Steady.settle (f := fun d => d.slices)
    ⟨fun _ _ _ _ => rfl, fun _ _ => rfl, fun _ _ => rfl, fun _ _ _ => rfl, fun _ _ => rfl, fun _ _ => rfl, fun _ _ => rfl,
      fun _ _ => rfl, fun _ _ _ => rfl, fun _ _ => rfl, fun _ _ => rfl⟩ d
@[simp] theorem settle_cls (d : Device) : (settle d).cls = d.cls :=
  Steady.settle (f := fun d => d.cls)
    ⟨fun _ _ _ _ => rfl, fun _ _ => rfl, fun _ _ => rfl, fun _ _ _ => rfl, fun _ _ => rfl, fun _ _ => rfl, fun _ _ => rfl,
      fun _ _ => rfl, fun _ _ _ => rfl, fun _ _ => rfl, fun _ _ => rfl⟩ d
@[simp] theorem settle_peel (d : Device) : (settle d).peel = d.peel :=
  Steady.settle (f := fun d => d.peel)
    ⟨fun _ _ _ _ => rfl, fun _ _ => rfl, fun _ _ => rfl, fun _ _ _ => rfl, fun _ _ => rfl, fun _ _ => rfl, fun _ _ => rfl,
      fun _ _ => rfl, fun _ _ _ => rfl, fun _ _ => rfl, fun _ _ => rfl⟩ d
@[simp] theorem settle_nts (d : Device) : (settle d).nts = d.nts :=
  Steady.settle (f := fun d => d.nts)
    ⟨fun _ _ _ _ => rfl, fun _ _ => rfl, fun _ _ => rfl, fun _ _ _ => rfl, fun _ _ => rfl, fun _ _ => rfl, fun _ _ => rfl,
      fun _ _ => rfl, fun _ _ _ => rfl, fun _ _ => rfl, fun _ _ => rfl⟩ d
@[simp] theorem settle_refs (d : Device) : (settle d).refs = d.refs :=
  Steady.settle (f := fun d => d.refs)
    ⟨fun _ _ _ _ => rfl, fun _ _ => rfl, fun _ _ => rfl, fun _ _ _ => rfl, fun _ _ => rfl, fun _ _ => rfl, fun _ _ => rfl,
      fun _ _ => rfl, fun _ _ _ => rfl, fun _ _ => rfl, fun _ _ => rfl⟩ d
@[simp] theorem settle_tb (d : Device) : (settle d).tb = d.tb :=
  Steady.settle (f := fun d => d.tb)
    ⟨fun _ _ _ _ => rfl, fun _ _ => rfl, fun _ _ => rfl, fun _ _ _ => rfl, fun _ _ => rfl, fun _ _ => rfl, fun _ _ => rfl,
      fun _ _ => rfl, fun _ _ _ => rfl, fun _ _ => rfl, fun _ _ => rfl⟩ d
@[simp] theorem settle_ptp (d : Device) : (settle d).ptp = d.ptp :=
  Steady.settle (f := fun d => d.ptp)
    ⟨fun _ _ _ _ => rfl, fun _ _ => rfl, fun _ _ => rfl, fun _ _ _ => rfl, fun _ _ => rfl, fun _ _ => rfl, fun _ _ => rfl,
      fun _ _ => rfl, fun _ _ _ => rfl, fun _ _ => rfl, fun _ _ => rfl⟩ d
@[simp] theorem settle_gnss (d : Device) : (settle d).gnss = d.gnss :=
  Steady.settle (f := fun d => d.gnss)
    ⟨fun _ _ _ _ => rfl, fun _ _ => rfl, fun _ _ => rfl, fun _ _ _ => rfl, fun _ _ => rfl, fun _ _ => rfl, fun _ _ => rfl,
      fun _ _ => rfl, fun _ _ _ => rfl, fun _ _ => rfl, fun _ _ => rfl⟩ d
@[simp] theorem settle_tic (d : Device) : (settle d).tic = d.tic :=
  Steady.settle (f := fun d => d.tic)
    ⟨fun _ _ _ _ => rfl, fun _ _ => rfl, fun _ _ => rfl, fun _ _ _ => rfl, fun _ _ => rfl, fun _ _ => rfl, fun _ _ => rfl,
      fun _ _ => rfl, fun _ _ _ => rfl, fun _ _ => rfl, fun _ _ => rfl⟩ d
@[simp] theorem settle_trust (d : Device) : (settle d).trust = d.trust :=
  Steady.settle (f := fun d => d.trust)
    ⟨fun _ _ _ _ => rfl, fun _ _ => rfl, fun _ _ => rfl, fun _ _ _ => rfl, fun _ _ => rfl, fun _ _ => rfl, fun _ _ => rfl,
      fun _ _ => rfl, fun _ _ _ => rfl, fun _ _ => rfl, fun _ _ => rfl⟩ d
@[simp] theorem settle_pke (d : Device) : (settle d).pke = d.pke :=
  Steady.settle (f := fun d => d.pke)
    ⟨fun _ _ _ _ => rfl, fun _ _ => rfl, fun _ _ => rfl, fun _ _ _ => rfl, fun _ _ => rfl, fun _ _ => rfl, fun _ _ => rfl,
      fun _ _ => rfl, fun _ _ _ => rfl, fun _ _ => rfl, fun _ _ => rfl⟩ d
@[simp] theorem settle_ports (d : Device) : (settle d).ports = d.ports :=
  Steady.settle (f := fun d => d.ports)
    ⟨fun _ _ _ _ => rfl, fun _ _ => rfl, fun _ _ => rfl, fun _ _ _ => rfl, fun _ _ => rfl, fun _ _ => rfl, fun _ _ => rfl,
      fun _ _ => rfl, fun _ _ _ => rfl, fun _ _ => rfl, fun _ _ => rfl⟩ d
@[simp] theorem settle_pair (d : Device) : (settle d).pair = d.pair :=
  Steady.settle (f := fun d => d.pair)
    ⟨fun _ _ _ _ => rfl, fun _ _ => rfl, fun _ _ => rfl, fun _ _ _ => rfl, fun _ _ => rfl, fun _ _ => rfl, fun _ _ => rfl,
      fun _ _ => rfl, fun _ _ _ => rfl, fun _ _ => rfl, fun _ _ => rfl⟩ d
@[simp] theorem settle_life (d : Device) : (settle d).life = d.life :=
  Steady.settle (f := fun d => d.life)
    ⟨fun _ _ _ _ => rfl, fun _ _ => rfl, fun _ _ => rfl, fun _ _ _ => rfl, fun _ _ => rfl, fun _ _ => rfl, fun _ _ => rfl,
      fun _ _ => rfl, fun _ _ _ => rfl, fun _ _ => rfl, fun _ _ => rfl⟩ d
@[simp] theorem settle_draws (d : Device) : (settle d).draws = d.draws :=
  Steady.settle (f := fun d => d.draws)
    ⟨fun _ _ _ _ => rfl, fun _ _ => rfl, fun _ _ => rfl, fun _ _ _ => rfl, fun _ _ => rfl, fun _ _ => rfl, fun _ _ => rfl,
      fun _ _ => rfl, fun _ _ _ => rfl, fun _ _ => rfl, fun _ _ => rfl⟩ d
@[simp] theorem settle_intc_soft (d : Device) : (settle d).intc.soft = d.intc.soft :=
  Steady.settle (f := fun d => d.intc.soft)
    ⟨fun _ _ _ _ => rfl, fun _ _ => rfl, fun _ _ => rfl, fun _ _ _ => rfl, fun _ _ => rfl, fun _ _ => rfl, fun _ _ => rfl,
      fun _ _ => rfl, fun _ _ _ => rfl, fun _ _ => rfl, fun _ _ => rfl⟩ d
@[simp] theorem settle_intc_active (d : Device) : (settle d).intc.active = d.intc.active :=
  Steady.settle (f := fun d => d.intc.active)
    ⟨fun _ _ _ _ => rfl, fun _ _ => rfl, fun _ _ => rfl, fun _ _ _ => rfl, fun _ _ => rfl, fun _ _ => rfl, fun _ _ => rfl,
      fun _ _ => rfl, fun _ _ _ => rfl, fun _ _ => rfl, fun _ _ => rfl⟩ d
@[simp] theorem settle_intc_fw (d : Device) : (settle d).intc.fw = d.intc.fw :=
  Steady.settle (f := fun d => d.intc.fw)
    ⟨fun _ _ _ _ => rfl, fun _ _ => rfl, fun _ _ => rfl, fun _ _ _ => rfl, fun _ _ => rfl, fun _ _ => rfl, fun _ _ => rfl,
      fun _ _ => rfl, fun _ _ _ => rfl, fun _ _ => rfl, fun _ _ => rfl⟩ d
@[simp] theorem settle_intc_run (d : Device) : (settle d).intc.run = d.intc.run :=
  Steady.settle (f := fun d => d.intc.run)
    ⟨fun _ _ _ _ => rfl, fun _ _ => rfl, fun _ _ => rfl, fun _ _ _ => rfl, fun _ _ => rfl, fun _ _ => rfl, fun _ _ => rfl,
      fun _ _ => rfl, fun _ _ _ => rfl, fun _ _ => rfl, fun _ _ => rfl⟩ d
@[simp] theorem settle_intc_rrPtr (d : Device) : (settle d).intc.rrPtr = d.intc.rrPtr :=
  Steady.settle (f := fun d => d.intc.rrPtr)
    ⟨fun _ _ _ _ => rfl, fun _ _ => rfl, fun _ _ => rfl, fun _ _ _ => rfl, fun _ _ => rfl, fun _ _ => rfl, fun _ _ => rfl,
      fun _ _ => rfl, fun _ _ _ => rfl, fun _ _ => rfl, fun _ _ => rfl⟩ d
/-- The endpoint but for its link state L1. -/
theorem settle_pcie (d : Device) : { (settle d).pcie with l1 := false } = { d.pcie with l1 := false } :=
  Steady.settle (f := fun d => { d.pcie with l1 := false })
    ⟨fun _ _ _ _ => rfl, fun _ _ => rfl, fun _ _ => rfl, fun _ _ _ => rfl, fun _ _ => rfl, fun _ _ => rfl, fun _ _ => rfl,
      fun _ _ => rfl, fun _ _ _ => rfl, fun _ _ => rfl, fun _ _ => rfl⟩ d

/-- The outputs but for when their squelch began to end. -/
theorem settle_outs (d : Device) (n : Nat) : { (settle d).outOf n with clearAt := none } = { d.outOf n with clearAt := none } :=
  Steady.settle (f := fun d => { d.outOf n with clearAt := none })
    ⟨fun _ _ _ _ => rfl, fun _ _ => rfl, fun _ _ => rfl, fun _ _ _ => rfl, fun _ _ => rfl, fun _ _ => rfl, fun _ _ => rfl,
      fun _ _ => rfl, fun d m c => by
        simp only [Device.outOf, Device.setOut, amGet_amSet]
        split
        · subst_vars; rfl
        · rfl, fun _ _ => rfl, fun _ _ => rfl⟩ d

/-- Every register but those that follow the block. -/
theorem settle_rd (d : Device) {o : Nat} (h : o ∉ settleRegs) : (settle d).rd o = d.rd o :=
  Steady.settle (f := fun d => d.rd o)
    ⟨fun _ _ _ hj => Device.rd_wr_ne _ _ fun he => h (he ▸ hj), fun _ _ => rfl, fun _ _ => rfl, fun _ _ _ => rfl, fun _ _ => rfl,
      fun _ _ => rfl, fun _ _ => rfl, fun _ _ => rfl, fun _ _ _ => rfl, fun _ _ => rfl, fun _ _ => rfl⟩ d

/-- Any part is kept by `settle`. -/
theorem settle_part (p : Part) (d : Device) : p.same d (settle d) := by
  cases p <;> simp [Part.same, settle_pcie, settle_outs]

end Sys2Proof.Machine
end

