-- ==== Sys2Proof/Laws/Ops.lean ====
section
/-! SUPPORT. What the shared operations do: a command's end, the frames, fields, counters, refused accesses and requests. -/

namespace Sys2Proof.Machine

/-! ### A command's end -/

/-- A command that ends in `finish s d` completes, with whatever holds of the settled block. -/
theorem completes_of_finish {i : Instr} {s : State} {P : Device → Prop} {d : Device} (h : exec i s = finish s d) (hp : P (settle d)) :
    Completes i s P := ⟨{ s with dev := settle d }, h, rfl, hp⟩

theorem settle_fg (d : Device) (f : Fld) (h : f.off ∉ settleRegs) : (settle d).fg f = d.fg f := by
  unfold Device.fg; rw [settle_rd d h]

theorem settle_fb (d : Device) (f : Fld) (h : f.off ∉ settleRegs) : (settle d).fb f = d.fb f := by
  unfold Device.fb; rw [settle_fg d f h]

theorem settle_rn (d : Device) (o : Nat) (h : o ∉ settleRegs) : (settle d).rn o = d.rn o := by
  unfold Device.rn; rw [settle_rd d h]

@[simp] theorem settle_cntOf (d : Device) (i : Nat) : (settle d).cntOf i = d.cntOf i := by
  unfold Device.cntOf; rw [settle_cnts]

@[simp] theorem settle_now (d : Device) : (settle d).now = d.now := by
  unfold Device.now; rw [settle_tm]

/-! ### What settling sends: messages and nothing else -/

theorem pulse_out (d : Device) (s : Nat) : (d.pulse s).out = d.out := by unfold Device.pulse; split <;> rfl

theorem troughSettle_out (d : Device) : (troughSettle d).out = d.out := by
  have h : ∀ (e : Device) t, ({ e with trough := t } : Device).out = e.out := fun _ _ => rfl
  unfold troughSettle
  simp only []
  rw [h]
  apply foldl_keep (fun d : Device => d.out)
  intro a x
  split
  · exact pulse_out ..
  · rfl

theorem outSettle_out (d : Device) : (outSettle d).out = d.out := by
  unfold outSettle
  apply foldl_keep (fun d : Device => d.out)
  intro a x
  split
  · rfl
  · split <;> rfl

theorem rrSettle_out (d : Device) : (rrSettle d).out = d.out := by unfold rrSettle; split <;> rfl

theorem sendMsg_out (d : Device) (k : Nat) : (sendMsg d k).out = d.out ∨ ∃ v, (sendMsg d k).out = Output.msix v :: d.out := by
  unfold sendMsg
  simp only []
  split
  · exact .inl rfl
  · refine .inr ⟨d.fg (F.INTC_TGT_CTL_vec (16 + k)), ?_⟩
    unfold Device.emit leaveL1
    split <;> rfl

/-- Settling adds messages to what was sent, and nothing else. -/
theorem settle_out (d : Device) : ∃ ms, (settle d).out = ms ++ d.out ∧ ∀ m ∈ ms, ∃ v, m = Output.msix v := by
  have key : ∀ (l : List Nat) (e : Device), ∃ ms, (l.foldl sendMsg e).out = ms ++ e.out ∧ ∀ m ∈ ms, ∃ v, m = Output.msix v := by
    intro l
    induction l with
    | nil => exact fun e => ⟨[], rfl, by simp⟩
    | cons k t ih =>
      intro e
      obtain ⟨ms, h, hm⟩ := ih (sendMsg e k)
      rw [List.foldl_cons, h]
      rcases sendMsg_out e k with h' | ⟨v, h'⟩
      · exact ⟨ms, by rw [h'], hm⟩
      · refine ⟨ms ++ [.msix v], by simp [h'], fun m hmem => ?_⟩
        rcases List.mem_append.1 hmem with h1 | h1
        · exact hm m h1
        · exact ⟨v, by simpa using h1⟩
  obtain ⟨ms, h, hm⟩ := key ((hostTold (rrSettle (lineSettle (outSettle (troughSettle d))))).filter fun k =>
    !((rrSettle (lineSettle (outSettle (troughSettle d)))).intc.told.contains k)) (rrSettle (lineSettle (outSettle (troughSettle d))))
  refine ⟨ms, ?_, hm⟩
  have e : (rrSettle (lineSettle (outSettle (troughSettle d)))).out = d.out := by
    rw [rrSettle_out]; exact (outSettle_out _).trans (troughSettle_out d)
  rw [← e]; exact h

/-- What was sent before settling is sent after it. -/
theorem sends_settle {os : List Output} {a b : Device} (h : b.out = os ++ a.out) : Sends os a (settle b) := by
  obtain ⟨ms, h1, h2⟩ := settle_out b
  exact ⟨ms, by rw [h1, h], h2⟩

/-! ### Frames -/

theorem Part.same_refl (p : Part) (d : Device) : p.same d d := by cases p <;> simp [Part.same]

theorem Part.same_trans (p : Part) {a b c : Device} (h : p.same a b) (h' : p.same b c) : p.same a c := by
  cases p <;> simp only [Part.same] at h h' ⊢ <;>
    first
    | exact h.trans h'
    | exact fun n => (h n).trans (h' n)
    | exact ⟨h.1.trans h'.1, h.2.1.trans h'.2.1, h.2.2.1.trans h'.2.2.1, h.2.2.2.1.trans h'.2.2.2.1, h.2.2.2.2.trans h'.2.2.2.2⟩

theorem keeps_refl (ps : List Part) (rs : List Nat) (d : Device) : Keeps ps rs d d :=
  ⟨fun p _ => p.same_refl d, fun _ _ _ => rfl⟩

theorem keeps_trans {ps : List Part} {rs : List Nat} {a b c : Device} (h : Keeps ps rs a b) (h' : Keeps ps rs b c) : Keeps ps rs a c :=
  ⟨fun p hp => p.same_trans (h.1 p hp) (h'.1 p hp), fun o ho hs => (h'.2 o ho hs).trans (h.2 o ho hs)⟩

theorem keeps_settle {ps : List Part} {rs : List Nat} {a b : Device} (h : Keeps ps rs a b) : Keeps ps rs a (settle b) :=
  ⟨fun p hp => p.same_trans (h.1 p hp) (settle_part p b), fun o ho hs => (settle_rd b hs).trans (h.2 o ho hs)⟩

theorem keepsBut_settle {ps : List Part} {may : Nat → Bool} {a b : Device} (h : KeepsBut ps may a b) : KeepsBut ps may a (settle b) :=
  ⟨fun p hp => p.same_trans (h.1 p hp) (settle_part p b), fun o ho hs => (settle_rd b hs).trans (h.2 o ho hs)⟩

theorem keeps_wr (d : Device) {rs : List Nat} {o : Nat} (v : Word) (h : o ∈ rs) : Keeps [] rs d (d.wr o v) :=
  ⟨fun p _ => by cases p <;> first | rfl | exact fun _ => rfl | exact ⟨rfl, rfl, rfl, rfl, rfl⟩,
   fun _ hj _ => Device.rd_wr_ne d v fun he => hj (he ▸ h)⟩

/-! ### Fields -/

theorem Device.fb_fsb (d : Device) (f : Fld) (b : Bool) (h : f.lo + f.len ≤ 32) (h1 : 0 < f.len) : (d.fsb f b).fb f = b := by
  unfold Device.fsb Device.fb
  rw [Device.fg_fs _ _ _ h]
  obtain ⟨k, hk⟩ : ∃ k, f.len = k + 1 := ⟨f.len - 1, by omega⟩
  have : 1 < 2 ^ f.len := by rw [hk, Nat.pow_succ]; have := Nat.two_pow_pos k; omega
  cases b <;> simp [Nat.mod_eq_of_lt this]

theorem Device.fb_fsb_disj (d : Device) (f g : Fld) (b : Bool) (ho : g.off = f.off) (h : f.lo + f.len ≤ 32)
    (hd : f.lo + f.len ≤ g.lo ∨ g.lo + g.len ≤ f.lo) : (d.fsb f b).fb g = d.fb g := by
  unfold Device.fb Device.fsb; rw [Device.fg_fs_disj _ _ _ _ ho h hd]

theorem Device.fb_fsb_off (d : Device) (f g : Fld) (b : Bool) (ho : g.off ≠ f.off) : (d.fsb f b).fb g = d.fb g := by
  unfold Device.fb Device.fsb; rw [Device.fg_fs_off _ _ _ _ ho]

/-! ### Counters (R489) -/

theorem counted_cnt (d : Device) (i : Nat) : Counted i d (d.cnt i) := by
  intro j; unfold Device.cntOf Device.cnt Device.cntN; simp only [amGet_amSet]

theorem counted_settle {i : Nat} {a b : Device} (h : Counted i a b) : Counted i a (settle b) := by
  intro j; rw [settle_cntOf]; exact h j

theorem keeps_cnt (d : Device) (i : Nat) : Keeps [.cnts] [] d (d.cnt i) :=
  ⟨fun p hp => by cases p <;> first | rfl | exact fun _ => rfl | exact ⟨rfl, rfl, rfl, rfl, rfl⟩ | exact absurd (List.mem_singleton.2 rfl) hp,
   fun _ _ _ => rfl⟩

/-! ### A refused access (R546) -/

theorem keeps_fs (d : Device) {rs : List Nat} {f : Fld} (v : Nat) (h : f.off ∈ rs) : Keeps [] rs d (d.fs f v) := keeps_wr d _ h

/-- Everything a refused access changes is in GLB_ACC_ERR. -/
theorem keeps_accErr (d : Device) (kind o : Nat) : Keeps [] [R.GLB_ACC_ERR] d (accErr d kind o) := by
  have m : ∀ f : Fld, f.off = R.GLB_ACC_ERR → f.off ∈ [R.GLB_ACC_ERR] := fun f h => by simp [h]
  unfold accErr
  refine keeps_trans ?_ (keeps_fs _ _ (m _ rfl))
  split
  · exact keeps_refl ..
  · exact keeps_trans (keeps_trans (keeps_fs _ _ (m _ rfl)) (keeps_fs _ _ (m _ rfl))) (keeps_fs _ _ (m _ rfl))

/-! ### Requests (R31 to R34) -/

/-- A request that is accepted is pending under the handle that was next; one that is refused has handle 0 and changes nothing. -/
theorem request_cases (d : Device) (a : Act) (t : Inst) (notify : Bool) (tag : Nat) :
    (requestCode d a t = T.ACCEPTED ∧ request d a t notify tag = (T.ACCEPTED, d.sched.nextHandle,
      { d with sched := { pend := d.sched.pend ++ [{ handle := d.sched.nextHandle, due := t, act := a, notify, tag, stepped := false }],
                          nextHandle := nextHandle d.sched.nextHandle } })) ∨
    (requestCode d a t ≠ T.ACCEPTED ∧ request d a t notify tag = (requestCode d a t, 0, d)) := by
  unfold request
  by_cases h : requestCode d a t = T.ACCEPTED
  · exact .inl ⟨h, by simp [h]⟩
  · exact .inr ⟨h, by simp [h]⟩

/-- Whatever is requested, only the schedule changes. -/
theorem keeps_request (d : Device) (a : Act) (t : Inst) (notify : Bool) (tag : Nat) : Keeps [.sched] [] d (request d a t notify tag).2.2 := by
  rcases request_cases d a t notify tag with ⟨-, h⟩ | ⟨-, h⟩ <;> rw [h]
  · exact ⟨fun p hp => by cases p <;> first | rfl | exact fun _ => rfl | exact ⟨rfl, rfl, rfl, rfl, rfl⟩ | exact absurd (List.mem_singleton.2 rfl) hp,
      fun _ _ _ => rfl⟩
  · exact keeps_refl ..

end Sys2Proof.Machine
end

