-- ==== Sys2Proof/Laws/Flash.lean ====
section
/-! SUPPORT. The flash's host region: a read after a write, erased bytes, and the canonical form every operation keeps. -/

namespace Sys2Proof.Machine

theorem amGet_putBytes (l : List (Nat × Byte)) (off : Nat) (bs : Bytes) (k : Nat) :
    amGet 0xFF (putBytes 0xFF l off bs) k = if off ≤ k ∧ k < off + bs.length then bs.getD (k - off) 0 else amGet 0xFF l k := by
  induction bs generalizing l off with
  | nil => rw [putBytes, if_neg (by simp only [List.length_nil]; omega)]
  | cons b t ih =>
    rw [putBytes, ih, amGet_amSet]
    simp only [List.length_cons]
    by_cases h : k = off
    · subst h; rw [if_neg (by omega), if_pos rfl, if_pos (by omega), Nat.sub_self]; rfl
    · by_cases h2 : off + 1 ≤ k ∧ k < off + 1 + t.length
      · rw [if_pos h2, if_pos (by omega), show k - off = (k - (off + 1)) + 1 by omega]; rfl
      · rw [if_neg h2, if_neg h, if_neg (by omega)]

/-- A byte written reads back, and every other byte reads as before (R355, R446). -/
theorem flashAt_setFlash (d : Device) (off : Nat) (bs : Bytes) (k : Nat) :
    flashAt (setFlash d off bs) k = if off ≤ k ∧ k < off + bs.length then bs.getD (k - off) 0 else flashAt d k :=
  amGet_putBytes ..

/-- An erased page reads as all ones, and every other byte reads as before. -/
theorem flashAt_eraseFlash (d : Device) (off k : Nat) :
    flashAt (eraseFlash d off) k = if off ≤ k ∧ k < off + 4096 then 0xFF else flashAt d k := by
  unfold flashAt eraseFlash
  simp only []
  rw [amGet_filter 0xFF (fun x => !(decide (off ≤ x) && decide (x < off + 4096)))]
  by_cases h : off ≤ k ∧ k < off + 4096
  · rw [if_pos h, if_neg (by simp [h.1, h.2])]
  · rw [if_neg h, if_pos (by simp; omega)]

theorem wf_putBytes (l : List (Nat × Byte)) (off : Nat) (bs : Bytes) (h : Memory.wf l = true) : Memory.wf (putBytes 0xFF l off bs) = true := by
  induction bs generalizing l off with
  | nil => exact h
  | cons b t ih => exact ih _ _ (amWf_amSet (fun _ => (0xFF : Byte)) l off b h)

/-- A write keeps the canonical form. -/
theorem wf_setFlash (d : Device) (off : Nat) (bs : Bytes) (h : Memory.wf d.trust.flash = true) :
    Memory.wf (setFlash d off bs).trust.flash = true := wf_putBytes _ _ _ h

/-- An erase keeps the canonical form. -/
theorem wf_eraseFlash (d : Device) (off : Nat) (h : Memory.wf d.trust.flash = true) : Memory.wf (eraseFlash d off).trust.flash = true :=
  amWf_filter _ _ _ h

/-- The flash after a cold reset has it: nothing is listed. -/
theorem wf_reset : Memory.wf State.reset.dev.trust.flash = true := rfl

end Sys2Proof.Machine
end

