-- ==== Sys2Proof/Laws/Pair.lean ====
section
/-! SUPPORT. Frames of the Elvod link (R409, R411): a frame built as the partner builds it is accepted with its payload and sequence
number. -/

namespace Sys2Proof.Machine

/-- The 12-byte header of a frame. -/
def frameHead (typ flags len seq : Nat) : Bytes := leBytes 1 typ ++ (leBytes 1 flags ++ (leBytes 2 len ++ leBytes 8 seq))

/-- A frame with its CRC. -/
def frameCrc (b : Bytes) : Bytes := b ++ leBytes 4 (crcStd b).toNat

/-- A frame in the clear, and one sealed under the pairwise key. -/
def clearFrame (typ seq : Nat) (p : Bytes) : Bytes := frameCrc (frameHead typ 0 p.length seq ++ p)
def sealedFrame (k : Bytes) (typ seq : Nat) (p : Bytes) : Bytes :=
  frameCrc (frameHead typ 128 p.length seq ++ sivSeal k [frameHead typ 128 p.length seq] p)

@[simp] theorem frameHead_length (typ flags len seq : Nat) : (frameHead typ flags len seq).length = 12 := by simp [frameHead]

theorem frameCrc_body (b : Bytes) : (frameCrc b).take ((frameCrc b).length - 4) = b := by
  have : (frameCrc b).length - 4 = b.length := by simp [frameCrc]
  rw [this]; exact List.take_left' rfl

theorem frameCrc_holds (b : Bytes) : leVal ((frameCrc b).drop ((frameCrc b).length - 4)) = (crcStd b).toNat := by
  have : (frameCrc b).length - 4 = b.length := by simp [frameCrc]
  rw [this, show (frameCrc b).drop b.length = leBytes 4 (crcStd b).toNat from List.drop_left' rfl]
  exact leVal_leBytes_lt _ _ (by have := (crcStd b).isLt; omega)

theorem byte_leBytes1 (v : Nat) (t : Bytes) (h : v < 256) : byteAt (leBytes 1 v ++ t) 0 = v := by
  simp [byteAt, leBytes, Nat.mod_eq_of_lt h]

theorem frameHead_typ (typ flags len seq : Nat) (t : Bytes) (h : typ < 256) : byteAt (frameHead typ flags len seq ++ t) 0 = typ := by
  unfold frameHead
  rw [List.append_assoc]; exact byte_leBytes1 _ _ h

theorem frameHead_flags (typ flags len seq : Nat) (t : Bytes) (h : flags < 256) : byteAt (frameHead typ flags len seq ++ t) 1 = flags := by
  simp [byteAt, frameHead, leBytes, Nat.mod_eq_of_lt h]

theorem frameHead_len (typ flags len seq : Nat) (t : Bytes) (h : len < 65536) : leAt (frameHead typ flags len seq ++ t) 2 2 = len := by
  rw [leAt_append_left _ _ _ _ (by simp)]
  unfold leAt frameHead
  rw [slice_append_right _ _ _ _ (by simp), slice_append_right _ _ _ _ (by simp), slice_append_left _ _ _ _ (by simp)]
  simp only [leBytes_length, slice, List.drop_zero, show 2 - 1 - 1 = 0 from rfl]
  rw [List.take_of_length_le (by simp)]
  exact leVal_leBytes_lt _ _ (by omega)

theorem frameHead_seq (typ flags len seq : Nat) (t : Bytes) (h : seq < 2 ^ 64) : leAt (frameHead typ flags len seq ++ t) 4 8 = seq := by
  rw [leAt_append_left _ _ _ _ (by simp)]
  unfold leAt frameHead
  rw [slice_append_right _ _ _ _ (by simp), slice_append_right _ _ _ _ (by simp), slice_append_right _ _ _ _ (by simp)]
  simp only [leBytes_length, slice, List.drop_zero, show 4 - 1 - 1 - 2 = 0 from rfl]
  rw [List.take_of_length_le (by simp)]
  exact leVal_leBytes_lt _ _ (by omega)

/-- The fields of a frame are those of its body. -/
theorem frameCrc_head (typ flags len seq : Nat) (t : Bytes) :
    frameCrc (frameHead typ flags len seq ++ t) = frameHead typ flags len seq ++ (t ++ leBytes 4 (crcStd (frameHead typ flags len seq ++ t)).toNat) := by
  unfold frameCrc; rw [List.append_assoc]

/-- A sealed frame of the partner is accepted on a link that is UP. -/
theorem pairTake_sealed (d : Device) (k : Bytes) (typ seq : Nat) (p : Bytes) (hk : d.trust.pairKey = some k) (hl : k.length = 64)
    (hu : linkUp d = true) (ht : 3 ≤ typ) (ht' : typ < 256) (hp : p.length < 65536) (hs : d.pair.rxSeq < seq) (hs' : seq < 2 ^ 64) :
    (pairTake d typ (sealedFrame k typ seq p)).1 = some (p, seq) := by
  unfold pairTake sealedFrame
  dsimp only
  rw [frameCrc_body, frameCrc_holds]
  have hlen : ¬ (frameCrc (frameHead typ 128 p.length seq ++ sivSeal k [frameHead typ 128 p.length seq] p)).length < 16 := by simp [frameCrc]; omega
  rw [if_neg (by simp only [hlen, ne_eq, not_true_eq_false, or_self, not_false_eq_true])]
  simp only [frameCrc_head, frameHead_typ _ _ _ _ _ ht', frameHead_flags _ _ _ _ _ (show 128 < 256 by decide), frameHead_len _ _ _ _ _ hp,
    frameHead_seq _ _ _ _ _ hs']
  rw [show ((frameHead typ 128 p.length seq ++ sivSeal k [frameHead typ 128 p.length seq] p).drop 12) = sivSeal k [frameHead typ 128 p.length seq] p
    from List.drop_left' (frameHead_length _ _ _ _)]
  simp only [List.take_left' (frameHead_length typ 128 p.length seq), hk, hu, ht, sivOpen_sivSeal _ _ _ hl]
  simp [hs, show Nat.testBit 128 7 = true from rfl]

/-- A HELLO or a QUOTE of the partner is accepted. -/
theorem pairTake_clear (d : Device) (typ seq : Nat) (p : Bytes) (ht : typ < 3) (hp : p.length < 65536) (hs : d.pair.rxSeq < seq)
    (hs' : seq < 2 ^ 64) : (pairTake d typ (clearFrame typ seq p)).1 = some (p, seq) := by
  unfold pairTake clearFrame
  dsimp only
  rw [frameCrc_body, frameCrc_holds]
  have hlen : ¬ (frameCrc (frameHead typ 0 p.length seq ++ p)).length < 16 := by simp [frameCrc]; omega
  rw [if_neg (by simp only [hlen, ne_eq, not_true_eq_false, or_self, not_false_eq_true])]
  simp only [frameCrc_head, frameHead_typ _ _ _ _ _ (show typ < 256 by omega), frameHead_flags _ _ _ _ _ (show 0 < 256 by decide),
    frameHead_len _ _ _ _ _ hp, frameHead_seq _ _ _ _ _ hs']
  rw [show ((frameHead typ 0 p.length seq ++ p).drop 12) = p from List.drop_left' (frameHead_length _ _ _ _)]
  simp [hs, ht]

end Sys2Proof.Machine
end

