-- ==== Sys2Proof/Tests/Slice0.lean ====
section
/-! SUPPORT. Tests: an ill-formed command for each check of WellFormed.lean; worked examples of the spec; and for every part X of the
statements that has hypotheses a theorem wit_X whose concrete states meet them. -/

open Sys2Proof Sys2Proof.Machine

namespace Sys2Proof.Tests

set_option Elab.async false

/-- Every domain on, Device Time set and valid at 2,000,000,000 s. -/
def on : Device :=
  ({ Device.init with tm := { TimeSt.init with sec := 2000000000#48 },
                      pcie := { Pcie.init with perstLow := false, linkUp := true, bme := true } }.wn
    R.PWR_PD_STATUS 0x0FFF0000).wn R.TB_STATUS 2

/-- A state of the block with no command waiting. -/
def st (d : Device) : State := { pending := [], dev := d }

/-! ### An ill-formed command for each check of WellFormed.lean, which the check refuses -/

theorem test_illFormed_1 :
    Instr.wf (.axinEdge 2 false 0) = false ∧
    Instr.wf (.axinEdge 0 false 125) = false ∧
    Instr.wf (.axisEdgeTimeout 2) = false ∧
    Instr.wf (.axisCfgWrite 2 0) = false ∧
    Instr.wf (.axisCycleRead 2) = false ∧
    Instr.wf (.axisCycleSet 2 0) = false ∧
    Instr.wf (.axisRequestCommit 2) = false ∧
    Instr.wf (.poolQuotaWrite 9 0) = false ∧
    Instr.wf (.poolUsedRead 9) = false ∧
    Instr.wf (.slcQueueRead 12) = false ∧
    Instr.wf (.laneTakeItem 12) = false ∧
    Instr.wf (.ovenKatDone 24 false) = false := by
  decide

theorem test_illFormed_2 :
    Instr.wf (.unitEnable (.ref 32)) = false ∧
    Instr.wf (.unitDrain (.ref 32)) = false ∧
    Instr.wf (.unitCut (.ref 32)) = false ∧
    Instr.wf (.drainToCut (.ref 32)) = false ∧
    Instr.wf (.unitDrained (.ref 32)) = false ∧
    Instr.wf (.domainReleased 4) = false ∧
    Instr.wf (.portFrameReceive 16 0 false false 0 0 []) = false ∧
    Instr.wf (.portFrameReceive 0 125 false false 0 0 []) = false ∧
    Instr.wf (.mgmtFrameReceive 125 false false []) = false ∧
    Instr.wf (.saWrite 256) = false ∧
    Instr.wf (.saRead 256) = false ∧
    Instr.wf (.saInvalidate 256) = false := by
  decide

theorem test_illFormed_3 :
    Instr.wf (.peelBook 17 0 0 0 0 false) = false ∧
    Instr.wf (.peelBook 0 0 0 0 8 false) = false ∧
    Instr.wf (.wheelSlotCascade 17) = false ∧
    Instr.wf (.farListRelease 17) = false ∧
    Instr.wf (.peelCalDone 16) = false ∧
    Instr.wf (.peelCalCheck 16) = false ∧
    Instr.wf (.gclChange 16) = false ∧
    Instr.wf (.peelLpiWake 17) = false ∧
    Instr.wf (.streamOpen 256 0 0 0 0) = false ∧
    Instr.wf (.streamData 256 0 []) = false ∧
    Instr.wf (.streamFin 256 0) = false ∧
    Instr.wf (.streamReset 256 0) = false := by
  decide

theorem test_illFormed_4 :
    Instr.wf (.ovenMismatch 24) = false ∧
    Instr.wf (.ovenSelfTest 24 false) = false ∧
    Instr.wf (.syncEmit 8 0 none) = false ∧
    Instr.wf (.syncEmit 0 16 none) = false ∧
    Instr.wf (.ptpAnnounceSend 8 0 none) = false ∧
    Instr.wf (.ptpAnnounceSend 0 16 none) = false ∧
    Instr.wf (.ptpRequestSend 8 0) = false ∧
    Instr.wf (.ptpRequestSend 0 16) = false ∧
    Instr.wf (.ptpUnicastRenew 8) = false ∧
    Instr.wf (.ptpAnnounceTimeout 8) = false ∧
    Instr.wf (.ptpInstanceEnable 8) = false ∧
    Instr.wf (.ptpProfileWrite 8 0) = false := by
  decide

theorem test_illFormed_5 :
    Instr.wf (.ptpProfileWrite 0 16) = false ∧
    Instr.wf (.portModeWrite 17 0) = false ∧
    Instr.wf (.portEnable 17) = false ∧
    Instr.wf (.portStatClear 17) = false ∧
    Instr.wf (.portLpiEnable 17 false) = false ∧
    Instr.wf (.portLpiWrite 17 0) = false ∧
    Instr.wf (.portSynceWrite 17 0) = false ∧
    Instr.wf (.linkUp 17 0) = false ∧
    Instr.wf (.linkDown 17 false false false) = false ∧
    Instr.wf (.rxCalDone 16) = false ∧
    Instr.wf (.rxCalCheck 16) = false ∧
    Instr.wf (.portStatRead 17 0) = false := by
  decide

theorem test_illFormed_6 :
    Instr.wf (.portStatRead 0 42) = false ∧
    Instr.wf (.esmcReceive 16 []) = false ∧
    Instr.wf (.esmcRxTimeout 16) = false ∧
    Instr.wf (.esmcInfoSend 16) = false ∧
    Instr.wf (.esmcEventSend 16) = false ∧
    Instr.wf (.refRawComparison 32 0) = false ∧
    Instr.wf (.refEnable 32) = false ∧
    Instr.wf (.refDisable 32 false) = false ∧
    Instr.wf (.refRequal 32) = false ∧
    Instr.wf (.refPhaseRead 32) = false ∧
    Instr.wf (.ntpPollSend 32) = false ∧
    Instr.wf (.ntpUpstreamResponse 32 0 0 0 [] 0) = false := by
  decide

theorem test_illFormed_7 :
    Instr.wf (.ntpUpstreamResponse 0 17 0 0 [] 0) = false ∧
    Instr.wf (.gnssLevelCheck [] (List.replicate 4 0)) = false ∧
    Instr.wf (.gnssLevelCheck (List.replicate 4 0) []) = false ∧
    Instr.wf (.gnssModeWrite 2) = false ∧
    Instr.wf (.ticEdge 9 0) = false ∧
    Instr.wf (.ticEdge 0 512) = false ∧
    Instr.wf (.ticPairOverflow 4) = false ∧
    Instr.wf (.ticPairEnable 4) = false ∧
    Instr.wf (.ticChannelEnable 8) = false ∧
    Instr.wf (.ticLineCalDone 9 (List.replicate 512 0) 0) = false ∧
    Instr.wf (.ticLineCalDone 0 [] 0) = false ∧
    Instr.wf (.ticPairLastRead 4) = false := by
  decide

theorem test_illFormed_8 :
    Instr.wf (.pllLockWindow (2 ^ 17)) = false ∧
    Instr.wf (.pllRelockAttempt 3 false) = false ∧
    Instr.wf (.foutStart 4) = false ∧
    Instr.wf (.toutStart 8) = false ∧
    Instr.wf (.outputPhaseCheck 12 0) = false ∧
    Instr.wf (.outEventExecute 8) = false ∧
    Instr.wf (.squelchEnd 12) = false ∧
    Instr.wf (.batchStage 256 (zeros 32) none) = false ∧
    Instr.wf (.batchStage 0 [] none) = false ∧
    Instr.wf (.batchCheck 256 (zeros 32)) = false ∧
    Instr.wf (.batchCheck 0 []) = false ∧
    Instr.wf (.batchCommit 256 (zeros 32) false) = false := by
  decide

theorem test_illFormed_9 :
    Instr.wf (.batchCommit 0 [] false) = false ∧
    Instr.wf (.batchCancel 256 (zeros 32)) = false ∧
    Instr.wf (.batchCancel 0 []) = false ∧
    Instr.wf (.fwStage 256 (zeros 32) none false) = false ∧
    Instr.wf (.fwStage 0 [] none false) = false ∧
    Instr.wf (.fwCommit 256 (zeros 32) false) = false ∧
    Instr.wf (.fwCommit 0 [] false) = false ∧
    Instr.wf (.fwConfirm 256 (zeros 32)) = false ∧
    Instr.wf (.fwConfirm 0 []) = false ∧
    Instr.wf (.claimNonce 256 (zeros 32)) = false ∧
    Instr.wf (.claimNonce 0 []) = false ∧
    Instr.wf (.quote 256 (zeros 32) none false) = false := by
  decide

theorem test_illFormed_10 :
    Instr.wf (.quote 0 [] none false) = false ∧
    Instr.wf (.certRead 256 (zeros 32) false) = false ∧
    Instr.wf (.certRead 0 [] false) = false ∧
    Instr.wf (.tlsPubkey 256 (zeros 32) false) = false ∧
    Instr.wf (.tlsPubkey 0 [] false) = false ∧
    Instr.wf (.flashRead 256 (zeros 32) false) = false ∧
    Instr.wf (.flashRead 0 [] false) = false ∧
    Instr.wf (.flashWrite 256 (zeros 32) none false) = false ∧
    Instr.wf (.flashWrite 0 [] none false) = false ∧
    Instr.wf (.flashErase 256 (zeros 32) false) = false ∧
    Instr.wf (.flashErase 0 [] false) = false ∧
    Instr.wf (.timedWrite 256 (zeros 32)) = false := by
  decide

theorem test_illFormed_11 :
    Instr.wf (.timedWrite 0 []) = false ∧
    Instr.wf (.cancel 256 (zeros 32)) = false ∧
    Instr.wf (.cancel 0 []) = false ∧
    Instr.wf (.ctRead 256 (zeros 32) false) = false ∧
    Instr.wf (.ctRead 0 [] false) = false ∧
    Instr.wf (.grantRead 256 (zeros 32) false) = false ∧
    Instr.wf (.grantRead 0 [] false) = false ∧
    Instr.wf (.tamperSensor 6) = false ∧
    Instr.wf (.pkeJobSubmit 5 0 [] []) = false ∧
    Instr.wf (.pkeJobSubmit 0 256 [] []) = false ∧
    Instr.wf (.pkeCoreSelfTest 64 false) = false ∧
    Instr.wf (.pkeCoreEnable 2 0) = false := by
  decide

theorem test_illFormed_12 :
    Instr.wf (.fenceChange 4) = false ∧
    Instr.wf (.sqDoorbell 256 0) = false ∧
    Instr.wf (.cqDoorbell 256 0) = false ∧
    Instr.wf (.frameTxSend 256 (zeros 32) .later) = false ∧
    Instr.wf (.frameTxSend 0 [] .later) = false ∧
    Instr.wf (.frameRxBuf 256 0 false) = false ∧
    Instr.wf (.frameRxBuf 0 65536 false) = false ∧
    Instr.wf (.streamRxbuf 256 0 false) = false ∧
    Instr.wf (.streamRxbuf 0 65536 false) = false ∧
    Instr.wf (.recordBuf 256 0 false) = false ∧
    Instr.wf (.recordBuf 0 65536 false) = false ∧
    Instr.wf (.bufferTimeout 256) = false := by
  decide

theorem test_illFormed_13 :
    Instr.wf (.ringModTimer 256) = false ∧
    Instr.wf (.ringEnable 256) = false ∧
    Instr.wf (.ringDisable 256 false []) = false ∧
    Instr.wf (.pf0DStateChange 1 false false false false) = false ∧
    Instr.wf (.msixHoldRelease 16) = false ∧
    Instr.wf (.perstRelease 8 0) = false ∧
    Instr.wf (.perstRelease 0 16) = false ∧
    Instr.wf (.pcieLinkReturn 8 0) = false ∧
    Instr.wf (.pcieLinkReturn 0 16) = false ∧
    Instr.wf (.intcSourceEvent 1024 false) = false ∧
    Instr.wf (.intcClaimRead 32) = false ∧
    Instr.wf (.intcEoi 32 0) = false := by
  decide

theorem test_illFormed_14 :
    Instr.wf (.intcSetPending 32 0) = false ∧
    Instr.wf (.intcClearPending 32 0) = false ∧
    Instr.wf (.intcSrcCfgWrite 1024 0) = false ∧
    Instr.wf (.intcRrTimeout 1024) = false ∧
    Instr.wf (.engineInterruptEntry 16) = false ∧
    Instr.wf (.engineInterruptReturn 16) = false ∧
    Instr.wf (.histValue 256 none) = false ∧
    Instr.wf (.histWindowEnd 256) = false ∧
    Instr.wf (.histTimedBoundary 256) = false ∧
    Instr.wf (.sampleRecord 16 0 0 0 0 false 0 0) = false ∧
    Instr.wf (.sampleRecord 0 4 0 0 0 false 0 0) = false ∧
    Instr.wf (.porRelease 32) = false := by
  decide

theorem test_illFormed_15 :
    Instr.wf (.faultStopEnter 7) = false ∧
    Instr.wf (.faultStopEnter 11) = false ∧
    Instr.wf (.registerWrite 0x40000 0 false []) = false ∧
    Instr.wf (.registerWrite 2 0 false []) = false ∧
    Instr.wf (.axisRequest 2 0 0 .snapshot) = false ∧
    Instr.wf (.todMessageReceive 8 []) = false ∧
    Instr.wf (.pkeKatDone 64 false) = false ∧
    Instr.wf (.txLpiEntry 17) = false ∧
    Instr.wf (.partnerLpiChange 17 false) = false := by
  decide

theorem test_illFormed_units :
    UnitId.inRange (.slc 12) = false ∧ UnitId.inRange (.ptp 8) = false ∧ UnitId.inRange (.port 17) = false ∧ UnitId.inRange (.ref 32) = false ∧ UnitId.inRange (.ticCh 8) = false ∧ UnitId.inRange (.ticPair 4) = false ∧ UnitId.inRange (.tout 8) = false ∧ UnitId.inRange (.fout 4) = false ∧ UnitId.inRange (.ring 256) = false ∧ UnitId.inRange (.hist 256) = false := by
  decide

/-! ### Worked examples of the spec -/

/-- R568: the CRC-32C check value of the spec. -/
theorem test_crc32c : crcStd (([0x31, 0x32, 0x33, 0x34, 0x35, 0x36, 0x37, 0x38, 0x39] : List Nat).map (BitVec.ofNat 8)) = 0xE3069283#32 := by decide +kernel

/-- spec/19_register_map.md, example: two offsets. -/
theorem test_offsets : R.REF_PHASE_LO 31 = 0x9FA8 ∧ R.CLS_PTPP_ASYM 5 = 0x1AD4C := by decide

/-- The same example: the 2-byte write is discarded and recorded as SIZE, with its offset. -/
theorem test_badSize : ((xRegisterWrite 0x1AD4C 0xFFFF#32 false [] on).fg F.GLB_ACC_ERR_kind, (xRegisterWrite 0x1AD4C 0xFFFF#32 false [] on).fg F.GLB_ACC_ERR_offset,
    (xRegisterWrite 0x1AD4C 0xFFFF#32 false [] on).fg F.GLB_ACC_ERR_count) = (1, 0x1AD4C, 1) := by decide +kernel

/-- R497, spec/17_monitoring.md, example: the bins of five values. -/
theorem test_bins : [1200, 1203, 1204, 1350, 2549].map (binOf true 1200 4) = [0, 0, 1, 6, 9] := by decide

/-- R108, spec/03_serving_pipeline.md, example, end of window 0: the boundary and the quotas. -/
theorem test_admissionQuotas : quotaLoop [48, 1500, 120, 400, 12] [0, 0, 0, 0, 0] 2 [0, 1, 2, 3, 4] 1918 = (3, [none, none, none, some 250, some 2]) := by decide

/-- The same, end of window 1, with the 2 that were carried. -/
theorem test_admissionCarry : quotaLoop [48, 1500, 120, 400, 12] [0, 0, 0, 2, 0] 2 [0, 1, 2, 3, 4] 1918 = (3, [none, none, none, some 252, some 2]) := by decide

/-- R157, spec/05_nts.md, example: the next automatic instant. -/
theorem test_nextRotation : nextAuto ((on.fs F.OVN_STARTER_PERIOD 86400).wn R.OVN_STARTER_GEN 41 |> fun d => { d with tm := { d.tm with sec := 1802995140#48 } }) = 1802995200 := by
  decide +kernel

/-- Port 0 at 25 Gb/s with its first launch point 0.30 ns after the second, at a second boundary. -/
def grid25 : Device := { on.fs (F.PORT_MODE_grp 0) 1 with peel := { on.peel with laneOff := [(0, [300 * psU])] } }

/-- R140, spec/04_peel.md, example: points 79,532 and 80,059, and the point before the first falls short; level 1 of the wheels. -/
theorem test_launchPoints : portMode grid25 0 = 1 ∧ ptTime 1 [300 * psU] 79532 = 203602220 * psU ∧ ptTime 1 [300 * psU] 79531 = 203599660 * psU ∧
    ptTime 1 [300 * psU] 80059 = 204951340 * psU := by decide +kernel

/-- R125, the same example: booked 2,161 ticks ahead, the frame goes to level 1, tick 162,881. -/
theorem test_wheelLevel : wheelPlace { on with tm := { on.tm with ns := 200900#30, ticks := 160720 } } (2000000000 * secU + 203602220 * psU) = (1, 162881) := by
  decide +kernel

/-- R306, R307, spec/10_tic.md, example: the edges of TIN1 and TIN0, 28 ticks apart; the value is -2,267,136 units. -/
theorem test_interval : -(interval ⟨1, 0, 0, phiLen on 22000, 0, 22000, 0⟩ ⟨0, 28, 35 * nsU, phiLen on 9000, 0, 9000, 0⟩) / (subU : Rat) = -2267136 := by decide +kernel

/-- A leap of one second to be inserted at 2,000,086,400 s, smeared over 86,400 s in END mode, a quarter into its window. -/
def quarter : Device :=
  { ((on.set1 F.TB_SMEAR_CTL_enable).clr F.TB_SMEAR_CTL_mode).fs F.TB_SMEAR_WIN 86400 with
    tm := { on.tm with leap := some [⟨0, 37⟩, ⟨2000086400, 38⟩], sec := 2000021600#48 } }

/-- R29, spec/01_device_time.md, example: smeared time is 0.25 s behind UTC, which is 2^30 in the fraction of an NTP timestamp. -/
theorem test_smear : ntpOf quarter quarter.now = ntpSmeared quarter quarter.now + 2 ^ 30 := by decide +kernel

/-- A client's entry after `k` answered requests of profile 0. -/
def entry101 (d : Device) (k : Nat) : CtEntry :=
  { CtEntry.init with valid := true, tag := ctTag d 0xC0000201, lastSec := 2000000000#32, tat := BitVec.ofNat 64 (in62 (2000000000 * secU) + k * 16000000) }
def seeded : Device := (on.set1 F.CLS_CT_CTL_en).wn R.CLS_CT_SEED 5
def client101 (k : Nat) : Device := { seeded with cls := { seeded.cls with ct := [(ctIndex seeded 0xC0000201, entry101 seeded k)] } }

/-- R101, spec/03_serving_pipeline.md, example: request 15 of 20, 1 ms apart, is within the limit, request 16 over it with a KoD allowed. -/
theorem test_rateLimit : (foldClient (client101 15) 0xC0000201 (2000000000 * secU + 15 * 1000000 * nsU) 0 false false).1 = .within ∧
    (foldClient (client101 16) 0xC0000201 (2000000000 * secU + 16 * 1000000 * nsU) 0 false false).1 = .overKodOk := by decide +kernel

/-! ### Device Time -/

/-- Just before a second, and at one. -/
def lateSec : Device := { on with tm := { on.tm with ns := 999999999#30 } }

theorem wit_TickAddsIncrement : on.powered 8 = true ∧ TimeOk (st on) ∧ on.tm.ns.toNat < 1000000000 ∧ lateSec.powered 8 = true ∧
    TimeOk (st lateSec) ∧ lateSec.tm.ns.toNat < 1000000000 ∧ 1000000000 * 2 ^ 48 ≤ lateSec.tm.ns.toNat * 2 ^ 48 + lateSec.tm.frac.toNat + lateSec.tm.incr.toNat := by
  decide +kernel

def manual : Device := on.set1 F.TB_TBC_manual

theorem wit_TicksAddUp : on.powered 8 = true ∧ TimeOk (st on) ∧ on.tm.commit = none ∧ on.tm.now + 5 * on.tm.incr.toNat * 125 < 2 ^ 48 * secU := by decide +kernel

theorem wit_IncrementWrites : Reach (st manual) R.TB_INCR_LO ∧
    Reach (st manual) R.TB_INCR_HI ∧ manual.fb F.TB_TBC_manual = true ∧ on.fb F.TB_TBC_manual = false ∧ Reach (st on) R.TB_INCR_LO ∧
    incrInRange (BitVec.ofNat 56 (bits 0x14000 0 24 * 2 ^ 32 + manual.tm.stagedLo.toNat)).toNat = true ∧
    incrInRange (BitVec.ofNat 56 (bits 0 0 24 * 2 ^ 32 + manual.tm.stagedLo.toNat)).toNat = false := by decide +kernel

/-- An entry staged that is not at midnight; the table staged under sealed_only. -/
def badLeap : Device := (on.wn (R.TB_LEAP_LO 0) 100).wn (R.TB_LEAP_HI 0) 0x80250000
def sealedLeap : Device := on.set1 F.TB_LEAP_CTL_sealed_only

theorem wit_LeapCommits : Reach (st on) R.TB_LEAP_CTL ∧ on.fb F.TB_LEAP_CTL_sealed_only = false ∧ leapCheck on (stagedLeap on) true = 0 ∧
    leapCheck on (stagedLeap on) false = 0 ∧ Reach (st badLeap) R.TB_LEAP_CTL ∧ badLeap.fb F.TB_LEAP_CTL_sealed_only = false ∧
    leapCheck badLeap (stagedLeap badLeap) true ≠ 0 ∧ leapCheck badLeap (stagedLeap badLeap) false ≠ 0 ∧
    Reach (st sealedLeap) R.TB_LEAP_CTL ∧ sealedLeap.fb F.TB_LEAP_CTL_sealed_only = true := by decide +kernel

/-- A table in force with a leap an hour ahead, a table that waits, and an expiry that has passed; its smear is enabled. -/
def leaping : Device :=
  { on.fs F.TB_LEAP_CTL_src 0 with tm := { on.tm with leap := some [⟨1900000000, 37⟩, ⟨2000003600, 38⟩], leapNext := some ([⟨0, 37⟩], 2000000000, false), expiry := 1 } }
def smearing : Device := (leaping.set1 F.TB_SMEAR_CTL_enable).fs F.TB_SMEAR_WIN 86400

theorem wit_LeapTableFollows : TimeOk (st leaping) ∧ leaping.tm.leapNext = some ([⟨0, 37⟩], 2000000000, false) ∧ 2000000000 ≤ leaping.nowSec ∧
    nextLeap leaping = some (2000003600, 37, 38) ∧ 2000003600 + 37 - 38 - 86400 ≤ leaping.nowSec ∧ nextLeap on = none ∧ leapSrc leaping = 0 ∧
    leaping.tm.expiry ≠ 0 ∧ leaping.tm.expiry * secU < leaping.now := by decide +kernel

theorem wit_LeapExpiry : Reach (st on) R.TB_LEAP_EXPIRY_LO ∧ on.fb F.TB_LEAP_CTL_sealed_only = false ∧
    Reach (st sealedLeap) R.TB_LEAP_EXPIRY_LO ∧ sealedLeap.fb F.TB_LEAP_CTL_sealed_only = true ∧ (0#32).toNat = sealedLeap.tm.expiry % 2 ^ 32 ∧
    (1#32).toNat ≠ sealedLeap.tm.expiry % 2 ^ 32 := by decide +kernel

theorem wit_SatelliteUtc : leapSrc leaping = 0 ∧ (0 < 3 ∧ 1 < 3 ∧ 2 < 3) := by decide +kernel

theorem wit_Smear : Reach (st on) R.TB_SMEAR_CTL ∧ smearDenied on = false ∧ Reach (st on) R.TB_SMEAR_WIN ∧ 3600 ≤ bits 0x10000 0 18 ∧
    bits 0x10000 0 18 ≤ 172800 ∧ Reach (st smearing) R.TB_SMEAR_CTL ∧ smearDenied smearing = true ∧ (0x80000000#32).getLsbD 31 = true ∧
    TimeOk (st smearing) ∧ smearNow smearing = true ∧ TimeOk (st on) ∧ smearNow on = false := by decide +kernel

/-- Axis 0 locked, in CYCLE mode, with a period of 1 ms and its last edge at 2,000,000,000 s; and 2 ms later. -/
def locked : Device :=
  { (((on.set1 (F.AXIS_CFG_enable 0)).fs (F.AXIS_CFG_tol 0) 16).fs (F.AXIS_STATUS_state 0) 2).wn (R.AXIS_PERIOD_NS 0) 1000000 with
    axis0 := { Axis.init with lastEdge := 2000000000 * (secU : Int), cycleEdge := 2000000000 * (secU : Int), lastReal := 2000000000 * (secU : Int) } }
def after2 : Device := { locked with tm := { locked.tm with ns := 2000000#30 } }

theorem wit_AxisEdges : TimeOk (st locked) ∧ axisEncoder locked 0 = false ∧ locked.fb (F.AXIS_CFG_enable 0) = true ∧
    locked.fb (F.AXIS_CFG_edge 0) = !true ∧ axisRuns locked 0 = true ∧
    ((((locked.stamp (min 124 0) - locked.rs (R.AXIS_DELAY 0) * nsU : Int) - (locked.axis 0).lastEdge : Int) : Rat) * 256 <
      ((256 - axisTol locked 0 : Nat) : Rat) * axisStep locked 0) ∧
    TimeOk (st after2) ∧ axisEncoder after2 0 = false ∧ after2.fb (F.AXIS_CFG_enable 0) = true ∧
    after2.fb (F.AXIS_CFG_edge 0) = !true ∧ axisRuns after2 0 = true ∧
    ¬ ((((after2.stamp (min 124 0) - after2.rs (R.AXIS_DELAY 0) * nsU : Int) - (after2.axis 0).lastEdge : Int) : Rat) * 256 <
      ((256 - axisTol after2 0 : Nat) : Rat) * axisStep after2 0) := by decide +kernel

/-- The same with a limit of 1 miss. -/
def lastMiss : Device := after2.fs (F.AXIS_CFG_miss_limit 0) 1
def moreMiss : Device := after2.fs (F.AXIS_CFG_miss_limit 0) 3

theorem wit_AxisMisses : TimeOk (st moreMiss) ∧ axisEncoder moreMiss 0 = false ∧ axisRuns moreMiss 0 = true ∧
    ((256 + axisTol moreMiss 0 : Nat) : Rat) * axisStep moreMiss 0 ≤ ((((moreMiss.now : Int) - (moreMiss.axis 0).lastEdge) : Int) : Rat) * 256 ∧
    moreMiss.fg (F.AXIS_STATUS_misses 0) < 31 ∧ moreMiss.fg (F.AXIS_STATUS_misses 0) + 1 < max 1 (moreMiss.fg (F.AXIS_CFG_miss_limit 0)) ∧
    TimeOk (st lastMiss) ∧ axisEncoder lastMiss 0 = false ∧ axisRuns lastMiss 0 = true ∧
    ((256 + axisTol lastMiss 0 : Nat) : Rat) * axisStep lastMiss 0 ≤ ((((lastMiss.now : Int) - (lastMiss.axis 0).lastEdge) : Int) : Rat) * 256 ∧
    lastMiss.fg (F.AXIS_STATUS_misses 0) < 31 ∧ max 1 (lastMiss.fg (F.AXIS_CFG_miss_limit 0)) ≤ lastMiss.fg (F.AXIS_STATUS_misses 0) + 1 := by
  decide +kernel

theorem wit_AxisControl : Reach (st on) (R.AXIS_CFG 1) ∧ axisEncoder on 0 = false ∧ bits 0x80000000 10 2 ≠ 1 ∧
    on.fb (F.AXIS_CFG_enable 1) = false ∧ (0x80000000#32).getLsbD 31 = true ∧ bits 0 10 2 ≠ 1 ∧ (0#32).getLsbD 31 = false ∧
    Reach (st on) (R.AXIS_CYCLE_SET 1) := by decide +kernel

/-- A request for the next cycle is held. -/
def asking : Device :=
  { locked with axis0 := { locked.axis0 with reqs := [{ id := 7, cycle := locked.rd (R.AXIS_CYCLE 0) + 1, phase := 0, act := .snapshot, fixed := none }] } }

theorem wit_AxisRequests : axisRuns locked 0 = true ∧ 0 < (5#32 - locked.rd (R.AXIS_CYCLE 0)).toNat ∧
    (5#32 - locked.rd (R.AXIS_CYCLE 0)).toNat ≤ 65536 ∧ (locked.axis 0).reqs.length < 256 ∧ (0#32 - locked.rd (R.AXIS_CYCLE 0)).toNat = 0 ∧
    65536 < (0x20000#32 - locked.rd (R.AXIS_CYCLE 0)).toNat ∧ (0x20000#32 - locked.rd (R.AXIS_CYCLE 0)).toNat < 2 ^ 31 ∧
    axisRuns asking 0 = true ∧ (asking.axis 0).reqs = [{ id := 7, cycle := 1, phase := 0, act := .snapshot, fixed := none }] ∧
    (1#32) = asking.rd (R.AXIS_CYCLE 0) + 1 ∧
    requestCode asking .snapshot (axisInstant (asking.axis 0).cycleEdge (axisP asking 0) 0) = T.ACCEPTED := by decide +kernel

/-! ### Units, ports and the Peel -/

/-- Every clock locked. -/
def o1 : Device := on.wn R.PWR_PLL_STATUS 0x1FFFF

def smpOn : Device := on.set1 F.SAMPLE_CTL_en
def smpDrain : Device := { on with stopping := [(R.SAMPLE_CTL, false)] }
def slcOn : Device := on.set1 (F.SLC_CTL_en 3)

theorem wit_UnitWords : Reach (st on) (UnitId.ctl .sample) ∧ on.down .sample = true ∧ on.stopOf .sample = none ∧
    Reach (st smpOn) (UnitId.ctl .sample) ∧ smpOn.fb (UnitId.en .sample) = true ∧ smpOn.stopOf .sample = none ∧
    Reach (st slcOn) (R.SLC_CTL 3) ∧ slcOn.fb (F.SLC_CTL_en 3) = true ∧ slcOn.stopOf (.slc 3) = none ∧
    Reach (st smpDrain) R.SAMPLE_CTL ∧ smpDrain.stopOf .sample = some false ∧ smpDrain.fb F.SAMPLE_CTL_en = false := by decide +kernel

theorem wit_UnitDrains : UnitId.inRange .sample = true ∧ (smpDrain.stopOf .sample).isSome = true ∧ smpDrain.fb (UnitId.en .sample) = false ∧
    unitIdle .sample smpDrain = true ∧ drnSource .sample = some S.DRN_SAMPLE ∧ (∀ n, UnitId.sample ≠ .tout n) ∧ (∀ m, UnitId.sample ≠ .fout m) :=
  ⟨by decide, by decide +kernel, by decide +kernel, by decide, rfl, by simp, by simp⟩

theorem wit_PoolQuotas : Reach (st on) (R.TROUGH_POOL_QUOTA 0) ∧ quotaErr on 0 (bits 0x08000400 0 16) (bits 0x08000400 16 16) = 0 ∧ poolPolicy on 0 ≠ 1 ∧
    bits 0x00000001 16 16 < bits 0x00000001 0 16 ∧ quotaErr on 0 (bits 0x3F003F00 0 16) (bits 0x3F003F00 16 16) = 2 := by decide +kernel

def pdAsked : Device := (on.set1 ⟨R.PWR_PD_CTL, 0, 1⟩).set1 (F.SLC_CTL_en 0)
def pdWaits : Device := (on.set1 ⟨R.PWR_PD_CTL, 0, 1⟩).fs F.PWR_PD_STATUS_powered 2

theorem wit_PowerDomains : Reach (st on) R.PWR_PD_CTL ∧ (∀ b, b < 4 → on.fb ⟨R.PWR_PD_CTL, b, 1⟩ = true → (0xF#32).getLsbD b = true) ∧
    Reach (st pdAsked) R.PWR_PD_CTL ∧ pdAsked.fb ⟨R.PWR_PD_CTL, 0, 1⟩ = true ∧ pdMayOff pdAsked 0 = false ∧
    pdWaits.powered 1 = true ∧ pdWaits.fb ⟨R.PWR_PD_CTL, 0, 1⟩ = true ∧ pdWaits.powered (pdOf 0) = false := by decide +kernel

def noSla : Device := on.fs F.PWR_PD_STATUS_powered 2

theorem wit_QueueAndEntryReads : Reach (st on) (R.TROUGH_POOL_USED 8) ∧ Reach (st on) (R.SLC_QUEUE 11) ∧ slcPowered on 11 = true ∧
    Reach (st noSla) (R.SLC_QUEUE 0) ∧ slcPowered noSla 0 = false ∧ Reach (st on) R.CLS_SA_CMD ∧ saBusy on = false := by decide +kernel

def saWaits : Device := { on.set1 F.CLS_SA_CMD_busy with cls := { on.cls with saPend := some (3, SaEntry.init) } }

theorem wit_ServiceAddresses : Reach (st on) R.CLS_SA_CMD ∧ saBusy on = false ∧ saBusy saWaits = true ∧
    saWaits.cls.saPend = some (3, SaEntry.init) := by decide +kernel

/-- Port 0 enabled with its MAC address, up and calibrated both ways; the Peel runs; and the management port. -/
def port0 : Device :=
  ((((((((o1.set1 (F.PORT_CTL_en 0)).clr (F.PORT_CTL_drained 0)).wn (R.PORT_MAC_LO 0) 0x5E000001).set1 F.PEEL_CTL_en).clr F.PEEL_CTL_drained).set1
    (F.PORT_STATUS_link_up 0)).fs (F.PORT_STATUS_rx_cal 0) 2).fs (F.PEEL_P_STATUS_cal 0) 2)
def port16 : Device :=
  ((((o1.set1 (F.PORT_CTL_en 16)).clr (F.PORT_CTL_drained 16)).set1 (F.PORT_STATUS_link_up 16)).fs (F.PORT_STATUS_rx_cal 16) 2)

/-- Frames of 60 bytes: ordinary, MAC control, and link-local of another protocol. -/
def plain : Bytes := beBytes 6 0x0000AAAAAAAA ++ beBytes 6 0x0000BBBBBBBB ++ beBytes 2 0x0800 ++ zeros 46
def macCtl : Bytes := beBytes 6 0x0180C2000001 ++ beBytes 6 0x0000BBBBBBBB ++ beBytes 2 0x8808 ++ zeros 46
def lldp : Bytes := beBytes 6 0x0180C200000E ++ beBytes 6 0x0000BBBBBBBB ++ beBytes 2 0x88CC ++ zeros 46

theorem wit_PortReceives : linkIsUp port0 0 = true ∧ portUsed port0 0 = true ∧ port0.powered 9 = true ∧
    badFrame port0 0 (plain.length + 4) false false = some P.RX_FCS_ERR ∧
    badFrame port0 0 (plain.length + 4) false true = none ∧ port0.up (.port 0) = true ∧ port0.fg (F.PORT_STATUS_rx_cal 0) = 2 ∧
    (parseEth macCtl).etype = 0x8808 ∧ badFrame port0 0 (macCtl.length + 4) false true = none ∧
    (parseEth lldp).etype ≠ 0x8808 ∧ (parseEth lldp).dst / 16 = 0x0180C200000 ∧ (parseEth lldp).etype ≠ 0x88F7 ∧ isEsmc lldp = false ∧
    badFrame port0 0 (lldp.length + 4) false true = none ∧
    (parseEth plain).etype ≠ 0x8808 ∧ (parseEth plain).dst / 16 ≠ 0x0180C200000 ∧ poolPolicy port0 0 = 0 ∧
    poolRoom port0 0 (cellsOf plain.length) = true ∧ port0.up .cls = false := by decide +kernel

theorem wit_PortReceives_l2 : (port0.clr (F.PORT_CTL_l2ctl_host 0)).fb (F.PORT_CTL_l2ctl_host 0) = false ∧
    linkIsUp (port0.clr (F.PORT_CTL_l2ctl_host 0)) 0 = true ∧ (port0.clr (F.PORT_CTL_l2ctl_host 0)).up (.port 0) = true := by decide +kernel

/-- FRAME_RX ring 4 takes the management port and has a buffer of 2,048 bytes. -/
def rxRing : Device :=
  ((((port16.set1 (F.HIF_RING_CTL_en 4)).clr (F.HIF_RING_CTL_drained 4)).fs (F.HIF_RING_CTL_class 4) 2).wn (R.HIF_RING_SEL 4) 0x10000).setRing 4
    { Ring.init with posted := [{ slot := 0, len := 2048, bad := false }] }

theorem wit_ManagementPort : linkIsUp rxRing 16 = true ∧ rxRing.powered 11 = true ∧ badFrame rxRing 16 (plain.length + 4) false true = none ∧
    rxRing.up (.port 16) = true ∧ rxRing.fg (F.PORT_STATUS_rx_cal 16) = 2 ∧ (parseEth plain).etype ≠ 0x8808 ∧ frameRxRing rxRing 16 = some 4 ∧
    ringMoves rxRing 4 = true ∧ (rxRing.ring 4).posted = [{ slot := 0, len := 2048, bad := false }] ∧ plain.length ≤ 2048 ∧ plain ≠ [] ∧
    rxRing.fb (F.HIF_RING_STATUS_phase 4) = false := by decide +kernel

theorem wit_LinkState : portUsed o1 0 = true ∧ portPowered o1 0 = true ∧ portPll o1 0 = true ∧ linkIsUp o1 0 = false ∧ linkIsUp port0 0 = true ∧
    (!false || false || false) = true ∧ portBookings port0 0 = [] := by decide +kernel

/-- Strobes measured. -/
def probed : Device :=
  { port0.wn R.TIC_STATUS 0 |>.set1 ⟨F.TIC_STATUS_valid.off, F.TIC_STATUS_valid.lo + 8, 1⟩ with
    peel := { port0.peel with probe := (nats 0 4 ++ nats 16 4).map fun k => (k, (1024, 0)) }
    tm := { port0.tm with osc := 900000000 } }
def rxCal : Device := probed.fs (F.PORT_STATUS_rx_cal 0) 1
def txCal : Device := probed.fs (F.PEEL_P_STATUS_cal 0) 1

theorem wit_IngressCalibration : rxCal.fg (F.PORT_STATUS_rx_cal 0) = 1 ∧ probeValid rxCal = true ∧ probeHas rxCal (rxLanes rxCal 0) 1024 = true ∧
    probed.fg (F.PORT_STATUS_rx_cal 0) = 2 ∧ probed.fb (F.PORT_STATUS_rx_lpi 0) = false ∧ probeHas probed (rxLanes probed 0) 16 = true ∧
    amGet 0 probed.peel.calAt (0x100 + 0) + 800000000 ≤ probed.tm.osc := by decide +kernel

def withMac : Device := o1.wn (R.PORT_MAC_LO 0) 0x5E000001

theorem wit_PortControl : Reach (st o1) (R.PORT_MODE 0) ∧ bits 0 16 2 ≠ 3 ∧ bits 0 12 2 ≠ 3 ∧
    (∀ p, p < 4 → o1.down (.port (4 * 0 + p)) = true ∧ linkIsUp o1 (4 * 0 + p) = false) ∧ Reach (st port0) (R.PORT_MODE 0) ∧
    (∃ p, p < 4 ∧ port0.down (.port (4 * 0 + p)) = false) ∧ Reach (st withMac) (R.PORT_CTL 0) ∧ portUsed withMac 0 = true ∧
    withMac.fb (F.PORT_CTL_en 0) = false ∧ portMac withMac 0 ≠ 0 ∧ withMac.stopOf (.port 0) = none ∧ linkIsUp withMac 0 = false ∧
    Reach (st o1) (R.PORT_CTL 0) ∧ portUsed o1 0 = true ∧ o1.fb (F.PORT_CTL_en 0) = false ∧ portMac o1 0 = 0 ∧ Reach (st o1) (R.PORT_CTL 16) := by
  decide +kernel

def lpiOn : Device := ((port0.set1 (F.PORT_CTL_lpi_en 0)).fs (F.PORT_LPI_tw 0) 10)

theorem wit_PortIdleAndSynce : Reach (st o1) (R.PORT_CTL 0) ∧ lpiPmd o1 0 = true ∧ o1.fb (F.PORT_SYNCE_ref_en 0) = false ∧
    o1.fb (F.PORT_SYNCE_esmc_en 0) = false ∧ Reach (st o1) (R.PORT_CTL 16) ∧
    (lpiPmd o1 16 && !o1.fb (F.PORT_SYNCE_ref_en 16) && !o1.fb (F.PORT_SYNCE_esmc_en 16)) = false ∧ Reach (st o1) (R.PORT_LPI 16) ∧
    lpiOn.fb (F.PORT_CTL_lpi_en 0) = true ∧ lpiPmd lpiOn 0 = true ∧ lpiOn.fg (F.PORT_LPI_tw 0) ≠ 0 ∧ linkIsUp lpiOn 0 = true ∧
    lpiOn.fb (F.PORT_STATUS_tx_lpi 0) = false ∧ portBookings lpiOn 0 = [] ∧ linkIsUp port0 0 = true ∧ Reach (st o1) (R.PORT_SYNCE 0) ∧
    (((0#32).getLsbD 31 && (0 == 16 || decide (4 ≤ ((List.range 16).filter fun p => !(p == 0) && o1.fb (F.PORT_SYNCE_ref_en p)).length))) ||
      bits (0#32).toNat 16 5 == 31 || (o1.fb (F.PORT_CTL_lpi_en 0) && ((0#32).getLsbD 31 || (0#32).getLsbD 30))) = false ∧
    bits (0x1F0000#32).toNat 16 5 == 31 := by decide +kernel

/-- ESMC runs on port 0; a PDU has been received and one sent. -/
def esmc0 : Device := (port0.set1 (F.PORT_SYNCE_esmc_en 0)).set1 (F.PORT_ESMC_RX_valid 0)
def esmcLate : Device := { esmc0.setPortSt 0 { PortSt.init with sent := some (3, 3), infoSec := 7 } with tm := { port0.tm with osc := 5 * 800000000 } }

theorem wit_Esmc : linkIsUp esmc0 0 = true ∧ portUsed esmc0 0 = true ∧ esmc0.powered 9 = true ∧
    badFrame esmc0 0 ((esmcPdu esmc0 0 false).length + 4) false true = none ∧ esmc0.up (.port 0) = true ∧ esmc0.fg (F.PORT_STATUS_rx_cal 0) = 2 ∧
    esmc0.fb (F.PORT_SYNCE_esmc_en 0) = true ∧ esmcGood (esmcPdu esmc0 0 false) = true ∧ (parseEth (esmcPdu esmc0 0 false)).etype = 0x8809 ∧
    (parseEth (esmcPdu esmc0 0 false)).dst = 0x0180C2000002 ∧ esmc0.fb (F.PORT_ESMC_RX_valid 0) = true ∧
    (esmcLate.portSt 0).esmcAt + 5 * 800000000 ≤ esmcLate.tm.osc ∧ esmcLate.fb (F.PORT_ESMC_RX_valid 0) = true ∧ esmcOn esmcLate 0 = true ∧
    (esmcLate.portSt 0).infoSec ≠ esmcLate.nowSec ∧ (esmcLate.portSt 0).sent = some (3, 3) ∧ (3, 3) ≠ qlToSend esmcLate 0 := by decide +kernel

/-- A booking is accepted, at the point and instant the Peel finds. -/
def Books (d : Device) (n : Nat) (te tl : Inst) (len g : Nat) : Prop :=
  Bookable d n te tl len g (bookCode d n te tl len g).2.1 (bookCode d n te tl len g).2.2

theorem wit_Esmc_books :
    Books esmcLate 0 esmcLate.now (esmcLate.now + 10000000 * nsU) ((esmcPdu esmcLate 0 true).length + 4) (gateClass esmcLate 0 none) ∧
    Books esmcLate 0 (esmcLate.nowSec * secU + 10000000 * 0 * nsU) (esmcLate.nowSec * secU + 10000000 * 0 * nsU + 10000000 * nsU)
      ((esmcPdu esmcLate 0 false).length + 4) (gateClass esmcLate 0 none) := by
  unfold Books Bookable; decide +kernel

/-! ### The Peel -/

theorem wit_PeelBooks : (bookCode port0 0 port0.now (port0.now + 10000 * nsU) 64 (3 % 8)).1 = T.ACCEPTED ∧
    (wheelPlace port0 (bookCode port0 0 port0.now (port0.now + 10000 * nsU) 64 (3 % 8)).2.2).1 < 3 ∧ nearOf port0 0 < 32768 ∧
    portOpen port0 0 = true ∧ TimeOk (st port0) ∧ port0.fg (F.PEEL_P_STATUS_cal 0) = 2 ∧ port0.now + 10 * nsU < port0.now + gLead port0 ∧
    port0.now + gLead port0 ≤ port0.now + 62 * secU ∧ port0.now + 60 * secU < port0.now + 61 * secU := by decide +kernel

/-- A booking of port 0 due at an instant, committed or not. -/
def slotAt (due : Inst) (f : Option Bytes) (level : Nat) : Booking :=
  { handle := 5, port := 0, due, len := 64, gcls := 0, mayRp := false, again := false, frame := f, owner := .engine none, resp := none, pt := 0,
    guardC := 300, level, tick := 0, pinned := false }
def booked (due : Inst) (f : Option Bytes) : Device := { port0 with peel := { port0.peel with bookings := [slotAt due f 0] } }
def soon : Inst := 2000000000 * secU + 1000 * nsU
def now0 : Inst := 2000000000 * secU

theorem wit_PeelCommits : findBooking (booked soon none) 5 = some (slotAt soon none 0) ∧ (slotAt soon none 0).handle = 5 ∧
    (slotAt soon none 0).owner = .engine none ∧ (slotAt soon none 0).resp = none ∧ (slotAt soon none 0).frame = none ∧
    (booked soon none).now + (slotAt soon none 0).guardC * nsU ≤ (slotAt soon none 0).due ∧
    findBooking (booked now0 none) 5 = some (slotAt now0 none 0) ∧
    (slotAt now0 none 0).due < (booked now0 none).now + (slotAt now0 none 0).guardC * nsU ∧ (slotAt now0 none 0).mayRp = false ∧
    TimeOk (st (booked now0 none)) ∧ findBooking (booked now0 (some plain)) 5 = some (slotAt now0 (some plain) 0) ∧
    (slotAt now0 (some plain) 0).due < (booked now0 (some plain)).now + 40 * nsU + (booked now0 (some plain)).tm.tickLen ∧
    TimeOk (st (booked now0 (some plain))) := by decide +kernel

theorem wit_PeelLaunches : (slotAt now0 (some plain) 0).frame = some plain ∧
    (slotAt now0 (some plain) 0).due < (booked now0 (some plain)).now + (booked now0 (some plain)).tm.tickLen ∧
    (slotAt now0 (some plain) 0).port < 16 ∧ findBooking (booked soon (some plain)) 5 = some (slotAt soon (some plain) 0) ∧
    TimeOk (st (booked soon (some plain))) ∧
    (booked soon (some plain)).now + (booked soon (some plain)).tm.tickLen ≤ (slotAt soon (some plain) 0).due := by decide +kernel

theorem wit_WheelsMove : ((booked soon none).peel.bookings.map (·.handle)).Nodup := by decide +kernel

theorem wit_PeelGuard : Reach (st o1) R.PEEL_GUARD := by decide +kernel

theorem wit_EgressCalibration : probeValid probed = true ∧ TimeOk (st probed) ∧ txCal.fg (F.PEEL_P_STATUS_cal 0) = 1 ∧ probeValid txCal = true ∧
    probeHas txCal (lanesOf txCal 0) 1024 = true ∧ probed.fg (F.PEEL_P_STATUS_cal 0) = 2 ∧ probeHas probed (lanesOf probed 0) 16 = true ∧
    amGet 0 probed.peel.calAt 0 + 800000000 ≤ probed.tm.osc ∧ portBookings probed 0 = [] := by decide +kernel

/-- One staged entry of 1,000 ns, a cycle of 1,000 ns, and the change asked for in 2 s; and an entry of 10 ns. -/
def gated : Device :=
  ((port0.wn R.PEEL_GCL_CYCLE_NS 1000).wn3 (R.PEEL_GCL_AT_W 0) (dt96 (2000000002 * secU))).wn3 (R.PEEL_GCL_BASE_W 0) (dt96 (2000000000 * secU))
def gated1 : Device := { gated with peel := { gated.peel with staged := [(0, (1000, 255))] } }
def gated2 : Device := { gated with peel := { gated.peel with staged := [(0, (10, 255))] } }

def gclAct (due : Inst) : TimedAct := { handle := 0, due, act := .gclChange 0, notify := false, tag := 0, stepped := false }
def gclWait (due : Inst) : Device :=
  { gated1 with sched := { gated1.sched with pend := [gclAct due] }, peel := { gated1.peel with gatePend := [(0, [(0, due, ⟨0, 0, []⟩)])] } }

theorem wit_GateEntries : Reach (st gated1) R.PEEL_GCL_CMD := by decide +kernel

theorem wit_GateChanges : Reach (st gated1) R.PEEL_GCL_CMD ∧
    requestCode gated1 (.gclChange (gclPort gated1)) (ofDtSub (dtSub (ofDt96 (gated1.rn3 (R.PEEL_GCL_AT_W 0))))) = T.ACCEPTED ∧
    (∀ e ∈ (gclStaged (gclLenWrite 1#32 gated1) (gclPort gated1)).entries, 40 ≤ e.1) ∧ 1000 ≤ gated1.rn R.PEEL_GCL_CYCLE_NS ∧
    portBookings gated1 (gclPort gated1) = [] ∧
    requestCode gated2 (.gclChange (gclPort gated2)) (ofDtSub (dtSub (ofDt96 (gated2.rn3 (R.PEEL_GCL_AT_W 0))))) = T.ACCEPTED ∧
    (∃ e ∈ (gclStaged (gclLenWrite 1#32 gated2) (gclPort gated2)).entries, e.1 < 40) := by decide +kernel

theorem wit_GateChanges_pending : Reach (st (gclWait (now0 + secU))) R.PEEL_GCL_CMD ∧ (gclWait (now0 + secU)).sched.pend = [gclAct (now0 + secU)] ∧
    (gclAct now0).act = .gclChange 0 ∧ (gclAct now0).notify = false ∧ (gclAct now0).handle = (gclWait (now0 + secU)).rn R.PEEL_GCL_HANDLE ∧
    (gclWait (now0 + secU)).now + actLead (gclAct now0).act ≤ (gclAct (now0 + secU)).due ∧ TimeOk (st (gclWait now0)) ∧
    (gclAct now0).due < (gclWait now0).now + actLead (gclAct now0).act ∧ isDue (gclWait now0) (gclAct now0) = true ∧
    amGet [] (gclWait now0).peel.gatePend 0 = [((gclAct now0).handle, (gclAct now0).due, ⟨0, 0, []⟩)] := by decide +kernel

/-- Port 0 sleeps, and a booking is due. -/
def asleep : Device := (booked now0 none).set1 (F.PORT_STATUS_tx_lpi 0)

theorem wit_PeelWakesPort : asleep.fb (F.PORT_STATUS_tx_lpi 0) = true ∧ slotAt now0 none 0 ∈ asleep.peel.bookings ∧ (slotAt now0 none 0).port = 0 ∧
    (slotAt now0 none 0).due ≤ asleep.now + (asleep.fg (F.PORT_LPI_tw 0) + 100) * nsU + asleep.tm.tickLen := by decide +kernel

/-! ### Lanes, Ovens, NTS-KE and the Starter -/

/-- An NTP or ARP request for service address 1, in the queue of slice 0; port 0 can launch the answer. -/
def sa1 : SaEntry := { attr := 0xC0000001, svc := 0, addr := 0xC0000201 }
def ntpReq : Bytes :=
  beBytes 6 0x00005E000001 ++ beBytes 6 0x0000BBBBBBBB ++ beBytes 2 0x0800 ++ beBytes 2 0x4500 ++ beBytes 2 76 ++ zeros 4 ++ beBytes 2 0x4011 ++ zeros 2 ++
  beBytes 4 0xC0000202 ++ beBytes 4 0xC0000201 ++ beBytes 2 123 ++ beBytes 2 123 ++ beBytes 2 56 ++ zeros 2 ++ beBytes 1 0x23 ++ zeros 47
def item (w : Work) : Item :=
  { work := w, cls := 0, cost := 4, port := 0, stamp := now0, bytes := ntpReq, saIdx := 1, sa := sa1, vlan := 0, src := 0xC0000202, prof := 0, pref := false }
def queued (w : Work) : Device :=
  { (((port0.set1 (F.SLC_CTL_en 0)).fs (F.SLC_CTL_lanes 0) 15).set1 F.TB_HOLD_CTL_policy) with slices := [(0, { queue := [item w], reprom := [], peak := 0 })] }

theorem wit_LaneServes : lanesRun (queued .ntp) 0 = true ∧ ((queued .ntp).slcOf 0).reprom = [] ∧ ((queued .ntp).slcOf 0).queue = [item .ntp] ∧
    (item .ntp).saIdx < 256 ∧ (item .ntp).work = .ntp ∧ (ntpIdent (queued .ntp) (smears (queued .ntp) sa1)).isSome = true ∧
    (foldClient (queued .ntp) (item .ntp).src.toNat (item .ntp).stamp (item .ntp).prof (item .ntp).pref false).1 = .within ∧
    lanesRun (queued .arp) 0 = true ∧ ((queued .arp).slcOf 0).reprom = [] ∧ ((queued .arp).slcOf 0).queue = [item .arp] := by decide +kernel

theorem wit_LaneServes_books :
    (let d := queued .ntp
     let i := item .ntp
     let te := promiseAt d i.stamp F.PEEL_PROMISE_NTP F.PEEL_BUILD_plain
     let id := (ntpIdent d (smears d i.sa)).getD (0, 0, 0, 0)
     Books d 0 te (te + searchLen d) ((answerFrame d i (ntpBody d i.sa (udpOf i.bytes) i.stamp d.now id none)).length + 4)
       (gateClass d 0 (itemTci d i))) ∧
    (let d := queued .arp
     let i := item .arp
     let te := d.now + gLead d
     Books d 0 te (te + searchLen d) ((arpReply d i).length + 4) (gateClass d 0 (itemTci d i))) := by
  unfold Books Bookable; decide +kernel

/-- The Ovens serve; Oven 2 holds a job. -/
def gen1 : Gen := { num := 1, key := zeros 32, inFlash := true }
def stream1 (p : KePhase) : Stream :=
  { sid := 9, ring := 4, client := 7, tcpPort := 4460, sa := 1, thread := 0, window := 16384, phase := p, rx := [], acceptAt := 0, hsAt := 0,
    finAt := some 0, hostFin := false, hsLimit := 1, reqLimit := 1, ncookies := 8, suites := 0, groups := 0, sig := 0, suite := 0, group := 0,
    retried := false, cookies := [], tls := Tls.init }
def job (w : OvenWork) : OvenJob := { id := 1, oven := 2, work := w, gens := [gen1], retried := false, since := 0 }
def ovens : Device := (o1.set1 F.OVN_CTL_en).fs F.OVN_CTL_ovens 0xFFFFFF
def baking : Device := { ovens with nts := { ovens.nts with jobs := [job (.mintJob 9 (zeros 32) (zeros 32))], streams := [stream1 .mint] } }
def request : NtsReq :=
  { item := item .nts, slice := 0, booking := 5, uid := [], cookie := [], ad := [], nonce := [], ctext := [], clearPh := [], maxPh := 0 }
def opening : Device := { ovens with nts := { ovens.nts with jobs := [job (.openJob request)] } }
def testing : Device := { ovens with nts := { ovens.nts with kat := [2] } }

theorem wit_OvenMints : baking.nts.jobs = [job (.mintJob 9 (zeros 32) (zeros 32))] ∧ (job (.mintJob 9 (zeros 32) (zeros 32))).oven < 24 ∧
    (job (.mintJob 9 (zeros 32) (zeros 32))).gens.head? = some gen1 ∧ baking.nts.streams = [stream1 .mint] ∧ (stream1 .mint).sid = 9 ∧
    (stream1 .mint).phase = .mint ∧ (stream1 .mint).cookies.length + 1 < (stream1 .mint).ncookies := by decide +kernel

theorem wit_OvenFaults : opening.nts.jobs = [job (.openJob request)] ∧ (job (.openJob request)).oven = 2 ∧ ovenOk ovens 2 = true ∧ ovens.nts.jobs = [] ∧
    2 ∈ testing.nts.kat ∧ Reach (st ovens) R.OVN_CTL ∧ ovens.stopOf .ovn = none ∧ ovens.fb F.OVN_CTL_en = true ∧
    (0x80000000#32).getLsbD 31 = true := by decide +kernel

/-- STREAM ring 4 takes commands, the NTS-KE service is ready, and a session is open on it. -/
def strRing : Device :=
  { ((((((o1.set1 (F.HIF_RING_CTL_en 4)).clr (F.HIF_RING_CTL_drained 4)).fs (F.HIF_RING_CTL_class 4) 3).set1 F.OVN_KE_CTL_en).clr
      F.OVN_KE_CTL_drained).set1 F.OVN_STARTER_STATUS_ready).set1 F.SEC_STATUS_tls_ready |>.setRing 4 { Ring.init with sqTail := 1 } with
    cls := { o1.cls with sa := [(1, { sa1 with svc := 0xFFFF })] } }
def session (p : KePhase) (w : Nat) : Device := { strRing with nts := { strRing.nts with streams := [{ stream1 p with window := w }] }, tm := { strRing.tm with osc := 900000000 } }

theorem wit_KeStreams : canTake strRing 4 3 = true ∧ openRefusal strRing 9 7 1 = none ∧ openRefusal strRing 9 7 0 = some 2 ∧
    canTake (session .hello 16384) 4 3 = true ∧ (session .hello 16384).nts.streams = [stream1 .hello] ∧ (stream1 .hello).sid = 9 ∧ (stream1 .hello).ring = 4 ∧
    zeros 4 ≠ [] ∧ (zeros 4).length ≤ 4096 ∧ (zeros 4).length ≤ (stream1 .hello).window ∧ ((stream1 .hello).rx ++ zeros 4).length < 5 ∧
    canTake (session .hello 3) 4 3 = true ∧ (session .hello 3).nts.streams = [{ stream1 .hello with window := 3 }] ∧ 3 < (zeros 4).length ∧
    canTake (session .closing 3) 4 3 = true ∧ (session .closing 3).nts.streams = [{ stream1 .closing with window := 3 }] := by decide +kernel

theorem wit_KeDeadlines : (stream1 .hello).acceptAt + (stream1 .hello).hsLimit * 80000000 ≤ (session .hello 9).tm.osc ∧ hostReach (session .hello 9) = true ∧
    (session .request 16384).nts.streams = [stream1 .request] ∧ (stream1 .request).hsAt + (stream1 .request).reqLimit * 80000000 ≤ (session .request 9).tm.osc ∧
    (stream1 .request).finAt = some 0 ∧ 0 + 800000000 ≤ (session .request 9).tm.osc := by decide +kernel

/-- The Starter with a current generation and a rotation that is due, with the pending generation ready or not. -/
def rot (t : Inst) : Rotation := { handle := 5, due := t, auto := false, deferrals := 0 }
def starting (p : Option Gen) (t : Inst) : Device :=
  { o1.clr F.OVN_STARTER_POLICY_auto with
    nts := { o1.nts with starter := { Starter.init with current := some gen1, pending := p, rotations := [rot t] } }
    sched := { o1.sched with pend := [{ handle := 5, due := t, act := .starterRotate false, notify := false, tag := 0, stepped := false }] } }

theorem wit_StarterRotates : TimeOk (st (starting none now0)) ∧ (starting none now0).starter.current = some gen1 ∧ (starting none now0).starter.pending = none ∧
    autoRot (starting none now0) = false ∧ (starting none now0).starter.rotations = [rot now0] ∧ (rot now0).due ≤ (starting none now0).now + 60 * secU ∧
    linkUp (starting none now0) = false ∧ purging (starting none now0) = false ∧
    isDue (starting (some gen1) now0) { handle := 5, due := now0, act := .starterRotate false, notify := false, tag := 0, stepped := false } = true ∧
    (starting (some gen1) now0).starter.pending = some gen1 ∧ gen1.inFlash = true ∧ (rot now0).deferrals < 60 ∧
    (starting (some { gen1 with inFlash := false }) now0).starter.pending = some { gen1 with inFlash := false } ∧
    (starting none now0).nts.jobs = [] := by decide +kernel

/-- The host's rotation is asked for an instant in the second half of the automatic period; another one waits. -/
def rotAt : Inst := ((2000000000 / 86400 + 1) * 86400 + 43200) * secU
def rotAsk : Device := (o1.set1 F.OVN_STARTER_POLICY_auto).wn3 (R.OVN_STARTER_AT_W 0) (dt96 rotAt)
def rotWait : Device := (starting none (now0 + secU)).wn R.OVN_STARTER_HANDLE 5
def purge : Device := o1.set1 F.OVN_STARTER_POLICY_purge_host
def purgeOn : Device := o1.set1 F.OVN_STARTER_STATUS_purging

theorem wit_StarterCommands : Reach (st rotAsk) R.OVN_STARTER_CMD ∧ linkUp rotAsk = false ∧
    requestCode rotAsk (.starterRotate false) (ofDt96 (rotAsk.rn3 (R.OVN_STARTER_AT_W 0))) = T.ACCEPTED ∧ rotAsk.starter.rotations = [] ∧
    autoRot rotAsk = true ∧ nearAuto rotAsk (ofDt96 (rotAsk.rn3 (R.OVN_STARTER_AT_W 0))) = false ∧
    nextAuto rotAsk * secU ≤ ofDt96 (rotAsk.rn3 (R.OVN_STARTER_AT_W 0)) := by decide +kernel

theorem wit_StarterCommands_cancel : Reach (st rotWait) R.OVN_STARTER_CMD ∧ linkUp rotWait = false ∧ (∃ r ∈ rotWait.starter.rotations, r.auto = false) ∧
    rotWait.sched.pend = [{ handle := 5, due := now0 + secU, act := .starterRotate false, notify := false, tag := 0, stepped := false }] ∧
    5 = rotWait.rn R.OVN_STARTER_HANDLE ∧ rotWait.starter.rotations = [rot (now0 + secU)] ∧ rotWait.starter.pending = none ∧
    rotWait.now + 100000000 * nsU ≤ now0 + secU ∧ o1.fb F.OVN_STARTER_POLICY_purge_host = false ∧ purge.fb F.OVN_STARTER_POLICY_purge_host = true ∧
    linkUp purge = false ∧ purging purgeOn = true ∧ linkUp purgeOn = false ∧ purgeOn.starter.rotations = [] ∧ purgeOn.nts.streams = [] := by decide +kernel

/-! ### PTP -/

/-- PTP instance 0: the default profile over Ethernet, SERVER of port 0, one slice running; not enabled, and enabled. -/
def ptpCfg : Device :=
  ((((((((port0.set1 (F.CLS_VLAN_valid 0)).wn (R.CLS_PTP_ID_LO 0) 0x1234).fs (F.CLS_PTP_RATES_sync 0) 0).fs (F.CLS_PTP_RATES_ann 0) 1).fs
    (F.CLS_PTP_RATES_dreq 0) 0).fs (F.CLS_PTP_RATES_timeout 0) 3).fs (F.CLS_PTP_PORTS_server 0) 1).set1 F.TB_STATUS_time_valid)
def ptpOn : Device := ((ptpCfg.set1 (UnitId.ptp 0).en).clr (UnitId.ptp 0).drained)

theorem wit_PtpInstances : Reach (st ptpCfg) (R.CLS_PTP_CFG 0) ∧ ptpCfg.fb (UnitId.ptp 0).en = false ∧ ptpCheck ptpCfg 0 = 0 ∧
    Reach (st o1) (R.CLS_PTP_CFG 0) ∧ o1.fb (UnitId.ptp 0).en = false ∧ ptpCheck o1 0 ≠ 0 := by decide +kernel

def slcRuns : Device := ((ptpOn.set1 (F.SLC_CTL_en 3)).clr (F.SLC_CTL_drained 3))

theorem wit_SyncEmitted : slcRuns.up (.ptp 0) = true ∧ ptpSilent slcRuns = false ∧ TimeOk (st slcRuns) ∧ ptpServer slcRuns 0 0 = true ∧
    ptpUnicast slcRuns 0 = false ∧ amGet 0 (slcRuns.ptpInst 0).lastSync 0 <
      nominalAt slcRuns (logDur (rateLog slcRuns (F.CLS_PTP_RATES_sync 0))) (slcRuns.rn (R.CLS_PTP_PHASE 0) * nsU %
        logDur (rateLog slcRuns (F.CLS_PTP_RATES_sync 0))) ∧
    slcRuns.now ≤ nominalAt slcRuns (logDur (rateLog slcRuns (F.CLS_PTP_RATES_sync 0))) (slcRuns.rn (R.CLS_PTP_PHASE 0) * nsU %
        logDur (rateLog slcRuns (F.CLS_PTP_RATES_sync 0))) ∧ slcRuns.cls.meter.quota.getD 0 none = none ∧
    homeSlice slcRuns (BitVec.ofNat 128 (ptpSteer slcRuns 0 0 none)).toNat = some 3 ∧ placeIn slcRuns 3 6 = some (3, false) := by decide +kernel

/-- Port 0 uses P2P; instance 0 is its unicast CLIENT. -/
def p2p : Device := ptpOn.fs (F.CLS_PTPP_CTL_delay 0) 1
def client : Device := ((((ptpOn.fs (F.CLS_PTP_PORTS_server 0) 0).fs (F.CLS_PTP_PORTS_client 0) 1).set1 (F.CLS_PTP_CFG_unicast 0)).wn
  (R.CLS_PTP_UP 0 3) 0x0A000001)
def header (t : Nat) : Bytes := beBytes 1 t ++ beBytes 1 2 ++ zeros 18 ++ beBytes 8 0x77 ++ beBytes 2 1 ++ zeros 4
def message (body : Bytes) : PtpMsg := { inst := 0, port := 0, stamp := 0, vlan := 0, src := 0x0A000001, mac := 0x5E0000AA, msg := body }
def getDefault : PtpMsg := message (header 13 ++ zeros 14 ++ beBytes 2 1 ++ beBytes 2 2 ++ beBytes 2 0x2000)

theorem wit_PtpMessagesSent_announce : ptpOn.up (.ptp 0) = true ∧ TimeOk (st ptpOn) ∧ ptpSilent ptpOn = false ∧ ptpServer ptpOn 0 0 = true ∧
    ptpUnicast ptpOn 0 = false ∧ (∀ e ∈ (ptpOn.ptpInst 0).lastAnn, e.1 = 0 → e.2 + logDur (rateLog ptpOn (F.CLS_PTP_RATES_ann 0)) ≤ ptpOn.now) ∧
    Books ptpOn 0 ptpOn.now (ptpOn.now + logDur (rateLog ptpOn (F.CLS_PTP_RATES_ann 0)))
      ((ptpFrame ptpOn 0 0 (ptpVlan ptpOn 0) none false false (announceMsg ptpOn 0 0 (seqOf (ptpOn.ptpInst 0) 0 1)
        (rateLog ptpOn (F.CLS_PTP_RATES_ann 0)) false ptpOn.now)).length + 4) (gateClass ptpOn 0 (ptpTci ptpOn 0 (ptpVlan ptpOn 0))) := by
  unfold Books Bookable; decide +kernel

theorem wit_PtpMessagesSent_request : p2p.up (.ptp 0) = true ∧ ptpDelay p2p 0 = 1 ∧ ptpServer p2p 0 0 = true ∧
    (∀ e ∈ (p2p.ptpInst 0).lastReq, e.1 = 0 → e.2 + logDur (rateLog p2p (F.CLS_PTPP_CTL_pd_log 0)) ≤ p2p.now) ∧
    Books p2p 0 p2p.now (p2p.now + logDur (rateLog p2p (F.CLS_PTPP_CTL_pd_log 0)))
      ((ptpFrame p2p 0 0 (ptpVlan p2p 0) none true true (requestMsg p2p 0 0 true false (seqOf (p2p.ptpInst 0) 0 3)
        (rateLog p2p (F.CLS_PTPP_CTL_pd_log 0)))).length + 4) (gateClass p2p 0 (ptpTci p2p 0 (ptpVlan p2p 0))) := by
  unfold Books Bookable; decide +kernel

def uniBody (d : Device) : Bytes :=
  requestTlv 11 (rateLog d (F.CLS_PTP_RATES_ann 0)) (clamp 10 1000 (d.fg (F.CLS_PTP_UNI_max_dur 0))) ++
  requestTlv 0 (rateLog d (F.CLS_PTP_RATES_sync 0)) (clamp 10 1000 (d.fg (F.CLS_PTP_UNI_max_dur 0))) ++
  requestTlv 9 (rateLog d (F.CLS_PTP_RATES_dreq 0)) (clamp 10 1000 (d.fg (F.CLS_PTP_UNI_max_dur 0)))

theorem wit_PtpMessagesSent_unicast : client.up (.ptp 0) = true ∧ TimeOk (st client) ∧
    (List.range 16).find? (fun p => ptpClient client 0 p) = some 0 ∧ (client.ptpInst 0).up = [] ∧
    upstreamTo client 0 = some (0, 0x0A000001) ∧
    Books client 0 client.now (client.now + secU) ((ptpFrame client 0 0 (ptpVlan client 0) (some (0, 0x0A000001)) false false
      (signalMsg client 0 0 (seqOf (client.ptpInst 0) 0 4) (2 ^ 64 - 1) 65535 (uniBody client))).length + 4)
      (gateClass client 0 (ptpTci client 0 (ptpVlan client 0))) := by
  unfold Books Bookable; decide +kernel

def managed : Device := { ptpOn with ptp := { ptpOn.ptp with intake := [getDefault] } }
def getReply (data : Bytes) : Bytes :=
  let tlv := beBytes 2 1 ++ beBytes 2 (2 + data.length) ++ beBytes 2 (beAt getDefault.msg 52 2) ++ data
  let body := slice getDefault.msg 20 10 ++ zeros 2 ++ beBytes 1 2 ++ zeros 1 ++ tlv
  ptpFrame managed 0 0 getDefault.vlan (some (getDefault.mac, getDefault.src)) false false
    (ptpHdr managed 0 0 13 (34 + body.length) (flagOctets true 0) 0 (msgSeq getDefault.msg) 127 ++ body)

theorem wit_PtpMessagesSent_get : managed.ptp.intake = [getDefault] ∧ getDefault.inst = 0 ∧ getDefault.port = 0 ∧ msgType getDefault.msg = 13 ∧
    byteAt getDefault.msg 46 % 16 = 0 ∧ (mgmtData managed 0 0 (beAt getDefault.msg 52 2)).isSome = true ∧ managed.up (.ptp 0) = true ∧
    Books managed 0 managed.now (managed.now + secU) ((getReply ((mgmtData managed 0 0 (beAt getDefault.msg 52 2)).getD [])).length + 4)
      (gateClass managed 0 (ptpTci managed 0 getDefault.vlan)) := by
  unfold Books Bookable; decide +kernel

/-- Signaling: a Sync is asked for at 1/s for 100 s, granted, cancelled, and the cancel acknowledged. -/
def tlv (t : Nat) (v : Bytes) : Bytes := beBytes 2 t ++ beBytes 2 v.length ++ v
def askV : Bytes := beBytes 1 0 ++ beBytes 1 0 ++ beBytes 4 100
def cancelV : Bytes := zeros 2
def signal (t : Nat) (v : Bytes) : PtpMsg := message (header 12 ++ zeros 10 ++ tlv t v)
def uniSrv (m : PtpMsg) : Device :=
  { ((ptpOn.set1 (F.CLS_PTP_CFG_unicast 0)).fs (F.CLS_PTP_UNI_max_grants 0) 8) with ptp := { ptpOn.ptp with intake := [m] } }
def silentSrv (m : PtpMsg) : Device := ((uniSrv m).clr F.TB_STATUS_time_valid).clr F.TB_HOLD_CTL_policy

theorem wit_PtpNegotiation_request : (uniSrv (signal 4 askV)).ptp.intake = [signal 4 askV] ∧ msgType (signal 4 askV).msg = 12 ∧
    signalTlvs (signal 4 askV).msg = [(4, askV)] ∧ grantBit (byteAt askV 0 / 16) = some 1 ∧ (uniSrv (signal 4 askV)).ptp.grants = [] ∧
    (uniSrv (signal 4 askV)).up (.ptp 0) = true ∧ ptpUnicast (uniSrv (signal 4 askV)) 0 = true ∧ ptpServer (uniSrv (signal 4 askV)) 0 0 = true ∧
    ptpSilent (uniSrv (signal 4 askV)) = false ∧ inR (reqRange (uniSrv (signal 4 askV)) 0 1) (signed 8 (byteAt askV 1)) = true ∧
    10 ≤ beAt askV 2 4 ∧ 0 < (uniSrv (signal 4 askV)).fg (F.CLS_PTP_UNI_max_grants 0) ∧ poolRoom (uniSrv (signal 4 askV)) 8 8 = true ∧
    sync128 (signed 8 (byteAt askV 1)) ≤ 8388608 * 128 ∧ ptpSilent (silentSrv (signal 4 askV)) = true ∧
    (silentSrv (signal 4 askV)).ptp.intake = [signal 4 askV] ∧ (silentSrv (signal 4 askV)).ptp.grants = [] := by decide +kernel

def grant (cancel : Option Inst) (exp : Nat) : Grant :=
  { inst := 0, lport := 0, addr := 0x0A000001, peerId := 0x77, peerPort := 1, vlan := 0, dstMac := 0x5E0000AA, granted := 2, logAnn := 0, logSync := 0,
    logDresp := 0, expAnn := 0, expSync := exp, expDresp := 0, seqSync := 0, seqAnn := 0, phase := 0, sent := 0, negs := [], lastSync := 0, lastAnn := 0,
    cancelAt := cancel }
def granted (m : List PtpMsg) (g : Grant) : Device := { ptpOn with ptp := { ptpOn.ptp with intake := m, grants := [(3, g)] } }
def late : Inst := now0 - 4 * secU

theorem wit_PtpNegotiation_cancel : msgType (signal 6 cancelV).msg = 12 ∧
    grantOf (granted [signal 6 cancelV] (grant none 0)) (signal 6 cancelV) = some (3, grant none 0) ∧ grantBit (byteAt cancelV 0 / 16) = some 1 ∧
    (grant none 0).granted = 2 ^ 1 ∧ signalTlvs (signal 6 cancelV).msg = [(6, cancelV)] ∧
    grantOf (granted [signal 7 cancelV] (grant (some late) 0)) (signal 7 cancelV) = some (3, grant (some late) 0) ∧
    signalTlvs (signal 7 cancelV).msg = [(7, cancelV)] ∧ (grant (some late) 0).cancelAt.isSome = true ∧ msgType (signal 7 cancelV).msg = 12 := by decide +kernel

theorem wit_PtpNegotiation_end : TimeOk (st (granted [] (grant (some late) 1999999999))) ∧
    (grant (some late) 1999999999).expSync ≤ (granted [] (grant (some late) 1999999999)).nowSec ∧
    late + 3 * secU ≤ (granted [] (grant (some late) 1999999999)).now := by decide +kernel

def clientWith (m : PtpMsg) : Device := { client with ptp := { client.ptp with intake := [m] } }
def grantV : Bytes := beBytes 1 0 ++ beBytes 1 0 ++ beBytes 4 100 ++ beBytes 2 1

theorem wit_PtpNegotiation_grant : (clientWith (signal 5 grantV)).ptp.intake = [signal 5 grantV] ∧ msgType (signal 5 grantV).msg = 12 ∧
    signalTlvs (signal 5 grantV).msg = [(5, grantV)] ∧ ptpClient (clientWith (signal 5 grantV)) 0 0 = true ∧
    (signal 5 grantV).src = ptpUpstream (clientWith (signal 5 grantV)) 0 ∧ 0 < beAt grantV 2 4 := by decide +kernel

def announce : PtpMsg := message (header 11 ++ zeros 30)

theorem wit_PtpClients_announce : msgType announce.msg = 11 ∧ ptpServer { ptpOn with ptp := { ptpOn.ptp with intake := [announce] } } 0 0 = true ∧
    ptpServer (clientWith announce) 0 0 = false ∧ ptpClient (clientWith announce) 0 0 = true ∧ (clientWith announce).up (.ptp 0) = true ∧
    srcClock announce.msg ≠ ptpId (clientWith announce) 0 ∧ beAt announce.msg 61 2 < 255 ∧ ptpUnicast (clientWith announce) 0 = true ∧
    announce.src = ptpUpstream (clientWith announce) 0 ∧ ((clientWith announce).ptpInst 0).foreign = [] := by decide +kernel

def foreign : Foreign := { port := 0, clockId := 0x77, portNum := 1, body := [], flags := 0, src := 0, mac := 0, heard := now0 - 60 * secU, count := 2 }
def heard : Device := { ptpOn with ptp := { ptpOn.ptp with insts := [(0, { PtpInst.init with foreign := [foreign] })] } }

theorem wit_PtpClients_timeout : heard.up (.ptp 0) = true ∧ TimeOk (st heard) ∧ ptpUnicast heard 0 = false ∧ (heard.ptpInst 0).foreign ≠ [] ∧
    (∀ f ∈ (heard.ptpInst 0).foreign,
      f.heard + heard.fg (F.CLS_PTP_RATES_timeout 0) * logDur (rateLog heard (F.CLS_PTP_RATES_ann 0)) ≤ heard.now) := by decide +kernel

def followUp : PtpMsg := message (header 8 ++ zeros 10)
def syncRx : SyncRx := { port := 0, clockId := 0x77, portNum := 1, seq := 0, t2 := now0, t1 := none, corr := 0 }
def delayTx (peer : Bool) (back : Option (Int × Int × Int)) : DelayTx := { peer, port := 0, seq := 0, sent := 0, back }
def delayResp : PtpMsg := message (header 9 ++ zeros 10 ++ beBytes 8 0x1234 ++ beBytes 2 1)
def pdelayFollow : PtpMsg := message (header 10 ++ zeros 20)
def peered (m : PtpMsg) (x : PtpInst) : Device := { ptpOn with ptp := { ptpOn.ptp with intake := [m], insts := [(0, x)] } }
def measuring : PtpInst := { PtpInst.init with delays := [delayTx false none], ms := some 5, best := some (0, 0x77, 1) }

theorem wit_PtpClients_general :
    (peered followUp { PtpInst.init with sync := some syncRx }).ptpInst 0 = { PtpInst.init with sync := some syncRx } ∧
    msgType followUp.msg = 8 ∧ syncRx.port = followUp.port ∧ syncRx.clockId = srcClock followUp.msg ∧
    syncRx.portNum = srcPortNum followUp.msg ∧ syncRx.seq = msgSeq followUp.msg ∧ ptpDelay ptpOn 0 = 0 ∧ PtpInst.init.mpd = none ∧
    (peered delayResp measuring).ptpInst 0 = measuring ∧ msgType delayResp.msg = 9 ∧ measuring.delays = [delayTx false none] ∧
    (delayTx false none).seq = msgSeq delayResp.msg ∧ beAt delayResp.msg 44 8 = ptpId (peered delayResp measuring) 0 ∧
    beAt delayResp.msg 52 2 = delayResp.port + 1 ∧ measuring.best = some (delayResp.port, srcClock delayResp.msg, srcPortNum delayResp.msg) ∧
    measuring.ms = some 5 ∧ msgType pdelayFollow.msg = 10 ∧ (delayTx true (some (0, 0, 0))).seq = msgSeq pdelayFollow.msg ∧
    ((peered pdelayFollow { PtpInst.init with delays := [delayTx true (some (0, 0, 0))] }).ptpInst 0).delays = [delayTx true (some (0, 0, 0))] := by
  decide +kernel

/-! ### References and holdover -/

/-- Slot 0 is a GNSS reference; enabled, DRIFT-held with its signal present; and enabled while selected. -/
def gnssCfg : Device := (o1.fs (F.REF_CFG_type 0) 1)
def gnssOn : Device := (gnssCfg.set1 (F.REF_CFG_en 0)).clr (F.REF_CFG_drained 0)
def held : Device :=
  { ((gnssOn.fs (F.REF_STATUS_state 0) 5).fs (F.REF_STATUS_dq_reason 0) 1) with
    refs := { o1.refs with slots := [(0, { RefSlot.init with present := true })] } }

theorem wit_ReferenceSlots : Reach (st gnssCfg) (R.REF_CFG 0) ∧ refEn gnssCfg 0 = false ∧ refEnableErr gnssCfg 0 = 0 ∧
    Reach (st o1) (R.REF_CFG 0) ∧ refEn o1 0 = false ∧ refEnableErr o1 0 ≠ 0 ∧ Reach (st gnssOn) (R.REF_CFG 0) ∧ refEn gnssOn 0 = true ∧
    gnssOn.refs.sel ≠ some 0 ∧ refState gnssOn 0 ≠ 3 ∧ Reach (st held) (R.REF_CFG 0) ∧ refState held 0 = 5 ∧
    held.fg (F.REF_STATUS_dq_reason 0) = 1 ∧ (held.slot 0).present = true := by decide +kernel

def selected : Device :=
  { gnssOn.clr F.TB_TBC_manual with refs := { o1.refs with sel := some 0, build := false }, tb := { o1.tb with warm := true } }

theorem wit_RawComparisons : refEn gnssOn 0 = true ∧ TimeOk (st gnssOn) ∧ gnssOn.refs.sel ≠ some 0 ∧ refEn selected 0 = true ∧
    TimeOk (st selected) ∧ selected.refs.sel = some 0 ∧ steering selected = true ∧ selected.refs.build = false := by decide +kernel

/-- Slot 1 polls an NTP upstream through port 0. -/
def ntpSlot : Device :=
  { (((port0.fs (F.REF_CFG_type 1) 7).set1 (F.REF_CFG_en 1)).clr (F.REF_CFG_drained 1)) with cls := { port0.cls with sa := [(0, sa1)] } }
def polled : Device := { ntpSlot with refs := { ntpSlot.refs with slots := [(1, { RefSlot.init with ntpT1 := some now0 })] } }
def response : Bytes := beBytes 1 0x24 ++ beBytes 1 1 ++ zeros 22 ++ beBytes 8 (ntpOf polled now0) ++ zeros 16

theorem wit_NtpAndTod_poll : refEn ntpSlot 1 = true ∧ refType ntpSlot 1 = 7 ∧ (saOf ntpSlot (ntpSlot.fg (F.REF_NTP_CTL_sa 1))).valid = true ∧
    (saOf ntpSlot (ntpSlot.fg (F.REF_NTP_CTL_sa 1))).owned = true ∧ (ntpSlot.slot 1).polledAt = none ∧
    Books ntpSlot 0 (ntpSlot.now + gLead ntpSlot) (ntpSlot.now + gLead ntpSlot + ntpSlot.rn R.PEEL_SEARCH * nsU)
      (max 60 (ntpPoll ntpSlot 1 0).length + 4) (gateClass ntpSlot 0 (vlanTci ntpSlot (saOf ntpSlot (ntpSlot.fg (F.REF_NTP_CTL_sa 1))).vlan)) ∧
    ntpSlot.fg (F.REF_NTP_CTL_port 1) = 0 := by
  unfold Books Bookable; decide +kernel

theorem wit_NtpAndTod_response : refEn polled 1 = true ∧ refType polled 1 = 7 ∧ TimeOk (st polled) ∧ polled.refs.sel ≠ some 1 ∧
    (polled.slot 1).ntpT1 = some now0 ∧ (polled.slot 1).samples = [] ∧ byteAt response 0 % 8 = 4 ∧ 48 ≤ response.length ∧
    beAt response 24 8 = ntpOf polled now0 := by decide +kernel

/-- Slot 2 is a PPS with Tamco time messages on input 0. -/
def todSlot : Device := ((((o1.fs (F.REF_CFG_type 2) 2).set1 (F.REF_CFG_en 2)).clr (F.REF_CFG_drained 2)).fs (F.REF_TOD_fmt 2) 1).clr (F.REF_TOD_label 2)
def tamcoBody : Bytes := beBytes 3 0x54AC11 ++ zeros 1 ++ beBytes 6 0x009435770000 ++ zeros 20
def tamco : Bytes := tamcoBody ++ beBytes 1 (crc16 tamcoBody % 256) ++ beBytes 1 (crc16 tamcoBody / 256)

theorem wit_NtpAndTod_tod : refEn todSlot 2 = true ∧ refType todSlot 2 = 2 ∧ todSlot.fg (F.REF_TOD_tin 2) = 0 ∧ todSlot.fg (F.REF_TOD_fmt 2) = 1 ∧
    todSlot.fb (F.REF_TOD_label 2) = false ∧ tamcoLabel tamco = some 2000000000 ∧ (∀ m, m < 32 → m ≠ 2 → refEn todSlot m = false) := by
  decide +kernel

/-- The GNSS slot has been heard within 3 s, with a rank. -/
def audible : Device :=
  { ((gnssOn.clr (F.REF_CFG_hold 0)).fs F.TB_SEL_STATUS_mode 0) with refs := { o1.refs with slots := [(0, { RefSlot.init with heard := some 0, qual := 3 })] } }
def evaluated : Device := { o1 with refs := { o1.refs with evalSec := 2000000000 } }

theorem wit_SecondEvaluated : TimeOk (st audible) ∧ audible.nowSec ≠ audible.refs.evalSec ∧ refEn audible 0 = true ∧ refType audible 0 = 1 ∧
    (∀ m, m < 32 → m ≠ 0 → refEn audible m = false) ∧ refState audible 0 = 0 ∧ sigPresent audible 0 = true ∧
    audible.fb (F.REF_CFG_hold 0) = false ∧ rankOf audible 0 < 15 ∧ audible.refs.sel = none ∧ audible.fg F.TB_SEL_STATUS_mode = 0 ∧
    evaluated.nowSec = evaluated.refs.evalSec := by decide +kernel

/-- In TRACK_TIME with nothing selected: slot 0 qualified, and no slot at all. -/
def tracking (d : Device) : Device := { (d.fs F.TB_SEL_STATUS_mode 1).clr F.TB_TBC_manual with tb := { d.tb with warm := true } }
def qualified : Device := tracking (audible.fs (F.REF_STATUS_state 0) 2)

theorem wit_SelectorReruns : qualified.refs.sel = none ∧ qualified.fg F.TB_SEL_STATUS_mode = 1 ∧ steering qualified = true ∧
    pickOf qualified = some 0 ∧ (tracking o1).refs.sel = none ∧ (tracking o1).fg F.TB_SEL_STATUS_mode = 1 ∧ steering (tracking o1) = true ∧
    pickOf (tracking o1) = none := by decide +kernel

/-- Device Time is not set and the GNSS slot, in PROOFING, has three labels in a row. -/
def unset : Device :=
  { ((audible.fs (F.REF_STATUS_state 0) 1).clr F.TB_STATUS_dt_set) with
    refs := { o1.refs with slots := [(0, { RefSlot.init with heard := some 0, qual := 3, run := 3, lastX := some 65536 })] } }
def stepping : Device := { o1 with refs := { o1.refs with stepAt := some (now0, ((45 * secU : Nat) : Int)) } }

theorem wit_TimeSetAndStepped : unset.fb F.TB_STATUS_dt_set = false ∧ TimeOk (st unset) ∧
    leastBy (selKey unset) ((List.range 32).filter (readyToSet unset)) = some 0 ∧
    ofDtSub (dtSub ((unset.now : Int) + subLen ((unset.slot 0).lastX.getD 0)).toNat) < 2 ^ 48 * secU ∧
    stepping.refs.stepAt = some (now0, ((45 * secU : Nat) : Int)) ∧ TimeOk (st stepping) ∧ now0 ≤ stepping.now ∧
    ((stepping.now : Int) + ((45 * secU : Nat) : Int)).toNat < 2 ^ 48 * secU := by decide +kernel

def lastTen : Device := { o1 with refs := { o1.refs with last10 := some (20, List.replicate 10 (1 / 2)), oRun := List.replicate 10 (1 / 2), reanchor := true } }

theorem wit_OscillatorAnchor : Reach (st lastTen) R.TB_OSC_CTL ∧ lastTen.refs.last10 = some (20, List.replicate 10 (1 / 2)) ∧
    Reach (st o1) R.TB_OSC_CTL ∧ o1.refs.last10 = none ∧ lastTen.refs.reanchor = true ∧ 10 ≤ lastTen.refs.oRun.length := by decide +kernel

/-! ### The satellite receiver -/

/-- The receiver tracks; a GA channel of a GPS satellite awaits its first detection. -/
def rx : Device := ((o1.set1 UnitId.gnss.en).clr UnitId.gnss.drained).fs F.GNSS_CTL_mode 0
def chan (acq : Bool) (out : Option Nat) : GChan :=
  { sys := 0, svid := 7, gb := false, acquired := acq, lock1 := none, lock5 := none, outAt := out, smoothN := 0, smooth := 0, carrier := 0 }
def rxChan (acq : Bool) (out : Option Nat) : Device :=
  { rx.fs F.GNSS_ACQ_CTL_thr 120 with gnss := { Gnss.init with chans := [(4, chan acq out)] }, tm := { o1.tm with osc := 1700000000 } }
def rxProbe : Device := rx.set1 ⟨F.TIC_STATUS_valid.off, F.TIC_STATUS_valid.lo + 8, 1⟩

theorem wit_GnssMonitors : antFault (rxChan true none) false = false ∧ rx.up .gnss = true ∧ TimeOk (st rx) ∧ ([31, 32, 128, 129] : List Nat).length = 4 ∧
    probeValid rxProbe = true ∧ rxProbe.powered 7 = true ∧ TimeOk (st rxProbe) := by decide +kernel

theorem wit_GnssMonitors_alarms : (rx.set1 F.GNSS_PORT_CTL_ga_en).fb F.GNSS_PORT_CTL_ga_en = true ∧ ([31, 32, 128, 129] : List Nat).getD 0 0 < 32 ∧
    (rx.set1 F.GNSS_PORT_CTL_gb_en).fb F.GNSS_PORT_CTL_gb_en = true ∧ 128 < ([31, 32, 128, 129] : List Nat).getD 3 0 ∧
    (∀ k, k < 4 → 32 ≤ ([32, 33, 127, 128] : List Nat).getD k 0 ∧ ([32, 33, 127, 128] : List Nat).getD k 0 ≤ 128 ∧
      100 * ([5, 0, 0, 5] : List Nat).getD k 0 ≤ 512) := by decide +kernel

def view (elev : Int) : SatView := { sys := 0, svid := 7, elev }

theorem wit_GnssChannels : gnssTracks rx = true ∧ rx.gnss.allocSec < rx.nowSec ∧ [view 3000].length + rx.gnss.chans.length ≤ 192 ∧
    antFault rx false = false ∧ (rx.set1 F.GNSS_PORT_CTL_ga_en).fb F.GNSS_PORT_CTL_ga_en = true ∧ sysEnabled (rx.set1 F.GNSS_CTL_gps) 0 = true ∧
    gMask rx - 500 < (view (gMask rx - 499)).elev ∧
    (∀ u ∈ [view (gMask rx - 500)], u.sys = 0 → u.svid = 7 → u.elev ≤ gMask rx - 500) ∧ gnssTracks (rxChan false none) = true ∧
    (rxChan false none).fg F.GNSS_ACQ_CTL_thr < 121 ∧ 120 ≤ (rxChan false none).fg F.GNSS_ACQ_CTL_thr ∧
    (chan true (some 100000000)).outAt = some 100000000 ∧ 100000000 + 2 * 800000000 ≤ (rxChan true (some 100000000)).tm.osc := by decide +kernel

/-- A delay of 9 is staged and a commit awaits the next epoch; the receiver is off. -/
def staging (l : List (Nat × Word)) : Device := { o1.fs F.GNSS_CTL_mode 0 with gnss := { Gnss.init with staged := l, commit := true } }
def known : Device := rx.clr F.GNSS_MEAS_CTL_en

theorem wit_GnssEpochs : gnssTracks known = true ∧ known.gnss.epochSec < known.nowSec ∧ known.gnss.snapMode = false ∧ known.fg F.GNSS_CTL_mode = 0 ∧
    known.gnss.commit = false ∧ gnssSlots known = [] ∧ known.fb F.GNSS_MEAS_CTL_en = false ∧ posSrc known ≠ 1 ∧ Reach (st o1) R.GNSS_CTL ∧
    TimeOk (st (staging [])) ∧ (staging [(R.GNSS_DLY 0, 9)]).up .gnss = false ∧ (staging []).gnss.epochSec < (staging []).nowSec ∧
    (staging []).gnss.snapMode = false ∧ (staging []).fg F.GNSS_CTL_mode = 0 ∧ (staging [(R.GNSS_POS_LO 0, 9)]).gnss.commit = true ∧ posSrc known = 0 := by
  decide +kernel

def surveying : Device := { rx.fs F.GNSS_SOL_STATUS_pos_src 1 with gnss := { Gnss.init with before := 3 } }

theorem wit_GnssSurveys : Reach (st rx) R.GNSS_SURVEY ∧ Reach (st surveying) R.GNSS_SURVEY ∧ posSrc surveying = 1 ∧ surveying.gnss.before < 4 := by
  decide +kernel

def toSnap : Device := rx.fs F.GNSS_CTL_mode 1
def inSnap : Device := { (toSnap.set1 F.GNSS_SNAP_CTL_periodic).fs F.GNSS_SNAP_CTL_period 10 with gnss := { Gnss.init with snapMode := true } }

theorem wit_GnssModes : Reach (st rx) R.GNSS_CTL ∧ TimeOk (st toSnap) ∧ toSnap.up .gnss = true ∧ toSnap.powered 7 = true ∧
    toSnap.gnss.epochSec < toSnap.nowSec ∧ toSnap.gnss.snapMode = false ∧ toSnap.fg F.GNSS_CTL_mode = 1 ∧ toSnap.gnss.commit = false ∧
    gnssSlots toSnap = [] ∧ periodicDue inSnap = true ∧ freshEph inSnap [view 3000] 7200 < 6 ∧
    (inSnap.set1 F.GNSS_SNAP_CTL_solve).fb F.GNSS_SNAP_CTL_solve = true ∧ (inSnap.clr F.GNSS_SNAP_CTL_solve).fb F.GNSS_SNAP_CTL_solve = false := by
  decide +kernel

def capAsk : Device := rx.wn3 (R.GNSS_SNAP_AT_W 0) (dt96 (now0 + secU))
def capPend (due : Inst) : Device := { (rx.wn R.GNSS_SNAP_HANDLE 5) with sched := { o1.sched with pend := [{ handle := 5, due, act := .gnssCapture 4, notify := false, tag := 0, stepped := false }] } }
def capture : Capture := { trigger := 0, handle := 5, start := now0 - secU, len := 4, streams := 15 }
def capturing : Device := { rx.fs (F.TROUGH_POOL_CTL_policy 5) 1 with gnss := { Gnss.init with caps := [capture] } }

theorem wit_GnssCaptures : Reach (st capAsk) R.GNSS_SNAP_CTL ∧
    requestCode capAsk (Act.gnssCapture (snapLen capAsk)) (ofDt96 (capAsk.rn3 (R.GNSS_SNAP_AT_W 0))) = T.ACCEPTED ∧ Reach (st rx) R.GNSS_SNAP_CTL ∧
    requestCode rx (Act.gnssCapture (snapLen rx)) (ofDt96 (rx.rn3 (R.GNSS_SNAP_AT_W 0))) ≠ T.ACCEPTED ∧
    Reach (st (capPend (now0 + secU))) R.GNSS_SNAP_CTL ∧ (∀ e ∈ (capPend (now0 + secU)).sched.pend,
      e.handle = (capPend (now0 + secU)).rn R.GNSS_SNAP_HANDLE ∧ (capPend (now0 + secU)).now + 10000 * nsU ≤ e.due) ∧
    (capPend (now0 + secU)).sched.pend.length = 1 ∧ (∀ e ∈ (capPend now0).sched.pend, isDue (capPend now0) e = true) ∧
    (capPend now0).up .gnss = true ∧ TimeOk (st (capPend now0)) ∧ (capPend now0).sched.pend.length = 1 ∧
    TimeOk (st capturing) ∧ capturing.gnss.caps = [capture] ∧ capture.start + capture.len * 1000000 * nsU ≤ capturing.now ∧
    capturing.gnss.snaps = [] ∧ capture.streams = 15 ∧ poolPolicy capturing 5 = 1 ∧ poolRoom capturing 5 (cellsOf (capture.len * 245520 + 64)) = true ∧
    recordOpen capturing (capturing.fg F.GNSS_MEAS_CTL_ring) 7 = false := by decide +kernel

/-! ### The time-interval counter -/

/-- Channel 3 runs on a table of 512 equal codes, and pair 0 joins channels 2 and 3. -/
def line512 : TicLine := { valid := true, tbl := List.replicate 512 (20000, 78), used := 512, sec := 0, temp := 0 }
def ch3 (last : Option Inst) : TicCh := { TicCh.init with a := line512, lastEdge := last }
def tic3 (presc : Nat) (c : TicCh) (p : TicPair) : Device :=
  { (((((((o1.set1 (F.TIC_CH_CFG_en 3)).clr (UnitId.ticCh 3).drained).fs (F.TIC_CH_CFG_presc 3) presc).set1 (UnitId.ticPair 0).en).clr
      (UnitId.ticPair 0).drained).fs (F.TIC_PAIR_CFG_first_ch 0) 2).fs (F.TIC_PAIR_CFG_last_ch 0) 3).clr F.TIC_RING_en with
    tic := { Tic.init with chans := [(3, c)], pairs := [(0, p)] }, tm := { o1.tm with ticks := 2 ^ 40 + 9 } }
def edge (tick : Nat) (ch : Nat) : TicFirst := { ch, tick, run := 0, fine := 0, wid := 0, phi := 0, stamp := 0 }
def pairAt (p : TicPair) : Device := tic3 0 (ch3 none) p

theorem wit_TicEdges : (tic3 1 (ch3 none) TicPair.init).up (.ticCh 3) = true ∧ TimeOk (st (tic3 1 (ch3 none) TicPair.init)) ∧
    ((tic3 1 (ch3 none) TicPair.init).ticCh 3).serving.valid = true ∧
    ((tic3 1 (ch3 none) TicPair.init).ticCh 3).presc + 1 < 2 ^ min 6 ((tic3 1 (ch3 none) TicPair.init).fg (F.TIC_CH_CFG_presc 3)) ∧
    2 ^ min 6 ((pairAt TicPair.init).fg (F.TIC_CH_CFG_presc 3)) ≤ (ch3 none).presc + 1 ∧ (codeOf (ch3 none).serving 511).1 = true ∧
    (tic3 0 (ch3 (some 0)) TicPair.init).tm.run + (phiLen (tic3 0 (ch3 (some 0)) TicPair.init) 20000 + 1 / 2).floor.toNat < 0 + 3 * nsU ∧
    (ch3 (some 0)).lastEdge = some 0 ∧ (ch3 none).lastEdge = none := by decide +kernel

theorem wit_TicEdges_pairs : (pairAt { TicPair.init with st := 1 }).fb F.TIC_RING_en = false ∧
    (∀ r, r < 32 → refEn (pairAt { TicPair.init with st := 1 }) r = false) ∧ (pairAt { TicPair.init with st := 1 }).up (.ticPair 0) = true ∧
    (∀ q, q < 4 → q ≠ 0 → (pairAt { TicPair.init with st := 1 }).up (.ticPair q) = false) ∧
    pairStop (pairAt { TicPair.init with st := 1 }) 0 = 3 ∧ ((pairAt { TicPair.init with st := 1 }).ticPair 0).st = 1 ∧
    ((pairAt { TicPair.init with st := 1 }).ticPair 0).first = none ∧
    ((pairAt { TicPair.init with st := 2, first := some (edge 1000000 2) }).ticPair 0).st = 2 ∧
    ((pairAt { TicPair.init with st := 2, first := some (edge 1000000 2) }).ticPair 0).first = some (edge 1000000 2) ∧
    pairIsOver (pairAt { TicPair.init with st := 2, first := some (edge 1000000 2) }) (edge 1000000 2) = false ∧
    (edge 1000000 2).ch = pairStart (pairAt { TicPair.init with st := 2, first := some (edge 1000000 2) }) 0 ∧
    (edge 1000000 2).tick ≠ (pairAt { TicPair.init with st := 2, first := some (edge 1000000 2) }).tm.ticks := by decide +kernel

def opened : Device := { pairAt { TicPair.init with st := 2, first := some (edge 1000000 2) } with tm := { o1.tm with ticks := 2 ^ 40 + 9, run := 7 * secU } }
def closing : TicFirst :=
  { ch := 3, tick := opened.tm.ticks, run := opened.tm.run, fine := phiLen opened 20000 - ((opened.rs (R.TIC_CH_DELAY 3) * (psU : Int) : Int) : Rat),
    wid := phiLen opened 78, phi := 20000,
    stamp := to32 (((opened.now : Int) - (opened.rs (R.TIC_CH_DELAY 3) * (psU : Int)) : Int) + phiLen opened 20000) }

/-- The bin of the closing edge is within the interval. -/
theorem wit_TicEdges_width : (ch3 none).serving.tbl.getD 511 (0, 0) = (20000, 78) ∧
    max (edge 1000000 2).wid closing.wid ≤ interval (edge 1000000 2) closing := by decide +kernel

theorem wit_PairOverflows : ((pairAt { TicPair.init with st := 2, first := some (edge 10 2) }).ticPair 0).st = 2 ∧
    (edge 10 2).tick + (2 ^ 40 - 1) ≤ (pairAt { TicPair.init with st := 2, first := some (edge 10 2) }).tm.ticks ∧
    (edge 10 2).ch = pairStart (pairAt { TicPair.init with st := 2, first := some (edge 10 2) }) 0 ∧
    (edge 10 3).ch = pairStop (pairAt { TicPair.init with st := 2, first := some (edge 10 3) }) 0 ∧
    (edge 10 3).ch ≠ pairStart (pairAt { TicPair.init with st := 2, first := some (edge 10 3) }) 0 ∧
    (pairAt { TicPair.init with st := 2, first := some (edge 10 3) }).fb F.TIC_RING_en = false := by decide +kernel

def tabled : Device := { o1 with tic := { Tic.init with chans := [(3, ch3 none)] } }

theorem wit_TicEnables : Reach (st o1) (R.TIC_PAIR_CFG 0) ∧ o1.fb (UnitId.ticPair 0).en = false ∧ Reach (st tabled) (R.TIC_CH_CFG 3) ∧
    tabled.fb (UnitId.ticCh 3).en = false ∧ (tabled.ticCh 3).a.valid = true ∧ tabled.stopOf (.ticCh 3) = none ∧ Reach (st o1) (R.TIC_CH_CFG 3) ∧
    o1.fb (UnitId.ticCh 3).en = false ∧ (o1.ticCh 3).a.valid = false ∧ (o1.ticCh 3).b.valid = false := by decide +kernel

def calAuto : Device :=
  { (o1.set1 F.TIC_CAL_CTL_auto).fs F.TIC_CAL_CTL_period 60 with tic := { Tic.init with calStart := some 0 }, tm := { o1.tm with osc := 60 * 800000000 } }
def calibrating : Device := { o1 with tic := { Tic.init with chans := [(3, { ch3 none with stage := 1 })] } }
/-- 511 codes in use of 8208 hits, the last of the rest; and all hits in one code. -/
def hitsGood : List Nat := List.replicate 510 8208 ++ [4194304 - 510 * 8208, 0]
def hitsBad : List Nat := 4194304 :: List.replicate 511 0

theorem wit_TicCalibrates : calBusy o1 = false ∧ Reach (st o1) R.TIC_CAL_CTL ∧ calBusy calAuto = false ∧ calAuto.fb F.TIC_CAL_CTL_auto = true ∧
    calAuto.fg F.TIC_CAL_CTL_period ≠ 0 ∧ calAuto.tic.calStart = some 0 ∧ 0 + max 60 (calAuto.fg F.TIC_CAL_CTL_period) * 800000000 ≤ calAuto.tm.osc ∧
    (calibrating.ticCh 3).stage = 1 ∧ (calibrating.ticCh 3).serving.valid = true ∧ hitsGood.length = 512 ∧ sumOf id hitsGood = 2 ^ 22 ∧
    calCheck hitsGood = 0 ∧ hitsBad.length = 512 ∧ sumOf id hitsBad = 2 ^ 22 ∧ calCheck hitsBad ≠ 0 := by decide +kernel

/-! ### Timebase and outputs -/

/-- OSC_WARM_N has been low for 1 s and OSC_IN present for the minimum. -/
def warming : Device := { ((o1.clr F.TB_TBC_manual).fs F.TB_SEL_STATUS_mode 0) with tb := { o1.tb with warm := false, warmN := false, warmLowAt := 0, oscAt := 0 }, tm := { o1.tm with osc := 800000000 * 1000000 } }
def modeIs (m : Nat) : Device := ((o1.clr F.TB_TBC_manual).fs F.TB_SEL_STATUS_mode m)
def manualMode : Device := o1.set1 F.TB_TBC_manual

theorem wit_WarmupAndManual : warming.tb.warmN ≠ true ∧ warming.tb.warm = false ∧ warmDone warming = true ∧ TimeOk (st warming) ∧
    warming.fb F.TB_TBC_manual = false ∧ warming.fg F.TB_SEL_STATUS_mode = 0 ∧ pickOf warming = none ∧ Reach (st (modeIs 3)) R.TB_TBC ∧
    (0x80000000#32).getLsbD 31 = true ∧ (modeIs 3).fb F.TB_TBC_manual = false ∧ (modeIs 3).fg F.TB_SEL_STATUS_mode = 3 ∧
    Reach (st (modeIs 2)) R.TB_TBC ∧ (modeIs 2).fb F.TB_TBC_manual = false ∧ (modeIs 2).fg F.TB_SEL_STATUS_mode = 2 ∧ Reach (st manualMode) R.TB_TBC ∧
    (0#32).getLsbD 31 = false ∧ manualMode.fb F.TB_TBC_manual = true := by decide +kernel

/-- All seventeen clocks are checked and locked, one bad window of the third synthesizer behind them. -/
def clocks : Device :=
  { (((((((o1.set1 (F.FOUT_CFG_en 0)).set1 (F.FOUT_CFG_en 1)).set1 (F.FOUT_CFG_en 2)).set1 (F.FOUT_CFG_en 3)).clr (UnitId.fout 0).drained).clr
      (UnitId.fout 1).drained).clr (UnitId.fout 2).drained).clr (UnitId.fout 3).drained with tb := { o1.tb with bad := [(14, 1)] } }
def fallback : Device := { o1 with life := { o1.life with aonClk := [1], attempts := [(1, 1)] } }
def restoring : Device :=
  { o1.set1 F.TB_STATUS_dt_invalid with tm := { o1.tm with osc := 1600, pairN := 800, pairD := now0 }, sched := { o1.sched with pend := [] }, tb := { o1.tb with oscLost := false } }

theorem wit_ClocksLockAndRestore : TimeOk (st clocks) ∧ (∀ b, b < 17 → pllChecked clocks b = true ∧ pllLocked clocks b = true) ∧
    amGet 0 clocks.tb.bad (12 + 2) = 1 ∧ 1 ∈ fallback.life.aonClk ∧ amGet 0 fallback.life.attempts 1 < 2 ∧
    restoring.dtInvalid = true ∧ pllLocked restoring 4 = true ∧ pllLocked restoring 16 = true ∧ restoring.tm.osc % 80 = 0 ∧
    restoring.tb.oscLost = false ∧ restoring.sched.pend = [] ∧ restoring.peel.bookings = [] ∧
    (∀ n, n < 16 → restoring.fb (F.PORT_STATUS_link_up n) = false) ∧ restoring.starter.rotations = [] ∧ restoring.trust.pend = none ∧
    restoring.pair.held = false ∧
    restoring.tm.pairD + (restoring.tm.osc - restoring.tm.pairN) * restoring.tm.tickLen < 2 ^ 48 * secU := by decide +kernel

def outDef : Out := { level := 0, enAt := now0 - 2 * secU, startAt := none, corr := 0, clearAt := none, checkAt := none, lows := [] }
def outs (o : Out) (d : Device) : Device := { d with outs := [(7, o), (10, o)], tm := { o1.tm with osc := 80000000 } }
def tout7 : Device := outs outDef (((o1.set1 (F.TOUT_CFG_en 7)).clr (F.TOUT_STATUS_running 7)).fs (F.TOUT_CFG_func 7) 6)
def fout2 : Device := outs outDef (((o1.set1 (F.FOUT_CFG_en 2)).clr (F.FOUT_STATUS_running 2)).set1 (F.FOUT_STATUS_lock 2))
def running7 : Device := (tout7.set1 (F.TOUT_STATUS_running 7)).set1 ⟨F.TIC_STATUS_valid.off, F.TIC_STATUS_valid.lo + 8, 1⟩
def quiet : Device := outs { outDef with clearAt := some 72000000 } ((((o1.set1 (F.TOUT_CFG_en 7)).set1 (sqFlag 7)).set1 F.TB_STATUS_time_valid).set1 F.TB_STATUS_utc_valid)

theorem wit_OutputsRun : tout7.fb (F.TOUT_CFG_en 7) = true ∧ tout7.fb (F.TOUT_STATUS_running 7) = false ∧ TimeOk (st tout7) ∧
    startBoundary (tout7.outOf 7).enAt ≤ tout7.now ∧ fout2.fb (F.FOUT_CFG_en 2) = true ∧ fout2.fb (F.FOUT_STATUS_running 2) = false ∧
    TimeOk (st fout2) ∧ fout2.fb (F.FOUT_STATUS_lock 2) = true ∧ startBoundary (fout2.outOf (8 + 2)).enAt ≤ fout2.now ∧
    running7.fb (F.TOUT_STATUS_running 7) = true ∧ (running7.outOf 7).checkAt = none ∧ probeValid running7 = true ∧ TimeOk (st running7) ∧
    (quiet.outOf 7).clearAt = some 72000000 ∧ quiet.fb (sqFlag 7) = true ∧ sqCause quiet 7 = false ∧ 72000000 + 8000000 ≤ quiet.tm.osc ∧
    quiet.now ≤ quiet.now / secU * secU + (quiet.tm.osc - 72000000 - 8000000) * 1250 * psU := by decide +kernel

def evAsk : Device := tout7.wn3 (R.OUT_EV_AT_W 0) (dt96 (now0 + secU))
def evPend (due : Inst) : Device :=
  { (running7.clr (F.TOUT_STATUS_sq 7)).wn R.OUT_EV_HANDLE 5 with
    sched := { o1.sched with pend := [{ handle := 5, due, act := .outEvent 7 2 10, notify := false, tag := 0, stepped := false }] } }

theorem wit_OutputEvents : Reach (st evAsk) R.OUT_EV_CMD ∧ bits (7#32).toNat 0 3 = 7 ∧ evAsk.fg (F.TOUT_CFG_func 7) = 6 ∧
    requestCode evAsk (Act.outEvent 7 (bits (7#32).toNat 26 2) (max 10 (evAsk.rn R.OUT_EV_WIDTH))) (ofDt96 (evAsk.rn3 (R.OUT_EV_AT_W 0))) = T.ACCEPTED ∧
    evAsk.fg (F.TOUT_CFG_func (bits (0#32).toNat 0 3)) ≠ 6 ∧ Reach (st (evPend (now0 + secU))) R.OUT_EV_CMD ∧
    (evPend (now0 + secU)).sched.pend = [{ handle := 5, due := now0 + secU, act := .outEvent 7 2 10, notify := false, tag := 0, stepped := false }] ∧
    5 = (evPend (now0 + secU)).rn R.OUT_EV_HANDLE ∧ (evPend (now0 + secU)).now + 5000 * nsU ≤ now0 + secU ∧ TimeOk (st (evPend now0)) ∧
    (∀ e ∈ (evPend now0).sched.pend, isDue (evPend now0) e = true) ∧ (evPend now0).sched.pend.length = 1 ∧ ((evPend now0).outOf 7).lows = [] ∧
    (evPend now0).fb (F.TOUT_STATUS_sq 7) = false ∧ (evPend now0).fb (F.TOUT_STATUS_running 7) = true ∧ (evPend now0).fg (F.TOUT_CFG_func 7) = 6 := by
  decide +kernel

/-! ### Trust and commands of the CMD ring -/

/-- CMD ring 4 takes a command. -/
def cmdRing (d : Device) : Device :=
  (((d.set1 (F.HIF_RING_CTL_en 4)).clr (F.HIF_RING_CTL_drained 4)).fs (F.HIF_RING_CTL_class 4) 0).setRing 4 { Ring.init with sqTail := 1 }
def cmd0 : Device := cmdRing o1
/-- A command of op `op`. -/
def cmdOf (op len arg0 arg1 : Nat) : Bytes :=
  leBytes 1 op ++ zeros 1 ++ leBytes 2 len ++ leBytes 4 9 ++ zeros 16 ++ leBytes 4 arg0 ++ leBytes 4 arg1

def fwWritten : Device := { cmd0 with trust := { o1.trust with fw := [(1, { FwBank.init with factory := false })] } }

theorem wit_StagingAndBadCommands : CmdReady cmd0 4 1 (cmdOf 1 4096 1044480 0) ∧ 1 ≤ cLen (cmdOf 1 4096 1044480 0) ∧ cLen (cmdOf 1 4096 1044480 0) ≤ 4096 ∧
    cArg0 (cmdOf 1 4096 1044480 0) + cLen (cmdOf 1 4096 1044480 0) ≤ 1048576 ∧ cArg1 (cmdOf 1 4096 1044480 0) ≤ 65535 ∧
    CmdReady fwWritten 4 5 (cmdOf 5 1 16777215 0) ∧ cLen (cmdOf 5 1 16777215 0) = 1 ∧ cArg0 (cmdOf 5 1 16777215 0) + 1 ≤ 16777216 ∧
    cArg1 (cmdOf 5 1 16777215 0) ≤ 65535 ∧ (fwBank fwWritten (fwOther fwWritten)).factory = false ∧ canTake cmd0 4 0 = true ∧
    (cmdOf 0x0F 0 0 0).length = 32 ∧ cmdOps.contains (cOp (cmdOf 0x0F 0 0 0)) = false ∧ CmdReady cmd0 4 2 (cmdOf 2 1 0 0) ∧ 0 < cLen (cmdOf 2 1 0 0) := by
  unfold CmdReady; decide +kernel

/-- The identity of the curve: as a key, and as a signature with s = 0, which holds for every message. -/
def idKey : Bytes := leBytes 32 1
def idSig : Bytes := idKey ++ zeros 32

theorem edAdd_identity : edAdd (0, 1) (0, 1) = (0, 1) := by decide +kernel

theorem edMul_identity (k : Nat) : edMul k (0, 1) = (0, 1) := by
  unfold edMul
  induction List.range (k.log2 + 1) with
  | nil => rfl
  | cons i l ih => simp [ih, edAdd_identity]

theorem edMul_zero (q : Nat × Nat) : edMul 0 q = (0, 1) := by
  simp [edMul, edAdd_identity]

theorem idKey_decodes : edDec idKey = some (0, 1) := by decide +kernel
theorem idSig_decodes : edDec idSig = some (0, 1) := by decide +kernel

theorem edCheck_identity (g : Bytes) : edCheck (0, 1) (0, 1) 0 g = true := by
  unfold edCheck
  simp only [edMul_identity, edAdd_identity, Nat.mul_zero, edMul_zero]
  rfl

theorem idSig_verifies (msg : Bytes) : sigVerify 2 idKey idSig msg = true := by
  have h : leVal (idSig.drop 32) = 0 := by decide +kernel
  unfold sigVerify edVerify
  rw [if_pos rfl, idKey_decodes, idSig_decodes]
  show (decide (leVal (idSig.drop 32) < edL) && edCheck (0, 1) (0, 1) (leVal (idSig.drop 32)) _) = true
  rw [h, edCheck_identity]
  decide +kernel

/-- A Batch of no items: flags, binding, epoch, total length, item count and Owner identity as given. -/
def batchOf (flags bind epoch total items : Nat) (owner : Bytes) : Bytes :=
  leBytes 4 0x43544142 ++ leBytes 2 1 ++ leBytes 1 2 ++ leBytes 1 flags ++ leBytes 8 7 ++ leBytes 6 bind ++ zeros 2 ++ leBytes 4 epoch ++
  leBytes 4 total ++ zeros 12 ++ leBytes 2 items ++ zeros 2 ++ owner ++ idSig
/-- The identity of that Owner Key (R364). -/
def owner : Bytes := beBytes 16 277787794855019275602360571264702585861
theorem owner_is : keyId 2 idKey = owner := by decide +kernel
def staged (b : Bytes) (d : Device) : Device := { d with trust := { d.trust with staging := (List.range b.length).map fun k => (k, b.getD k 0) } }
/-- A pair, with the Owner Key `idKey`. -/
def ownedPair : Device :=
  { cmd0.set1 F.SEC_STATUS_owner with pair := { o1.pair with body := leBytes 6 77 }, trust := { o1.trust with owner := some (2, idKey) } }
def signed : Device := staged (batchOf 1 77 0 128 0 owner) ownedPair

/-- A part of a list by number is the list of the parts. -/
theorem slice_map_range (f : Nat → Byte) (m o n : Nat) (h : o + n ≤ m) : slice ((List.range m).map f) o n = (nats o n).map f := by
  apply List.ext_getElem
  · simp [slice, nats]; omega
  · intro i _ _; simp [slice, nats]

theorem wit_BatchChecks_head : CmdReady cmd0 4 2 (cmdOf 2 0 0 0) ∧ plainBad (cmdOf 2 0 0 0) = false ∧ headBad (stagedBatch cmd0) = true := by
  unfold CmdReady; decide +kernel

theorem bTotal_staged (d : Device) : bTotal (stagedBatch d) = leVal ((nats 28 4).map fun i => amGet 0 d.trust.staging i) := by
  unfold bTotal leAt stagedBatch
  rw [slice_map_range]
  omega

/-- The header alone of a Batch too long for the buffer. -/
def tooLong : Device := staged ((batchOf 1 77 0 0x100001 0 owner).take 64) ownedPair

theorem wit_BatchChecks_long : 1048576 < bTotal (stagedBatch tooLong) ∧ headBad (stagedBatch tooLong) = false := by
  constructor
  · rw [bTotal_staged]; decide +kernel
  · unfold headBad leAt bAlg byteAt stagedBatch
    rw [slice_map_range _ _ _ _ (by omega), slice_map_range _ _ _ _ (by omega), slice_map_range _ _ _ _ (by omega), slice_map_range _ _ _ _ (by omega)]
    simp only [List.getD_eq_getElem?_getD, List.getElem?_map]
    rw [List.getElem?_range (by omega), List.getElem?_range (by omega)]
    decide +kernel

theorem wit_BatchChecks : CmdReady signed 4 2 (cmdOf 2 0 0 0) ∧ batchItems (stagedBatch (staged (batchOf 1 77 0 128 1 owner) ownedPair)) = none ∧
    headBad (stagedBatch (staged (batchOf 1 77 0 128 1 owner) ownedPair)) = false ∧
    headBad (stagedBatch signed) = false ∧ bTotal (stagedBatch signed) ≤ 1048576 ∧ batchItems (stagedBatch signed) = some [] ∧
    bClaim (stagedBatch signed) = false ∧ bPair (stagedBatch signed) = true ∧ (paired signed && bBind (stagedBatch signed) == pairId signed) = true ∧
    claimed signed = true ∧ signed.trust.owner = some (2, idKey) ∧ owner = bOwnerId (stagedBatch signed) ∧
    bEpoch (stagedBatch signed) = signed.fg F.SEC_FUSE_EPOCH ∧ (∀ i, i < 2 → (signed.bank i).commit = none) := by
  unfold CmdReady; decide +kernel

theorem signed_verifies (d : Device) (h : stagedBatch d = batchOf 1 77 0 128 0 owner) : batchSigned (stagedBatch d) (2, idKey) = true := by
  rw [h]
  unfold batchSigned
  have a : bAlg (batchOf 1 77 0 128 0 owner) = 2 := by decide +kernel
  have b : slice (batchOf 1 77 0 128 0 owner) (bTotal (batchOf 1 77 0 128 0 owner) - sigLen 2) (sigLen 2) = idSig := by decide +kernel
  simp only [a, b, idSig_verifies]
  decide

theorem signed_staged : stagedBatch signed = batchOf 1 77 0 128 0 owner := by decide +kernel
theorem wit_BatchChecks_signed : batchSigned (stagedBatch signed) (2, idKey) = true := signed_verifies signed signed_staged

/-- The binding, the claim state, the Owner and the epoch that fail. -/
def unpaired : Device := staged (batchOf 1 77 0 128 0 owner) (cmd0.set1 F.SEC_STATUS_owner)
def unowned : Device := signed.clr F.SEC_STATUS_owner
def otherOwner : Device := staged (batchOf 1 77 0 128 0 (zeros 16)) ownedPair
def otherEpoch : Device := staged (batchOf 1 77 1 128 0 owner) ownedPair
def claiming : Device := staged (batchOf 3 77 0 128 0 owner) ownedPair

theorem wit_BatchChecks_failures : batchItems (stagedBatch unpaired) = some [] ∧ bPair (stagedBatch unpaired) = true ∧
    (paired unpaired && bBind (stagedBatch unpaired) == pairId unpaired) = false ∧ claimed unowned = false ∧
    (paired unowned && bBind (stagedBatch unowned) == pairId unowned) = true ∧ owner ≠ bOwnerId (stagedBatch otherOwner) ∧
    otherOwner.trust.owner = some (2, idKey) ∧ claimed otherOwner = true ∧
    (paired otherOwner && bBind (stagedBatch otherOwner) == pairId otherOwner) = true ∧ owner = bOwnerId (stagedBatch otherEpoch) ∧
    bEpoch (stagedBatch otherEpoch) ≠ otherEpoch.fg F.SEC_FUSE_EPOCH ∧ batchItems (stagedBatch claiming) = some [] ∧
    bClaim (stagedBatch claiming) = true ∧ claimed claiming = true ∧ headBad (stagedBatch claiming) = false ∧
    (paired claiming && bBind (stagedBatch claiming) == pairId claiming) = true := by decide +kernel

def waitingApply : Device := { signed with trust := { signed.trust with pend := some (0, none) } }

theorem wit_BatchesCommitAndApply : CmdReady signed 4 3 (cmdOf 3 0 0 0) ∧ plainBad (cmdOf 3 0 0 0) = false ∧ CmdReady waitingApply 4 3 (cmdOf 3 0 0 0) ∧
    waitingApply.trust.pend.isSome = true ∧ signed.trust.pend = none ∧ bClaim (stagedBatch signed) = false ∧
    requestCode signed .batchApply (if bApplyAt (stagedBatch signed) = 0 then signed.now + 100 * 1000000 * nsU else bApplyAt (stagedBatch signed)) = T.ACCEPTED := by
  unfold CmdReady; decide +kernel

theorem wit_BatchesCommitAndApply_checks : batchCheck (moreBad signed) signed (stagedBatch signed) = B.OK := by
  have h1 : batchItems (stagedBatch signed) = some [] := by decide +kernel
  have h2 : (if bPair (stagedBatch signed) = true then paired signed && bBind (stagedBatch signed) == pairId signed
    else bBind (stagedBatch signed) == Config.serial.toNat) = true := by
    rw [if_pos (by decide +kernel)]; decide +kernel
  have h3 : (batchKey signed (stagedBatch signed) []).filter (fun k => keyId k.1 k.2 == bOwnerId (stagedBatch signed)) = some (2, idKey) := by decide +kernel
  have h4 : bClaim (stagedBatch signed) = false := by decide +kernel
  have h5 : claimed signed = true := by decide +kernel
  unfold batchCheck
  rw [if_neg (by decide +kernel), if_neg (by decide +kernel), h1]
  dsimp only
  rw [h2, h4, h5, h3]
  dsimp only
  rw [if_neg (by decide), if_neg (by decide), if_neg (by decide +kernel), if_neg (by rw [wit_BatchChecks_signed]; decide),
    if_neg (by decide +kernel), if_neg (by decide +kernel)]
  rfl

def applying (d : Device) (due : Inst) : Device :=
  { d.clr F.HIF_CTL_evt_en with sched := { o1.sched with pend := [{ handle := 5, due, act := .batchApply, notify := false, tag := 0, stepped := false }] }
                                trust := { d.trust with pend := some (1, some 5),
                                                        banks := [(1, { data := batchOf 1 77 0 128 0 owner, commit := some (7, sha256 (batchOf 1 77 0 128 0 owner), due), applied := none, void := false })] } }

theorem wit_BatchesCommitAndApply_cancel : CmdReady (applying ownedPair (now0 + secU)) 4 4 (cmdOf 4 0 5 0) ∧ cLen (cmdOf 4 0 5 0) = 0 ∧ cArg1 (cmdOf 4 0 5 0) ≤ 65535 ∧
    5 = cArg0 (cmdOf 4 0 5 0) ∧ (applying ownedPair (now0 + secU)).trust.pend = some (1, some 5) ∧ TimeOk (st (applying ownedPair (now0 + secU))) ∧
    (applying ownedPair (now0 + secU)).now + 100 * 1000000 * nsU ≤ now0 + secU ∧ (applying ownedPair (now0 + secU)).fb F.HIF_CTL_evt_en = false ∧
    (applying ownedPair (now0 + secU)).sched.pend.length = 1 := by
  unfold CmdReady; decide +kernel

theorem wit_BatchesCommitAndApply_apply : TimeOk (st (applying ownedPair now0)) ∧ (∀ e ∈ (applying ownedPair now0).sched.pend, isDue (applying ownedPair now0) e = true) ∧
    batchItems ((applying ownedPair now0).bank 1).data = some [] ∧ recheckBad (applying ownedPair now0) ((applying ownedPair now0).bank 1).data = false ∧
    recheckBad (applying cmd0 now0) ((applying cmd0 now0).bank 1).data = true ∧ ((applying ownedPair now0).bank 1).valid = true ∧
    ((applying ownedPair now0).bank (1 - 1)).applied = none := by decide +kernel

def afterBoot : Device := { (applying o1 now0).set1 F.TB_STATUS_dt_set with trust := { (applying o1 now0).trust with pend := some (1, none) } }

theorem wit_BatchAppliesAfterBoot : afterBoot.trust.pend = some (1, none) ∧ (afterBoot.bank 1).commit.isSome = true ∧ TimeOk (st afterBoot) ∧
    afterBoot.fb F.TB_STATUS_dt_set = true := by decide +kernel

def serving : Device := { (o1.set1 F.SEC_CTL_auto_confirm).fs F.GLB_STATUS_stage 5 with tm := { o1.tm with osc := 86400 * 800000000 } }

theorem wit_Firmware : CmdReady fwWritten 4 6 (cmdOf 6 0 0 0) ∧ plainBad (cmdOf 6 0 0 0) = false ∧ fwCheck fwWritten (fwOther fwWritten) ≠ B.OK ∧
    (fwBank fwWritten (fwOther fwWritten)).factory = false ∧
    leAt (fwBytes fwWritten (fwOther fwWritten) 0 192) 0 4 ≠ 0x4957464D ∧ CmdReady cmd0 4 7 (cmdOf 7 0 0 0) ∧ plainBad (cmdOf 7 0 0 0) = false ∧
    serving.fb F.SEC_CTL_auto_confirm = true ∧ serving.fg F.GLB_STATUS_stage = 5 ∧ serving.trust.servedAt + 86400 * 800000000 ≤ serving.tm.osc := by
  unfold CmdReady; decide +kernel

def delivered : Device := { cmd0 with trust := { o1.trust with fw := [(1, { FwBank.init with factory := true })] } }

theorem wit_Firmware_ready : CmdReady delivered 4 6 (cmdOf 6 0 0 0) := by unfold CmdReady; decide +kernel

/-- The image a part is delivered with passes while no svn fuse is burned, whatever its svn. -/
theorem wit_Firmware_ok : fwCheck delivered (fwOther delivered) = B.OK := by
  have h : (fwBank delivered (fwOther delivered)).factory = true := by decide +kernel
  have g : delivered.fg F.SEC_FUSE_SVN = 0 := by decide +kernel
  unfold fwCheck
  rw [if_pos h, g, if_neg (Nat.not_lt_zero _)]

def armed (low : Bool) : Device :=
  { cmd0.set1 F.SEC_STATUS_claim_armed with trust := { o1.trust with claimN := !low, nonceAt := 0 }, tm := { o1.tm with osc := 600 * 800000000 } }

theorem wit_ClaimNonce : CmdReady (armed false) 4 8 (cmdOf 8 0 0 0) ∧ plainBad (cmdOf 8 0 0 0) = false ∧ (armed false).trust.claimN = true ∧
    CmdReady (armed true) 4 8 (cmdOf 8 0 0 0) ∧ (armed true).trust.claimN = false ∧ (armed true).fb F.SEC_STATUS_claim_armed = true ∧
    (armed true).trust.nonceAt + 600 * 800000000 ≤ (armed true).tm.osc := by
  unfold CmdReady; decide +kernel

theorem wit_QuotesAndKeys : CmdReady cmd0 4 9 (cmdOf 9 32 0 400) ∧ cLen (cmdOf 9 32 0 400) = 32 ∧ cArg0 (cmdOf 9 32 0 400) = 0 ∧
    cArg1 (cmdOf 9 32 0 400) ≤ 65535 ∧ 400 ≤ cArg1 (cmdOf 9 32 0 400) ∧ CmdReady cmd0 4 9 (cmdOf 9 32 0 399) ∧ cArg1 (cmdOf 9 32 0 399) < 400 ∧
    cLen (cmdOf 9 32 0 399) = 32 ∧ CmdReady cmd0 4 10 (cmdOf 10 0 0 65535) ∧ plainBad (cmdOf 10 0 0 65535) = false ∧
    CmdReady cmd0 4 11 (cmdOf 11 0 0 44) ∧ plainBad (cmdOf 11 0 0 44) = false ∧ (tlsSpki cmd0.trust.tlsNext).length ≤ cArg1 (cmdOf 11 0 0 44) := by
  unfold CmdReady; decide +kernel

theorem wit_Flash : CmdReady cmd0 4 12 (cmdOf 12 0 0x2580000 64) ∧ flashIn (cArg0 (cmdOf 12 0 0x2580000 64)) (cArg1 (cmdOf 12 0 0x2580000 64)) = true ∧
    flashIn (cArg0 (cmdOf 12 0 0x257FFFF 64)) (cArg1 (cmdOf 12 0 0x257FFFF 64)) = false ∧ cArg1 (cmdOf 12 0 0x257FFFF 64) ≤ 65535 ∧
    CmdReady cmd0 4 12 (cmdOf 12 0 0x257FFFF 64) ∧ CmdReady cmd0 4 13 (cmdOf 13 1 0x3FFFFFF 0) ∧ cLen (cmdOf 13 1 0x3FFFFFF 0) = 1 ∧
    flashIn (cArg0 (cmdOf 13 1 0x3FFFFFF 0)) (cLen (cmdOf 13 1 0x3FFFFFF 0)) = true ∧ cArg1 (cmdOf 13 1 0x3FFFFFF 0) ≤ 65535 ∧
    flashIn (cArg0 (cmdOf 13 2 0x3FFFFFF 0)) (cLen (cmdOf 13 2 0x3FFFFFF 0)) = false ∧ CmdReady cmd0 4 13 (cmdOf 13 2 0x3FFFFFF 0) ∧
    CmdReady cmd0 4 14 (cmdOf 14 0 0x3FFF000 0) ∧ cArg0 (cmdOf 14 0 0x3FFF000 0) % 4096 = 0 ∧ flashIn (cArg0 (cmdOf 14 0 0x3FFF000 0)) 4096 = true ∧
    cLen (cmdOf 14 0 0x3FFF000 0) = 0 ∧ cArg0 (cmdOf 14 0 0 0) % 4096 = 0 ∧ flashIn (cArg0 (cmdOf 14 0 0 0)) 4096 = false ∧
    CmdReady cmd0 4 14 (cmdOf 14 0 0 0) ∧ Memory.wf cmd0.trust.flash = true := by
  unfold CmdReady; decide +kernel

/-- A timed register change of GNSS_CHAN_CTL, or of another register. -/
def timedOf (o m v : Nat) (t : Inst) : Bytes := leBytes 1 0x10 ++ zeros 3 ++ leBytes 4 9 ++ leBytes 12 (dt96 t) ++ leBytes 4 o ++ leBytes 4 m ++ leBytes 4 v
def regPend (due : Inst) : Device :=
  { cmd0 with sched := { o1.sched with pend := [{ handle := 5, due, act := .regWrite R.GNSS_CHAN_CTL 127 9, notify := false, tag := 0, stepped := false }] } }

theorem wit_TimedWrites : CmdReady cmd0 4 0x10 (timedOf R.GNSS_CHAN_CTL 127 9 (now0 + secU)) ∧ cLen (timedOf R.GNSS_CHAN_CTL 127 9 (now0 + secU)) = 0 ∧
    leAt (timedOf R.GNSS_CHAN_CTL 127 9 (now0 + secU)) 20 4 = R.GNSS_CHAN_CTL ∧ leAt (timedOf R.GNSS_CHAN_CTL 127 9 (now0 + secU)) 24 4 = 127 ∧
    timedBad cmd0 R.GNSS_CHAN_CTL 127 = false ∧
    requestCode cmd0 (Act.regWrite R.GNSS_CHAN_CTL 127 9) (ofDt96 (leAt (timedOf R.GNSS_CHAN_CTL 127 9 (now0 + secU)) 8 12)) = T.ACCEPTED ∧
    requestCode cmd0 (Act.regWrite R.GNSS_CHAN_CTL 127 9) (ofDt96 (leAt (timedOf R.GNSS_CHAN_CTL 127 9 now0) 8 12)) ≠ T.ACCEPTED ∧
    CmdReady cmd0 4 0x10 (timedOf R.GNSS_CHAN_CTL 127 9 now0) ∧ CmdReady cmd0 4 0x10 (timedOf 0xE000 1 1 now0) ∧
    0xE000 ≤ leAt (timedOf 0xE000 1 1 now0) 20 4 ∧ leAt (timedOf 0xEFFF 1 1 now0) 20 4 < 0xF000 ∧ TimeOk (st (regPend now0)) ∧
    (∀ e ∈ (regPend now0).sched.pend, isDue (regPend now0) e = true) ∧ (regPend now0).sched.pend.length = 1 ∧ Reach (st (regPend now0)) R.GNSS_CHAN_CTL ∧
    CmdReady (regPend (now0 + secU)) 4 0x11 (cmdOf 0x11 0 5 0) ∧ cLen (cmdOf 0x11 0 5 0) = 0 ∧ cArg1 (cmdOf 0x11 0 5 0) ≤ 65535 ∧
    5 = cArg0 (cmdOf 0x11 0 5 0) ∧ (regPend (now0 + secU)).now + 10000 * nsU ≤ now0 + secU ∧ (regPend (now0 + secU)).trust.pend = none := by
  unfold CmdReady; decide +kernel

theorem wit_TableReads : CmdReady cmd0 4 0x20 (cmdOf 0x20 0 67108863 96) ∧ cLen (cmdOf 0x20 0 67108863 96) = 0 ∧ cArg0 (cmdOf 0x20 0 67108863 96) < 2 ^ 26 ∧
    cArg1 (cmdOf 0x20 0 67108863 96) = 96 ∧ CmdReady cmd0 4 0x20 (cmdOf 0x20 0 0 95) ∧ cArg1 (cmdOf 0x20 0 0 95) = 95 ∧
    CmdReady cmd0 4 0x21 (cmdOf 0x21 0 65535 96) ∧ cLen (cmdOf 0x21 0 65535 96) = 0 ∧ cArg0 (cmdOf 0x21 0 65535 96) < 2 ^ 16 ∧
    cArg1 (cmdOf 0x21 0 65535 96) = 96 ∧ cmd0.grant 65535 = none := by
  unfold CmdReady; decide +kernel

def loaded : Device := o1.fs F.SEC_EXT_STATUS_state 1
def reacts (v : Nat) : Device := ((o1.fs F.SEC_TAMPER_CFG_temp v).fs F.SEC_TAMPER_CFG_tamp0 v).fs F.SEC_TAMPER_CFG_tamp1 v

theorem wit_FaultsAndTamper : loaded.fg F.SEC_EXT_STATUS_state = 1 ∧ coldHeld (reacts 0) = false ∧ tamperReact (reacts 0) 2 = 0 ∧ tamperReact (reacts 0) 4 = 0 ∧
    coldHeld (reacts 1) = false ∧ tamperReact (reacts 1) 0 = 1 ∧ tamperReact (reacts 1) 4 = 1 ∧ coldHeld (reacts 2) = false ∧
    tamperReact (reacts 2) 2 = 2 ∧ (reacts 2).fg F.SEC_FUSE_ZCNT < 32 := by decide +kernel

/-! ### The public-key engine -/

/-- The pool runs with core 0 on; jobs: a key pair to generate, malformed, of a slot it may not name, and a signature to verify. -/
def pool : Device := ((((o1.set1 F.PKE_CTL_en).clr UnitId.pke.drained).set1 F.PKE_STATUS_ready).wn (R.PKE_CORE_EN 0) 1).wn (R.PKE_CORE_EN 1) 0
def jobOf (op flags len : Nat) : Bytes := leBytes 1 op ++ leBytes 1 flags ++ leBytes 2 len ++ zeros 28
def genJob : Bytes := jobOf 10 0 0
def pkeJob (start : Option (Nat × Nat)) (desc image : Bytes) : PkeJob :=
  { id := 3, req := 1, desc, image, dest := .engine 1, arrive := 0, start, ends := 91200, discard := false }
def working (j : PkeJob) (osc : Nat) : Device := { pool with pke := { pool.pke with jobs := [j] }, tm := { pool.tm with osc } }
def noCores : Device := pool.wn (R.PKE_CORE_EN 0) 0
def pkeRing : Device :=
  (((o1.set1 (F.HIF_RING_CTL_en 4)).clr (F.HIF_RING_CTL_drained 4)).fs (F.HIF_RING_CTL_class 4) 4).setRing 4 { Ring.init with sqTail := 1 }
def oneWaits : Device := { (pool.fs (F.PKE_RQ_CFG_qmax 1) 1) with pke := { pool.pke with jobs := [pkeJob none genJob []] } }

theorem wit_PkeJobsArrive : genJob.length = 32 ∧ pkeBad (jobOf 16 0 0) [] = true ∧ pkeBad (jobOf 1 8 64) (zeros 64) = false ∧ jVkey (jobOf 1 8 64) = true ∧
    vaultKey pool 0 (jSlot (jobOf 1 8 64)) (jOp (jobOf 1 8 64)) = none ∧ pkeBad genJob [] = false ∧ jVkey genJob = false ∧ (o1.clr F.PKE_CTL_en).up .pke = false ∧
    pool.up .pke = true ∧ pool.pke.jobs = [] ∧ oneWaits.up .pke = true ∧ queueQuota oneWaits 1 ≤ (pkeWaiting oneWaits 1).length ∧
    noCores.up .pke = true ∧ noCores.pke.jobs = [] ∧ (∀ k, k < 64 → coreFree noCores k = false) ∧ coreFree pool 0 = true ∧
    pkeReady pool = true ∧ pool.powered 6 = true ∧ 0 < runQuota pool 1 ∧ canTake pkeRing 4 4 = true := by decide +kernel

theorem wit_PkeJobsEnd : (pkeJob (some (0, 0)) genJob []).start = some (0, 0) ∧ jVkey genJob = false ∧
    (working (pkeJob (some (0, 0)) genJob []) 0).tm.osc < (pkeJob (some (0, 0)) genJob []).ends ∧
    (pkeJob (some (0, 0)) genJob []).ends ≤ (working (pkeJob (some (0, 0)) genJob []) 91200).tm.osc ∧ (working (pkeJob (some (0, 0)) genJob []) 0).stopOf .pke = none ∧
    (pkeOp 10 0 [] none (jEph genJob) (jPre genJob) (jDt2 genJob || pool.fb F.PKE_CTL_dt2_all) pool).1.1 = J.OK ∧
    (pkeOp 2 160 (zeros 160) none false false false pool).1.1 ≠ J.OK ∧ (pkeOp 2 160 (zeros 160) none false false false pool).1.1 ≠ J.FAULT := by
  decide +kernel

def katting : Device := { pool with pke := { pool.pke with kat := [(0, 5)] } }
def failing : Device := { pool with pke := { pool.pke with faults := [(0, [0, 0])] } }

theorem wit_PkeCores : coreFree failing 0 = true ∧ amGet [] failing.pke.faults 0 = [0, 0] ∧ failing.tm.osc < 0 + 86400 * 800000000 ∧
    Reach (st noCores) (R.PKE_CORE_EN 0) ∧ noCores.rd (R.PKE_CORE_EN 0) = 0 ∧ 32 * 0 + 31 ∉ noCores.pke.dead ∧ katting.pke.kat = [(0, 5)] ∧
    katting.pke.jobs = [] ∧ Reach (st pool) R.PKE_CTL ∧ pool.fb F.PKE_CTL_en = true ∧ pool.stopOf .pke = none ∧
    (working (pkeJob none genJob []) 0).pke.jobs = [pkeJob none genJob []] ∧ Reach (st (working (pkeJob none genJob []) 0)) R.PKE_CTL ∧
    (working (pkeJob none genJob []) 0).stopOf .pke = none ∧ (working (pkeJob none genJob []) 0).fb F.PKE_CTL_en = true := by decide +kernel

/-! ### The redundant pair -/

theorem wit_PairFramesRefused : (zeros 15).length < 16 ∧ 16 ≤ (frameCrc (frameHead 3 0 6 1 ++ zeros 6)).length ∧
    leVal ((frameCrc (frameHead 3 0 6 1 ++ zeros 6)).drop ((frameCrc (frameHead 3 0 6 1 ++ zeros 6)).length - 4)) =
      (crcStd ((frameCrc (frameHead 3 0 6 1 ++ zeros 6)).take ((frameCrc (frameHead 3 0 6 1 ++ zeros 6)).length - 4))).toNat ∧
    (byteAt (frameCrc (frameHead 3 0 6 1 ++ zeros 6)) 1).testBit 7 = false ∧ byteAt (frameCrc (frameHead 3 0 6 1 ++ zeros 6)) 0 = 3 := by
  refine ⟨by decide, by simp [frameCrc], ?_, ?_, ?_⟩
  · rw [frameCrc_holds, frameCrc_body]
  · rw [frameCrc_head, frameHead_flags _ _ _ _ _ (by decide)]; decide
  · rw [frameCrc_head, frameHead_typ _ _ _ _ _ (by decide)]

/-- A paired member on a link in a state, with a role and fences, and the pairwise key. -/
def pairAt' (l r fi fo : Nat) : Device :=
  { ((((((o1.fs F.PAIR_STATUS_link l).fs F.PAIR_STATUS_role r).fs F.PAIR_STATUS_fence_in fi).fs F.PAIR_STATUS_fence_out fo).set1 F.PAIR_CTL_en).clr
      UnitId.pair.drained) with
    pair := { o1.pair with body := leBytes 6 77 ++ zeros 250 }, trust := { o1.trust with pairKey := some (zeros 64) }, sched := { o1.sched with pend := [] } }
def upPair : Device := pairAt' 4 1 1 1
def hello : Bytes := zeros 213
/-- The partner's frame of a type with a payload. -/
def fromPeer (typ : Nat) (p : Bytes) : Bytes := sealedFrame (zeros 64) typ 1 p

/-- Every sealed frame of the partner is accepted on that link. -/
theorem fromPeer_accepted (d : Device) (typ : Nat) (p : Bytes) (hk : d.trust.pairKey = some (zeros 64)) (hu : linkUp d = true) (ht : 3 ≤ typ)
    (ht' : typ < 256) (hp : p.length < 65536) (hs : d.pair.rxSeq = 0) : Accepts d typ (fromPeer typ p) p 1 :=
  pairTake_sealed d _ typ 1 p hk (by simp) hu ht ht' hp (by omega) (by decide)

def training : Device := pairAt' 1 0 0 1
def helloed : Device := pairAt' 2 0 0 1
def quoting : Device := { helloed with pair := { helloed.pair with peerHello := hello } }
def attesting (h : Bytes) : Device := { pairAt' 3 0 0 1 with pair := { helloed.pair with peerHello := h, peerQuote := zeros 400 } }

theorem wit_PairJoins : link training = 1 ∧ link helloed = 2 ∧ Accepts helloed 1 (clearFrame 1 1 hello) hello 1 ∧ hello.length = 213 ∧
    helloed.pair.peerHello = [] ∧ helloed.pair.peerQuote = [] ∧ Accepts helloed 2 (clearFrame 2 1 (zeros 400)) (zeros 400) 1 ∧ zeros 400 ≠ [] ∧
    Accepts quoting 2 (clearFrame 2 1 (zeros 400)) (zeros 400) 1 ∧ quoting.pair.peerHello ≠ [] ∧ quoting.pair.peerQuote = [] ∧ link quoting = 2 :=
  ⟨by decide +kernel, by decide +kernel, pairTake_clear _ _ _ _ (by decide) (by simp [hello]) (by decide +kernel) (by decide), by simp [hello], by decide +kernel,
    by decide +kernel, pairTake_clear _ _ _ _ (by decide) (by simp) (by decide +kernel) (by decide), by decide +kernel,
    pairTake_clear _ _ _ _ (by decide) (by simp) (by decide +kernel) (by decide), by decide +kernel, by decide +kernel, by decide +kernel⟩

/-- The partner's ephemeral key may be a point of the curve. -/
theorem wit_PairJoins_key :
    (sharedX { quoting with pair := { quoting.pair with eph := 1, peerHello := zeros 44 ++ leBytes 1 4 ++ beBytes 48 p384.gx ++ beBytes 48 p384.gy ++ zeros 72 } }).isSome =
      true := by decide +kernel

theorem wit_PairJoins_attests : link (attesting hello) = 3 ∧ attErr (attesting hello) ≠ 0 ∧ (attesting hello).pair.cal = none ∧ role (attesting hello) = 0 ∧
    fenceIn (attesting hello) ≠ 2 ∧ modeAA (attesting hello) = false ∧ pairBatch (attesting hello) = (0, zeros 32) ∧ marked (attesting hello) = [] ∧
    link upPair = 4 ∧ upPair.pair.cal = none := by decide +kernel

def watching (osc : Nat) : Device := { upPair with pair := { upPair.pair with watch := true, hbRx := 9 }, tm := { upPair.tm with osc } }

theorem wit_PairHeartbeats : link upPair = 4 ∧ upPair.pair.held = false ∧ fenceOut upPair ≠ 0 ∧ Accepts upPair 3 (fromPeer 3 (zeros 6)) (zeros 6) 1 ∧
    upPair.pair.cal = none ∧ role upPair ≠ 3 ∧ (watching 240008).pair.watch = true ∧ (watching 240008).pair.cal = none ∧
    (watching 240008).tm.osc < (watching 240008).pair.hbRx + 240000 ∧ (watching 240009).pair.hbRx + 240000 ≤ (watching 240009).tm.osc ∧
    link (watching 240009) = 4 ∧ fenceIn (watching 240009) = 1 ∧ paired (watching 240009) = true ∧ (watching 240009).fb F.PAIR_CTL_en = true ∧
    role (watching 240009) ≠ 0 :=
  ⟨by decide +kernel, by decide +kernel, by decide +kernel,
    fromPeer_accepted _ _ _ rfl (by decide +kernel) (by decide) (by decide) (by decide) (by decide +kernel), by decide +kernel, by decide +kernel,
    by decide +kernel, by decide +kernel, by decide +kernel, by decide +kernel, by decide +kernel, by decide +kernel, by decide +kernel, by decide +kernel,
    by decide +kernel⟩

def unjudged : Device := { pairAt' 1 1 1 1 with pair := { upPair.pair with reached := false, upJudged := false, enAt := 0 }, tm := { o1.tm with osc := 800000000 } }

theorem wit_PairFence : paired (pairAt' 1 1 0 1) = true ∧ (pairAt' 1 1 0 1).fb F.PAIR_CTL_en = true ∧ link (pairAt' 1 1 0 1) ≠ 4 ∧
    fenceIn (pairAt' 1 1 0 1) ≠ 1 ∧ role (pairAt' 1 1 0 1) ≠ 0 ∧ fenceIn (pairAt' 1 1 0 1) ≠ 2 ∧ fenceOut (pairAt' 1 1 0 1) ≠ 2 ∧
    marked (pairAt' 1 1 0 1) = [] ∧ fenceOut (pairAt' 1 1 0 2) = 2 ∧ fenceIn (pairAt' 1 1 0 2) ≠ 2 ∧ member ((pairAt' 1 1 0 2).fs F.PAIR_CFG_member 0) = 0 ∧
    member ((pairAt' 1 1 0 2).fs F.PAIR_CFG_member 1) = 1 ∧ marked ((pairAt' 1 1 0 2).fs F.PAIR_CFG_member 1) = [] ∧ link upPair = 4 ∧ fenceIn upPair = 1 ∧
    unjudged.pair.reached = false ∧ unjudged.pair.upJudged = false ∧ unjudged.pair.enAt + 800000000 ≤ unjudged.tm.osc ∧ link unjudged ≠ 4 ∧
    fenceIn unjudged = 1 ∧ role unjudged ≠ 0 ∧ fenceOut upPair = 1 := by decide +kernel

def split : Device := ((pairAt' 1 1 1 1).clr F.PAIR_CTL_auto_pwr).clr F.PAIR_CTL_gnss_track
def taking : Device := { split.wn (R.PAIR_TAKE 0) 2 with cls := { split.cls with sa := [(1, sa1)] } }
def resigned : Device := (upPair.clr F.PAIR_CTL_auto_pwr).clr F.PAIR_CTL_gnss_track
def announcing : Device := { upPair with pair := { upPair.pair with announce := [(0, [3])] } }

theorem wit_PairTakesOver : paired taking = true ∧ taking.fb F.PAIR_CTL_en = true ∧ link taking ≠ 4 ∧ fenceIn taking ≠ 0 ∧ taking.pair.held = false ∧
    role taking ≠ 3 ∧ taking.fb F.PAIR_CTL_auto_pwr = false ∧ taking.fb F.PAIR_CTL_gnss_track = false ∧ 1 ∈ marked taking ∧ (saOf taking 1).valid = true ∧
    marked split = [] ∧ fenceIn split ≠ 0 ∧ role split ≠ 3 ∧ Accepts resigned 10 (fromPeer 10 []) [] 1 ∧ link resigned = 4 ∧ role resigned ≠ 3 ∧
    resigned.fb F.PAIR_CTL_auto_pwr = false ∧ resigned.fb F.PAIR_CTL_gnss_track = false ∧ marked resigned = [] ∧ announcing.pair.announce = [(0, [3])] ∧
    0 ≤ announcing.tm.osc ∧ (∀ i ∈ ([3] : List Nat), (saOf announcing i).valid = false) :=
  ⟨by decide +kernel, by decide +kernel, by decide +kernel, by decide +kernel, by decide +kernel, by decide +kernel, by decide +kernel, by decide +kernel,
    by decide +kernel, by decide +kernel, by decide +kernel, by decide +kernel, by decide +kernel,
    fromPeer_accepted _ _ _ rfl (by decide +kernel) (by decide) (by decide) (by decide) (by decide +kernel), by decide +kernel, by decide +kernel,
    by decide +kernel, by decide +kernel, by decide +kernel, by decide +kernel, by decide +kernel, by decide +kernel⟩

def changing (t : Inst) : Device := { upPair with pair := { upPair.pair with change := some (1, 2, t) } }
def active : Device := (pairAt' 4 2 1 2).clr F.PAIR_CTL_auto_pwr
def stopped : Device := active.fs F.GLB_STATUS_state 2
def leaving (osc : Nat) : Device := { pairAt' 4 1 1 0 with pair := { upPair.pair with resign := some (5, false), held := false }, tm := { o1.tm with osc } }
def sole (flags : Nat) : Device := { pairAt' 4 3 1 2 with pair := { upPair.pair with peer := (1, flags, 0) } }
def pairOff : Device := { (upPair.fs (F.REF_CFG_type 31) 0) with refs := { upPair.refs with sel := some 0 } }

theorem wit_PairRoles : Accepts upPair 9 (fromPeer 9 (zeros 14)) (zeros 14) 1 ∧ (changing now0).pair.change = some (1, 2, now0) ∧ TimeOk (st (changing now0)) ∧
    now0 ≤ (changing now0).now ∧ marked (changing now0) = [] ∧ role (changing now0) = 1 ∧ (changing (now0 + secU)).now < now0 + secU ∧
    servingRole (role active) = true ∧ link active = 4 ∧ marked active = [] ∧ Reach (st active) R.PAIR_CMD ∧ faultStop stopped = true ∧
    servingRole (role stopped) = true ∧ link stopped = 4 ∧ marked stopped = [] :=
  ⟨fromPeer_accepted _ _ _ rfl (by decide +kernel) (by decide) (by decide) (by decide) (by decide +kernel), by decide +kernel, by decide +kernel, by decide +kernel,
    by decide +kernel, by decide +kernel, by decide +kernel, by decide +kernel, by decide +kernel, by decide +kernel, by decide +kernel, by decide +kernel,
    by decide +kernel, by decide +kernel, by decide +kernel⟩

theorem wit_PairRoles_resign : (leaving 0).pair.resign = some (5, false) ∧ (leaving 0).pair.held = false ∧ fenceOut (leaving 0) = 0 ∧
    (leaving 0).fb F.PAIR_CTL_en = true ∧ paired (leaving 0) = true ∧
    Accepts (leaving 0) 12 (fromPeer 12 (leBytes 1 10 ++ leBytes 8 1)) (leBytes 1 10 ++ leBytes 8 1) 1 ∧ byteAt (leBytes 1 10 ++ leBytes 8 1) 0 = 10 ∧
    5 + 800000 ≤ (leaving 800005).tm.osc ∧ (leaving 0).tm.osc < 5 + 800000 ∧ Reach (st (sole 0)) R.PAIR_CMD ∧ role (sole 0) = 3 ∧ link (sole 0) = 4 ∧
    modeAA (sole 0) = false ∧ (sole 0).pair.peer.2.1.testBit 1 = false ∧ (sole 2).pair.peer.2.1.testBit 1 = true ∧ Reach (st pairOff) R.PAIR_CTL ∧
    pairOff.fb F.PAIR_CTL_en = true ∧ pairOff.stopOf .pair = none ∧ role pairOff = 1 ∧ marked pairOff = [] ∧ pairOff.pair.resign = none ∧
    refType pairOff 31 ≠ 8 ∧ pairOff.refs.sel = some 0 ∧ pairOff.pair.cal = none :=
  ⟨by decide +kernel, by decide +kernel, by decide +kernel, by decide +kernel, by decide +kernel,
    fromPeer_accepted _ _ _ rfl (by decide +kernel) (by decide) (by decide) (by decide) (by decide +kernel), by decide +kernel, by decide +kernel, by decide +kernel,
    by decide +kernel, by decide +kernel, by decide +kernel, by decide +kernel, by decide +kernel, by decide +kernel, by decide +kernel, by decide +kernel,
    by decide +kernel, by decide +kernel, by decide +kernel, by decide +kernel, by decide +kernel, by decide +kernel, by decide +kernel⟩

def timed31 : Device := (((upPair.fs (F.REF_CFG_type 31) 8).set1 (F.REF_CFG_en 31)).clr (F.REF_CFG_drained 31)).clr F.PAIR_STATUS_swapped
def timePl : Bytes := dt96Bytes now0 ++ dt96Bytes now0 ++ dt96Bytes now0 ++ zeros 12
def sel31 : Device := { upPair with refs := { upPair.refs with sel := some 31 } }

theorem wit_PairTime : link upPair = 4 ∧ TimeOk (st upPair) ∧ upPair.pair.cal = none ∧ upPair.sched.pend = [] ∧ upPair.pair.timeK < 2000000000000 ∧
    member upPair < 2 ∧ timeInstant upPair 2000000000000 ≤ timeInstant upPair 2000000000000 ∧
    timeInstant upPair 2000000000000 < timeInstant upPair (2000000000000 + 1) ∧
    timeInstant (upPair.fs F.PAIR_CFG_member 0) 2000000000000 ≤ upPair.now + upPair.tm.tickLen ∧
    Accepts timed31 4 (fromPeer 4 timePl) timePl 1 ∧ TimeOk (st timed31) ∧ timed31.sched.pend = [] ∧ timed31.pair.cal = none ∧ leAt timePl 12 12 ≠ 0 ∧
    refType timed31 31 = 8 ∧ refEn timed31 31 = true ∧ timed31.refs.sel ≠ some 31 ∧ timed31.fb F.PAIR_STATUS_swapped = false ∧
    Reach (st upPair) R.PAIR_ASYM ∧ upPair.refs.sel ≠ some 31 ∧ Reach (st sel31) R.PAIR_ASYM ∧ sel31.refs.sel = some 31 ∧
    Reach (st upPair) R.PAIR_OFFSET_LO :=
  ⟨by decide +kernel, by decide +kernel, by decide +kernel, by decide +kernel, by decide +kernel, by decide +kernel, by decide +kernel, by decide +kernel,
    by decide +kernel, fromPeer_accepted _ _ _ rfl (by decide +kernel) (by decide) (by decide) (by decide +kernel) (by decide +kernel), by decide +kernel,
    by decide +kernel, by decide +kernel, by decide +kernel, by decide +kernel, by decide +kernel, by decide +kernel, by decide +kernel, by decide +kernel,
    by decide +kernel, by decide +kernel, by decide +kernel, by decide +kernel⟩

def calAsk : Device := upPair.wn3 (R.PAIR_CAL_AT_W 0) (dt96 (now0 + secU))
def calAct (due : Inst) : TimedAct := { handle := 5, due, act := .pairCal, notify := false, tag := 0, stepped := false }
def calPend : Device := { upPair.wn R.PAIR_CAL_HANDLE 5 with sched := { upPair.sched with pend := [calAct (now0 + secU)] } }
/-- One second before an hour's half. -/
def halfHour : Device :=
  { ((upPair.fs F.PAIR_CFG_member 0).set1 F.PAIR_CTL_auto_cal) with tm := { upPair.tm with sec := BitVec.ofNat 48 (3600 * 555555 + 1799) } }
def calIn (stage : Nat) (at_ : Inst) (n : Nat) : PairCal := { at_, handle := 5, stage, n1 := (n, 100), s := (n, 300), n2 := (n, 100) }
def calRuns (c : PairCal) : Device := { upPair with pair := { upPair.pair with cal := some c } }

theorem wit_PairCalibrates : Reach (st training) R.PAIR_CAL_CMD ∧ link training ≠ 4 ∧ Reach (st calAsk) R.PAIR_CAL_CMD ∧ link calAsk = 4 ∧
    pairCalPending calAsk = false ∧ calAsk.sched.nextHandle < 2 ^ 32 ∧ requestCode calAsk .pairCal (ofDt96 (calAsk.rn3 (R.PAIR_CAL_AT_W 0))) = T.ACCEPTED ∧
    Reach (st calPend) R.PAIR_CAL_CMD ∧ calPend.sched.pend = [calAct (now0 + secU)] ∧ (calAct (now0 + secU)).handle = calPend.rn R.PAIR_CAL_HANDLE ∧
    TimeOk (st calPend) ∧ calPend.now + 10000 * nsU ≤ (calAct (now0 + secU)).due ∧ member halfHour = 0 ∧ halfHour.fb F.PAIR_CTL_auto_cal = true ∧
    link halfHour = 4 ∧ halfHour.sched.pend = [] ∧ halfHour.pair.cal = none ∧ TimeOk (st halfHour) ∧ halfHour.nowSec % 3600 = 1799 ∧
    halfHour.now + 10000 * nsU ≤ (halfHour.nowSec + 1) * secU ∧ TimeOk (st (calRuns (calIn 0 (now0 - secU) 9))) ∧
    (calRuns (calIn 0 (now0 - secU) 9)).sched.pend = [] ∧ (calIn 0 (now0 - secU) 9).at_ + secU ≤ (calRuns (calIn 0 (now0 - secU) 9)).now ∧
    (calIn 1 (now0 - 3 * secU) 9).at_ + 2010 * 1000000 * nsU ≤ (calRuns (calIn 1 (now0 - 3 * secU) 9)).now ∧
    (calIn 2 (now0 - 4 * secU) 9).at_ + 4 * secU ≤ (calRuns (calIn 2 (now0 - 4 * secU) 9)).now ∧
    (calRuns (calIn 2 (now0 - 4 * secU) 9)).refs.sel ≠ some 31 := by decide +kernel

def ownStarter : Device :=
  { (upPair.fs F.PAIR_CFG_member 1).set1 F.OVN_STARTER_POLICY_auto with
    tm := { upPair.tm with sec := BitVec.ofNat 48 ((2000000000 / 86400 + 1) * 86400 - 40) } }
def starterPl : Bytes := leBytes 4 7 ++ zeros 4 ++ dt96Bytes (now0 + 61 * secU) ++ zeros 32
def starterRx : Device := { upPair with nts := { upPair.nts with starter := Starter.init } }

theorem wit_PairStarter : Accepts starterRx 5 (fromPeer 5 starterPl) starterPl 1 ∧ byteAt starterPl 4 = 0 ∧ link starterRx = 4 ∧
    starterRx.starter.rotations = [] ∧ starterRx.sched.pend = [] ∧ TimeOk (st starterRx) ∧
    requestCode starterRx (.starterRotate true) (ofDt96 (leAt starterPl 8 12)) = T.ACCEPTED ∧ Accepts upPair 7 (fromPeer 7 (leBytes 1 2)) (leBytes 1 2) 1 ∧
    byteAt (leBytes 1 2) 0 = 2 ∧ Accepts starterRx 6 (fromPeer 6 []) [] 1 ∧ starterRx.starter = Starter.init ∧
    Accepts upPair 8 (fromPeer 8 (zeros 12)) (zeros 12) 1 ∧ leAt (zeros 12) 0 4 = 0 ∧ (zeros 12).length = 12 :=
  ⟨fromPeer_accepted _ _ _ rfl (by decide +kernel) (by decide) (by decide) (by decide +kernel) (by decide +kernel), by decide +kernel, by decide +kernel,
    by decide +kernel, by decide +kernel, by decide +kernel, by decide +kernel,
    fromPeer_accepted _ _ _ rfl (by decide +kernel) (by decide) (by decide) (by decide) (by decide +kernel), by decide,
    fromPeer_accepted _ _ _ rfl (by decide +kernel) (by decide) (by decide) (by decide) (by decide +kernel), by decide +kernel,
    fromPeer_accepted _ _ _ rfl (by decide +kernel) (by decide) (by decide) (by decide) (by decide +kernel), by decide, by decide⟩

theorem wit_PairStarter_timeout : member ownStarter = 1 ∧ link ownStarter = 4 ∧ autoRot ownStarter = true ∧ ownStarter.starter.pending = none ∧
    TimeOk (st ownStarter) ∧ ownStarter.starter.rotations = [] ∧ nextAuto ownStarter * secU ≤ ownStarter.now + 50 * secU ∧
    requestCode ownStarter (.starterRotate true) (nextAuto ownStarter * secU) = T.ACCEPTED := by decide +kernel

/-! ### The host interface -/

/-- Ring 4 runs with a class and a state. -/
def ringDev (c : Nat) (r : Ring) : Device :=
  (((o1.set1 (F.HIF_RING_CTL_en 4)).clr (F.HIF_RING_CTL_drained 4)).fs (F.HIF_RING_CTL_class 4) c).setRing 4 r
def tails : Ring := { Ring.init with sqTail := 6, cqTail := 6 }
def ring0 : Device := ringDev 0 tails
def haltedRing : Device := ring0.set1 (F.HIF_RING_STATUS_halted 4)

theorem wit_Doorbells : ringRuns (st ring0) 4 ∧ 63 < ringSize ring0 4 ∧
    ((ring0.ring 4).sqTail + ringSize ring0 4 - (ring0.ring 4).sqHead) % ringSize ring0 4 ≤ (63 + ringSize ring0 4 - (ring0.ring 4).sqHead) % ringSize ring0 4 ∧
    ringSize ring0 4 ≤ 64 ∧ (5 + ringSize ring0 4 - (ring0.ring 4).sqHead) % ringSize ring0 4 <
      ((ring0.ring 4).sqTail + ringSize ring0 4 - (ring0.ring 4).sqHead) % ringSize ring0 4 ∧ o1.up (.ring 4) = false ∧
    ringHalted haltedRing 4 = true ∧ (ring0.ring 4).flush = [] ∧
    (6 + ringSize ring0 4 - (ring0.ring 4).cqHead) % ringSize ring0 4 ≤ ((ring0.ring 4).cqTail + ringSize ring0 4 - (ring0.ring 4).cqHead) % ringSize ring0 4 ∧
    (ring0.ring 4).cqTail = 6 ∧ (6#32).getLsbD 31 = false ∧ (0x80000006#32).toNat % 65536 = 6 ∧ (0x80000006#32).getLsbD 31 = true ∧
    (0x80000005#32).toNat % 65536 = 5 ∧ ring0.pcie.pf0D = 0 ∧
    ((ring0.ring 4).cqTail + ringSize ring0 4 - (ring0.ring 4).cqHead) % ringSize ring0 4 < (7 + ringSize ring0 4 - (ring0.ring 4).cqHead) % ringSize ring0 4 := by
  decide +kernel

def one : Ring := { Ring.init with sqTail := 1 }
def ev : StreamEv := { sid := 9, code := 1, reason := 0, value := 0, data := [] }
def filling (osc : Nat) : Device :=
  { ringDev 6 { one with posted := [{ slot := 0, len := 4096, bad := false }], part := zeros 64, partStart := some 0 } with tm := { o1.tm with osc } }
def moderated : Device := { ((ringDev 0 { one with modStart := some 0 }).fs (F.HIF_RING_MOD_time 4) 1) with tm := { o1.tm with osc := 800 } }
def sleeping : Device := { moderated.set1 (F.HIF_RING_CTL_wake 4) with pcie := { moderated.pcie with pf0D := 3, pmeEn := true } }

theorem wit_Buffers : canTake (ringDev 2 one) 4 2 = true ∧ ((ringDev 2 one).ring 4).posted = [] ∧ canTake (ringDev 3 one) 4 3 = true ∧
    ((ringDev 3 one).ring 4).events = [] ∧ canTake (ringDev 3 { one with events := [ev] }) 4 3 = true ∧
    ((ringDev 3 { one with events := [ev] }).ring 4).events = [ev] ∧ canTake (ringDev 6 one) 4 6 = true ∧ 64 % 64 = 0 ∧ 65 % 64 ≠ 0 ∧
    ((filling 80000).ring 4).partStart = some 0 ∧ 0 + recordDelay (filling 80000) 4 ≤ (filling 80000).tm.osc ∧
    ((filling 80000).ring 4).posted = [{ slot := 0, len := 4096, bad := false }] ∧ ringMoves (filling 80000) 4 = true ∧
    (filling 79999).tm.osc < 0 + recordDelay (filling 79999) 4 ∧ (moderated.ring 4).modStart = some 0 ∧ (moderated.ring 4).fired = false ∧
    moderated.fg (F.HIF_RING_MOD_time 4) ≠ 0 ∧ 0 + moderated.fg (F.HIF_RING_MOD_time 4) * 800 ≤ moderated.tm.osc ∧ moderated.pcie.pf0D = 0 ∧
    sleeping.pcie.pf0D = 3 ∧ sleeping.fb (F.HIF_RING_CTL_wake 4) = true ∧ sleeping.pcie.pmeEn = true ∧ (sleeping.ring 4).modStart = some 0 ∧
    0 + sleeping.fg (F.HIF_RING_MOD_time 4) * 800 ≤ sleeping.tm.osc := by decide +kernel

def txRing : Device :=
  (((port0.set1 (F.HIF_RING_CTL_en 4)).clr (F.HIF_RING_CTL_drained 4)).fs (F.HIF_RING_CTL_class 4) 1).setRing 4 one
/-- A SEND descriptor of a length, for port 0 at the earliest instant or at one of the past. -/
def sendOf (len : Nat) (t : Inst) : Bytes := leBytes 1 1 ++ zeros 1 ++ leBytes 2 len ++ zeros 12 ++ (if t = 0 then zeros 12 else dt96Bytes t) ++ leBytes 4 10000

theorem wit_HostFrames : canTake txRing 4 1 = true ∧ (sendOf 13 0).length = 32 ∧ txBad txRing (sendOf 13 0) = true ∧ txBad txRing (sendOf 60 0) = false ∧
    byteAt (sendOf 60 0) 4 < 16 ∧ poolPolicy txRing 2 ≠ 1 ∧ poolRoom txRing 2 (cellsOf 60) = true ∧ leAt (sendOf 60 0) 2 2 = 60 ∧
    Books txRing 0 (txRing.now + gLead txRing) (txRing.now + gLead txRing + 10000 * nsU) 64 (frameClass txRing 0 ((padTo 60 plain).take 60)) ∧
    (bookCode txRing 0 (ofDt96 (leAt (sendOf 60 1000000) 16 12)) (ofDt96 (leAt (sendOf 60 1000000) 16 12) + 10000 * nsU) 64
      (frameClass txRing 0 ((padTo 60 plain).take 60))).1 ≠ T.ACCEPTED := by
  unfold Books Bookable; decide +kernel

def ledgers : Device := ((o1.fs (F.HIF_RING_CTL_class 4) 5).fs (F.HIF_RING_CTL_class 5) 5).set1 (F.HIF_RING_CTL_en 5)

theorem wit_RingsStartAndStop : Reach (st o1) (R.HIF_RING_CTL 4) ∧ o1.fb (F.HIF_RING_CTL_en 4) = false ∧ o1.stopOf (.ring 4) = none ∧ ringClass o1 4 ≠ 5 ∧
    Reach (st ledgers) (R.HIF_RING_CTL 4) ∧ ledgers.fb (F.HIF_RING_CTL_en 4) = false ∧ ringClass ledgers 4 = 5 ∧ ledgerTaken ledgers 4 = true ∧
    Reach (st (ringDev 0 one)) (R.HIF_RING_CTL 4) ∧ (ringDev 0 one).fb (F.HIF_RING_CTL_en 4) = true ∧ (ringDev 0 one).stopOf (.ring 4) = none ∧
    ringClass (ringDev 0 one) 4 = 0 ∧ ringMoves (ringDev 0 one) 4 = true ∧ ((ringDev 0 one).ring 4).sqHead < ringSize (ringDev 0 one) 4 ∧
    unreturned (ringDev 0 one) 4 < ringSize (ringDev 0 one) 4 - 1 ∧ (ringDev 0 one).nts.streams = [] ∧ (ringDev 0 one).peel.bookings = [] ∧
    (ringDev 0 one).pke.jobs = [] ∧ ((ringDev 0 one).portSt 16).hostQ = [] ∧ (cmdOf 2 0 0 0).length = 32 ∧
    ((ringDev 0 one).ring 4).sqTail = (((ringDev 0 one).ring 4).sqHead + 1) % ringSize (ringDev 0 one) 4 ∧ Reach (st o1) R.HIF_CTL := by decide +kernel

theorem wit_RingsStartAndStop_resume : ∀ m, o1.ring m = { o1.ring m with heldOut := [], flush := [] } := fun _ => rfl

/-- No host target is enabled. -/
def noTgt (d : Device) : Device := (List.range 16).foldl (fun d k => d.clr (F.INTC_TGT_CTL_en (16 + k))) d
def aspm : Device := { noTgt o1 with pcie := { o1.pcie with aspmL1En := true, l23 := false } }
def inReset : Device := { ringDev 0 one with pcie := { o1.pcie with perstLow := true } }
def noLink : Device := { ringDev 0 one with pcie := { o1.pcie with linkUp := false } }
/-- Source 5 is enabled on the host side for target 16, whose message of vector 3 is held; and no target is enabled. -/
def offering : Device :=
  { (((((((o1.clr F.INTC_CTL_mode).set1 (F.INTC_SRC_CFG_en 5)).set1 (F.INTC_SRC_CFG_side 5)).fs (F.INTC_SRC_CFG_tmask 5) 1).fs (F.INTC_SRC_CFG_prio 5) 3).set1
      (F.INTC_TGT_CTL_en 16)).fs (F.INTC_TGT_CTL_pmr 16) 16).clr (F.MSIX_VCTL_mask 3) |>.fs (F.INTC_TGT_CTL_vec 16) 3 with
    intc := { o1.intc with soft := [5], held := [0], told := [0] }, pcie := { o1.pcie with fnMask := false } }
def unoffered : Device := { noTgt offering with intc := { o1.intc with held := [0] } }

theorem wit_LinkAndPower : aspm.pcie.linkUp = true ∧ aspm.pcie.perstLow = false ∧ aspm.pcie.aspmL1En = true ∧ aspm.pcie.l23 = false ∧ noTargets (st aspm) ∧
    inReset.pcie.perstLow = true ∧ inReset.fb (F.HIF_RING_CTL_en 4) = true ∧ noLink.pcie.perstLow = false ∧ noLink.pcie.linkUp = false ∧
    msgHeld offering 3 = false ∧ offering.intc.held = [0] ∧ offering.fg (F.INTC_TGT_CTL_vec (16 + 0)) = 3 ∧ (offeredTo offering (16 + 0)).isEmpty = false ∧
    msgHeld unoffered 3 = false ∧ unoffered.intc.held = [0] ∧ unoffered.fg (F.INTC_TGT_CTL_vec (16 + 0)) = 3 ∧ noTargets (st unoffered) := by decide +kernel

/-! ### The interrupt controller -/

/-- The same with the controller up to date, and with the source active. -/
def offeredNow : Device := { offering with intc := { offering.intc with lines := linesNow offering } }
def activeOn (t : Nat) : Device := { o1 with intc := { o1.intc with active := [(5, t)] } }
def told16 : Device := { o1 with intc := { o1.intc with msgOut := [0] } }

theorem wit_ClaimAndEoi : Reach (st offeredNow) (R.INTC_TGT_CLAIM 16) ∧ winner offeredNow 16 = some 5 ∧ Settled offeredNow ∧ Reach (st o1) (R.INTC_TGT_CLAIM 16) ∧
    winner o1 16 = none ∧ 16 - 16 ∉ o1.intc.msgOut ∧ winner told16 16 = none ∧ 16 - 16 ∈ told16.intc.msgOut ∧ Reach (st o1) (R.INTC_TGT_CLAIM 15) ∧
    Reach (st (activeOn 31)) (R.INTC_TGT_EOI 31) ∧ ((5#32).toNat % 1024, 31) ∈ (activeOn 31).intc.active ∧
    ((5#32).toNat % 1024, 16) ∉ (activeOn 31).intc.active ∧ Reach (st o1) (R.INTC_TGT_EOI 0) := by decide +kernel

theorem wit_PendingAndConfiguration : srcReserved (32 * 27 + 31) = false ∧ (o1.set1 (F.INTC_SRC_CFG_side (32 * 27 + 31))).fb (F.INTC_SRC_CFG_side (32 * 27 + 31)) = true ∧
    Reach (st (o1.set1 (F.INTC_SRC_CFG_side (32 * 27 + 31)))) (R.INTC_SETP 27) ∧ Reach (st (o1.set1 (F.INTC_SRC_CFG_side (32 * 27 + 31)))) (R.INTC_PEND 27) ∧
    Reach (st o1) (R.INTC_SRC_CFG 5) ∧ srcReserved 5 = false ∧ (o1.clr (F.INTC_SRC_CFG_side 5)).fb (F.INTC_SRC_CFG_side 5) = false ∧
    Reach (st (o1.clr (F.INTC_SRC_CFG_side 5))) (R.INTC_SRC_CFG 5) ∧ (o1.set1 (F.INTC_SRC_CFG_side 5)).fb (F.INTC_SRC_CFG_side 5) = true ∧
    Reach (st (o1.set1 (F.INTC_SRC_CFG_side 5))) (R.INTC_SRC_CFG 5) ∧ statusLine 0x160 = false ∧ srcReserved 0x160 = false := by decide +kernel

/-- Source 5 for engine target 2, pending; and running there with every source disabled. -/
def forEngine : Device :=
  { ((((((o1.clr F.INTC_CTL_mode).set1 (F.INTC_SRC_CFG_en 5)).clr (F.INTC_SRC_CFG_side 5)).fs (F.INTC_SRC_CFG_tmask 5) 4).fs (F.INTC_SRC_CFG_prio 5) 3).set1
      (F.INTC_TGT_CTL_en 2)).fs (F.INTC_TGT_CTL_pmr 2) 16 with intc := { o1.intc with soft := [5] } }
def inHandler : Device := { o1 with intc := { o1.intc with run := [(2, [(5, 3)])], active := [(5, 2)] } }
/-- ROUND_ROBIN: source 5 is offered to target 2 and admitted to target 3 too, and the time for a claim has passed. -/
def robin0 : Device := ((((forEngine.set1 F.INTC_CTL_mode).fs (F.INTC_SRC_CFG_tmask 5) 12).set1 (F.INTC_TGT_CTL_en 3)).fs (F.INTC_TGT_CTL_pmr 3) 16)
def robin : Device :=
  { robin0 with intc := { robin0.intc with lines := linesNow robin0, rrOffer := [(5, 2)], rrSince := [(5, 0)] }, tm := { robin0.tm with osc := 2 ^ 40 } }

theorem wit_EngineInterrupts : winner forEngine 2 = some 5 ∧ winner o1 2 = none ∧ inHandler.intc.run = [(2, [(5, 3)])] ∧ inHandler.intc.active = [(5, 2)] ∧
    robin.fb F.INTC_CTL_mode = true ∧ robin.intc.rrOffer = [(5, 2)] ∧
    amGet 0 robin.intc.rrSince 5 + max 1 (robin.fg F.INTC_CTL_rr_to) * 800 ≤ robin.tm.osc ∧ nextTarget robin 5 2 = some 3 ∧ 5 ∈ pendSet robin := by
  decide +kernel

theorem wit_EngineInterrupts_sources : ∀ x, x < 1024 → inHandler.fb (F.INTC_SRC_CFG_en x) = false := by decide +kernel
theorem wit_EngineInterrupts_settled : Settled robin := by decide +kernel
theorem wit_EngineInterrupts_pools : troughSettle robin = robin := by decide +kernel
theorem wit_EngineInterrupts_outputs : outSettle robin = robin := by decide +kernel

/-- A target that is newly offered a source. -/
def newlyOffered : Device := { offering with intc := { offering.intc with told := [], held := [] } }
theorem wit_CommandsSettle : 0 ∈ (settle newlyOffered).intc.told ∧ 0 ∉ newlyOffered.intc.told := by decide +kernel

/-! ### Counters, histograms and the Ledger -/

def viewing (v i : Nat) : Device := (o1.fs F.MON_CNT_IDX_view v).fs F.MON_CNT_IDX_index i
def oldLedger : Device := { o1 with mon := { o1.mon with ledger := [(2 ^ 33, [])], ledgerSeq := 2 ^ 33 } }
/-- Bank 1 holds a Batch that is in force. -/
def inForce : Device :=
  { o1 with trust := { o1.trust with pend := some (1, none),
                                     banks := [(1, { data := batchOf 1 77 0 128 0 owner, commit := some (7, sha256 (batchOf 1 77 0 128 0 owner), now0), applied := some [], void := false })] } }

theorem wit_CounterAndSeqReads : Reach (st (viewing 0 4095)) R.MON_CNT_LO ∧
    (∀ v, v < 3 → (viewing v 4095).fg F.MON_CNT_IDX_view = v ∧ (viewing v 4095).fg F.MON_CNT_IDX_index = 4095) ∧
    (∀ v, v < 5 → 3 ≤ v → (viewing v (64 * 16 + 41)).fg F.MON_CNT_IDX_view = v ∧ (viewing v (64 * 16 + 41)).fg F.MON_CNT_IDX_index = 64 * 16 + 41) ∧
    (64 * 16 + 41) / 64 < 17 ∧ (64 * 16 + 41) % 64 < 42 ∧ (viewing 5 32639).fg F.MON_CNT_IDX_view = 5 ∧ (viewing 5 32639).fg F.MON_CNT_IDX_index = 32639 ∧
    32639 / 128 < 256 ∧ 32639 % 128 ≠ 66 ∧ 32639 % 128 ≠ 67 ∧ 6 ≤ (viewing 6 0).fg F.MON_CNT_IDX_view ∧ Reach (st o1) R.MON_LEDGER_SEQ_LO ∧
    oldLedger.mon.ledger = [(2 ^ 33, [])] ∧ Reach (st oldLedger) R.MON_LEDGER_OLD_LO ∧ (batchInForce inForce).isSome = true ∧
    Reach (st inForce) R.SEC_BATCH_SEQ_LO ∧ inForce.trust.pend = some (1, none) ∧ Reach (st inForce) R.SEC_BATCH_PEND_LO := by decide +kernel

def snapAsk : Device := o1.wn3 (R.MON_SNAP_AT_W 0) (dt96 (now0 + secU))
def snapAct (due : Inst) : TimedAct := { handle := 5, due, act := .snapshot, notify := false, tag := 0, stepped := false }
def snapPend (due : Inst) : Device := { o1.wn R.MON_SNAP_HANDLE 5 with sched := { o1.sched with pend := [snapAct due] } }

theorem wit_Snapshots : Reach (st snapAsk) R.MON_SNAP_CMD ∧ TimeOk (st snapAsk) ∧
    requestCode snapAsk .snapshot (ofDt96 (snapAsk.rn3 (R.MON_SNAP_AT_W 0))) = T.ACCEPTED ∧ Reach (st o1) R.MON_SNAP_CMD ∧
    requestCode o1 .snapshot (ofDt96 (o1.rn3 (R.MON_SNAP_AT_W 0))) ≠ T.ACCEPTED ∧ Reach (st (snapPend (now0 + secU))) R.MON_SNAP_CMD ∧
    (snapAct (now0 + secU)).handle = (snapPend (now0 + secU)).rn R.MON_SNAP_HANDLE ∧
    (snapPend (now0 + secU)).now + 10000 * nsU ≤ (snapAct (now0 + secU)).due ∧ isDue (snapPend now0) (snapAct now0) = true := by decide +kernel

/-- Monitor 3 is open, in linear or LOG2 bins of 10 from 100, with a value waiting or with none. -/
def monitor (log : Bool) (q : List Int) (isOpen : Bool) : Device :=
  { (((((o1.set1 (F.MON_HIST_CFG_en 3)).clr (UnitId.hist 3).drained).fs (F.MON_HIST_CFG_scheme 3) (if log then 1 else 0)).wn (R.MON_HIST_LO 3) 100).wn
      (R.MON_HIST_W 3) 10) with mon := { o1.mon with hists := [(3, { Hist.init with win := { Window.init with isOpen := isOpen }, queue := q })] } }
def measured : Device := ((monitor false [] true).fs (F.MON_HIST_CFG_src 3) 14).fs (F.MON_HIST_CFG_arg 3) 3

theorem wit_HistogramValues : (monitor false [7] true).up (.hist 3) = true ∧ ((monitor false [7] true).hist 3).win.isOpen = true ∧
    ((monitor false [7] true).hist 3).queue = [7] ∧ measured.up (.hist 3) = true ∧ (measured.hist 3).win.isOpen = true ∧ (measured.hist 3).queue = [] ∧
    TimeOk (st measured) ∧ measured.fg (F.MON_HIST_CFG_src 3) = 14 ∧ measured.fg (F.MON_HIST_CFG_arg 3) < 4 ∧
    ((measured.hist 3).win.sum + 7 < 2 ^ 63 ∧ -(2 ^ 63) ≤ (measured.hist 3).win.sum + 7) ∧ (measured.hist 3).win.count + 1 < 2 ^ 48 ∧
    (7 : Int) < measured.rs (R.MON_HIST_LO 3) ∧ measured.fb (F.MON_HIST_CFG_scheme 3) = false ∧
    (measured.rs (R.MON_HIST_LO 3) + (62 - 1) * 10 ≤ (719 : Int) ∧ (719 : Int) < measured.rs (R.MON_HIST_LO 3) + 62 * 10) ∧
    measured.rs (R.MON_HIST_LO 3) + 62 * (max 1 (measured.rn (R.MON_HIST_W 3)) : Int) ≤ 720 ∧
    (monitor true [7] true).fb (F.MON_HIST_CFG_scheme 3) = true ∧ (monitor true [7] true).rs (R.MON_HIST_LO 3) = 100 ∧
    (monitor true [7] true).rn (R.MON_HIST_W 3) = 10 := by decide +kernel

theorem wit_HistogramValues_bins : ∀ k, amGet 0 (measured.hist 3).win.bins k + 1 < 2 ^ 48 := by
  have h : (measured.hist 3).win.bins = [] := by decide +kernel
  intro k; rw [h]; show 0 + 1 < 2 ^ 48; decide

theorem wit_HistogramValues_log2 : (100 : Int) ≤ 109 ∧ (109 : Int) < 100 + 10 ∧ (100 : Int) + 2 ^ (62 - 1) * 10 ≤ 100 + 2 ^ 61 * 10 ∧
    (100 : Int) + 2 ^ 61 * 10 < 100 + 2 ^ 62 * 10 ∧ (100 : Int) + 2 ^ 62 * 10 ≤ 100 + 2 ^ 62 * 10 := by decide

def periodic : Device :=
  { ((monitor false [] true).fs (F.MON_HIST_CFG_wmode 3) 0).fs (F.MON_HIST_PER 3) 10 with
    sched := { o1.sched with pend := [] }
    mon := { o1.mon with hists := [(3, { Hist.init with win := { Window.init with isOpen := true }, mark := now0 - 9 * secU })] } }
def hwAsk : Device := o1.wn3 (R.MON_HW_AT_W 0) (dt96 (now0 + secU))
def hwAct (due : Inst) (start : Bool) : TimedAct := { handle := 5, due, act := .histWindow 3 start, notify := false, tag := 0, stepped := false }
def hwPend (isOpen : Bool) (due : Inst) (start : Bool) : Device :=
  { (monitor false [] isOpen).wn R.MON_HW_HANDLE 5 with sched := { o1.sched with pend := [hwAct due start] } }

theorem wit_HistogramWindows : TimeOk (st periodic) ∧ periodic.up (.hist 3) = true ∧ (periodic.hist 3).win.isOpen = true ∧ (periodic.hist 3).queue = [] ∧
    (∀ e ∈ (periodic.hist 3).win.bins, e.1 < 64) ∧ periodic.fg (F.MON_HIST_CFG_wmode 3) = 0 ∧ periodic.sched.pend = [] ∧
    histBoundary periodic 3 ≤ periodic.now ∧ Reach (st hwAsk) R.MON_HW_CMD ∧ bits (3#32).toNat 0 8 = 3 ∧
    requestCode hwAsk (.histWindow 3 true) (ofDt96 (hwAsk.rn3 (R.MON_HW_AT_W 0))) = T.ACCEPTED ∧
    requestCode hwAsk (.histWindow 3 false) (ofDt96 (hwAsk.rn3 (R.MON_HW_AT_W 0))) = T.ACCEPTED ∧ Reach (st (hwPend true (now0 + secU) true)) R.MON_HW_CMD ∧
    (hwAct (now0 + secU) true).handle = (hwPend true (now0 + secU) true).rn R.MON_HW_HANDLE ∧
    (hwPend true (now0 + secU) true).now + 10000 * nsU ≤ (hwAct (now0 + secU) true).due ∧ isDue (hwPend true now0 true) (hwAct now0 true) = true ∧
    (hwPend true now0 true).up (.hist 3) = true ∧ ((hwPend true now0 true).hist 3).win.isOpen = true ∧ ((hwPend true now0 true).hist 3).queue = [] ∧
    (∀ e ∈ ((hwPend true now0 true).hist 3).win.bins, e.1 < 64) ∧ isDue (hwPend false now0 false) (hwAct now0 false) = true ∧
    ((hwPend false now0 false).hist 3).win.isOpen = false ∧ (hwPend false now0 false).up (.hist 3) = true := by decide +kernel

/-- The sampler is on for thread 3 of engine 15, over EVENT ring 4 with a buffer; the last record came now. -/
def sampler (last : Option Nat) (posted : List Posted) : Device :=
  { (((((ringDev 6 { one with posted }).set1 F.SAMPLE_CTL_en).clr UnitId.sample.drained).fs F.SAMPLE_SEL_engines 0x8000).fs F.SAMPLE_SEL_threads 8).fs
      F.SAMPLE_CTL_ring 4 with mon := { o1.mon with sampleAt := last } }
def buffer : Posted := { slot := 0, len := 4096, bad := false }

theorem wit_Sampling : (sampler none [buffer]).up .sample = true ∧ ((sampler none [buffer]).fg F.SAMPLE_SEL_engines).testBit 15 = true ∧
    ((sampler none [buffer]).fg F.SAMPLE_SEL_threads).testBit 3 = true ∧ recordOpen (sampler none [buffer]) ((sampler none [buffer]).fg F.SAMPLE_CTL_ring) 6 = true ∧
    ((sampler none [buffer]).ring ((sampler none [buffer]).fg F.SAMPLE_CTL_ring)).part = [] ∧
    ((sampler none [buffer]).ring ((sampler none [buffer]).fg F.SAMPLE_CTL_ring)).posted = [buffer] ∧ 32 ≤ buffer.len ∧
    runPrio (sampler none [buffer]) 15 ≤ 16 ∧ (sampler (some 0) [buffer]).mon.sampleAt = some 0 ∧ (sampler (some 0) [buffer]).tm.osc < 0 + 800 ∧
    (sampler none []).mon.sampleAt = none ∧ (sampler none []).up .sample = true ∧
    recordOpen (sampler none []) ((sampler none []).fg F.SAMPLE_CTL_ring) 6 = false := by decide +kernel

def lev : LedgerEvent := { code := 1, src := 0, at_ := some now0, arg0 := 0, arg1 := 0 }
def secondOver : Device :=
  { o1.set1 F.TROUGH_STATUS_ready with mon := { o1.mon with secAt := 2000000000 - 1, closed := [], events := [{ lev with at_ := some (now0 - nsU) }] }, life := { o1.life with events := [] } }
def nextAt (lo : Word) : Device := { oldLedger with mon := { oldLedger.mon with ledgerNextLo := lo } }
def ledgerOn : Device := ringDev 5 one

theorem wit_LedgerRecords : secondOver.fb F.TROUGH_STATUS_ready = true ∧ secondOver.mon.closed = [] ∧ secondOver.mon.secAt < secondOver.nowSec ∧
    secondOver.life.events = [] ∧ secondOver.mon.events.length ≤ 12 ∧
    (∀ e ∈ secondOver.mon.events, e.at_ = some (now0 - nsU)) ∧ now0 - nsU < (secondOver.mon.secAt + 1) * secU ∧ poolRoom secondOver 4 4 = true ∧
    ledgerRing secondOver = none ∧ Reach (st o1) R.MON_LEDGER_NEXT_LO ∧ Reach (st (nextAt 1)) R.MON_LEDGER_NEXT_HI ∧ ledgerRingOn (nextAt 1) = false ∧
    ledgerOld (nextAt 1) ≤ (nextAt 1).mon.ledgerNextLo.toNat + 2 ^ 32 * (2#32).toNat ∧
    (nextAt 1).mon.ledgerNextLo.toNat + 2 ^ 32 * (2#32).toNat ≤ (nextAt 1).mon.ledgerSeq + 1 ∧
    (nextAt 2).mon.ledgerSeq + 1 < (nextAt 2).mon.ledgerNextLo.toNat + 2 ^ 32 * (2#32).toNat ∧ ledgerRingOn ledgerOn = true := by decide +kernel

/-! ### Resets and boot -/

theorem wit_ColdResets : o1.life.testEn = false := by decide +kernel

def guarded (action : Nat) : Device := ((o1.set1 F.GLB_WDOG_en).fs F.GLB_WDOG_action action).fs F.GLB_STATUS_stage 5
def autoReset : Device := { (o1.fs F.GLB_STATUS_state 2).set1 F.GLB_WDOG_fstop_auto with tm := { o1.tm with osc := 80000000 } }
/-- An op with its key. -/
def keyed (op : Nat) : Word := BitVec.ofNat 32 (op * 2 ^ F.GLB_RST_op.lo + 0x5AFE * 2 ^ F.GLB_RST_key.lo)

theorem wit_WarmResets : rstHeld (guarded 1) = false ∧ rstOp (keyed 1) 1 = true ∧ (guarded 1).fb F.GLB_WDOG_en = true ∧ (guarded 1).fb F.GLB_WDOG_action = true ∧
    (guarded 1).fg F.GLB_STATUS_stage = 5 ∧ (0x5AFD#32).toNat % 2 ^ 16 ≠ 0x5AFE ∧ rstHeld { o1 with life := { o1.life with wrstLow := true } } = true := by
  decide +kernel

theorem wit_TimeKeepingResets : rstHeld (guarded 0) = false ∧ rstOp (keyed 2) 2 = true ∧ (guarded 0).fb F.GLB_WDOG_action = false ∧
    (guarded 0).fb F.GLB_WDOG_en = true ∧ (guarded 0).fg F.GLB_STATUS_stage = 5 ∧ autoReset.fg F.GLB_STATUS_state = 2 ∧ rstHeld autoReset = false ∧
    autoReset.fb F.GLB_WDOG_fstop_auto = true ∧ autoReset.life.stopAt + 80000000 ≤ autoReset.tm.osc := by decide +kernel

theorem wit_PkeReset : rstOp (keyed 3) 3 = true ∧ rstHeld o1 = false ∧ o1.pke.jobs = [] := by decide +kernel

def holding (por test wrst ext : Bool) : Device := { o1 with life := { o1.life with porLow := por, testEn := test, wrstLow := wrst, extest := ext } }
theorem wit_ResetReleases : (holding true false false false).life.porLow = true ∧ (holding false false true false).life.wrstLow = true ∧
    (holding false false false true).life.extest = true ∧ (holding false true false false).life.testEn = true := by decide

def booting (stage : Nat) : Device := o1.fs F.GLB_STATUS_stage stage
def noBank : Device := { booting 1 with trust := { o1.trust with fw := [] } }
def noPlls : Device := (booting 1).wn R.PWR_PLL_STATUS 0

theorem wit_BootStages : rstHeld (booting 0) = false ∧ (booting 0).fg F.GLB_STATUS_stage = 0 ∧ fwBest (booting 0) = some 0 ∧
    (∀ j, j < 2 → fwCand (booting 0) j = true → (fwBank (booting 0) j).tries < 3) ∧ (booting 1).fg F.GLB_STATUS_stage = 1 ∧ fwBest (booting 1) = some 0 ∧
    bootPlls (booting 1) = true ∧ fwBest noBank = none ∧ bootPlls noBank = true ∧ noBank.fg F.GLB_STATUS_stage = 1 ∧ noPlls.fg F.GLB_STATUS_stage = 1 ∧
    bootPlls noPlls = false ∧ (booting 2).fg F.GLB_STATUS_stage = 2 ∧ (booting 3).fg F.GLB_STATUS_stage = 3 ∧ (booting 3).trust.records = [] ∧
    (booting 4).fg F.GLB_STATUS_stage = 4 ∧ (booting 4).trust.banks = [] ∧ (booting 4).trust.records = [] ∧ (booting 4).life.keep = false := by
  decide +kernel

/-- The image a part is delivered with passes while no svn fuse is burned. -/
theorem factory_checks (d : Device) (i : Nat) (h : (fwBank d i).factory = true) (g : d.fg F.SEC_FUSE_SVN = 0) : fwCheck d i = B.OK := by
  unfold fwCheck; rw [if_pos h, g, if_neg (Nat.not_lt_zero _)]

theorem wit_BootStages_load : fwCheck (booting 2) ((booting 2).fg F.SEC_STATUS_fw_bank) = B.OK :=
  factory_checks _ _ (by decide +kernel) (by decide +kernel)

def recovering (result : Nat) : Device := ((booting 6).fs F.GLB_REC_STATUS_result result).fs F.GLB_REC_STATUS_room 1
def recEmpty : Device := { recovering 2 with trust := { o1.trust with fw := [(0, { FwBank.init with factory := false })] } }

theorem wit_Recovery : (recovering 1).fg F.GLB_STATUS_stage = 6 ∧ (recovering 1).fg F.GLB_REC_STATUS_result = 1 ∧
    (recovering 2).fg F.GLB_STATUS_stage = 6 ∧ (recovering 2).fg F.GLB_REC_STATUS_result = 2 ∧ 0 < (recovering 2).fg F.GLB_REC_STATUS_room ∧
    recEmpty.fg F.GLB_REC_STATUS_result = 2 ∧ fwCheck recEmpty 0 ≠ B.OK ∧ rstHeld (recovering 2) = false := by decide +kernel

theorem wit_Recovery_image : fwCheck (recovering 2) 0 = B.OK := factory_checks _ _ (by decide +kernel) (by decide +kernel)

theorem wit_FaultStop : o1.fg F.GLB_STATUS_state ≠ 2 ∧ o1.life.events.length < 8 ∧ autoReset.fg F.GLB_STATUS_state = 2 := by decide +kernel

theorem wit_SmbusReads : coldHeld o1 = false ∧ coldHeld (holding true false false false) = true := by decide +kernel

/-- Power domains 1 to 11 are off, and PD_AON too. -/
def dark : Device := (o1.fs F.PWR_PD_STATUS_powered 0).clr F.GLB_ACC_ERR_valid

theorem wit_RegisterWrites : accRow? 0x3FFFC = none ∧ accRow? R.MON_SNAP_CMD ≠ none ∧ blockOff dark R.MON_SNAP_CMD = true ∧
    o1.fb F.GLB_ACC_ERR_valid = false ∧ (o1.set1 F.GLB_ACC_ERR_valid).fb F.GLB_ACC_ERR_valid = true ∧ 0xE000 ≤ R.SEC_CTL ∧ R.SEC_CTL < 0xF000 ∧
    (accRow? R.SEC_CTL).isSome = true ∧ Reach (st o1) R.SEC_CTL ∧ R.SEC_CTL ≠ R.SEC_SEAL_WRITES := by decide +kernel

theorem wit_SetupLock : (o1.set1 F.GLB_LOCK_lock).fb F.GLB_LOCK_lock = true ∧ (o1.set1 F.GLB_LOCK_lock).gnss.staged = [] ∧
    (o1.set1 F.GLB_LOCK_lock).rd R.SLC_STEER_SEED ≠ 0x12345678#32 ∧ Reach (st (o1.set1 F.GLB_LOCK_lock)) R.SLC_STEER_SEED ∧ o1.gnss.staged = [] ∧
    (o1.clr F.SEC_CTL_auto_confirm).fb F.SEC_CTL_auto_confirm ≠ (1#32).getLsbD 0 ∧ Reach (st (o1.clr F.SEC_CTL_auto_confirm)) R.SEC_CTL ∧
    (o1.clr F.SEC_CTL_auto_confirm).gnss.staged = [] := by decide +kernel

/-! ### Reads with a side effect, and the block as a whole -/

def compared : Device := { o1 with refs := { o1.refs with slots := [(31, { RefSlot.init with hist := [(7, -5)] })] } }

theorem wit_LatchingReads : Reach (st o1) R.TB_NOW_SEC_LO ∧ Reach (st o1) R.TB_ERR_EST_LO ∧ Reach (st o1) R.TB_RAW_LO ∧
    Reach (st compared) (R.REF_PHASE_LO 31) ∧ (compared.slot 31).hist = [(7, -5)] ∧ Reach (st o1) (R.TIC_PAIR_LAST_LO 3) ∧
    Reach (st o1) (R.AXIS_CYCLE 1) ∧ Reach (st o1) (R.PORT_STAT_LO 16 41) ∧ Reach (st o1) (R.PORT_STAT_LO 0 0) := by decide +kernel

theorem wit_OffBlocks : (∀ o ∈ ([R.TB_NOW_SEC_LO, R.TB_ERR_EST_LO, R.MON_CNT_LO, R.PAIR_OFFSET_LO, R.SLC_QUEUE 0, R.PORT_STAT_LO 16 0, R.TROUGH_POOL_USED 0,
      R.MON_SNAP_CMD, R.CLS_SA_CMD, R.TB_INCR_HI, R.TB_LEAP_CTL, R.OVN_CTL, R.PORT_CTL 16, R.REF_CFG 0, R.PKE_CTL, R.OUT_EV_CMD] : List Nat),
      blockOff dark o = true) ∧ dark.fb F.GLB_ACC_ERR_valid = false := by decide +kernel

/-- The state after reset meets the three invariants. -/
theorem wit_Invariants : Settled State.reset.dev ∧ Memory.wf State.reset.dev.trust.flash = true ∧ State.reset.dev.tm.ns.toNat < 1000000000 := by decide +kernel

/-! ### The remaining hypotheses -/

theorem wit_AdmissionWindow : (let q := (activeSlices on).foldl (fun n k => n + slcDepth on k) 0
    let b := activeLanes on * 40 - (q - min (on.fg F.CLS_ADM_CTL_q_tgt) (128 * (activeSlices on).length))
    let off := on.cls.meter.offered
    off.getD 0 0 + off.getD 1 0 + off.getD 2 0 + off.getD 3 0 + off.getD 4 0 ≤ b) := by decide +kernel

/-- The three invariants' hypotheses are met at a state whose step answers: the empty queue, where the block idles. -/
theorem wit_StepsSettle : Settled State.reset.dev ∧ step State.reset = .next State.reset := ⟨by decide +kernel, rfl⟩
theorem wit_StepsKeepFlash : Memory.wf State.reset.dev.trust.flash = true ∧ step State.reset = .next State.reset := ⟨by decide +kernel, rfl⟩
theorem wit_StepsKeepNanoseconds : State.reset.dev.tm.ns.toNat < 1000000000 ∧ step State.reset = .next State.reset := ⟨by decide +kernel, rfl⟩


end Sys2Proof.Tests
end

section
/-! SUPPORT. The host's register writes (R8, R540 to R546): the bits of a word after a masked write, which writes are ignored and
counted, what a refused access records, and where a write that reaches its block ends. -/

namespace Sys2Proof.Machine

/-! ### Access codes -/

theorem accLookup_mem {o : Nat} {l : List AccRow} {r : AccRow} (h : accLookup o l = some r) : r ∈ l := by
  induction l with
  | nil => cases h
  | cons a t ih =>
    unfold accLookup at h
    split at h
    · cases h; exact List.mem_cons_self ..
    · exact List.mem_cons_of_mem _ (ih h)

/-- No bit that a write of 1 clears, sets or triggers is a bit of an RWL or a SEAL field. -/
def AccRow.CodesApart (r : AccRow) : Prop := (r.w1cM ||| r.w1sM ||| r.woM) &&& (r.rwlM ||| r.sealM) = 0

/-- The codes are apart in every table of the register map. -/
theorem accRows_codesApart (o : Nat) : ∀ r ∈ accRows o, r.CodesApart := by
  unfold accRows AccRow.CodesApart
  repeat' split
  all_goals decide

theorem accRow_of_some {o : Nat} {r : AccRow} (h : accRow? o = some r) : accRow o = r := by
  simp [accRow, h]

theorem accRow_codesApart {o : Nat} {r : AccRow} (h : accRow? o = some r) : r.CodesApart :=
  accRows_codesApart o r (accLookup_mem h)

/-- The same, bit by bit. -/
theorem AccRow.CodesApart.testBit {r : AccRow} (h : r.CodesApart) (k : Nat) :
    ((r.w1cM.testBit k || r.w1sM.testBit k || r.woM.testBit k) && (r.rwlM.testBit k || r.sealM.testBit k)) = false := by
  have hk := congrArg (Nat.testBit · k) h
  simpa only [Nat.testBit_and, Nat.testBit_or, Nat.zero_testBit] using hk

/-! ### The word a masked write leaves (R8) -/

theorem maskPut_testBit (old m v k : Nat) :
    (maskPut old m v).testBit k = if m.testBit k then v.testBit k else old.testBit k := by
  simp only [maskPut, Nat.testBit_or, Nat.testBit_xor, Nat.testBit_and]
  cases m.testBit k <;> simp

/-- A bit of the register after a write under a mask, by its access code. -/
theorem plainWrite_getLsbD (d : Device) (o m w k : Nat) (hk : k < 32) :
    ((plainWrite d o m w).rd o).getLsbD k =
      if (accRow o).w1sM.testBit k && m.testBit k && w.testBit k then true
      else if (accRow o).w1cM.testBit k && m.testBit k && w.testBit k then false
      else if m.testBit k && ((accRow o).rwM.testBit k || (accRow o).rwlM.testBit k || (accRow o).sealM.testBit k) then w.testBit k
      else (d.rd o).getLsbD k := by
  simp only [plainWrite, Device.wn, Device.rd_wr_self, BitVec.getLsbD_ofNat, hk, decide_true, Bool.true_and, Nat.testBit_or,
    Nat.testBit_xor, Nat.testBit_and, maskPut_testBit, settable, Device.rn, BitVec.testBit_toNat, Bool.and_assoc]
  cases (accRow o).w1sM.testBit k && (m.testBit k && w.testBit k) <;>
    cases (accRow o).w1cM.testBit k && (m.testBit k && w.testBit k) <;> simp

theorem hostMask_testBit (d : Device) (o k : Nat) :
    (hostMask d o).testBit k = ((accRow o).rwM.testBit k || (accRow o).w1cM.testBit k || (accRow o).w1sM.testBit k ||
      (accRow o).woM.testBit k || (!setupLocked d && (accRow o).rwlM.testBit k)) := by
  simp only [hostMask, Nat.testBit_or]
  cases setupLocked d <;> simp

/-- A bit of the register after a host's write: W1S, W1C, RW, and RWL before SET-UP LOCK (R8, R544). -/
theorem plainWrite_hostMask_getLsbD {d e : Device} {o : Nat} {r : AccRow} (hr : accRow? o = some r) (w : Word) {k : Nat} (hk : k < 32) :
    ((plainWrite e o (hostMask d o) w.toNat).rd o).getLsbD k =
      if r.w1sM.testBit k && w.getLsbD k then true
      else if r.w1cM.testBit k && w.getLsbD k then false
      else if r.rwM.testBit k || (r.rwlM.testBit k && !setupLocked d) then w.getLsbD k
      else (e.rd o).getLsbD k := by
  have apart := (accRow_codesApart hr).testBit k
  rw [plainWrite_getLsbD _ _ _ _ _ hk, hostMask_testBit, accRow_of_some hr, BitVec.testBit_toNat]
  revert apart
  generalize r.rwM.testBit k = rw, r.rwlM.testBit k = rwl, r.sealM.testBit k = se, r.w1cM.testBit k = w1c,
    r.w1sM.testBit k = w1s, r.woM.testBit k = wo, w.getLsbD k = b, (e.rd o).getLsbD k = x, setupLocked d = locked
  revert rw rwl se w1c w1s wo b x locked
  decide

theorem keeps_plainWrite (d : Device) {rs : List Nat} {o : Nat} (m w : Nat) (h : o ∈ rs) : Keeps [] rs d (plainWrite d o m w) :=
  keeps_wr d _ h

/-- A write under an empty mask changes nothing. -/
theorem rd_plainWrite_zero (d : Device) (o w j : Nat) : (plainWrite d o 0 w).rd j = d.rd j := by
  by_cases hj : j = o
  · subst hj
    apply BitVec.eq_of_getLsbD_eq
    intro k hk
    simp [plainWrite_getLsbD d j 0 w k hk]
  · exact Device.rd_wr_ne d _ hj

theorem keeps_plainWrite_zero (d : Device) (rs : List Nat) (o w : Nat) : Keeps [] rs d (plainWrite d o 0 w) :=
  ⟨(keeps_plainWrite d 0 w (List.mem_singleton.2 rfl)).1, fun j _ _ => rd_plainWrite_zero d o w j⟩

/-! ### Ignored writes (R8, R545) -/

theorem differs_iff (d : Device) (o m w : Nat) :
    differs d o m w = true ↔ ∃ k, m.testBit k = true ∧ (heldWord d o).testBit k ≠ w.testBit k := by
  have zero : ((heldWord d o ^^^ w) &&& m) = 0 ↔ ∀ k, m.testBit k = true → (heldWord d o).testBit k = w.testBit k := by
    rw [Nat.eq_iff_testBit_eq]
    refine forall_congr' fun k => ?_
    simp only [Nat.testBit_and, Nat.testBit_xor, Nat.zero_testBit]
    cases m.testBit k <;> simp
  simp [differs, zero]

@[simp] theorem differs_zero (d : Device) (o w : Nat) : differs d o 0 w = false := by simp [differs]

/-- A register none of whose words is staged holds what the bank holds. -/
theorem heldWord_of_unstaged {d : Device} {o : Nat} (hs : d.gnss.staged = [])
    (ho : o ∉ [R.TB_INCR_LO, R.TB_INCR_HI, R.TB_LEAP_EXPIRY_LO, R.TB_LEAP_EXPIRY_HI, R.MON_LEDGER_NEXT_LO, R.MON_LEDGER_NEXT_HI]) :
    heldWord d o = d.rn o := by
  simp only [List.mem_cons, List.not_mem_nil, or_false, not_or] at ho
  obtain ⟨h1, h2, h3, h4, h5, h6⟩ := ho
  simp only [heldWord, if_neg h1, if_neg h2, if_neg h3, if_neg h4, if_neg h5, if_neg h6, hs, List.find?_nil]

theorem keeps_sealCount (d : Device) {rs : List Nat} (b : Bool) (h : R.SEC_SEAL_WRITES ∈ rs) : Keeps [] rs d (sealCount d b) := by
  unfold sealCount
  split
  · exact keeps_wr d _ h
  · exact keeps_refl ..

/-- What is ignored shows in the two counts alone. -/
theorem keeps_countIgnored (d : Device) {rs : List Nat} (o w : Nat) (hs : R.SEC_SEAL_WRITES ∈ rs) (hl : R.GLB_LOCK ∈ rs) :
    Keeps [] rs d (countIgnored d o w) := by
  have sealed := keeps_sealCount d (differs d o (accRow o).sealM w) hs
  unfold countIgnored
  dsimp only
  split
  · exact keeps_trans sealed (keeps_fs _ _ hl)
  · exact sealed

/-- A write that would change an RWL field under SET-UP LOCK, of a register without SEAL fields. -/
theorem countIgnored_of_rwl {d : Device} {o w : Nat} (hseal : (accRow o).sealM = 0) (hlock : d.fb F.GLB_LOCK_lock = true)
    (hdiff : differs d o (accRow o).rwlM w = true) :
    countIgnored d o w = d.fs F.GLB_LOCK_denied (satU 16 (d.fg F.GLB_LOCK_denied + 1)) := by
  simp [countIgnored, sealCount, setupLocked, hseal, hlock, hdiff]

/-- A write that would change a SEAL field, of a register without RWL fields. -/
theorem countIgnored_of_seal {d : Device} {o w : Nat} (hrwl : (accRow o).rwlM = 0) (hdiff : differs d o (accRow o).sealM w = true) :
    countIgnored d o w = d.wn R.SEC_SEAL_WRITES (min (2 ^ 32 - 1) (d.rn R.SEC_SEAL_WRITES + 1)) := by
  simp [countIgnored, sealCount, hrwl, hdiff]

/-! ### A refused access (R546) -/

/-- A saturated count fits its field. -/
theorem satU_mod (n v : Nat) : satU n v % 2 ^ n = satU n v := by
  have := Nat.two_pow_pos n
  exact Nat.mod_eq_of_lt (by unfold satU; omega)

/-- The first refused access is recorded with its kind and offset. -/
theorem accErr_first {d : Device} {kind o : Nat} (hv : d.fb F.GLB_ACC_ERR_valid = false) (hkind : kind < 8) (ho : o < 2 ^ 18) :
    (accErr d kind o).fb F.GLB_ACC_ERR_valid = true ∧
    (accErr d kind o).fg F.GLB_ACC_ERR_count = min 255 (d.fg F.GLB_ACC_ERR_count + 1) ∧
    (accErr d kind o).fg F.GLB_ACC_ERR_kind = kind ∧ (accErr d kind o).fg F.GLB_ACC_ERR_offset = o := by
  simp only [accErr, hv, Bool.false_eq_true, if_false]
  simp (disch := decide) only [Device.set1, Device.fb, Device.fg_fs, Device.fg_fs_disj]
  exact ⟨rfl, satU_mod 8 _, Nat.mod_eq_of_lt hkind, Nat.mod_eq_of_lt ho⟩

/-- A later one is counted, and the first stands. -/
theorem accErr_later {d : Device} {kind o : Nat} (hv : d.fb F.GLB_ACC_ERR_valid = true) :
    (accErr d kind o).fb F.GLB_ACC_ERR_valid = true ∧
    (accErr d kind o).fg F.GLB_ACC_ERR_count = min 255 (d.fg F.GLB_ACC_ERR_count + 1) ∧
    (accErr d kind o).fg F.GLB_ACC_ERR_kind = d.fg F.GLB_ACC_ERR_kind ∧
    (accErr d kind o).fg F.GLB_ACC_ERR_offset = d.fg F.GLB_ACC_ERR_offset := by
  have counted : accErr d kind o = d.fs F.GLB_ACC_ERR_count (satU 8 (d.fg F.GLB_ACC_ERR_count + 1)) := by
    simp only [accErr, hv, if_true]
  rw [counted]
  refine ⟨?_, ?_, Device.fg_fs_disj _ _ _ _ rfl (by decide) (by decide), Device.fg_fs_disj _ _ _ _ rfl (by decide) (by decide)⟩
  · rw [Device.fb, Device.fg_fs_disj d F.GLB_ACC_ERR_count F.GLB_ACC_ERR_valid _ rfl (by decide) (by decide)]
    exact hv
  · rw [Device.fg_fs _ _ _ (by decide)]
    exact satU_mod 8 _

/-! ### Where a host's write ends -/

/-- A write the block refuses, with the kind of its refusal: SIZE, RESERVED, OFF in this order (log entry 95). -/
theorem xRegisterWrite_refused {d : Device} {o kind : Nat} {full : Bool} (w : Word) (l : List Bytes)
    (h : (full = false ∧ kind = 1) ∨ (full = true ∧ accRow? o = none ∧ kind = 2) ∨
      (full = true ∧ accRow? o ≠ none ∧ blockOff d o = true ∧ kind = 3)) :
    xRegisterWrite o w full l d = accErr d kind o := by
  rcases h with ⟨rfl, rfl⟩ | ⟨rfl, hr, rfl⟩ | ⟨rfl, hr, hoff, rfl⟩
  · simp [xRegisterWrite]
  · simp [xRegisterWrite, hr]
  · simp [xRegisterWrite, hr, hoff]

/-- A full write of a register above GLB whose block is on is counted where it is ignored, and then written under the mask. -/
theorem xRegisterWrite_reached {d : Device} {o : Nat} {r : AccRow} (w : Word) (l : List Bytes) (hr : accRow? o = some r)
    (hon : blockOff d o = false) (ho : 0x1000 ≤ o) :
    xRegisterWrite o w true l d = regWrite false l o (hostMask d o) w.toNat (countIgnored d o w.toNat) := by
  simp [xRegisterWrite, hr, hon, Nat.not_lt.2 ho]

/-- The block SEC takes a write by the access codes alone. -/
theorem regWrite_sec (batch : Bool) (l : List Bytes) {o : Nat} (m w : Nat) (d : Device) (hlo : 0xE000 ≤ o) (hhi : o < 0xF000) :
    regWrite batch l o m w d = plainWrite d o m w := by
  unfold regWrite
  repeat rw [if_neg (by omega)]
  rw [if_pos hhi]

/-- So does the block of the slices above the registers of the twelve. -/
theorem regWrite_slcCommon (batch : Bool) (l : List Bytes) {o : Nat} (m w : Nat) (d : Device) (hlo : 0x18C00 ≤ o) (hhi : o < 0x19000) :
    regWrite batch l o m w d = plainWrite d o m w := by
  unfold regWrite
  repeat rw [if_neg (by omega)]
  rw [if_pos hhi]
  exact if_pos (show 12 ≤ (o - 0x18000) / 0x100 by omega)

theorem not_settleReg_of_sec {o : Nat} (hlo : 0xE000 ≤ o) (hhi : o < 0xF000) : o ∉ settleRegs := by
  have outside : ∀ x ∈ settleRegs, x < 0xE000 ∨ 0xF000 ≤ x := by decide
  intro h
  have := outside o h
  omega

theorem accRow?_steerSeed : accRow? R.SLC_STEER_SEED = some ⟨0x18c00, 0, 1, 0, 1, 0, 0xffffffff, 0, 0, 0, 0⟩ := rfl

theorem accRow?_secCtl : accRow? R.SEC_CTL = some ⟨0xe004, 0, 1, 0, 1, 0, 0, 1, 0, 0, 0⟩ := rfl

/-- A flag is the bit it stands in. -/
theorem Device.fb_eq_getLsbD (d : Device) (f : Fld) (h : f.len = 1) : d.fb f = (d.rd f.off).getLsbD f.lo := by
  rw [Device.fb, Device.fg, h, bits, ← BitVec.testBit_toNat, Nat.testBit_eq_decide_div_mod_eq]
  rcases Nat.mod_two_eq_zero_or_one ((d.rd f.off).toNat / 2 ^ f.lo) with h | h <;> simp [h]

/-- Two words that differ do so in a bit. -/
theorem exists_getLsbD_ne {a b : Word} (h : a ≠ b) : ∃ k, k < 32 ∧ a.getLsbD k ≠ b.getLsbD k :=
  Classical.byContradiction fun none => h (BitVec.eq_of_getLsbD_eq fun k hk =>
    Classical.byContradiction fun hbit => none ⟨k, hk, hbit⟩)

/-! ### The clauses of O52 -/

/-- A refused write is recorded and counted, and changes nothing else (R540, R542, R543, R546). -/
theorem registerWrite_refused (s : State) (o : Nat) (w : Word) (full : Bool) (l : List Bytes) (kind : Nat) (ho : o < 2 ^ 18)
    (h : (full = false ∧ kind = 1) ∨ (full = true ∧ accRow? o = none ∧ kind = 2) ∨
      (full = true ∧ accRow? o ≠ none ∧ blockOff s.dev o = true ∧ kind = 3)) :
    Completes (.registerWrite o w full l) s fun d =>
      d.fb F.GLB_ACC_ERR_valid = true ∧ d.fg F.GLB_ACC_ERR_count = min 255 (s.dev.fg F.GLB_ACC_ERR_count + 1) ∧
      (s.dev.fb F.GLB_ACC_ERR_valid = false → d.fg F.GLB_ACC_ERR_kind = kind ∧ d.fg F.GLB_ACC_ERR_offset = o) ∧
      (s.dev.fb F.GLB_ACC_ERR_valid = true → d.fg F.GLB_ACC_ERR_kind = s.dev.fg F.GLB_ACC_ERR_kind ∧
        d.fg F.GLB_ACC_ERR_offset = s.dev.fg F.GLB_ACC_ERR_offset) ∧ Keeps [] [R.GLB_ACC_ERR] s.dev d := by
  have hkind : kind < 8 := by omega
  have hset : R.GLB_ACC_ERR ∉ settleRegs := by decide
  refine completes_of_finish (congrArg (finish s) (xRegisterWrite_refused w l h)) ?_
  have keeps := keeps_settle (keeps_accErr s.dev kind o)
  simp only [settle_fb _ F.GLB_ACC_ERR_valid hset, settle_fg _ F.GLB_ACC_ERR_count hset, settle_fg _ F.GLB_ACC_ERR_kind hset,
    settle_fg _ F.GLB_ACC_ERR_offset hset]
  cases hv : s.dev.fb F.GLB_ACC_ERR_valid with
  | false =>
    obtain ⟨valid, count, first⟩ := accErr_first hv hkind ho
    exact ⟨valid, count, fun _ => first, nofun, keeps⟩
  | true =>
    obtain ⟨valid, count, stands⟩ := accErr_later (kind := kind) (o := o) hv
    exact ⟨valid, count, nofun, fun _ => stands, keeps⟩

/-- A write of a SEC register, bit by bit (R8, R544); the writes it ignores only count. -/
theorem registerWrite_sec (s : State) (o : Nat) (w : Word) (r : AccRow) (hlo : 0xE000 ≤ o) (hhi : o < 0xF000)
    (hr : accRow? o = some r) (hon : Reach s o) (hne : o ≠ R.SEC_SEAL_WRITES) :
    Completes (.registerWrite o w true []) s fun d =>
      (∀ k, k < 32 → (d.rd o).getLsbD k =
        if r.w1sM.testBit k && w.getLsbD k then true
        else if r.w1cM.testBit k && w.getLsbD k then false
        else if r.rwM.testBit k || (r.rwlM.testBit k && !s.dev.fb F.GLB_LOCK_lock) then w.getLsbD k
        else (s.dev.rd o).getLsbD k) ∧
      Keeps [] [o, R.SEC_SEAL_WRITES, R.GLB_LOCK] s.dev d := by
  have hset := not_settleReg_of_sec hlo hhi
  have ends : xRegisterWrite o w true [] s.dev = plainWrite (countIgnored s.dev o w.toNat) o (hostMask s.dev o) w.toNat := by
    rw [xRegisterWrite_reached w [] hr hon (by omega), regWrite_sec _ _ _ _ _ hlo hhi]
  have same : (countIgnored s.dev o w.toNat).rd o = s.dev.rd o := by
    refine (keeps_countIgnored s.dev (rs := [R.SEC_SEAL_WRITES, R.GLB_LOCK]) o w.toNat (by simp) (by simp)).2 o ?_ hset
    have : o ≠ R.GLB_LOCK := by unfold R.GLB_LOCK; omega
    simp [hne, this]
  refine completes_of_finish (congrArg (finish s) ends) ⟨fun k hk => ?_, keeps_settle (keeps_trans
    (keeps_countIgnored _ _ _ (by simp) (by simp)) (keeps_plainWrite _ _ _ (by simp)))⟩
  rw [settle_rd _ hset, plainWrite_hostMask_getLsbD hr w hk, same]
  rfl

/-- R544: the lock is set and its count of ignored writes stays. -/
theorem setupLock_sets_lock (s : State) : Completes .setupLock s fun d =>
    d.fb F.GLB_LOCK_lock = true ∧ d.fg F.GLB_LOCK_denied = s.dev.fg F.GLB_LOCK_denied ∧ Keeps [] [R.GLB_LOCK] s.dev d := by
  have hset : R.GLB_LOCK ∉ settleRegs := by decide
  refine completes_of_finish (d := xSetupLock s.dev) rfl ⟨?_, ?_, keeps_settle (keeps_fs _ _ (List.mem_singleton.2 rfl))⟩
  · rw [settle_fb _ _ hset]
    exact Device.fb_fsb s.dev F.GLB_LOCK_lock true (by decide) (by decide)
  · rw [settle_fg _ _ hset]
    exact Device.fg_fs_disj _ _ _ _ rfl (by decide) (by decide)

/-- R545: under SET-UP LOCK no bit of SLC_STEER_SEED, an RWL field, is left in the mask, so that the write only counts. -/
theorem registerWrite_locked (s : State) (w : Word) (hlock : s.dev.fb F.GLB_LOCK_lock = true) (hstaged : s.dev.gnss.staged = [])
    (hw : s.dev.rd R.SLC_STEER_SEED ≠ w) (hon : Reach s R.SLC_STEER_SEED) :
    Completes (.registerWrite R.SLC_STEER_SEED w true []) s fun d =>
      d.fg F.GLB_LOCK_denied = min 65535 (s.dev.fg F.GLB_LOCK_denied + 1) ∧ Keeps [] [R.GLB_LOCK] s.dev d := by
  have hset : R.GLB_LOCK ∉ settleRegs := by decide
  have row := accRow_of_some accRow?_steerSeed
  have mask : hostMask s.dev R.SLC_STEER_SEED = 0 := by simp [hostMask, row, setupLocked, hlock]
  have hdiff : differs s.dev R.SLC_STEER_SEED (accRow R.SLC_STEER_SEED).rwlM w.toNat = true := by
    rw [differs_iff, heldWord_of_unstaged hstaged (by decide), row]
    obtain ⟨k, hk, hbit⟩ := exists_getLsbD_ne hw
    refine ⟨k, ?_, hbit⟩
    exact (Nat.testBit_two_pow_sub_one 32 k).trans (decide_eq_true hk)
  have ends : xRegisterWrite R.SLC_STEER_SEED w true [] s.dev =
      plainWrite (s.dev.fs F.GLB_LOCK_denied (satU 16 (s.dev.fg F.GLB_LOCK_denied + 1))) R.SLC_STEER_SEED 0 w.toNat := by
    rw [xRegisterWrite_reached w [] accRow?_steerSeed hon (by decide), regWrite_slcCommon _ _ _ _ _ (by decide) (by decide), mask,
      countIgnored_of_rwl (by rw [row]) hlock hdiff]
  refine completes_of_finish (congrArg (finish s) ends) ⟨?_, ?_⟩
  · rw [settle_fg _ _ hset, Device.fg_congr F.GLB_LOCK_denied (rd_plainWrite_zero ..), Device.fg_fs _ _ _ (by decide)]
    exact satU_mod 16 _
  · exact keeps_settle (keeps_trans (keeps_fs _ _ (List.mem_singleton.2 rfl)) (keeps_plainWrite_zero _ _ _ _))

/-- R8: SEC_CTL has a SEAL field alone, which no host's mask names, so that the write only counts. -/
theorem registerWrite_sealed (s : State) (w : Word) (hstaged : s.dev.gnss.staged = [])
    (hw : s.dev.fb F.SEC_CTL_auto_confirm ≠ w.getLsbD 0) (hon : Reach s R.SEC_CTL) :
    Completes (.registerWrite R.SEC_CTL w true []) s fun d =>
      d.rn R.SEC_SEAL_WRITES = min (2 ^ 32 - 1) (s.dev.rn R.SEC_SEAL_WRITES + 1) ∧ Keeps [] [R.SEC_SEAL_WRITES] s.dev d := by
  have hset : R.SEC_SEAL_WRITES ∉ settleRegs := by decide
  have row := accRow_of_some accRow?_secCtl
  have mask : hostMask s.dev R.SEC_CTL = 0 := by simp [hostMask, row]
  have hdiff : differs s.dev R.SEC_CTL (accRow R.SEC_CTL).sealM w.toNat = true := by
    rw [differs_iff, heldWord_of_unstaged hstaged (by decide), row]
    refine ⟨0, rfl, ?_⟩
    rwa [Device.fb_eq_getLsbD _ _ rfl, ← BitVec.testBit_toNat, ← BitVec.testBit_toNat] at hw
  have ends : xRegisterWrite R.SEC_CTL w true [] s.dev =
      plainWrite (s.dev.wn R.SEC_SEAL_WRITES (min (2 ^ 32 - 1) (s.dev.rn R.SEC_SEAL_WRITES + 1))) R.SEC_CTL 0 w.toNat := by
    rw [xRegisterWrite_reached w [] accRow?_secCtl hon (by decide), regWrite_sec _ _ _ _ _ (by decide) (by decide), mask,
      countIgnored_of_seal (by rw [row]) hdiff]
  refine completes_of_finish (congrArg (finish s) ends) ⟨?_, ?_⟩
  · rw [settle_rn _ _ hset, Device.rn, rd_plainWrite_zero, Device.rd_wn, if_pos rfl, BitVec.toNat_ofNat]
    omega
  · exact keeps_settle (keeps_trans (keeps_wr _ _ (List.mem_singleton.2 rfl)) (keeps_plainWrite_zero _ _ _ _))

/-- Settles O52: each clause is where the write ends (recorded, counted, or put under the mask) and what settling leaves of it. -/
theorem registerWrites : Obligations.RegisterWrites :=
  ⟨⟨registerWrite_refused, registerWrite_sec⟩, setupLock_sets_lock, registerWrite_locked, registerWrite_sealed⟩

end Sys2Proof.Machine
end

section
/-! SUPPORT. The Peel's launches (spec/04_peel.md): what a launched frame counts and sends, and what a pass over a port's bookings leaves
in each of them. -/

namespace Sys2Proof.Machine

/-! ### Frames of the updates a launch is made of -/

theorem keeps_mono {ps qs : List Part} {rs ts : List Nat} {a b : Device} (h : Keeps ps rs a b) (hps : ps ⊆ qs) (hrs : rs ⊆ ts) :
    Keeps qs ts a b :=
  ⟨fun p hp => h.1 p fun hm => hp (hps hm), fun o ho hs => h.2 o (fun hm => ho (hrs hm)) hs⟩

theorem keeps_foldl {α : Type} {ps : List Part} {rs : List Nat} {g : Device → α → Device} (h : ∀ d x, Keeps ps rs d (g d x))
    (l : List α) (d : Device) : Keeps ps rs d (l.foldl g d) := by
  induction l generalizing d with
  | nil => exact keeps_refl ..
  | cons x t ih => exact keeps_trans (h d x) (ih (g d x))

theorem keeps_peel (d : Device) (p : Peel) : Keeps [.peel] [] d { d with peel := p } :=
  ⟨fun q hq => by cases q <;> simp_all [Part.same, Device.outOf], fun _ _ _ => rfl⟩

theorem keeps_stats (d : Device) (l : List (Nat × Nat)) : Keeps [.stats] [] d { d with stats := l } :=
  ⟨fun q hq => by cases q <;> simp_all [Part.same, Device.outOf], fun _ _ _ => rfl⟩

theorem keeps_emit (d : Device) (o : Output) : Keeps [] [] d (d.emit o) :=
  ⟨fun q _ => by cases q <;> simp [Part.same, Device.outOf, Device.emit], fun _ _ _ => rfl⟩

/-! ### Port statistics (R214, R215) -/

/-- A statistic is added, or nothing is, and then the half-range flag may rise. -/
theorem statAdd_cases (d : Device) (n k v : Nat) :
    statAdd d n k v = d ∨ ∃ l, statAdd d n k v = { d with stats := l } ∨
      ∃ r w, r ∈ [R.PORT_HALF_LO n, R.PORT_HALF_HI n] ∧ statAdd d n k v = ({ d with stats := l } : Device).wn r w := by
  unfold statAdd
  split
  · exact .inl rfl
  · dsimp only
    split
    · refine .inr ⟨_, .inr ⟨_, _, ?_, rfl⟩⟩
      split <;> simp
    · exact .inr ⟨_, .inl rfl⟩

theorem keeps_statAdd (d : Device) (n k v : Nat) : Keeps [.stats] [R.PORT_HALF_LO n, R.PORT_HALF_HI n] d (statAdd d n k v) := by
  rcases statAdd_cases d n k v with h | ⟨l, h | ⟨r, w, hr, h⟩⟩ <;> rw [h]
  · exact keeps_refl ..
  · exact keeps_mono (keeps_stats d l) (by simp) (by simp)
  · exact keeps_trans (keeps_mono (keeps_stats d l) (by simp) (by simp)) (keeps_mono (keeps_wr _ _ hr) (by simp) (by simp))

@[simp] theorem statAdd_out (d : Device) (n k v : Nat) : (statAdd d n k v).out = d.out := by
  rcases statAdd_cases d n k v with h | ⟨l, h | ⟨r, w, -, h⟩⟩ <;> simp [h]

theorem keeps_statTx (d : Device) (n : Nat) (f : Bytes) : Keeps [.stats] [R.PORT_HALF_LO n, R.PORT_HALF_HI n] d (statTx d n f) :=
  keeps_trans (keeps_trans (keeps_trans (keeps_statAdd ..) (keeps_statAdd ..)) (keeps_statAdd ..)) (keeps_statAdd ..)

@[simp] theorem statTx_out (d : Device) (n : Nat) (f : Bytes) : (statTx d n f).out = d.out := by simp [statTx]

@[simp] theorem statTx_peel (d : Device) (n : Nat) (f : Bytes) : (statTx d n f).peel = d.peel :=
  ((keeps_statTx d n f).1 .peel (by decide)).symm

@[simp] theorem statTx_cnts (d : Device) (n : Nat) (f : Bytes) : (statTx d n f).cnts = d.cnts :=
  ((keeps_statTx d n f).1 .cnts (by decide)).symm

/-! ### Launches (R115) -/

/-- An engine's frame that leaves: its booking ends, the frame is sent and counted, and of the Peel else only the wire's state moves. -/
theorem launchBooking_of_engine {d : Device} {b : Booking} {f : Bytes} (ho : b.owner = .engine none) (hr : b.resp = none) :
    ∃ p : Peel, p.bookings = d.peel.bookings.filter (fun x => !(x.handle == b.handle)) ∧
      launchBooking d b f =
        statTx ((({ d with peel := p } : Device).emit (.frame b.port b.due f)).cnt (K.PEEL_LAUNCHED b.port)) b.port f := by
  simp only [launchBooking, ho, hr]
  exact ⟨_, rfl, rfl⟩

/-- No booking has a handle whose bookings are gone. -/
theorem findBooking_eq_none_of_filter {d : Device} {l : List Booking} {h : Nat}
    (hd : d.peel.bookings = l.filter fun x => !(x.handle == h)) : findBooking d h = none := by
  simp [findBooking, hd]

theorem xPeelLaunch_of_due {d : Device} {h : Nat} {b : Booking} {f : Bytes} (hb : findBooking d h = some b) (hf : b.frame = some f)
    (hdue : b.due < d.now + d.tm.tickLen) (hok : d.dtInvalid = false) : xPeelLaunch h d = launchBooking d b f := by
  simp [xPeelLaunch, hb, hf, hdue, hok]

theorem xPeelLaunch_of_early {d : Device} {h : Nat} {b : Booking} (hb : findBooking d h = some b)
    (hdue : d.now + d.tm.tickLen ≤ b.due) : xPeelLaunch h d = d := by
  simp only [xPeelLaunch, hb]
  cases b.frame <;> simp [Nat.not_lt.2 hdue]

/-- R115: the frame leaves at its instant, and its booking ends. -/
theorem peelLaunch_sends (s : State) (h : Nat) (f : Bytes) (b : Booking) (hb : findBooking s.dev h = some b) (hh : b.handle = h)
    (hf : b.frame = some f) (hok : TimeOk s) (hdue : b.due < s.dev.now + s.dev.tm.tickLen) (ho : b.owner = .engine none)
    (hr : b.resp = none) : Completes (.peelLaunch h) s fun d =>
      findBooking d h = none ∧ Sends [.frame b.port b.due f] s.dev d ∧ Counted (K.PEEL_LAUNCHED b.port) s.dev d ∧
      Keeps [.peel, .cnts, .stats] [R.PORT_HALF_LO b.port, R.PORT_HALF_HI b.port] s.dev d := by
  obtain ⟨p, hp, hl⟩ := launchBooking_of_engine (d := s.dev) (f := f) ho hr
  refine completes_of_finish (congrArg (finish s) ((xPeelLaunch_of_due hb hf hdue hok).trans hl)) ⟨?_, ?_, ?_, ?_⟩
  · refine findBooking_eq_none_of_filter (l := s.dev.peel.bookings) ?_
    rw [settle_peel, statTx_peel, ← hh]
    exact hp
  · refine sends_settle ?_
    rw [statTx_out]
    rfl
  · refine counted_settle fun j => ?_
    rw [Device.cntOf, statTx_cnts]
    exact counted_cnt (({ s.dev with peel := p } : Device).emit (.frame b.port b.due f)) _ j
  · refine keeps_settle (keeps_trans ?_ (keeps_mono (keeps_statTx ..) (by simp) (by simp)))
    refine keeps_trans ?_ (keeps_mono (keeps_cnt ..) (by simp) (by simp))
    exact keeps_trans (keeps_mono (keeps_peel s.dev p) (by simp) (by simp)) (keeps_mono (keeps_emit ..) (by simp) (by simp))

/-- R34: nothing leaves before the tick of its instant. -/
theorem peelLaunch_early (s : State) (h : Nat) (b : Booking) (hb : findBooking s.dev h = some b)
    (hdue : s.dev.now + s.dev.tm.tickLen ≤ b.due) : Completes (.peelLaunch h) s fun d => Sends [] s.dev d ∧ Keeps [] [] s.dev d :=
  completes_of_finish (congrArg (finish s) (xPeelLaunch_of_early hb hdue)) ⟨sends_settle rfl, keeps_settle (keeps_refl ..)⟩

/-! ### Waking a port (R135) -/

theorem not_settleReg_of_port {o : Nat} (hlo : 0x10000 ≤ o) (hhi : o < 0x18000) : o ∉ settleRegs := by
  have outside : ∀ x ∈ settleRegs, x < 0x10000 ∨ 0x18000 ≤ x := by decide
  intro h
  have := outside o h
  omega

theorem mem_portBookings {d : Device} {n : Nat} {b : Booking} : b ∈ portBookings d n ↔ b ∈ d.peel.bookings ∧ b.port = n := by
  simp [portBookings]

theorem xPeelLpiWake_of_due {d : Device} {n : Nat} {b : Booking} (hlpi : d.fb (F.PORT_STATUS_tx_lpi n) = true)
    (hb : b ∈ portBookings d n) (hdue : b.due ≤ d.now + (d.fg (F.PORT_LPI_tw n) + 100) * nsU + d.tm.tickLen) :
    xPeelLpiWake n d = (d.clr (F.PORT_STATUS_tx_lpi n)).emit (.portWake n) := by
  have due : ((portBookings d n).any fun b => decide (b.due ≤ d.now + (d.fg (F.PORT_LPI_tw n) + 100) * nsU + d.tm.tickLen)) = true :=
    List.any_eq_true.2 ⟨b, hb, decide_eq_true hdue⟩
  simp only [xPeelLpiWake, hlpi, due, Bool.and_self, if_true]

theorem peelLpiWake_wakes (s : State) (n : Nat) (b : Booking) (hlpi : s.dev.fb (F.PORT_STATUS_tx_lpi n) = true)
    (hb : b ∈ s.dev.peel.bookings) (hn : b.port = n)
    (hdue : b.due ≤ s.dev.now + (s.dev.fg (F.PORT_LPI_tw n) + 100) * nsU + s.dev.tm.tickLen) (h17 : n < 17) :
    Completes (.peelLpiWake n) s fun d => d.fb (F.PORT_STATUS_tx_lpi n) = false ∧ Sends [.portWake n] s.dev d ∧
      Keeps [] [R.PORT_STATUS n] s.dev d := by
  have hset : R.PORT_STATUS n ∉ settleRegs := not_settleReg_of_port (by unfold R.PORT_STATUS; omega) (by unfold R.PORT_STATUS; omega)
  refine completes_of_finish (congrArg (finish s) (xPeelLpiWake_of_due hlpi (mem_portBookings.2 ⟨hb, hn⟩) hdue)) ⟨?_, ?_, ?_⟩
  · rw [settle_fb _ (F.PORT_STATUS_tx_lpi n) hset]
    rw [Device.fb_congr _ (Device.rd_congr (Device.emit_regs ..) _)]
    exact Device.fb_fsb s.dev (F.PORT_STATUS_tx_lpi n) false (by simp) (by simp)
  · refine sends_settle ?_
    rw [Device.emit, Device.clr_out, List.singleton_append]
  · exact keeps_settle (keeps_trans (keeps_fs _ _ (by simp)) (keeps_mono (keeps_emit ..) (by simp) (by simp)))

/-! ### A pass over a port's bookings

The wheels and the far list go through the bookings of a port one by one, and each step rewrites the entry of one handle.  `v` is what of
a booking is looked at, `key` finds the handle in it, and `put b` is what the step for booking `b` does to the view of each entry. -/

section
variable {β : Type} {v : Booking → β} {key : β → Nat} {put : Booking → β → β}

/-- Steps for other handles leave an entry alone. -/
theorem foldl_put_of_ne (other : ∀ b e, key e ≠ b.handle → put b e = e) {l : List Booking} {e : β}
    (h : ∀ b ∈ l, key e ≠ b.handle) : l.foldl (fun e b => put b e) e = e := by
  induction l with
  | nil => rfl
  | cons a t ih =>
    rw [List.foldl_cons, other a e (h a (List.mem_cons_self ..))]
    exact ih fun b hb => h b (List.mem_cons_of_mem _ hb)

/-- Where no two bookings share a handle, an entry gets the one step that is its own. -/
theorem foldl_put_of_mem (other : ∀ b e, key e ≠ b.handle → put b e = e) (same : ∀ b e, key (put b e) = key e) {l : List Booking}
    {x : Booking} {e : β} (nodup : (l.map (·.handle)).Nodup) (hx : x ∈ l) (he : key e = x.handle) :
    l.foldl (fun e b => put b e) e = put x e := by
  induction l with
  | nil => cases hx
  | cons a t ih =>
    obtain ⟨ha, ht⟩ := List.nodup_cons.1 nodup
    have apart : ∀ b ∈ t, b.handle ≠ a.handle := fun b hb h => ha (List.mem_map.2 ⟨b, hb, h⟩)
    rw [List.foldl_cons]
    rcases List.mem_cons.1 hx with rfl | hx
    · exact foldl_put_of_ne other fun b hb h => apart b hb (by rw [← h, same, he])
    · rw [other a e fun h => apart x hx (he.symm.trans h)]
      exact ih ht hx

theorem foldl_step_map {step : Device → Booking → Device} {t : TimeSt} (steady : ∀ e b, (step e b).tm = e.tm)
    (rule : ∀ e b, e.tm = t → (step e b).peel.bookings.map v = (e.peel.bookings.map v).map (put b)) (l : List Booking) (d : Device)
    (hd : d.tm = t) :
    (l.foldl step d).peel.bookings.map v = (d.peel.bookings.map v).map fun e => l.foldl (fun e b => put b e) e := by
  induction l generalizing d with
  | nil => simp
  | cons a l ih => rw [List.foldl_cons, ih (step d a) ((steady d a).trans hd), rule d a hd, List.map_map]; rfl

/-- Where no two bookings share a handle, the handle names the booking. -/
theorem eq_of_handle_eq {l : List Booking} {x y : Booking} (nodup : (l.map (·.handle)).Nodup) (hx : x ∈ l) (hy : y ∈ l)
    (h : x.handle = y.handle) : x = y := by
  induction l with
  | nil => cases hx
  | cons a t ih =>
    obtain ⟨ha, ht⟩ := List.nodup_cons.1 nodup
    rcases List.mem_cons.1 hx with hxa | hxt <;> rcases List.mem_cons.1 hy with hya | hyt
    · exact hxa.trans hya.symm
    · exact (ha (List.mem_map.2 ⟨y, hyt, hxa ▸ h.symm⟩)).elim
    · exact (ha (List.mem_map.2 ⟨x, hxt, hya ▸ h⟩)).elim
    · exact ih ht hxt hyt

/-- A pass over a port's bookings gives each of them its own step, and those of other ports none. -/
theorem portBookings_pass {step : Device → Booking → Device} {d : Device} {n : Nat} (other : ∀ b e, key e ≠ b.handle → put b e = e)
    (same : ∀ b e, key (put b e) = key e) (view : ∀ b, key (v b) = b.handle) (steady : ∀ e b, (step e b).tm = e.tm)
    (rule : ∀ e b, e.tm = d.tm → (step e b).peel.bookings.map v = (e.peel.bookings.map v).map (put b))
    (nodup : (d.peel.bookings.map (·.handle)).Nodup) :
    ((portBookings d n).foldl step d).peel.bookings.map v =
      d.peel.bookings.map fun x => if x.port = n then put x (v x) else v x := by
  rw [foldl_step_map steady rule _ d rfl, List.map_map]
  refine List.map_congr_left fun x hx => ?_
  by_cases hn : x.port = n
  · rw [if_pos hn]
    exact foldl_put_of_mem other same (nodup.sublist (List.filter_sublist.map _)) (mem_portBookings.2 ⟨hx, hn⟩) (view x)
  · rw [if_neg hn]
    refine foldl_put_of_ne other fun b hb h => hn ?_
    obtain ⟨hb, hbn⟩ := mem_portBookings.1 hb
    rw [eq_of_handle_eq nodup hx hb ((view x).symm.trans h), hbn]

end

/-! ### The far list and the wheels (R125, R126) -/

theorem keeps_setBooking (d : Device) (b : Booking) : Keeps [.peel] [] d (setBooking d b) := keeps_peel d _

/-- A booking of the far list whose time to enter the wheels has come. -/
abbrev FarDue (now : Inst) (b : Booking) : Prop := b.level = 3 ∧ b.due ≤ now + secU + 1310720 * nsU

/-- What the far list's pass does for one booking. -/
def farStep (d : Device) (b : Booking) : Device := if FarDue d.now b then setBooking d { b with level := 2 } else d

/-- What it does to an entry. -/
def farPut (now : Inst) (b x : Booking) : Booking :=
  if FarDue now b then (if x.handle = b.handle then { b with level := 2 } else x) else x

theorem farPut_handle (now : Inst) (b x : Booking) : (farPut now b x).handle = x.handle := by
  unfold farPut
  split
  · split
    · next h => exact h.symm
    · rfl
  · rfl

theorem xFarListRelease_eq (n : Nat) (d : Device) : xFarListRelease n d = (portBookings d n).foldl farStep d := rfl

theorem keeps_farStep (d : Device) (b : Booking) : Keeps [.peel] [] d (farStep d b) := by
  unfold farStep
  split
  · exact keeps_setBooking ..
  · exact keeps_refl ..

theorem farStep_bookings (d : Device) (b : Booking) : (farStep d b).peel.bookings = d.peel.bookings.map (farPut d.now b) := by
  unfold farStep farPut
  by_cases h : FarDue d.now b
  · simp only [if_pos h, setBooking, mapIf, beq_iff_eq]
  · simp only [if_neg h, List.map_id']

/-- R125: the bookings of a port that are due enter the wheels; none is lost. -/
theorem farListRelease_moves (s : State) (n : Nat) (nodup : (s.dev.peel.bookings.map (·.handle)).Nodup) :
    Completes (.farListRelease n) s fun d =>
      d.peel.bookings = s.dev.peel.bookings.map (fun b =>
        if b.port = n ∧ b.level = 3 ∧ b.due ≤ s.dev.now + secU + 1310720 * nsU then { b with level := 2 } else b) ∧
      Keeps [.peel] [] s.dev d := by
  refine completes_of_finish (congrArg (finish s) (xFarListRelease_eq n s.dev)) ⟨?_, keeps_settle (keeps_foldl keeps_farStep _ _)⟩
  have pass := portBookings_pass (v := id) (key := (·.handle)) (put := farPut s.dev.now) (step := farStep) (d := s.dev) (n := n)
    (fun b e h => by unfold farPut; rw [if_neg h, ite_self])
    (farPut_handle _)
    (fun _ => rfl)
    (fun e b => ((keeps_farStep e b).1 .tm (by decide)).symm)
    (fun e b he => by
      have hnow : e.now = s.dev.now := by unfold Device.now; rw [he]
      rw [List.map_id, List.map_id, farStep_bookings, hnow])
    nodup
  rw [List.map_id] at pass
  rw [settle_peel, pass]
  refine List.map_congr_left fun x _ => ?_
  by_cases hn : x.port = n <;> simp [hn, farPut, FarDue]

/-- The level of a wheel's entry once the tick has entered its slot. -/
def lowerLevel (ticks : Nat) (b : Booking) : Nat :=
  if b.level = 2 ∧ b.tick / 2 ^ 20 ≤ ticks / 2 ^ 20 then (if b.tick / 2 ^ 10 ≤ ticks / 2 ^ 10 then 0 else 1)
  else if b.level = 1 ∧ b.tick / 2 ^ 10 ≤ ticks / 2 ^ 10 then 0
  else b.level

/-- An entry of either wheel whose level-1 slot is entered goes to level 0, whatever its level-2 slot says: that one is entered then. -/
theorem lowerLevel_eq (ticks : Nat) (b : Booking) : lowerLevel ticks b =
    if (b.level = 1 ∨ b.level = 2) ∧ b.tick / 2 ^ 10 ≤ ticks / 2 ^ 10 then 0
    else if b.level = 2 ∧ b.tick / 2 ^ 20 ≤ ticks / 2 ^ 20 then 1 else b.level := by
  have coarser : b.tick / 2 ^ 10 ≤ ticks / 2 ^ 10 → b.tick / 2 ^ 20 ≤ ticks / 2 ^ 20 := by omega
  unfold lowerLevel
  by_cases fine : b.tick / 2 ^ 10 ≤ ticks / 2 ^ 10
  · simp only [fine, coarser fine, and_true, if_true]
    split <;> simp_all
  · simp only [fine, and_false, if_false]

/-- What the cascade does for one booking: it moves down, and its frame is pinned when it comes to level 0. -/
def cascadeStep (ticks : Nat) (d : Device) (b : Booking) : Device :=
  let b' := { b with level := lowerLevel ticks b }
  if b'.level = 0 ∧ b.level ≠ 0 then pinFrame (setBooking d b') b' else setBooking d b'

theorem xWheelSlotCascade_eq (n : Nat) (d : Device) : xWheelSlotCascade n d = (portBookings d n).foldl (cascadeStep d.tm.ticks) d := rfl

theorem pinFrame_cases (d : Device) (b : Booking) :
    pinFrame d b = d ∨ pinFrame d b = setBooking d { b with pinned := true } ∨ pinFrame d b = d.set1 F.TROUGH_STATUS_pin_full := by
  unfold pinFrame
  split
  · split
    · exact .inl rfl
    · split
      · exact .inr (.inl rfl)
      · exact .inr (.inr rfl)
  · exact .inl rfl

theorem keeps_pinFrame (d : Device) (b : Booking) : Keeps [.peel] [R.TROUGH_STATUS] d (pinFrame d b) := by
  rcases pinFrame_cases d b with h | h | h <;> rw [h]
  · exact keeps_refl ..
  · exact keeps_mono (keeps_setBooking ..) (by simp) (by simp)
  · exact keeps_mono (keeps_fs _ _ (List.mem_singleton.2 rfl)) (by simp) (by simp)

theorem keeps_cascadeStep (ticks : Nat) (d : Device) (b : Booking) : Keeps [.peel] [R.TROUGH_STATUS] d (cascadeStep ticks d b) := by
  have set := fun b' => keeps_mono (qs := [.peel]) (ts := [R.TROUGH_STATUS]) (keeps_setBooking d b') (by simp) (by simp)
  unfold cascadeStep
  dsimp only
  split
  · exact keeps_trans (set _) (keeps_pinFrame ..)
  · exact set _

/-- Where a booking stands: its handle and its level. -/
def Booking.place (b : Booking) : Nat × Nat := (b.handle, b.level)

/-- The entry of a handle takes a level. -/
def setLevel (h l : Nat) (e : Nat × Nat) : Nat × Nat := if e.1 = h then (e.1, l) else e

theorem setBooking_places (d : Device) (b : Booking) :
    (setBooking d b).peel.bookings.map Booking.place = (d.peel.bookings.map Booking.place).map (setLevel b.handle b.level) := by
  simp only [setBooking, mapIf, List.map_map]
  refine List.map_congr_left fun x _ => ?_
  by_cases h : x.handle = b.handle <;> simp [Booking.place, setLevel, h]

/-- Pinning moves no entry whose level is the booking's already. -/
theorem pinFrame_places (d : Device) (b : Booking) : (pinFrame (setBooking d b) b).peel.bookings.map Booking.place =
    (setBooking d b).peel.bookings.map Booking.place := by
  rcases pinFrame_cases (setBooking d b) b with h | h | h <;> rw [h]
  · rw [setBooking_places, setBooking_places, List.map_map]
    refine List.map_congr_left fun e _ => ?_
    by_cases he : e.1 = b.handle <;> simp [setLevel, he]
  · rfl

theorem cascadeStep_places (ticks : Nat) (d : Device) (b : Booking) : (cascadeStep ticks d b).peel.bookings.map Booking.place =
    (d.peel.bookings.map Booking.place).map (setLevel b.handle (lowerLevel ticks b)) := by
  unfold cascadeStep
  dsimp only
  split
  · rw [pinFrame_places, setBooking_places]
  · rw [setBooking_places]

/-- R125, R126: the entries of a port whose slots are entered move down; none is lost. -/
theorem wheelSlotCascade_moves (s : State) (n : Nat) (nodup : (s.dev.peel.bookings.map (·.handle)).Nodup) :
    Completes (.wheelSlotCascade n) s fun d =>
      d.peel.bookings.map (fun b => (b.handle, b.level)) = s.dev.peel.bookings.map (fun b => (b.handle,
        if b.port = n ∧ (b.level = 1 ∨ b.level = 2) ∧ b.tick / 2 ^ 10 ≤ s.dev.tm.ticks / 2 ^ 10 then 0
        else if b.port = n ∧ b.level = 2 ∧ b.tick / 2 ^ 20 ≤ s.dev.tm.ticks / 2 ^ 20 then 1 else b.level)) ∧
      Keeps [.peel] [R.TROUGH_STATUS] s.dev d := by
  refine completes_of_finish (congrArg (finish s) (xWheelSlotCascade_eq n s.dev))
    ⟨?_, keeps_settle (keeps_foldl (keeps_cascadeStep _) _ _)⟩
  have pass := portBookings_pass (v := Booking.place) (key := (·.1)) (step := cascadeStep s.dev.tm.ticks) (d := s.dev) (n := n)
    (put := fun b => setLevel b.handle (lowerLevel s.dev.tm.ticks b))
    (fun b e h => if_neg h)
    (fun b e => by unfold setLevel; split <;> rfl)
    (fun _ => rfl)
    (fun e b => ((keeps_cascadeStep _ e b).1 .tm (by decide)).symm)
    (fun e b _ => cascadeStep_places _ e b)
    nodup
  rw [settle_peel]
  refine pass.trans (List.map_congr_left fun x _ => ?_)
  by_cases hn : x.port = n <;> simp [hn, setLevel, Booking.place, lowerLevel_eq]

/-! ### The guard times (R118) -/

theorem clamp_le {lo hi : Nat} (h : lo ≤ hi) (v : Nat) : clamp lo hi v ≤ hi := by unfold clamp; omega

theorem peelGuardWrite_clamps (s : State) (w : Word) (hon : Reach s R.PEEL_GUARD) :
    let c := clamp 200 1000 (bits w.toNat 16 16)
    let l := clamp 250 4000 (bits w.toNat 0 16)
    Completes (.peelGuardWrite w) s fun d =>
      d.fg F.PEEL_GUARD_g_commit = (if c < l then c else s.dev.fg F.PEEL_GUARD_g_commit) ∧
      d.fg F.PEEL_GUARD_g_lead = (if c < l then l else s.dev.fg F.PEEL_GUARD_g_lead) ∧ Keeps [] [R.PEEL_GUARD] s.dev d := by
  intro c l
  have hset : R.PEEL_GUARD ∉ settleRegs := by decide
  have hc : c ≤ 1000 := clamp_le (by decide) _
  have hl : l ≤ 4000 := clamp_le (by decide) _
  have ends : hostWrite R.PEEL_GUARD (xPeelGuardWrite w) s.dev =
      if l ≤ c then s.dev else s.dev.wn R.PEEL_GUARD (c * 65536 + l) := by
    rw [hostWrite, show blockOff s.dev R.PEEL_GUARD = false from hon]
    rfl
  refine completes_of_finish (congrArg (finish s) ends) ?_
  rw [settle_fg _ F.PEEL_GUARD_g_commit hset, settle_fg _ F.PEEL_GUARD_g_lead hset]
  by_cases h : c < l
  · rw [if_neg (Nat.not_le.2 h), if_pos h, if_pos h]
    refine ⟨?_, ?_, keeps_settle (keeps_wr _ _ (List.mem_singleton.2 rfl))⟩
    all_goals
      rw [Device.wn, Device.fg_wr, if_pos rfl, BitVec.toNat_ofNat, bits]
      dsimp only
      omega
  · rw [if_pos (Nat.not_lt.1 h), if_neg h, if_neg h]
    exact ⟨rfl, rfl, keeps_settle (keeps_refl ..)⟩

/-- Settles O14: the launch and its wait, the wake, one pass for the far list and one for the wheels, and the guard times. -/
theorem peelLaunches : Obligations.PeelLaunches :=
  ⟨fun s h f b hb hh hf hok => ⟨fun hdue ho hr _ => peelLaunch_sends s h f b hb hh hf hok hdue ho hr, peelLaunch_early s h b hb⟩,
   peelLpiWake_wakes,
   fun s n nodup => ⟨farListRelease_moves s n nodup, wheelSlotCascade_moves s n nodup⟩,
   peelGuardWrite_clamps⟩

end Sys2Proof.Machine
end

section
/-! SUPPORT. Booking and committing an engine's frame on the Peel (R116, R117): what an accepted booking and a commit in time leave, and
that the PTP service's own state does not bear on either. -/

namespace Sys2Proof.Machine

theorem keeps_sched (d : Device) (x : Sched) : Keeps [.sched] [] d { d with sched := x } :=
  ⟨fun q hq => by cases q <;> simp_all [Part.same, Device.outOf], fun _ _ _ => rfl⟩

theorem keeps_setHist (d : Device) (n : Nat) (x : Hist) : Keeps [.mon] [] d (d.setHist n x) :=
  ⟨fun q hq => by cases q <;> simp_all [Part.same, Device.outOf, Device.setHist], fun _ _ _ => rfl⟩

theorem keeps_monPush (d : Device) (n : Nat) (v : Int) : Keeps [.mon] [] d (monPush d n v) := by
  unfold monPush
  dsimp only
  split
  · exact keeps_refl ..
  · split
    · exact keeps_setHist ..
    · split <;> exact keeps_setHist ..

theorem keeps_monFeed (d : Device) (src arg all : Nat) (v : Int) : Keeps [.mon] [] d (monFeed d src arg all v) := by
  refine keeps_foldl (fun d n => ?_) _ _
  dsimp only
  split
  · exact keeps_monPush ..
  · exact keeps_refl ..

/-! ### Booking (R116) -/

theorem gateOpen_setPtp (d : Device) (p : Ptp) (n c : Nat) (k : Nat) (a b : Inst) :
    gateOpen { d with ptp := p } n c k a b = gateOpen d n c k a b := by
  induction k generalizing a with
  | zero => rfl
  | succ k ih =>
    have list : listAt { d with ptp := p } n a = listAt d n a := rfl
    simp only [gateOpen, list, ih]

theorem searchPt_setPtp (d : Device) (p : Ptp) (n len gcls : Nat) (spans : List (Nat × Nat)) (t0 tl : Inst) (k ord : Nat) :
    searchPt { d with ptp := p } n len gcls spans t0 tl k ord = searchPt d n len gcls spans t0 tl k ord := by
  induction k generalizing ord with
  | zero => rfl
  | succ k ih =>
    have gate (t : Inst) : gateOk { d with ptp := p } n gcls t len = gateOk d n gcls t len := by
      simp only [gateOk, gateOpen_setPtp]
      rfl
    simp only [searchPt, gate, ih]
    rfl

/-- No booking's launch point depends on the PTP service's state. -/
theorem bookCode_setPtp (d : Device) (p : Ptp) (n : Nat) (te tl : Inst) (len gcls : Nat) :
    bookCode { d with ptp := p } n te tl len gcls = bookCode d n te tl len gcls := by
  simp only [bookCode, searchPt_setPtp]
  rfl

theorem Bookable.setPtp {d : Device} {n : Nat} {te tl : Inst} {len gcls ord : Nat} {t : Inst} (h : Bookable d n te tl len gcls ord t)
    (p : Ptp) : Bookable { d with ptp := p } n te tl len gcls ord t :=
  ⟨(bookCode_setPtp ..).trans h.1, h.2⟩

/-- The booking an accepted request adds to the Peel, under the handle that was next. -/
def newBooking (d : Device) (n : Nat) (t : Inst) (len gcls ord : Nat) (o : Owner) : Booking :=
  { handle := d.sched.nextHandle, port := n, due := t, len, gcls, mayRp := false, again := false, frame := none, owner := o, resp := none,
    pt := ord, guardC := d.fg F.PEEL_GUARD_g_commit, level := (wheelPlace d t).1, tick := (wheelPlace d t).2, pinned := false }

/-- The block with a booking more, and its handle drawn. -/
def withBooking (d : Device) (b : Booking) : Device :=
  { d with sched := { d.sched with nextHandle := nextHandle d.sched.nextHandle },
           peel := { d.peel with bookings := d.peel.bookings ++ [b] } }

theorem peelBook_of_bookable {d : Device} {n : Nat} {te tl : Inst} {len gcls ord : Nat} {t : Inst} (o : Owner)
    (h : Bookable d n te tl len gcls ord t) :
    peelBook d n te tl len gcls false false o =
      (T.ACCEPTED, d.sched.nextHandle, t, withBooking d (newBooking d n t len gcls ord o)) := by
  obtain ⟨hcode, hlevel, hnear, -, -⟩ := h
  have near : ¬ 32768 ≤ nearOf d n := Nat.not_le.2 hnear
  have wheel : ((wheelPlace d t).1 == 3) = false := by
    rw [beq_eq_false_iff_ne]
    omega
  simp only [peelBook, hcode, if_true, near, wheel, decide_false, Bool.and_false, Bool.false_and, Bool.false_eq_true, if_false]
  rfl

theorem keeps_withBooking (d : Device) (b : Booking) : Keeps [.sched, .peel] [] d (withBooking d b) :=
  keeps_trans (keeps_mono (keeps_sched d { d.sched with nextHandle := nextHandle d.sched.nextHandle }) (by simp) (by simp))
    (keeps_mono (keeps_peel _ { d.peel with bookings := d.peel.bookings ++ [b] }) (by simp) (by simp))

/-- A booking whose handle was free is what its handle finds. -/
theorem findBooking_withBooking {d : Device} {b : Booking} {h : Nat} (hb : b.handle = h) (free : findBooking d h = none) :
    findBooking (withBooking d b) h = some b := by
  unfold findBooking at free ⊢
  rw [withBooking, List.find?_append, free]
  simp [hb]

/-! ### Committing (R117) -/

/-- What a handle finds after its booking is replaced. -/
theorem findBooking_setBooking {d : Device} {h : Nat} {b b' : Booking} (hb : findBooking d h = some b) (hh : b'.handle = h) :
    findBooking (setBooking d b') h = some b' := by
  unfold findBooking at hb ⊢
  rw [setBooking, hh]
  dsimp only
  generalize d.peel.bookings = l at hb ⊢
  induction l with
  | nil => cases hb
  | cons a l ih =>
    by_cases ha : a.handle = h
    · simp [mapIf, ha, hh]
    · rw [List.find?_cons_of_neg (by simpa using ha)] at hb
      have := ih hb
      simp only [mapIf, List.map_cons] at this ⊢
      rw [List.find?_cons_of_neg (by simp [ha])]
      exact this

/-- Pinning a frame changes only whether its booking is pinned. -/
theorem findBooking_pinFrame {d : Device} {h : Nat} {b : Booking} (hb : findBooking d h = some b) (hh : b.handle = h) :
    ∃ v, findBooking (pinFrame d b) h = some { b with pinned := v } := by
  rcases pinFrame_cases d b with e | e | e <;> rw [e]
  · exact ⟨b.pinned, hb⟩
  · exact ⟨true, findBooking_setBooking hb hh⟩
  · exact ⟨b.pinned, hb⟩

/-- R117: a commit in time puts the frame into its booking. -/
theorem peelCommit_in_time {d : Device} {h : Nat} {b : Booking} (f : Bytes) (hb : findBooking d h = some b) (hh : b.handle = h)
    (hdue : d.now + b.guardC * nsU ≤ b.due) :
    ∃ e v, peelCommit d h f none = (true, e) ∧ findBooking e h = some { b with frame := some f, resp := none, pinned := v } ∧
      Keeps [.peel, .mon] [R.TROUGH_STATUS] d e := by
  subst hh
  have fed := keeps_monFeed d 5 b.port 16 (((b.due : Int) - d.now) / nsU)
  have inTime : ¬ b.due < (monFeed d 5 b.port 16 (((b.due : Int) - d.now) / nsU)).now + b.guardC * nsU := by
    rw [Device.now, ← fed.1 .tm (by decide)]
    exact Nat.not_lt.2 hdue
  have found : findBooking (monFeed d 5 b.port 16 (((b.due : Int) - d.now) / nsU)) b.handle = some b := by
    rw [findBooking, ← fed.1 .peel (by decide)]
    exact hb
  simp only [peelCommit, hb, if_neg inTime]
  generalize monFeed d 5 b.port 16 (((b.due : Int) - d.now) / nsU) = m at fed found
  have set := findBooking_setBooking (b' := { b with frame := some f, resp := none }) found rfl
  have kept : Keeps [.peel, .mon] [R.TROUGH_STATUS] d (setBooking m { b with frame := some f, resp := none }) :=
    keeps_trans (keeps_mono fed (by simp) (by simp)) (keeps_mono (keeps_setBooking ..) (by simp) (by simp))
  split
  · obtain ⟨v, pinned⟩ := findBooking_pinFrame set rfl
    exact ⟨_, v, rfl, pinned, keeps_trans kept (keeps_mono (keeps_pinFrame ..) (by simp) (by simp))⟩
  · exact ⟨_, b.pinned, rfl, set, kept⟩

end Sys2Proof.Machine
end

section
/-! SUPPORT. What the PTP service sends (R182, R184, R189, R193, R176). -/

namespace Sys2Proof.Machine

theorem keeps_ptp (d : Device) (p : Ptp) : Keeps [.ptp] [] d { d with ptp := p } :=
  ⟨fun q hq => by cases q <;> simp_all [Part.same, Device.outOf], fun _ _ _ => rfl⟩

theorem keeps_setPtpInst (d : Device) (i : Nat) (x : PtpInst) : Keeps [.ptp] [] d (d.setPtpInst i x) := keeps_ptp d _

theorem keeps_bumpSeq (d : Device) (i port kind : Nat) : Keeps [.ptp] [] d (bumpSeq d i port kind) := keeps_ptp d _

/-! ### An instance's state -/

theorem Device.ptpInst_setPtpInst (d : Device) (i j : Nat) (x : PtpInst) :
    (d.setPtpInst i x).ptpInst j = if j = i then x else d.ptpInst j := amGet_amSet ..

@[simp] theorem Device.ptpInst_setPtpInst_self (d : Device) (i : Nat) (x : PtpInst) : (d.setPtpInst i x).ptpInst i = x := by
  rw [Device.ptpInst_setPtpInst, if_pos rfl]

theorem Device.ptpInst_congr {a b : Device} (h : a.ptp = b.ptp) (i : Nat) : a.ptpInst i = b.ptpInst i := by
  unfold Device.ptpInst
  rw [h]

/-- The next sequenceId after one was used. -/
theorem seqOf_bumpSeq (d : Device) (i port kind : Nat) :
    seqOf ((bumpSeq d i port kind).ptpInst i) port kind = (seqOf (d.ptpInst i) port kind + 1) % 65536 := by
  rw [bumpSeq, Device.ptpInst_setPtpInst_self, seqOf, amGet_amSet, if_pos rfl]

/-! ### Announces (R189) -/

/-- What the clock quality follows of the upstream's Announces is untouched by an update that keeps an instance's choice and what it heard. -/
theorem upstreamSel_setPtpInst {d : Device} {i : Nat} {x : PtpInst} (hbest : x.best = (d.ptpInst i).best)
    (hforeign : x.foreign = (d.ptpInst i).foreign) : upstreamSel (d.setPtpInst i x) = upstreamSel d := by
  have best (j : Nat) : ((d.setPtpInst i x).ptpInst j).best = (d.ptpInst j).best := by
    rw [Device.ptpInst_setPtpInst]
    split
    · next h => rw [h, hbest]
    · rfl
  have foreign (j : Nat) : ((d.setPtpInst i x).ptpInst j).foreign = (d.ptpInst j).foreign := by
    rw [Device.ptpInst_setPtpInst]
    split
    · next h => rw [h, hforeign]
    · rfl
  simp only [upstreamSel, best, foreign]
  rfl

/-- An Announce depends on the PTP service's state through the selected upstream alone. -/
theorem announceMsg_setPtpInst {d : Device} {i : Nat} {x : PtpInst} (h : upstreamSel (d.setPtpInst i x) = upstreamSel d)
    (j port seq : Nat) (lg : Int) (uni : Bool) (t : Inst) :
    announceMsg (d.setPtpInst i x) j port seq lg uni t = announceMsg d j port seq lg uni t := by
  have row : qualRow (d.setPtpInst i x) = qualRow d := by
    simp only [qualRow, h]
    rfl
  have up (k len dflt : Nat) : upByte (d.setPtpInst i x) k len dflt = upByte d k len dflt := by
    simp only [upByte, h]
  have cls : clockClass (d.setPtpInst i x) j = clockClass d j := by
    simp only [clockClass, row, up]
    rfl
  have acc : clockAcc (d.setPtpInst i x) j = clockAcc d j := by
    simp only [clockAcc, row, up]
    rfl
  have gm : gmFields (d.setPtpInst i x) j = gmFields d j := by
    simp only [gmFields, h, cls, acc]
    rfl
  have flags : timeFlags (d.setPtpInst i x) = timeFlags d := by
    simp only [timeFlags, row]
    rfl
  simp only [announceMsg, gm, flags]
  rfl

/-! ### Sending (R182) -/

/-- A message that gets a launch point is built for it, booked and committed. -/
theorem ptpSend_of_bookable {d : Device} {i port vlan : Nat} {dest : Option (Nat × Nat)} {event pd : Bool} (ctr : Option Nat) {win : Inst}
    {mk : Inst → Bytes} {ord : Nat} {t : Inst}
    (h : Bookable d port d.now (d.now + win) ((ptpFrame d i port vlan dest event pd (mk d.now)).length + 4)
      (gateClass d port (ptpTci d i vlan)) ord t) :
    ∃ e, ptpSend d i port vlan dest event pd ctr win mk = (some t, e) ∧
      Booked d e port t (ptpFrame d i port vlan dest event pd (mk t)) ∧ Keeps [.peel, .sched, .mon] [R.TROUGH_STATUS] d e := by
  have booked := peelBook_of_bookable (.engine ctr) h
  obtain ⟨-, -, -, hguard, free⟩ := h
  generalize hb : newBooking d port t _ _ ord (.engine ctr) = b at booked
  have handle : b.handle = d.sched.nextHandle := by rw [← hb]; rfl
  have due : (withBooking d b).now + b.guardC * nsU ≤ b.due := by rw [← hb]; exact hguard
  obtain ⟨e, v, commit, found, kept⟩ :=
    peelCommit_in_time (ptpFrame d i port vlan dest event pd (mk t)) (findBooking_withBooking handle free) handle due
  refine ⟨e, ?_, ⟨_, found, ?_, ?_, rfl⟩, ?_⟩
  · simp only [ptpSend, booked, if_true, commit]
  · rw [← hb]; rfl
  · rw [← hb]; rfl
  · exact keeps_trans (keeps_mono (keeps_withBooking d b) (by simp) (by simp)) (keeps_mono kept (by simp) (by simp))

/-- Bringing the block up to date leaves bookings alone. -/
theorem Booked.settle {a d : Device} {n : Nat} {t : Inst} {f : Bytes} (h : Booked a d n t f) : Booked a (settle d) n t f := by
  unfold Booked findBooking at h ⊢
  rwa [settle_peel]

/-- The same, for a command that has changed the service's own state before it sends. -/
theorem ptpSend_setPtp_of_bookable {d : Device} (p : Ptp) {i port vlan : Nat} {dest : Option (Nat × Nat)} {event pd : Bool}
    (ctr : Option Nat) {win : Inst} {mk f : Inst → Bytes} {ord : Nat} {t : Inst}
    (hf : ∀ t, ptpFrame d i port vlan dest event pd (mk t) = f t)
    (h : Bookable d port d.now (d.now + win) ((f d.now).length + 4) (gateClass d port (ptpTci d i vlan)) ord t) :
    ∃ e, ptpSend { d with ptp := p } i port vlan dest event pd ctr win mk = (some t, e) ∧ Booked d e port t (f t) ∧ e.ptp = p ∧
      Keeps [.ptp, .peel, .sched, .mon] [R.TROUGH_STATUS] d e := by
  rw [← hf] at h ⊢
  obtain ⟨e, sent, booked, kept⟩ := ptpSend_of_bookable (d := { d with ptp := p }) ctr (mk := mk) (h.setPtp p)
  exact ⟨e, sent, booked, (kept.1 .ptp (by decide)).symm,
    keeps_trans (keeps_mono (keeps_ptp d p) (by simp) (by simp)) (keeps_mono kept (by simp) (by simp))⟩

/-- An instance whose state alone was changed. -/
theorem Device.ptpInst_of_ptp_eq {d e : Device} {i : Nat} {x : PtpInst} (h : e.ptp = (d.setPtpInst i x).ptp) : e.ptpInst i = x :=
  (Device.ptpInst_congr h i).trans (Device.ptpInst_setPtpInst_self ..)

/-! ### The clauses of O19 -/

/-- An entry of a port that a timer finds is at least an interval old when all of the port's are. -/
theorem find_entry_due {l : List (Nat × Inst)} {port : Nat} {iv now : Inst} (h : ∀ e ∈ l, e.1 = port → e.2 + iv ≤ now) :
    (l.find? fun e => e.1 == port) = none ∨ ∃ e, (l.find? fun e => e.1 == port) = some e ∧ e.2 + iv ≤ now := by
  cases hf : l.find? fun e => e.1 == port with
  | none => exact .inl rfl
  | some e => exact .inr ⟨e, rfl, h e (List.mem_of_find?_eq_some hf) (by simpa using List.find?_some hf)⟩

/-- An instance that sends an Announce on a port now. -/
def PtpInst.announcing (x : PtpInst) (port : Nat) (now : Inst) : PtpInst :=
  { x with lastAnn := amIns (amDel x.lastAnn port) port now }

theorem xPtpAnnounceSend_of_due {d : Device} {i port : Nat} (hi : i < 8) (hup : d.up (.ptp i) = true) (hok : d.dtInvalid = false)
    (hsilent : ptpSilent d = false) (hserver : ptpServer d i port = true) (huni : ptpUnicast d i = false)
    (hdue : ∀ e ∈ (d.ptpInst i).lastAnn, e.1 = port → e.2 + logDur (rateLog d (F.CLS_PTP_RATES_ann i)) ≤ d.now) {d' e : Device} {t : Inst}
    (hd' : d' = d.setPtpInst i ((d.ptpInst i).announcing port d.now))
    (hsend : ptpSend d' i port (ptpVlan d' i) none false false (some (K.PTP_ANN_SENT i)) (logDur (rateLog d (F.CLS_PTP_RATES_ann i)))
      (announceMsg d' i port (seqOf (d.ptpInst i) port 1) (rateLog d (F.CLS_PTP_RATES_ann i)) false) = (some t, e)) :
    xPtpAnnounceSend i port none d = bumpSeq e i port 1 := by
  have guard : ¬ (8 ≤ i ∨ ¬ d.up (.ptp i) ∨ ptpSilent d ∨ d.dtInvalid ∨ ¬ ptpServer d i port) := by
    simp [hup, hsilent, hok, hserver]
    omega
  subst hd'
  simp only [PtpInst.announcing] at hsend
  rw [xPtpAnnounceSend, if_neg guard]
  rcases find_entry_due hdue with none | ⟨x, some, due⟩
  · simp only [none, huni, Bool.not_true, Bool.or_false, Bool.false_eq_true, if_false, hsend, Option.isSome_some, if_true]
  · simp only [some, due, huni, decide_true, Bool.not_true, Bool.or_false, Bool.false_eq_true, if_false, hsend, Option.isSome_some, if_true]

/-- R189: an Announce that is due goes to the group. -/
theorem ptpAnnounceSend_books (s : State) (i port ord : Nat) (t : Inst) (hi : i < 8) (hup : s.dev.up (.ptp i) = true) (hok : TimeOk s)
    (hsilent : ptpSilent s.dev = false) (hserver : ptpServer s.dev i port = true) (huni : ptpUnicast s.dev i = false)
    (hdue : ∀ e ∈ (s.dev.ptpInst i).lastAnn, e.1 = port → e.2 + logDur (rateLog s.dev (F.CLS_PTP_RATES_ann i)) ≤ s.dev.now) :
    let lg := rateLog s.dev (F.CLS_PTP_RATES_ann i)
    let f (t : Inst) := ptpFrame s.dev i port (ptpVlan s.dev i) none false false
      (announceMsg s.dev i port (seqOf (s.dev.ptpInst i) port 1) lg false t)
    Bookable s.dev port s.dev.now (s.dev.now + logDur lg) ((f s.dev.now).length + 4)
      (gateClass s.dev port (ptpTci s.dev i (ptpVlan s.dev i))) ord t →
    Completes (.ptpAnnounceSend i port none) s fun d => Booked s.dev d port t (f t) ∧
      seqOf (d.ptpInst i) port 1 = (seqOf (s.dev.ptpInst i) port 1 + 1) % 65536 ∧
      Keeps [.ptp, .peel, .sched, .mon] [R.TROUGH_STATUS] s.dev d := by
  intro lg f hbook
  have same := announceMsg_setPtpInst (upstreamSel_setPtpInst (d := s.dev) (i := i)
    (x := (s.dev.ptpInst i).announcing port s.dev.now) rfl rfl)
    i port (seqOf (s.dev.ptpInst i) port 1) lg false
  obtain ⟨e, sent, booked, ptp, kept⟩ := ptpSend_setPtp_of_bookable
    (s.dev.setPtpInst i ((s.dev.ptpInst i).announcing port s.dev.now)).ptp (some (K.PTP_ANN_SENT i))
    (mk := announceMsg (s.dev.setPtpInst i ((s.dev.ptpInst i).announcing port s.dev.now)) i port (seqOf (s.dev.ptpInst i) port 1) lg false)
    (f := f) (fun t => congrArg _ (same t)) hbook
  have ends := xPtpAnnounceSend_of_due hi hup hok hsilent hserver huni hdue rfl sent
  refine completes_of_finish (congrArg (finish s) ends) ⟨Booked.settle ?_, ?_, keeps_settle ?_⟩
  · exact booked
  · rw [Device.ptpInst_congr (settle_ptp _), seqOf_bumpSeq, Device.ptpInst_of_ptp_eq ptp]
    rfl
  · exact keeps_trans kept (keeps_mono (keeps_bumpSeq ..) (by simp) (by simp))

/-- The registers of the PTP service do not follow the rest of the block. -/
theorem not_settleReg_of_ptp {o : Nat} (hlo : 0x1a800 ≤ o) (hhi : o < 0x1b000) : o ∉ settleRegs := by
  have outside : ∀ x ∈ settleRegs, x < 0x1a800 ∨ 0x1b000 ≤ x := by decide
  intro h
  have := outside o h
  omega

theorem port_lt_of_ptpServer {d : Device} {i port : Nat} (h : ptpServer d i port = true) : port < 16 := by
  simp only [ptpServer, Bool.and_eq_true, decide_eq_true_eq] at h
  exact h.1

/-- An instance that sends a request on a port now. -/
def PtpInst.requesting (x : PtpInst) (port : Nat) (now : Inst) : PtpInst :=
  { x with lastReq := amIns (amDel x.lastReq port) port now }

/-- A peer delay request that awaits its response, in the place of an older one of the port. -/
def PtpInst.awaitingPeer (x : PtpInst) (r : DelayTx) : PtpInst :=
  { x with delays := (x.delays.filter fun e => !(e.peer == true && e.port == r.port)) ++ [r] }

/-- A port's peer delay request leaves when it is due. -/
theorem xPtpRequestSend_of_peer_due {d : Device} {i port : Nat} (hi : i < 8) (hup : d.up (.ptp i) = true) (hok : d.dtInvalid = false)
    (hdelay : ptpDelay d port = 1) (hserver : ptpServer d i port = true)
    (hdue : ∀ e ∈ (d.ptpInst i).lastReq, e.1 = port → e.2 + logDur (rateLog d (F.CLS_PTPP_CTL_pd_log port)) ≤ d.now) {d' e : Device}
    {t : Inst} (hd' : d' = d.setPtpInst i ((d.ptpInst i).requesting port d.now))
    (hsend : ptpSend d' i port (ptpVlan d' i) none true true none (logDur (rateLog d (F.CLS_PTPP_CTL_pd_log port)))
      (fun _ => requestMsg d' i port true false (seqOf (d.ptpInst i) port 3) (rateLog d (F.CLS_PTPP_CTL_pd_log port))) = (some t, e)) :
    xPtpRequestSend i port d = (bumpSeq e i port 3).setPtpInst i (((bumpSeq e i port 3).ptpInst i).awaitingPeer
      { peer := true, port, seq := seqOf (d.ptpInst i) port 3, sent := egrVal e port t, back := none }) := by
  subst hd'
  simp only [PtpInst.requesting] at hsend
  have index : decide (8 ≤ i) = false := decide_eq_false (Nat.not_le.2 hi)
  rcases find_entry_due hdue with none | ⟨x, some, due⟩
  · simp only [xPtpRequestSend, hdelay, none, hserver, hup, hok, index, beq_self_eq_true, Bool.true_or, Bool.not_true, Bool.or_false,
      Bool.false_eq_true, if_true, if_false, Option.isSome_none, hsend]
    rfl
  · simp only [xPtpRequestSend, hdelay, some, due, hserver, hup, hok, index, beq_self_eq_true, Bool.true_or, Bool.not_true, Bool.or_false,
      decide_true, Bool.false_eq_true, if_true, if_false, Option.isSome_none, hsend]
    rfl

/-- R182: a peer delay request that is due is sent, and its sequenceId and egress value kept for the response. -/
theorem ptpRequestSend_books (s : State) (i port ord : Nat) (t : Inst) (hi : i < 8) (hup : s.dev.up (.ptp i) = true) (hok : TimeOk s)
    (hdelay : ptpDelay s.dev port = 1) (hserver : ptpServer s.dev i port = true)
    (hdue : ∀ e ∈ (s.dev.ptpInst i).lastReq, e.1 = port → e.2 + logDur (rateLog s.dev (F.CLS_PTPP_CTL_pd_log port)) ≤ s.dev.now) :
    let lg := rateLog s.dev (F.CLS_PTPP_CTL_pd_log port)
    let f := ptpFrame s.dev i port (ptpVlan s.dev i) none true true
      (requestMsg s.dev i port true false (seqOf (s.dev.ptpInst i) port 3) lg)
    Bookable s.dev port s.dev.now (s.dev.now + logDur lg) (f.length + 4)
      (gateClass s.dev port (ptpTci s.dev i (ptpVlan s.dev i))) ord t →
    Completes (.ptpRequestSend i port) s fun d => Booked s.dev d port t f ∧
      seqOf (d.ptpInst i) port 3 = (seqOf (s.dev.ptpInst i) port 3 + 1) % 65536 ∧
      (∃ r ∈ (d.ptpInst i).delays, r.peer = true ∧ r.port = port ∧ r.seq = seqOf (s.dev.ptpInst i) port 3 ∧
        r.sent = egrVal s.dev port t) ∧
      Keeps [.ptp, .peel, .sched, .mon] [R.TROUGH_STATUS] s.dev d := by
  intro lg f hbook
  obtain ⟨e, sent, booked, ptp, kept⟩ := ptpSend_setPtp_of_bookable
    (s.dev.setPtpInst i ((s.dev.ptpInst i).requesting port s.dev.now)).ptp none
    (mk := fun _ => requestMsg s.dev i port true false (seqOf (s.dev.ptpInst i) port 3) lg)
    (f := fun _ => f) (fun _ => rfl) hbook
  have ends := xPtpRequestSend_of_peer_due hi hup hok hdelay hserver hdue rfl sent
  have egress : egrVal e port t = egrVal s.dev port t := by
    have hport := port_lt_of_ptpServer hserver
    have low : 0x1a800 ≤ R.CLS_PTPP_EGR_LAT port := by unfold R.CLS_PTPP_EGR_LAT; omega
    have high : R.CLS_PTPP_EGR_LAT port < 0x1b000 := by unfold R.CLS_PTPP_EGR_LAT; omega
    have hset := not_settleReg_of_ptp low high
    have other : R.CLS_PTPP_EGR_LAT port ∉ [R.TROUGH_STATUS] := fun h => by
      have : R.CLS_PTPP_EGR_LAT port = 0x30000 := List.mem_singleton.1 h
      omega
    rw [egrVal, Device.rs, Device.rn, kept.2 _ other hset]
    rfl
  refine completes_of_finish (congrArg (finish s) ends) ⟨Booked.settle ?_, ?_, ?_, keeps_settle ?_⟩
  · exact booked
  · rw [Device.ptpInst_congr (settle_ptp _), Device.ptpInst_setPtpInst_self]
    exact (seqOf_bumpSeq e i port 3).trans (by rw [Device.ptpInst_of_ptp_eq ptp]; rfl)
  · rw [Device.ptpInst_congr (settle_ptp _), Device.ptpInst_setPtpInst_self]
    exact ⟨_, List.mem_append_right _ (List.mem_singleton.2 rfl), rfl, rfl, rfl, egress⟩
  · exact keeps_trans kept (keeps_mono (keeps_trans (keeps_bumpSeq ..) (keeps_setPtpInst ..)) (by simp) (by simp))

/-- What a unicast client without grants asks its upstream for: Announces, Syncs and Delay_Resps at the rates in force. -/
def renewBody (d : Device) (i : Nat) : Bytes :=
  let dur := clamp 10 1000 (d.fg (F.CLS_PTP_UNI_max_dur i))
  requestTlv 11 (rateLog d (F.CLS_PTP_RATES_ann i)) dur ++ requestTlv 0 (rateLog d (F.CLS_PTP_RATES_sync i)) dur ++
    requestTlv 9 (rateLog d (F.CLS_PTP_RATES_dreq i)) dur

theorem renewBody_isEmpty (d : Device) (i : Nat) : (renewBody d i).isEmpty = false := by
  simp [renewBody, requestTlv, beBytes, leBytes]

theorem ptpUnicast_of_upstreamTo {d : Device} {i : Nat} {a : Nat × Nat} (h : upstreamTo d i = some a) : ptpUnicast d i = true := by
  unfold upstreamTo at h
  split at h
  · assumption
  · cases h

/-- A client without a grant of its upstream asks for the three types. -/
theorem xPtpUnicastRenew_of_lacking {d : Device} {i port mac a : Nat} (hi : i < 8) (hup : d.up (.ptp i) = true) (hok : d.dtInvalid = false)
    (hport : (List.range 16).find? (fun p => ptpClient d i p) = some port) (hlacks : (d.ptpInst i).up = [])
    (hto : upstreamTo d i = some (mac, a)) :
    xPtpUnicastRenew i d =
      sendSignal (d.setPtpInst i (d.ptpInst i)) i port (ptpVlan d i) mac a (2 ^ 64 - 1) 65535 (renewBody d i) := by
  have guard : ¬ (8 ≤ i ∨ ¬ d.up (.ptp i) ∨ ¬ ptpUnicast d i ∨ d.dtInvalid) := by
    simp [hup, hok, ptpUnicast_of_upstreamTo hto]
    omega
  have upstream (x : PtpInst) : upstreamTo (d.setPtpInst i x) i = some (mac, a) := hto
  have same : { d.ptpInst i with up := [] } = d.ptpInst i := by rw [← hlacks]
  have body : renewBody d i = [11, 0, 9].flatMap fun t => requestTlv t (rateLog d (if t = 11 then F.CLS_PTP_RATES_ann i
      else if t = 0 then F.CLS_PTP_RATES_sync i else F.CLS_PTP_RATES_dreq i)) (clamp 10 1000 (d.fg (F.CLS_PTP_UNI_max_dur i))) := by
    simp [renewBody]
  have all : [11, 0, 9].filter (fun _ => true) = [11, 0, 9] := rfl
  simp only [xPtpUnicastRenew, hport, if_neg guard, hlacks, List.find?_nil, List.map_nil, upstream, same, body, all]
  rfl

/-- A Signaling message that gets a launch point is sent under the next sequenceId. -/
theorem sendSignal_of_bookable {d : Device} (p : Ptp) {i port vlan mac addr tclk tport : Nat} {body : Bytes} {ord : Nat} {t : Inst}
    (hbody : body.isEmpty = false) (hinst : ({ d with ptp := p } : Device).ptpInst i = d.ptpInst i)
    (h : Bookable d port d.now (d.now + secU)
      ((ptpFrame d i port vlan (some (mac, addr)) false false
        (signalMsg d i port (seqOf (d.ptpInst i) port 4) tclk tport body)).length + 4) (gateClass d port (ptpTci d i vlan)) ord t) :
    let e := sendSignal { d with ptp := p } i port vlan mac addr tclk tport body
    Booked d e port t (ptpFrame d i port vlan (some (mac, addr)) false false
        (signalMsg d i port (seqOf (d.ptpInst i) port 4) tclk tport body)) ∧
      seqOf (e.ptpInst i) port 4 = (seqOf (d.ptpInst i) port 4 + 1) % 65536 ∧ Keeps [.ptp, .peel, .sched, .mon] [R.TROUGH_STATUS] d e := by
  obtain ⟨e, sent, booked, ptp, kept⟩ := ptpSend_setPtp_of_bookable p none
    (mk := fun _ => signalMsg d i port (seqOf (d.ptpInst i) port 4) tclk tport body) (fun _ => rfl) h
  have ends : sendSignal { d with ptp := p } i port vlan mac addr tclk tport body = bumpSeq e i port 4 := by
    simp only [sendSignal, hbody, hinst, Bool.false_eq_true, if_false]
    rw [show (fun _ : Inst => signalMsg { d with ptp := p } i port (seqOf (d.ptpInst i) port 4) tclk tport body) =
      fun _ => signalMsg d i port (seqOf (d.ptpInst i) port 4) tclk tport body from rfl, sent]
    rfl
  rw [ends]
  refine ⟨booked, ?_, keeps_trans kept (keeps_mono (keeps_bumpSeq ..) (by simp) (by simp))⟩
  rw [seqOf_bumpSeq, (Device.ptpInst_congr (b := { d with ptp := p }) ptp i).trans hinst]

/-- R193: a unicast client without grants asks for them. -/
theorem ptpUnicastRenew_books (s : State) (i port ord : Nat) (t : Inst) (hi : i < 8) (hup : s.dev.up (.ptp i) = true) (hok : TimeOk s)
    (mac a : Nat) (hport : (List.range 16).find? (fun p => ptpClient s.dev i p) = some port) (hlacks : (s.dev.ptpInst i).up = [])
    (hto : upstreamTo s.dev i = some (mac, a)) :
    let f := ptpFrame s.dev i port (ptpVlan s.dev i) (some (mac, a)) false false
      (signalMsg s.dev i port (seqOf (s.dev.ptpInst i) port 4) (2 ^ 64 - 1) 65535 (renewBody s.dev i))
    Bookable s.dev port s.dev.now (s.dev.now + secU) (f.length + 4)
      (gateClass s.dev port (ptpTci s.dev i (ptpVlan s.dev i))) ord t →
    Completes (.ptpUnicastRenew i) s fun d => Booked s.dev d port t f ∧
      seqOf (d.ptpInst i) port 4 = (seqOf (s.dev.ptpInst i) port 4 + 1) % 65536 ∧
      Keeps [.ptp, .peel, .sched, .mon] [R.TROUGH_STATUS] s.dev d := by
  intro f hbook
  have ends := xPtpUnicastRenew_of_lacking hi hup hok hport hlacks hto
  obtain ⟨booked, seq, kept⟩ := sendSignal_of_bookable (s.dev.setPtpInst i (s.dev.ptpInst i)).ptp (renewBody_isEmpty s.dev i)
    (Device.ptpInst_setPtpInst_self s.dev i (s.dev.ptpInst i)) hbook
  refine completes_of_finish (congrArg (finish s) ends) ⟨booked.settle, ?_, keeps_settle kept⟩
  rw [Device.ptpInst_congr (settle_ptp _)]
  exact seq

/-! ### Management (R176) -/

/-- The only waiting message is taken if it meets the test. -/
theorem takeIntake_of_single {d : Device} {m : PtpMsg} {p : PtpMsg → Bool} (h : d.ptp.intake = [m]) (hp : p m = true) :
    takeIntake d p = some (m, { d with ptp := { d.ptp with intake := [] } }) := by
  simp [takeIntake, h, hp]

/-- The answer to a GET: the message's header and target, and a TLV with the data. -/
def getAnswer (d : Device) (i port : Nat) (m : PtpMsg) (data : Bytes) : Bytes :=
  let tlv := beBytes 2 1 ++ beBytes 2 (2 + data.length) ++ beBytes 2 (beAt m.msg 52 2) ++ data
  let body := slice m.msg 20 10 ++ zeros 2 ++ beBytes 1 2 ++ zeros 1 ++ tlv
  ptpHdr d i port 13 (34 + body.length) (flagOctets true 0) 0 (msgSeq m.msg) 127 ++ body

theorem xPtpManagement_of_get {d : Device} {m : PtpMsg} {data : Bytes} (h : d.ptp.intake = [m]) (htype : msgType m.msg = 13)
    (hup : d.up (.ptp m.inst) = true) (hget : byteAt m.msg 46 % 16 = 0) (hdata : mgmtData d m.inst m.port (beAt m.msg 52 2) = some data) :
    xPtpManagement d = (ptpSend { d with ptp := { d.ptp with intake := [] } } m.inst m.port m.vlan (some (m.mac, m.src)) false false none secU
      fun _ => getAnswer d m.inst m.port m data).2 := by
  have taken := takeIntake_of_single (p := fun m => msgType m.msg == 13) h (by simp [htype])
  have up : ({ d with ptp := { d.ptp with intake := [] } } : Device).up (.ptp m.inst) = true := hup
  have found : mgmtData { d with ptp := { d.ptp with intake := [] } } m.inst m.port (beAt m.msg 52 2) = some data := hdata
  simp only [xPtpManagement, taken, up, hget, found]
  rfl

/-- R176: a GET is answered with its data. -/
theorem ptpManagement_books (s : State) (i port ord : Nat) (t : Inst) (hup : s.dev.up (.ptp i) = true)
    (m : PtpMsg) (data : Bytes) (h : s.dev.ptp.intake = [m]) (hinst : m.inst = i) (hport : m.port = port) (htype : msgType m.msg = 13)
    (hget : byteAt m.msg 46 % 16 = 0) (hdata : mgmtData s.dev i port (beAt m.msg 52 2) = some data) :
    let f := ptpFrame s.dev i port m.vlan (some (m.mac, m.src)) false false (getAnswer s.dev i port m data)
    Bookable s.dev port s.dev.now (s.dev.now + secU) (f.length + 4) (gateClass s.dev port (ptpTci s.dev i m.vlan)) ord t →
    Completes .ptpManagement s fun d => Booked s.dev d port t f ∧ d.ptp.intake = [] ∧
      Keeps [.ptp, .peel, .sched, .mon] [R.TROUGH_STATUS] s.dev d := by
  subst hinst hport
  intro f hbook
  obtain ⟨e, sent, booked, ptp, kept⟩ := ptpSend_setPtp_of_bookable { s.dev.ptp with intake := [] } none
    (mk := fun _ => getAnswer s.dev m.inst m.port m data) (fun _ => rfl) hbook
  have ends := (xPtpManagement_of_get h htype hup hget hdata).trans (congrArg Prod.snd sent)
  refine completes_of_finish (congrArg (finish s) ends) ⟨booked.settle, ?_, keeps_settle kept⟩
  rw [settle_ptp, ptp]

theorem hostWrite_of_reach {s : State} {o : Nat} (f : Device → Device) (h : Reach s o) : hostWrite o f s.dev = f s.dev := by
  rw [hostWrite, show blockOff s.dev o = false from h]
  rfl

theorem ptpCfg_not_settle {i : Nat} (hi : i < 8) : R.CLS_PTP_CFG i ∉ settleRegs :=
  not_settleReg_of_ptp (by unfold R.CLS_PTP_CFG; omega) (by unfold R.CLS_PTP_CFG; omega)

theorem ptpRates_not_settle {i : Nat} (hi : i < 8) : R.CLS_PTP_RATES i ∉ settleRegs :=
  not_settleReg_of_ptp (by unfold R.CLS_PTP_RATES; omega) (by unfold R.CLS_PTP_RATES; omega)

theorem ptpStatus_not_settle {i : Nat} (hi : i < 8) : R.CLS_PTP_STATUS i ∉ settleRegs :=
  not_settleReg_of_ptp (by unfold R.CLS_PTP_STATUS; omega) (by unfold R.CLS_PTP_STATUS; omega)

/-! ### Enabling (R179) -/

theorem xPtpInstanceEnable_of_ok {d : Device} {i : Nat} (hi : i < 8) (hoff : d.fb (UnitId.ptp i).en = false) (hcheck : ptpCheck d i = 0) :
    ∃ x, xPtpInstanceEnable i d = ((d.set1 (UnitId.ptp i).en).clr (UnitId.ptp i).drained).setPtpInst i x := by
  have guard : ¬ (8 ≤ i ∨ d.fb (UnitId.ptp i).en = true) := by
    simp [hoff]
    omega
  rw [xPtpInstanceEnable, if_neg guard]
  simp only [hcheck, ne_eq, not_true_eq_false, if_false]
  exact ⟨_, rfl⟩

theorem xPtpInstanceEnable_of_bad {d : Device} {i : Nat} (hi : i < 8) (hoff : d.fb (UnitId.ptp i).en = false) (hcheck : ptpCheck d i ≠ 0) :
    xPtpInstanceEnable i d = d.fs (F.CLS_PTP_STATUS_err i) (ptpCheck d i) := by
  have guard : ¬ (8 ≤ i ∨ d.fb (UnitId.ptp i).en = true) := by
    simp [hoff]
    omega
  rw [xPtpInstanceEnable, if_neg guard]
  exact if_pos hcheck

/-- An error code fits its field. -/
theorem ptpCheck_lt (d : Device) (i : Nat) : ptpCheck d i < 8 := by
  unfold ptpCheck
  dsimp only
  repeat' split
  all_goals decide

theorem ptpInstanceEnable_enables (s : State) (i : Nat) (hi : i < 8) (hon : Reach s (R.CLS_PTP_CFG i))
    (hoff : s.dev.fb (UnitId.ptp i).en = false) (hcheck : ptpCheck s.dev i = 0) :
    Completes (.ptpInstanceEnable i) s fun d =>
      d.fb (UnitId.ptp i).en = true ∧ d.fb (UnitId.ptp i).drained = false ∧ Keeps [.ptp] [R.CLS_PTP_CFG i] s.dev d := by
  obtain ⟨x, ends⟩ := xPtpInstanceEnable_of_ok hi hoff hcheck
  have flag (e : Device) (f : Fld) (hf : f.off = R.CLS_PTP_CFG i) : (settle (e.setPtpInst i x)).fb f = e.fb f := by
    rw [settle_fb _ _ (hf ▸ ptpCfg_not_settle hi), Device.fb_congr f (Device.rd_congr (Device.setPtpInst_regs ..) _)]
  refine completes_of_finish (congrArg (finish s) ((hostWrite_of_reach _ hon).trans ends)) ⟨?_, ?_, keeps_settle ?_⟩
  · rw [flag _ (UnitId.ptp i).en rfl]
    exact (Device.fb_fsb_disj _ (UnitId.ptp i).drained (UnitId.ptp i).en false rfl (by simp [UnitId.drained])
      (by simp [UnitId.drained, UnitId.en])).trans (Device.fb_fsb s.dev (UnitId.ptp i).en true (by simp [UnitId.en]) (by simp [UnitId.en]))
  · rw [flag _ (UnitId.ptp i).drained rfl]
    exact Device.fb_fsb _ (UnitId.ptp i).drained false (by simp [UnitId.drained]) (by simp [UnitId.drained])
  · have here : R.CLS_PTP_CFG i ∈ [R.CLS_PTP_CFG i] := List.mem_singleton.2 rfl
    exact keeps_trans (keeps_mono (keeps_trans (keeps_fs s.dev 1 here) (keeps_fs _ 0 here)) (by simp) (by simp))
      (keeps_mono (keeps_setPtpInst ..) (by simp) (by simp))

theorem ptpInstanceEnable_refuses (s : State) (i : Nat) (hi : i < 8) (hon : Reach s (R.CLS_PTP_CFG i))
    (hoff : s.dev.fb (UnitId.ptp i).en = false) (hcheck : ptpCheck s.dev i ≠ 0) :
    Completes (.ptpInstanceEnable i) s fun d =>
      d.fg (F.CLS_PTP_STATUS_err i) = ptpCheck s.dev i ∧ d.fb (UnitId.ptp i).en = false ∧ Keeps [] [R.CLS_PTP_STATUS i] s.dev d := by
  have ends := xPtpInstanceEnable_of_bad hi hoff hcheck
  refine completes_of_finish (congrArg (finish s) ((hostWrite_of_reach _ hon).trans ends)) ⟨?_, ?_, keeps_settle ?_⟩
  · rw [settle_fg _ _ (ptpStatus_not_settle hi), Device.fg_fs _ _ _ (by simp)]
    exact Nat.mod_eq_of_lt (ptpCheck_lt ..)
  · have other : (UnitId.ptp i).en.off ≠ (F.CLS_PTP_STATUS_err i).off := by
      show R.CLS_PTP_CFG i ≠ R.CLS_PTP_STATUS i
      unfold R.CLS_PTP_CFG R.CLS_PTP_STATUS
      omega
    rw [settle_fb _ _ (ptpCfg_not_settle hi), Device.fb, Device.fg_fs_off _ _ _ _ other]
    exact hoff
  · exact keeps_fs _ _ (List.mem_singleton.2 rfl)

/-! ### Profiles (R196) -/

/-- The word of CLS_PTPi_RATES at a profile's defaults. -/
def profWord (p : Nat) : Nat :=
  unsigned 8 (profRates p).1 + unsigned 8 (profRates p).2.1 * 256 + unsigned 8 (profRates p).2.2.1 * 65536 +
    (profRates p).2.2.2 * 16777216

/-- The word holds the rates. -/
theorem profWord_fields : ∀ p, p < 8 → signed 8 (bits (BitVec.ofNat 32 (profWord p)).toNat 0 8) = (profRates p).1 ∧
    signed 8 (bits (BitVec.ofNat 32 (profWord p)).toNat 8 8) = (profRates p).2.1 ∧
    signed 8 (bits (BitVec.ofNat 32 (profWord p)).toNat 16 8) = (profRates p).2.2.1 ∧
    bits (BitVec.ofNat 32 (profWord p)).toNat 24 8 = (profRates p).2.2.2 := by decide

theorem xPtpProfileWrite_of_disabled {d : Device} {i p : Nat} (hi : i < 8) (hp : p < 8) (hoff : d.fb (UnitId.ptp i).en = false) :
    xPtpProfileWrite i p d = (d.fs (F.CLS_PTP_CFG_profile i) p).wn (R.CLS_PTP_RATES i) (profWord p) := by
  have guard : ¬ (8 ≤ i ∨ d.fb (UnitId.ptp i).en = true) := by
    simp [hoff]
    omega
  rw [xPtpProfileWrite, if_neg guard, Nat.mod_eq_of_lt hp]
  rfl

theorem ptpProfileWrite_defaults (s : State) (i : Nat) (hi : i < 8) (hon : Reach s (R.CLS_PTP_CFG i))
    (hoff : s.dev.fb (UnitId.ptp i).en = false) (p : Nat) (hp : p < 8) :
    Completes (.ptpProfileWrite i p) s fun d =>
      let (sy, an, rq, tmo) := profRates p
      d.fg (F.CLS_PTP_CFG_profile i) = p ∧ signed 8 (d.fg (F.CLS_PTP_RATES_sync i)) = sy ∧
      signed 8 (d.fg (F.CLS_PTP_RATES_ann i)) = an ∧ signed 8 (d.fg (F.CLS_PTP_RATES_dreq i)) = rq ∧
      d.fg (F.CLS_PTP_RATES_timeout i) = tmo ∧ Keeps [] [R.CLS_PTP_CFG i, R.CLS_PTP_RATES i] s.dev d := by
  have ends := xPtpProfileWrite_of_disabled hi hp hoff
  obtain ⟨sync, ann, dreq, timeout⟩ := profWord_fields p hp
  have rate (f : Fld) (hf : f.off = R.CLS_PTP_RATES i) :
      (settle ((s.dev.fs (F.CLS_PTP_CFG_profile i) p).wn (R.CLS_PTP_RATES i) (profWord p))).fg f =
        bits (BitVec.ofNat 32 (profWord p)).toNat f.lo f.len := by
    rw [settle_fg _ _ (hf ▸ ptpRates_not_settle hi), Device.wn, Device.fg_wr, if_pos hf]
  have other : (F.CLS_PTP_CFG_profile i).off ≠ R.CLS_PTP_RATES i := by
    show R.CLS_PTP_CFG i ≠ R.CLS_PTP_RATES i
    unfold R.CLS_PTP_CFG R.CLS_PTP_RATES
    omega
  refine completes_of_finish (congrArg (finish s) ((hostWrite_of_reach _ hon).trans ends)) ⟨?_, ?_, ?_, ?_, ?_, keeps_settle ?_⟩
  · rw [settle_fg _ _ (ptpCfg_not_settle hi), Device.wn, Device.fg_wr, if_neg other, Device.fg_fs _ _ _ (by simp)]
    exact Nat.mod_eq_of_lt hp
  · rw [rate (F.CLS_PTP_RATES_sync i) rfl]
    exact sync
  · rw [rate (F.CLS_PTP_RATES_ann i) rfl]
    exact ann
  · rw [rate (F.CLS_PTP_RATES_dreq i) rfl]
    exact dreq
  · rw [rate (F.CLS_PTP_RATES_timeout i) rfl]
    exact timeout
  · exact keeps_trans (keeps_fs _ _ (List.mem_cons_self ..)) (keeps_wr _ _ (by simp))

/-! ### Admission of an item (R65, R66, R108, R109) -/

theorem keeps_cls (d : Device) (c : Cls) : Keeps [.cls] [] d { d with cls := c } :=
  ⟨fun q hq => by cases q <;> simp_all [Part.same, Device.outOf], fun _ _ _ => rfl⟩

theorem keeps_setSlc (d : Device) (n : Nat) (x : Slice) : Keeps [.slices] [] d (d.setSlc n x) :=
  ⟨fun q hq => by cases q <;> simp_all [Part.same, Device.outOf, Device.setSlc], fun _ _ _ => rfl⟩

theorem Device.slcOf_setSlc (d : Device) (n j : Nat) (x : Slice) : (d.setSlc n x).slcOf j = if j = n then x else d.slcOf j := amGet_amSet ..

theorem Device.slcOf_congr {a b : Device} (h : a.slices = b.slices) (n : Nat) : a.slcOf n = b.slcOf n := by
  unfold Device.slcOf
  rw [h]

/-- Which slices take work depends on the registers and the stops in progress. -/
theorem activeSlices_congr {a b : Device} (hregs : a.regs = b.regs) (hstop : a.stopping = b.stopping) :
    activeSlices a = activeSlices b := by
  have rd (o : Nat) : a.rd o = b.rd o := Device.rd_congr hregs o
  have active : slcActive a = slcActive b := by
    funext n
    simp only [slcActive, slcPowered, Device.powered, Device.up, Device.stopOf, Device.fb, Device.fg, rd, hstop]
  rw [activeSlices, activeSlices, active]

theorem homeSlice_congr {a b : Device} (hregs : a.regs = b.regs) (hstop : a.stopping = b.stopping) (x : Nat) :
    homeSlice a x = homeSlice b x := by
  simp only [homeSlice, activeSlices_congr hregs hstop, Device.rd_congr hregs]

/-- Where an item fits depends on the queues too. -/
theorem placeIn_congr {a b : Device} (hregs : a.regs = b.regs) (hstop : a.stopping = b.stopping) (hslices : a.slices = b.slices)
    (h c : Nat) : placeIn a h c = placeIn b h c := by
  have depth : slcDepth a = slcDepth b := by
    funext n
    rw [slcDepth, slcDepth, Device.slcOf_congr hslices]
  have limit : a.rn = b.rn := by
    funext o
    rw [Device.rn, Device.rn, Device.rd_congr hregs]
  rw [placeIn, activeSlices_congr hregs hstop, depth, limit]
  rfl

/-- The block that has offered and admitted an item to its meter. -/
def metered (d : Device) (it : Item) : Device :=
  ({ d with cls := { d.cls with meter := { d.cls.meter with offered := addAt d.cls.meter.offered it.cls it.cost,
                                                            admitted := addAt d.cls.meter.admitted it.cls it.cost } } } : Device).cnt
    (K.CLS_C_OFFERED it.cls)

/-- An item of a class without a quota is admitted. -/
theorem admitItem_of_unlimited {d : Device} {it : Item} (hquota : d.cls.meter.quota.getD it.cls none = none) :
    admitItem d it = place (metered d it) it := by
  have quota (e : Device) (he : e.cls.meter.quota = d.cls.meter.quota) : quotaOk e it.cls it.cost = true := by
    simp only [quotaOk, he, hquota]
  rw [admitItem]
  exact if_pos (quota _ rfl)

/-- An item that fits without spilling is counted and put at the tail of the queue. -/
theorem place_of_fits {d : Device} {it : Item} {h k : Nat} (hhome : homeSlice d it.src.toNat = some h)
    (hplace : placeIn d h it.cost = some (k, false)) : place d it = enqueue (d.cnt (K.CLS_C_ADMITTED it.cls)) k it := by
  simp only [place, hhome, hplace]
  rfl

theorem slcOf_enqueue (d : Device) (k j : Nat) (it : Item) : (enqueue d k it).slcOf j =
    if j = k then { d.slcOf k with queue := (d.slcOf k).queue ++ [it], peak := max (d.slcOf k).peak (slcDepth d k + it.cost) }
    else d.slcOf j := Device.slcOf_setSlc ..

theorem keeps_metered (d : Device) (it : Item) : Keeps [.cls, .cnts] [] d (metered d it) :=
  keeps_trans (keeps_mono (keeps_cls ..) (by simp) (by simp)) (keeps_mono (keeps_cnt ..) (by simp) (by simp))

/-! ### Syncs (R183) -/

/-- An instance whose last Sync on a port is that of a nominal instant. -/
def PtpInst.synced (x : PtpInst) (port : Nat) (t : Inst) : PtpInst :=
  { x with lastSync := amIns (amDel x.lastSync port) port t }

/-- The Sync emitter's item of a SERVER port. -/
def syncItem (d : Device) (i port : Nat) (t : Inst) : Item :=
  { work := .sync i port none t, cls := 0, cost := 6, port, stamp := d.now, bytes := [],
    saIdx := if ptpTransport d i = 0 then 256 else d.fg (F.CLS_PTP_SA_sa i), sa := saOf d (d.fg (F.CLS_PTP_SA_sa i)),
    vlan := ptpVlan d i, src := BitVec.ofNat 128 (ptpSteer d i port none), prof := 0, pref := false }

/-- The nominal instant an instance's multicast emitter has come to. -/
abbrev syncNominal (d : Device) (i : Nat) : Inst :=
  nominalAt d (logDur (rateLog d (F.CLS_PTP_RATES_sync i)))
    (d.rn (R.CLS_PTP_PHASE i) * nsU % logDur (rateLog d (F.CLS_PTP_RATES_sync i)))

theorem xSyncEmit_of_nominal {d : Device} {i port : Nat} (hi : i < 8) (hup : d.up (.ptp i) = true) (hsilent : ptpSilent d = false)
    (hok : d.dtInvalid = false) (hserver : ptpServer d i port = true) (huni : ptpUnicast d i = false)
    (hnew : amGet 0 (d.ptpInst i).lastSync port < syncNominal d i) (hahead : d.now ≤ syncNominal d i) :
    xSyncEmit i port none d = admitItem (d.setPtpInst i ((d.ptpInst i).synced port (syncNominal d i))) (syncItem d i port (syncNominal d i)) := by
  have guard : ¬ (8 ≤ i ∨ ¬ d.up (.ptp i) ∨ ptpSilent d ∨ d.dtInvalid) := by
    simp [hup, hsilent, hok]
    omega
  have due : ptpServer d i port ∧ ¬ ptpUnicast d i ∧ amGet 0 (d.ptpInst i).lastSync port < syncNominal d i ∧ d.now ≤ syncNominal d i := by
    simp [hserver, huni, hnew, hahead]
  rw [xSyncEmit, if_neg guard]
  exact if_pos due

/-- R183: at its lead before a nominal instant a Sync's item is put into the queue of its slice. -/
theorem syncEmit_queues (s : State) (i port h k : Nat) (hi : i < 8) (hup : s.dev.up (.ptp i) = true) (hsilent : ptpSilent s.dev = false)
    (hok : TimeOk s) (hserver : ptpServer s.dev i port = true) (huni : ptpUnicast s.dev i = false) :
    let t := syncNominal s.dev i
    amGet 0 (s.dev.ptpInst i).lastSync port < t → s.dev.now ≤ t → s.dev.cls.meter.quota.getD 0 none = none →
    homeSlice s.dev (BitVec.ofNat 128 (ptpSteer s.dev i port none)).toNat = some h → placeIn s.dev h 6 = some (k, false) →
    Completes (.syncEmit i port none) s fun d =>
      (∃ it : Item, (d.slcOf k).queue = (s.dev.slcOf k).queue ++ [it] ∧ it.work = .sync i port none t ∧ it.cost = 6 ∧ it.port = port) ∧
      (∀ j, j ≠ k → d.slcOf j = s.dev.slcOf j) ∧ amGet 0 (d.ptpInst i).lastSync port = t ∧
      d.cntOf (K.CLS_C_ADMITTED 0) = (s.dev.cntOf (K.CLS_C_ADMITTED 0) + 1) % 2 ^ 48 ∧
      Keeps [.ptp, .cls, .cnts, .slices] [] s.dev d := by
  intro t hnew hahead hquota hhome hplace
  generalize hit : syncItem s.dev i port t = it
  have hcls : it.cls = 0 := by rw [← hit]; rfl
  generalize hm : metered (s.dev.setPtpInst i ((s.dev.ptpInst i).synced port t)) it = m
  have kept : Keeps [.ptp, .cls, .cnts] [] s.dev m := by
    rw [← hm]
    exact keeps_trans (keeps_mono (keeps_setPtpInst ..) (by simp) (by simp)) (keeps_mono (keeps_metered ..) (by simp) (by simp))
  have regs : m.regs = s.dev.regs := by rw [← hm]; rfl
  have slices : m.slices = s.dev.slices := (kept.1 .slices (by decide)).symm
  have stop : m.stopping = s.dev.stopping := (kept.1 .stopping (by decide)).symm
  have placed : place m it = enqueue (m.cnt (K.CLS_C_ADMITTED 0)) k it := by
    rw [← hcls]
    refine place_of_fits (h := h) ?_ ?_
    · rw [homeSlice_congr regs stop, ← hit]
      exact hhome
    · rw [placeIn_congr regs stop slices, ← hit]
      exact hplace
  have queues (j : Nat) : (m.cnt (K.CLS_C_ADMITTED 0)).slcOf j = s.dev.slcOf j :=
    Device.slcOf_congr (a := m.cnt (K.CLS_C_ADMITTED 0)) slices j
  have ends : xSyncEmit i port none s.dev = enqueue (m.cnt (K.CLS_C_ADMITTED 0)) k it := by
    rw [xSyncEmit_of_nominal hi hup hsilent hok hserver huni hnew hahead, hit, admitItem_of_unlimited (by rw [hcls]; exact hquota), hm, placed]
  refine completes_of_finish (congrArg (finish s) ends) ⟨⟨it, ?_, ?_⟩, fun j hj => ?_, ?_, ?_, keeps_settle ?_⟩
  · rw [Device.slcOf_congr (settle_slices _), slcOf_enqueue, if_pos rfl]
    simp only [queues]
  · rw [← hit]
    exact ⟨rfl, rfl, rfl⟩
  · rw [Device.slcOf_congr (settle_slices _), slcOf_enqueue, if_neg hj, queues]
  · have inst : (enqueue (m.cnt (K.CLS_C_ADMITTED 0)) k it).ptp = (s.dev.setPtpInst i ((s.dev.ptpInst i).synced port t)).ptp := by
      rw [← hm]
      rfl
    rw [Device.ptpInst_congr (settle_ptp _), Device.ptpInst_of_ptp_eq inst, PtpInst.synced, amGet_amIns, if_pos rfl]
  · have other : m.cntOf (K.CLS_C_ADMITTED 0) = s.dev.cntOf (K.CLS_C_ADMITTED 0) := by
      rw [← hm, metered, hcls, counted_cnt _ _ _, if_neg (by decide)]
      rfl
    rw [settle_cntOf, ← other]
    exact (counted_cnt m _ _).trans (if_pos rfl)
  · exact keeps_trans (keeps_mono kept (by simp) (by simp)) (keeps_trans (keeps_mono (keeps_cnt ..) (by simp) (by simp))
      (keeps_mono (keeps_setSlc ..) (by simp) (by simp)))

/-- Settles O19: the enable and the profile's rates, the Sync's item in its slice, and the four messages, each built for the launch point
the Peel gives and committed in time. -/
theorem ptpServes_holds : Obligations.PtpServes := by
  unfold Obligations.PtpServes
  refine ⟨fun s i hi hon hoff => ⟨?_, ?_, ?_⟩, syncEmit_queues, fun s i port ord t hi hup hok => ⟨?_, ?_, ?_, ?_⟩⟩
  · exact ptpInstanceEnable_enables s i hi hon hoff
  · exact ptpInstanceEnable_refuses s i hi hon hoff
  · exact ptpProfileWrite_defaults s i hi hon hoff
  · exact ptpAnnounceSend_books s i port ord t hi hup hok
  · exact ptpRequestSend_books s i port ord t hi hup hok
  · exact ptpUnicastRenew_books s i port ord t hi hup hok
  · exact ptpManagement_books s i port ord t hup

end Sys2Proof.Machine
end

section
/-! SUPPORT. A cancel of a grant (R187) while the Peel's next handle is still that of a booking: handles are drawn from a counter that wraps
(log entry 6), so the acknowledgement is booked under the handle of another frame, the commit finds that frame, and it is the one missed. -/

namespace Sys2Proof.Machine

/-- A Signaling message of one TLV, which cancels the Syncs. -/
def cancelSyncs : PtpMsg :=
  { inst := 0, port := 0, stamp := 0, vlan := 0, src := 0, mac := 0, msg := beBytes 1 12 ++ zeros 43 ++ beBytes 2 6 ++ beBytes 2 0 }

/-- The sender's entry: Syncs alone. -/
def syncGrant : Grant := { emptyGrant cancelSyncs with granted := 2 }

/-- A committed frame of port 4 that leaves in this tick. -/
def leaving : Booking :=
  { handle := 1, port := 4, due := 0, len := 64, gcls := 0, mayRp := false, again := false, frame := some (zeros 60),
    owner := .engine none, resp := none, pt := 0, guardC := 300, level := 0, tick := 0, pinned := true }

/-- Port 0 with its link up and its egress calibrated, the message waiting, and the next handle that of the booking on port 4. -/
def handleReused : Device :=
  let d := ((((Device.init.clr F.TB_STATUS_dt_invalid).set1 (UnitId.port 0).en).set1 UnitId.peel.en).set1 (F.PORT_STATUS_link_up 0)).fs
    (F.PEEL_P_STATUS_cal 0) 2
  { d with ptp := { d.ptp with intake := [cancelSyncs], grants := [(0, syncGrant)] }, peel := { d.peel with bookings := [leaving] } }

/-- The registers of the guard times are lawful (R118), and the handle that is next is in use. -/
theorem handleReused_guards : handleReused.fg F.PEEL_GUARD_g_commit < handleReused.fg F.PEEL_GUARD_g_lead ∧
    findBooking handleReused handleReused.sched.nextHandle = some leaving := by decide +kernel

/-- The acknowledgement of the cancel costs the frame on port 4 its slot, which is counted. -/
theorem cancel_counts_miss : (xPtpCancelUnicast handleReused).cntOf (K.PEEL_DROP_MISS 4) = 1 := by decide +kernel

/-- Where the cancel ends, whatever the state. -/
theorem ptpCancelUnicast_dev {s t : State} (run : exec .ptpCancelUnicast s = .next t) : t.dev = settle (xPtpCancelUnicast s.dev) := by
  cases run
  rfl

/-- Refutes O20: a cancel's frame statement leaves the event counters out, but its acknowledgement is booked and committed, and where the
next handle is in use the commit makes another booking miss its slot, which PEEL_DROP_MISS counts. -/
theorem not_ptpPeers : ¬ Obligations.PtpPeers := by
  unfold Obligations.PtpPeers
  rintro ⟨⟨-, cancels, -⟩, -⟩
  obtain ⟨t, run, -, -, -, kept⟩ := (cancels ⟨[], handleReused⟩ cancelSyncs [] 0 1 syncGrant rfl (by decide) (by decide +kernel) rfl
    (by decide) rfl).1 (by decide)
  have same : t.dev.cntOf (K.PEEL_DROP_MISS 4) = handleReused.cntOf (K.PEEL_DROP_MISS 4) :=
    congrArg (amGet 0 · (K.PEEL_DROP_MISS 4)) (kept.1 .cnts (by decide)).symm
  rw [ptpCancelUnicast_dev run, settle_cntOf, cancel_counts_miss] at same
  exact absurd same (by decide)

end Sys2Proof.Machine
end

section
/-! SUPPORT. The count of the partner's entries into LPI (R214, R218): what PARTNER_LPI_CHANGE leaves in RX_LPI, and where that is the count
modulo 2^40. -/

namespace Sys2Proof.Machine

/-- R214: an addition to a counter the port has. -/
theorem statOf_statAdd_self (d : Device) {n k : Nat} (v : Nat) (hk : ¬ (n = 16 ∧ (k = 23 ∨ k = 24 ∨ k = 40))) :
    statOf (statAdd d n k v) n k = (statOf d n k + v) % 2 ^ 40 := by
  have put : amGet 0 (amSet 0 d.stats (64 * n + k) ((amGet 0 d.stats (64 * n + k) + v) % 2 ^ 40)) (64 * n + k) =
      (amGet 0 d.stats (64 * n + k) + v) % 2 ^ 40 := by
    rw [amGet_amSet, if_pos rfl]
  unfold statAdd statOf
  rw [if_neg hk]
  dsimp only
  split <;> exact put

/-- R218: the partner's entry into LPI is counted, and nothing else is: then the counter is not written. -/
theorem statOf_xPartnerLpiChange {d : Device} {n : Nat} (asleep : Bool) (hn : n < 17) (hup : linkIsUp d n = true) :
    statOf (xPartnerLpiChange n asleep d) n P.RX_LPI =
      if asleep && !d.fb (F.PORT_STATUS_rx_lpi n) then (statOf d n P.RX_LPI + 1) % 2 ^ 40 else statOf d n P.RX_LPI := by
  rw [xPartnerLpiChange, if_pos ⟨Nat.le_of_lt_succ hn, hup⟩]
  dsimp only
  split
  · exact statOf_statAdd_self _ 1 fun h => absurd h.2 (by decide)
  · rfl

/-- The counter is its old value and what was counted, modulo 2^40, exactly if something was counted or it was within its 40 bits. -/
theorem statOf_xPartnerLpiChange_eq_mod_iff {d : Device} {n : Nat} (asleep : Bool) (hn : n < 17) (hup : linkIsUp d n = true) :
    statOf (xPartnerLpiChange n asleep d) n P.RX_LPI =
        (statOf d n P.RX_LPI + if asleep && !d.fb (F.PORT_STATUS_rx_lpi n) then 1 else 0) % 2 ^ 40 ↔
      (asleep && !d.fb (F.PORT_STATUS_rx_lpi n)) = true ∨ statOf d n P.RX_LPI < 2 ^ 40 := by
  rw [statOf_xPartnerLpiChange asleep hn hup]
  cases asleep && !d.fb (F.PORT_STATUS_rx_lpi n)
  case true => exact iff_of_true rfl (.inl rfl)
  case false =>
    simp only [Bool.false_eq_true, if_false, false_or, Nat.add_zero]
    exact ⟨fun h => h ▸ Nat.mod_lt _ (by decide), fun h => (Nat.mod_eq_of_lt h).symm⟩

/-- Where the command ends, whatever the state. -/
theorem partnerLpiChange_dev {s t : State} {n : Nat} {asleep : Bool} (run : exec (.partnerLpiChange n asleep) s = .next t) :
    t.dev = settle (xPartnerLpiChange n asleep s.dev) := by
  cases run
  rfl

/-- Port 0 with its link up and RX_LPI one past the largest count of 40 bits. -/
def lpiCountPast40Bits : Device := { Device.init.set1 (F.PORT_STATUS_link_up 0) with stats := [(64 * 0 + P.RX_LPI, 2 ^ 40)] }

/-- Refutes O12: its statement takes every list of counts, and asks for RX_LPI modulo 2^40 also where PARTNER_LPI_CHANGE counts nothing.
A partner that wakes leaves the counter as it is, here 2^40, where the statement has 0.  No count that `statAdd` writes is that large. -/
theorem not_portSettings : ¬ Obligations.PortSettings := by
  unfold Obligations.PortSettings
  rintro ⟨-, ⟨-, -, -, partner, -⟩, -⟩
  have hup : linkIsUp lpiCountPast40Bits 0 = true := by decide +kernel
  obtain ⟨t, run, -, -, count, -⟩ := partner ⟨[], lpiCountPast40Bits⟩ 0 false (by decide) hup
  have stats : statOf t.dev 0 P.RX_LPI = statOf (xPartnerLpiChange 0 false lpiCountPast40Bits) 0 P.RX_LPI := by
    rw [partnerLpiChange_dev run, statOf, settle_stats]
    rfl
  have inRange := (statOf_xPartnerLpiChange_eq_mod_iff false (by decide) hup).1 (stats.symm.trans count)
  exact absurd inRange (by decide)

end Sys2Proof.Machine
end

section
/-! SUPPORT. Reference slots (R226 to R228, R235): their table, their registers, and what a change of state leaves. -/

namespace Sys2Proof.Machine

/-! ### The table of slots -/

theorem keeps_refs (d : Device) (r : Refs) : Keeps [.refs] [] d { d with refs := r } :=
  ⟨fun q hq => by cases q <;> simp_all [Part.same, Device.outOf], fun _ _ _ => rfl⟩

theorem keeps_setSlot (d : Device) (n : Nat) (x : RefSlot) : Keeps [.refs] [] d (d.setSlot n x) := keeps_refs d _

theorem Device.slot_setSlot (d : Device) (n m : Nat) (x : RefSlot) : (d.setSlot n x).slot m = if m = n then x else d.slot m := amGet_amSet ..

@[simp] theorem Device.slot_setSlot_self (d : Device) (n : Nat) (x : RefSlot) : (d.setSlot n x).slot n = x := by
  rw [Device.slot_setSlot, if_pos rfl]

theorem Device.slot_setSlot_ne (d : Device) {n m : Nat} (x : RefSlot) (h : m ≠ n) : (d.setSlot n x).slot m = d.slot m := by
  rw [Device.slot_setSlot, if_neg h]

theorem Device.slot_congr {a b : Device} (h : a.refs.slots = b.refs.slots) (n : Nat) : a.slot n = b.slot n := by
  unfold Device.slot
  rw [h]

@[simp] theorem Device.slot_fs (d : Device) (f : Fld) (v n : Nat) : (d.fs f v).slot n = d.slot n := Device.slot_congr rfl n

@[simp] theorem Device.slot_set1 (d : Device) (f : Fld) (n : Nat) : (d.set1 f).slot n = d.slot n := Device.slot_congr rfl n

@[simp] theorem Device.slot_clr (d : Device) (f : Fld) (n : Nat) : (d.clr f).slot n = d.slot n := Device.slot_congr rfl n

@[simp] theorem Device.slot_fsb (d : Device) (f : Fld) (b : Bool) (n : Nat) : (d.fsb f b).slot n = d.slot n := Device.slot_congr rfl n

@[simp] theorem Device.slot_cnt (d : Device) (i n : Nat) : (d.cnt i).slot n = d.slot n := Device.slot_congr rfl n

@[simp] theorem Device.slot_ledger (d : Device) (c x a b n : Nat) : (d.ledger c x a b).slot n = d.slot n :=
  Device.slot_congr (by rw [Device.ledger_refs]) n

@[simp] theorem settle_slot (d : Device) (n : Nat) : (settle d).slot n = d.slot n := Device.slot_congr (by rw [settle_refs]) n

/-! ### Registers -/

/-- The registers of the timebase and of the slots do not follow the rest of the block. -/
theorem not_settleReg_of_refs {o : Nat} (hlo : 0x8000 ≤ o) (hhi : o < 0xa000) : o ∉ settleRegs := by
  have outside : ∀ x ∈ settleRegs, x < 0x8000 ∨ 0xa000 ≤ x := by decide
  intro h
  have := outside o h
  omega

/-- No register of a slot that exists does. -/
theorem not_settleReg_of_slot {n o : Nat} (hn : n < 32) (hlo : 0x9000 + 0x80 * n ≤ o) (hhi : o < 0x9080 + 0x80 * n) : o ∉ settleRegs :=
  not_settleReg_of_refs (by omega) (by omega)

theorem refCfg_not_settle {n : Nat} (hn : n < 32) : R.REF_CFG n ∉ settleRegs :=
  not_settleReg_of_slot hn (by simp) (by simp)

theorem refStatus_not_settle {n : Nat} (hn : n < 32) : R.REF_STATUS n ∉ settleRegs :=
  not_settleReg_of_slot hn (by simp) (by simp)

theorem settle_refEn (d : Device) {n : Nat} (hn : n < 32) : refEn (settle d) n = refEn d n := settle_fb _ _ (refCfg_not_settle hn)

theorem settle_refState (d : Device) {n : Nat} (hn : n < 32) : refState (settle d) n = refState d n :=
  settle_fg _ _ (refStatus_not_settle hn)

/-- A flag after it was cleared. -/
theorem Device.fb_clr (d : Device) (f : Fld) (h : f.lo + f.len ≤ 32) : (d.clr f).fb f = false := by
  rw [Device.clr, Device.fb, Device.fg_fs _ _ _ h, Nat.zero_mod]
  rfl

@[simp] theorem Device.fg_setSlot (d : Device) (n : Nat) (x : RefSlot) (f : Fld) : (d.setSlot n x).fg f = d.fg f :=
  Device.fg_congr f (Device.rd_congr rfl _)

/-! ### Frames of the updates a slot's commands are made of -/

/-- What a further update leaves that changes no more. -/
theorem Keeps.step {ps qs : List Part} {rs ts : List Nat} {a b c : Device} (h : Keeps ps rs a b) (h' : Keeps qs ts b c) (hps : qs ⊆ ps)
    (hrs : ts ⊆ rs) : Keeps ps rs a c := keeps_trans h (keeps_mono h' hps hrs)

/-- A field more that is written, of a register that may change. -/
theorem Keeps.fs {ps : List Part} {rs : List Nat} {a b : Device} (h : Keeps ps rs a b) (f : Fld) (v : Nat) (hf : f.off ∈ rs) :
    Keeps ps rs a (b.fs f v) := h.step (keeps_fs b v hf) (List.nil_subset _) (List.Subset.refl _)

theorem keeps_mon (d : Device) (m : Mon) : Keeps [.mon] [] d { d with mon := m } :=
  ⟨fun q hq => by cases q <;> simp_all [Part.same, Device.outOf], fun _ _ _ => rfl⟩

theorem keeps_stopping (d : Device) (l : List (Nat × Bool)) : Keeps [.stopping] [] d { d with stopping := l } :=
  ⟨fun q hq => by cases q <;> simp_all [Part.same, Device.outOf], fun _ _ _ => rfl⟩

theorem keeps_ledger (d : Device) (code src a b : Nat) : Keeps [.mon, .cnts] [] d (d.ledger code src a b) := by
  unfold Device.ledger
  dsimp only
  split
  · exact keeps_mono (keeps_mon ..) (by simp) (by simp)
  · exact keeps_trans (keeps_mono (keeps_mon d { d.mon with evLost := true }) (by simp) (by simp))
      (keeps_mono (keeps_cnt ..) (by simp) (by simp))

/-- A Ledger event counts nothing but the events lost (R505). -/
theorem cntOf_ledger (d : Device) (code src a b : Nat) {i : Nat} (h : i ≠ K.MON_LEDGER_EVLOST) :
    (d.ledger code src a b).cntOf i = d.cntOf i := by
  unfold Device.ledger
  split
  · rfl
  · exact (counted_cnt _ _ i).trans (if_neg h)

/-! ### Changes of state (R235) -/

/-- The words of a slot once its state is ABSENT or PROOFING. -/
def restWords (d : Device) (n st reason : Nat) : Device :=
  let d := ((d.fs (F.REF_STATUS_state n) st).fs (F.REF_STATUS_dq_reason n) reason).set1 (F.REF_EVT_state_chg n)
  (if st = 1 then d.fs (F.REF_PROOF_T_secs n) 0 else d).clr (F.REF_STATUS_drift n)

/-- A slot other than the SELECTED one goes to ABSENT or PROOFING: its words, its re-agreement, one count and one Ledger record. -/
theorem setState_of_rest {d : Device} {n st reason : Nat} (hst : st = 0 ∨ st = 1) (hleft : refState d n ≠ 3)
    (hnew : ¬ (refState d n = st ∧ d.fg (F.REF_STATUS_dq_reason n) = reason)) :
    setState d n st reason =
      (((restWords d n st reason).setSlot n { d.slot n with agree := 0, side := [] }).cnt (K.REF_STATE_CHG n)).ledger L.refState n
        (refState d n + 256 * d.fg (F.REF_STATUS_dq_reason n)) (st + 256 * reason) := by
  have left : ¬ (refState d n = 3 ∧ st ≠ 3) := fun h => hleft h.1
  rw [setState]
  dsimp only
  rw [if_neg hnew, if_neg hleft, if_neg left]
  rcases hst with rfl | rfl
  · simp only [restWords, Nat.reduceEqDiff, false_and, or_self, if_false, Device.slot_fs, Device.slot_set1, Device.slot_clr]
  · simp only [restWords, Nat.reduceEqDiff, false_and, or_self, if_false, if_true, Device.slot_fs, Device.slot_set1, Device.slot_clr]

theorem keeps_restWords (d : Device) {n st reason : Nat} {rs : List Nat} (hs : R.REF_STATUS n ∈ rs) (he : R.REF_EVT n ∈ rs)
    (hp : st = 1 → R.REF_PROOF_T n ∈ rs) : Keeps [] rs d (restWords d n st reason) := by
  unfold restWords
  have marked := (((keeps_refl [] rs d).fs (F.REF_STATUS_state n) st hs).fs (F.REF_STATUS_dq_reason n) reason hs).fs (F.REF_EVT_state_chg n) 1 he
  refine Keeps.fs ?_ (F.REF_STATUS_drift n) 0 hs
  split
  · next h => exact marked.fs (F.REF_PROOF_T_secs n) 0 (hp h)
  · exact marked

@[simp] theorem restWords_refs (d : Device) (n st reason : Nat) : (restWords d n st reason).refs = d.refs :=
  ((keeps_restWords (rs := [R.REF_STATUS n, R.REF_EVT n, R.REF_PROOF_T n]) d (by simp) (by simp) (by simp)).1 .refs (by simp)).symm

@[simp] theorem restWords_cnts (d : Device) (n st reason : Nat) : (restWords d n st reason).cnts = d.cnts :=
  ((keeps_restWords (rs := [R.REF_STATUS n, R.REF_EVT n, R.REF_PROOF_T n]) d (by simp) (by simp) (by simp)).1 .cnts (by simp)).symm

theorem keeps_setState_of_rest {d : Device} {n st reason : Nat} {rs : List Nat} (hst : st = 0 ∨ st = 1) (hleft : refState d n ≠ 3)
    (hs : R.REF_STATUS n ∈ rs) (he : R.REF_EVT n ∈ rs) (hp : st = 1 → R.REF_PROOF_T n ∈ rs) :
    Keeps [.refs, .cnts, .mon] rs d (setState d n st reason) := by
  by_cases hnew : refState d n = st ∧ d.fg (F.REF_STATUS_dq_reason n) = reason
  · rw [setState, if_pos hnew]
    exact keeps_refl ..
  · rw [setState_of_rest hst hleft hnew]
    have words := keeps_restWords d (reason := reason) hs he hp
    exact Keeps.step (Keeps.step (Keeps.step (keeps_mono words (by simp) (by simp)) (keeps_setSlot ..) (by simp) (by simp))
      (keeps_cnt ..) (by simp) (by simp)) (keeps_ledger ..) (by simp) (by simp)

/-- A field of a slot's words after a change of state is that of the words alone. -/
theorem fg_setState_of_rest {d : Device} {n st reason : Nat} (hst : st = 0 ∨ st = 1) (hleft : refState d n ≠ 3)
    (hnew : ¬ (refState d n = st ∧ d.fg (F.REF_STATUS_dq_reason n) = reason)) (f : Fld) :
    (setState d n st reason).fg f = (restWords d n st reason).fg f := by
  rw [setState_of_rest hst hleft hnew]
  exact Device.fg_congr f (Device.rd_congr (by simp) _)

/-- The state a slot comes to. -/
theorem refState_setState_of_rest {d : Device} {n st reason : Nat} (hst : st = 0 ∨ st = 1) (hleft : refState d n ≠ 3) :
    refState (setState d n st reason) n = st := by
  by_cases hnew : refState d n = st ∧ d.fg (F.REF_STATUS_dq_reason n) = reason
  · rw [setState, if_pos hnew]
    exact hnew.1
  · rw [refState, fg_setState_of_rest hst hleft hnew]
    rcases hst with rfl | rfl <;>
      simp (disch := simp) [restWords, Device.clr, Device.set1, Device.fg_fs, Device.fg_fs_off, Device.fg_fs_disj]

theorem slot_setState_of_rest_ne {d : Device} {n m st reason : Nat} (hst : st = 0 ∨ st = 1) (hleft : refState d n ≠ 3) (hm : m ≠ n) :
    (setState d n st reason).slot m = d.slot m := by
  by_cases hnew : refState d n = st ∧ d.fg (F.REF_STATUS_dq_reason n) = reason
  · rw [setState, if_pos hnew]
  · rw [setState_of_rest hst hleft hnew, Device.slot_ledger, Device.slot_cnt, Device.slot_setSlot_ne _ _ hm,
      Device.slot_congr (congrArg _ (restWords_refs ..))]

/-! ### Enabling and disabling (R227) -/

/-- A code of a refused enable fits its field. -/
theorem refEnableErr_lt (d : Device) (n : Nat) : refEnableErr d n < 4 := by
  unfold refEnableErr
  dsimp only
  repeat' split
  all_goals decide

theorem xRefEnable_of_ok {d : Device} {n : Nat} (hn : n < 32) (hoff : refEn d n = false) (hcheck : refEnableErr d n = 0) :
    xRefEnable n d = ((((d.fs (F.REF_STATUS_err n) 0).setSlot n RefSlot.init).set1 (F.REF_CFG_en n)).clr (F.REF_CFG_drained n)).fsb
      (F.REF_STATUS_time_kind n) (timeType (refType d n)) := by
  have guard : ¬ (32 ≤ n ∨ refEn d n = true) := by
    simp [hoff]
    omega
  have type : refType (d.fs (F.REF_STATUS_err n) 0) n = refType d n := Device.fg_fs_off _ _ _ _ (by simp)
  rw [xRefEnable, if_neg guard]
  simp only [hcheck, type, if_true]

theorem xRefEnable_of_bad {d : Device} {n : Nat} (hn : n < 32) (hoff : refEn d n = false) (hcheck : refEnableErr d n ≠ 0) :
    xRefEnable n d = d.fs (F.REF_STATUS_err n) (refEnableErr d n) := by
  have guard : ¬ (32 ≤ n ∨ refEn d n = true) := by
    simp [hoff]
    omega
  rw [xRefEnable, if_neg guard]
  exact if_neg hcheck

/-- R227: an enable that the checks pass begins the slot anew. -/
theorem refEnable_begins (s : State) (n : Nat) (hn : n < 32) (hon : Reach s (R.REF_CFG n)) (hoff : refEn s.dev n = false)
    (hcheck : refEnableErr s.dev n = 0) : Completes (.refEnable n) s fun d =>
      refEn d n = true ∧ d.fb (F.REF_CFG_drained n) = false ∧ d.fg (F.REF_STATUS_err n) = 0 ∧
      d.fb (F.REF_STATUS_time_kind n) = timeType (refType s.dev n) ∧ d.slot n = RefSlot.init ∧
      (∀ m, m ≠ n → d.slot m = s.dev.slot m) ∧ Keeps [.refs] [R.REF_CFG n, R.REF_STATUS n] s.dev d := by
  have ends := xRefEnable_of_ok hn hoff hcheck
  have cfg : R.REF_CFG n ∈ [R.REF_CFG n, R.REF_STATUS n] := by simp
  have status : R.REF_STATUS n ∈ [R.REF_CFG n, R.REF_STATUS n] := by simp
  refine completes_of_finish (congrArg (finish s) ((hostWrite_of_reach _ hon).trans ends)) ⟨?_, ?_, ?_, ?_, ?_, fun m hm => ?_, keeps_settle ?_⟩
  · rw [settle_refEn _ hn, refEn]
    simp (disch := simp) [Device.fb, Device.fsb, Device.set1, Device.clr, Device.fg_fs, Device.fg_fs_off, Device.fg_fs_disj]
  · rw [settle_fb _ _ (refCfg_not_settle hn)]
    simp (disch := simp) [Device.fb, Device.fsb, Device.set1, Device.clr, Device.fg_fs, Device.fg_fs_off]
  · rw [settle_fg _ _ (refStatus_not_settle hn)]
    simp (disch := simp) [Device.fsb, Device.set1, Device.clr, Device.fg_fs, Device.fg_fs_off, Device.fg_fs_disj]
  · rw [settle_fb _ _ (refStatus_not_settle hn)]
    exact Device.fb_fsb _ (F.REF_STATUS_time_kind n) _ (by simp) (by simp)
  · simp
  · simp [Device.slot_setSlot_ne _ _ hm]
  · have begun := Keeps.step (ps := [.refs]) (keeps_mono (keeps_fs s.dev (f := F.REF_STATUS_err n) 0 status) (by simp) (List.Subset.refl _))
      (keeps_setSlot _ n RefSlot.init) (by simp) (by simp)
    exact ((begun.fs (F.REF_CFG_en n) 1 cfg).fs (F.REF_CFG_drained n) 0 cfg).fs (F.REF_STATUS_time_kind n) _ status

/-- R227: an enable that a check refuses sets err alone. -/
theorem refEnable_refuses (s : State) (n : Nat) (hn : n < 32) (hon : Reach s (R.REF_CFG n)) (hoff : refEn s.dev n = false)
    (hcheck : refEnableErr s.dev n ≠ 0) : Completes (.refEnable n) s fun d =>
      refEn d n = false ∧ d.fg (F.REF_STATUS_err n) = refEnableErr s.dev n ∧ Keeps [] [R.REF_STATUS n] s.dev d := by
  have ends := xRefEnable_of_bad hn hoff hcheck
  refine completes_of_finish (congrArg (finish s) ((hostWrite_of_reach _ hon).trans ends)) ⟨?_, ?_, keeps_settle ?_⟩
  · rw [settle_refEn _ hn, refEn, Device.fb, Device.fg_fs_off _ _ _ _ (by simp)]
    exact hoff
  · rw [settle_fg _ _ (refStatus_not_settle hn), Device.fg_fs _ _ _ (by simp)]
    exact Nat.mod_eq_of_lt (refEnableErr_lt ..)
  · exact keeps_fs _ _ (List.mem_singleton.2 rfl)

/-- A stop that has ended is listed in the place of an older one of its unit. -/
def listStop (d : Device) (o : Nat) : Device := { d with stopping := (d.stopping.filter fun e => !(e.1 == o)) ++ [(o, false)] }

theorem stopOf_listStop (d : Device) (u : UnitId) : (listStop d u.ctl).stopOf u = some false := by
  have older : (d.stopping.filter fun e => !(e.1 == u.ctl)).find? (fun e => e.1 == u.ctl) = none := by simp
  rw [Device.stopOf, listStop, List.find?_append, older]
  simp

@[simp] theorem listStop_fg (d : Device) (o : Nat) (f : Fld) : (listStop d o).fg f = d.fg f := Device.fg_congr f (Device.rd_congr rfl _)

@[simp] theorem listStop_slot (d : Device) (o n : Nat) : (listStop d o).slot n = d.slot n := Device.slot_congr rfl n

theorem keeps_listStop (d : Device) (o : Nat) : Keeps [.stopping] [] d (listStop d o) := keeps_stopping d _

/-- What a stop leaves of a slot other than the SELECTED one. -/
theorem refStop_of_unselected {d : Device} {n : Nat} (hsel : d.refs.sel ≠ some n) :
    refStop d n = listStop ((((setState (d.clr (F.REF_CFG_en n)) n 0 0).setSlot n RefSlot.init).clr (F.REF_STATUS_refdis n)).clr
      (F.REF_STATUS_bw_cap n)) (R.REF_CFG n) := by
  have was : (d.refs.sel == some n) = false := beq_eq_false_iff_ne.2 hsel
  simp only [refStop, was, Bool.false_eq_true, if_false, listStop]

/-- R227: a disable makes a slot ABSENT at once and discards its measurements. -/
theorem refDisable_absents (s : State) (n : Nat) (hn : n < 32) (hon : Reach s (R.REF_CFG n)) (cut : Bool) (hen : refEn s.dev n = true)
    (hsel : s.dev.refs.sel ≠ some n) (hleft : refState s.dev n ≠ 3) : Completes (.refDisable n cut) s fun d =>
      refEn d n = false ∧ refState d n = 0 ∧ d.slot n = RefSlot.init ∧ (∀ m, m ≠ n → d.slot m = s.dev.slot m) ∧
      d.stopOf (.ref n) = some false ∧ Keeps [.refs, .stopping, .cnts, .mon] [R.REF_CFG n, R.REF_STATUS n, R.REF_EVT n] s.dev d := by
  have ends : xRefDisable n cut s.dev = refStop (s.dev.fsb (F.REF_CFG_stop n) cut) n := if_pos ⟨hn, hen⟩
  rw [refStop_of_unselected (by rwa [Device.fsb_refs])] at ends
  have cfg : R.REF_CFG n ∈ [R.REF_CFG n, R.REF_STATUS n, R.REF_EVT n] := by simp
  have status : R.REF_STATUS n ∈ [R.REF_CFG n, R.REF_STATUS n, R.REF_EVT n] := by simp
  have stopped : Keeps [.refs, .stopping, .cnts, .mon] [R.REF_CFG n, R.REF_STATUS n, R.REF_EVT n] s.dev
      ((s.dev.fsb (F.REF_CFG_stop n) cut).clr (F.REF_CFG_en n)) :=
    ((keeps_refl ..).fs (F.REF_CFG_stop n) _ cfg).fs (F.REF_CFG_en n) 0 cfg
  have off := Device.fb_clr (s.dev.fsb (F.REF_CFG_stop n) cut) (F.REF_CFG_en n) (by simp)
  have slots (m : Nat) : ((s.dev.fsb (F.REF_CFG_stop n) cut).clr (F.REF_CFG_en n)).slot m = s.dev.slot m := by simp
  have left : refState ((s.dev.fsb (F.REF_CFG_stop n) cut).clr (F.REF_CFG_en n)) n ≠ 3 := by
    rwa [refState, Device.clr, Device.fg_fs_off _ _ _ _ (by simp), Device.fsb, Device.fg_fs_off _ _ _ _ (by simp)]
  generalize (s.dev.fsb (F.REF_CFG_stop n) cut).clr (F.REF_CFG_en n) = c at ends stopped off slots left
  have changed := keeps_setState_of_rest (n := n) (reason := 0) (rs := [R.REF_STATUS n, R.REF_EVT n]) (.inl rfl) left
    (by simp) (by simp) (by simp)
  have absent := refState_setState_of_rest (reason := 0) (.inl rfl) left
  have others (m : Nat) (hm : m ≠ n) := (slot_setState_of_rest_ne (reason := 0) (.inl rfl) left hm).trans (slots m)
  have disabled : refEn (setState c n 0 0) n = false :=
    (Device.fb_congr _ (changed.2 _ (by simp) (refCfg_not_settle hn))).trans off
  generalize setState c n 0 0 = e at ends changed absent others disabled
  refine completes_of_finish (congrArg (finish s) ((hostWrite_of_reach _ hon).trans ends)) ⟨?_, ?_, ?_, fun m hm => ?_, ?_, keeps_settle ?_⟩
  · rw [settle_refEn _ hn]
    simpa (disch := simp) [refEn, Device.fb, Device.clr, Device.fg_fs_off] using disabled
  · rw [settle_refState _ hn]
    simpa (disch := simp) [refState, Device.clr, Device.fg_fs_disj] using absent
  · simp
  · simp [Device.slot_setSlot_ne _ _ hm, others m hm]
  · rw [Device.stopOf, settle_stopping]
    exact stopOf_listStop _ (.ref n)
  · have discarded := (stopped.step changed (by simp) (by simp)).step (keeps_setSlot _ n RefSlot.init) (by simp) (by simp)
    exact ((discarded.fs (F.REF_STATUS_refdis n) 0 status).fs (F.REF_STATUS_bw_cap n) 0 status).step (keeps_listStop ..) (by simp) (by simp)

/-! ### Requalifying (R258) -/

theorem xRefRequal_of_drift {d : Device} {n : Nat} (hn : n < 32) (hstate : refState d n = 5) (hwhy : d.fg (F.REF_STATUS_dq_reason n) = 1)
    (hhere : (d.slot n).present = true) : xRefRequal n d = setState d n 1 0 := by
  rw [xRefRequal, if_pos ⟨hn, hstate, hwhy⟩, holdEnds, if_pos hhere]

/-- R258: requal ends a DRIFT hold, and Proofing begins. -/
theorem refRequal_proofs (s : State) (n : Nat) (hn : n < 32) (hon : Reach s (R.REF_CFG n)) (hstate : refState s.dev n = 5)
    (hwhy : s.dev.fg (F.REF_STATUS_dq_reason n) = 1) (hhere : (s.dev.slot n).present = true) : Completes (.refRequal n) s fun d =>
      refState d n = 1 ∧ d.fg (F.REF_PROOF_T_secs n) = 0 ∧ d.fg (F.REF_EVT_state_chg n) = 1 ∧
      d.cntOf (K.REF_STATE_CHG n) = (s.dev.cntOf (K.REF_STATE_CHG n) + 1) % 2 ^ 48 ∧
      Keeps [.refs, .cnts, .mon] [R.REF_STATUS n, R.REF_EVT n, R.REF_PROOF_T n] s.dev d := by
  have ends := xRefRequal_of_drift hn hstate hwhy hhere
  have left : refState s.dev n ≠ 3 := by omega
  have new : ¬ (refState s.dev n = 1 ∧ s.dev.fg (F.REF_STATUS_dq_reason n) = 0) := by omega
  have words := fg_setState_of_rest (reason := 0) (.inr rfl) left new
  refine completes_of_finish (congrArg (finish s) ((hostWrite_of_reach _ hon).trans ends)) ⟨?_, ?_, ?_, ?_, keeps_settle ?_⟩
  · rw [settle_refState _ hn]
    exact refState_setState_of_rest (.inr rfl) left
  · rw [settle_fg _ _ (not_settleReg_of_slot hn (by simp) (by simp)), words]
    simp (disch := simp) [restWords, Device.clr, Device.fg_fs, Device.fg_fs_off]
  · rw [settle_fg _ _ (not_settleReg_of_slot hn (by simp) (by simp)), words]
    simp (disch := simp) [restWords, Device.clr, Device.set1, Device.fg_fs, Device.fg_fs_off]
  · have other : K.REF_STATE_CHG n ≠ K.MON_LEDGER_EVLOST := by unfold K.REF_STATE_CHG K.MON_LEDGER_EVLOST; omega
    rw [settle_cntOf, setState_of_rest (.inr rfl) left new, cntOf_ledger _ _ _ _ _ other, counted_cnt _ _ _, if_pos rfl, Device.cntOf,
      Device.setSlot_cnts, restWords_cnts, Device.cntOf]
  · exact keeps_setState_of_rest (.inr rfl) left (by simp) (by simp) (by simp)

end Sys2Proof.Machine
end

section
/-! SUPPORT. Raw comparisons of the reference slots (R228), and the DPLL's update on those of the SELECTED slot (R247, R249, R250, R331). -/

namespace Sys2Proof.Machine

theorem keeps_tm (d : Device) (t : TimeSt) : Keeps [.tm] [] d { d with tm := t } :=
  ⟨fun q hq => by cases q <;> simp_all [Part.same, Device.outOf], fun _ _ _ => rfl⟩

theorem keeps_monFeedAll (d : Device) (src : Nat) (v : Int) : Keeps [.mon] [] d (monFeedAll d src v) := by
  refine keeps_foldl (fun d n => ?_) _ _
  split
  · exact keeps_monPush ..
  · exact keeps_refl ..

/-! ### A comparison (R228) -/

/-- A slot with one raw comparison more in the second in progress. -/
def RefSlot.compared (s : RefSlot) (x : Int) (osc : Nat) : RefSlot :=
  { s with heard := some osc, sum := s.sum + x, count := s.count + 1, lastX := some x }

theorem refRaw_of_unselected {d : Device} {n : Nat} (x : Int) (hen : refEn d n = true) (hok : d.dtInvalid = false)
    (hsel : d.refs.sel ≠ some n) : refRaw d n x = d.setSlot n ((d.slot n).compared x d.tm.osc) := by
  have other : (d.refs.sel == some n) = false := beq_eq_false_iff_ne.2 hsel
  simp only [refRaw, hen, hok, Device.setSlot, other, Bool.not_true, Bool.or_self, Bool.false_and, Bool.false_eq_true, if_false]
  rfl

/-- A comparison of the SELECTED slot, whose pick is past its first, updates the DPLL and dates the reference time (log entry 105). -/
theorem refRaw_of_selected {d : Device} {n : Nat} (x : Int) (hen : refEn d n = true) (hok : d.dtInvalid = false)
    (hsel : d.refs.sel = some n) (hsteer : steering d = true) (hbuild : d.refs.build = false) {e : Device}
    (he : e = dpllUpdate (d.setSlot n ((d.slot n).compared x d.tm.osc)) n x) :
    refRaw d n x = { e with cls := { e.cls with refTime := e.nowSec * secU } } := by
  subst he
  have steer (s : RefSlot) : steering (d.setSlot n s) = true := hsteer
  have sel (s : RefSlot) : (d.setSlot n s).refs.sel = some n := hsel
  have build (s : RefSlot) : (d.setSlot n s).refs.build = false := hbuild
  simp only [refRaw, hen, hok, steer, sel, build, Bool.not_true, Bool.or_self, Bool.false_eq_true, if_false, beq_self_eq_true, Bool.and_self,
    if_true]
  rfl

/-! ### The DPLL (R249, R250, R331) -/

/-- R331: a correction is clipped to ±20,000 ns/s, and what is left of it commits and shows. -/
theorem writeIncr_clips (d : Device) (s : Rat) : ∃ q : Rat, -20000 ≤ q ∧ q ≤ 20000 ∧
    writeIncr d s = ({ d with tm := { d.tm with commit := some (BitVec.ofNat 56 (incrFor q)) }, refs := { d.refs with steer := q } } : Device).wn
      R.TB_STEER (femto q) :=
  ⟨max (-20000) (min 20000 s), by grind, by grind, rfl⟩

/-- An update of the loop feeds the monitors, moves the loop's own state and shows the cap of the slot's bandwidth; its correction is then
written. -/
theorem dpllUpdate_writes (d : Device) (n : Nat) (x : Int) : ∃ (v : Int) (r : Refs) (capped : Bool) (s : Rat), r.slots = d.refs.slots ∧
    dpllUpdate d n x = writeIncr (({ monFeedAll d 8 v with refs := r } : Device).fsb (F.REF_STATUS_bw_cap n) capped) s := by
  unfold dpllUpdate
  dsimp only
  refine ⟨_, _, _, _, ?_, rfl⟩
  rfl

theorem keeps_writeIncr (d : Device) (s : Rat) : Keeps [.refs, .tm] [R.TB_STEER] d (writeIncr d s) := by
  obtain ⟨q, -, -, written⟩ := writeIncr_clips d s
  rw [written]
  exact ((keeps_mono (keeps_refs d { d.refs with steer := q }) (by simp) (by simp)).step (keeps_tm _ _) (by simp) (by simp)).step
    (keeps_wr _ _ (List.mem_singleton.2 rfl)) (by simp) (by simp)

/-- R247, R250, R331: one new increment within ±20,000 ns/s of nominal is committed, and the slots stay as they are. -/
theorem dpllUpdate_commits (d : Device) (n : Nat) (x : Int) : ∃ (e : Device) (q : Rat), dpllUpdate d n x = e ∧ -20000 ≤ q ∧ q ≤ 20000 ∧
    e.refs.steer = q ∧ e.tm = { d.tm with commit := some (BitVec.ofNat 56 (incrFor q)) } ∧ e.rd R.TB_STEER = BitVec.ofNat 32 (femto q) ∧
    e.refs.slots = d.refs.slots ∧ Keeps [.refs, .tm, .mon] [R.TB_STEER, R.REF_STATUS n] d e := by
  obtain ⟨v, r, capped, s, slots, ends⟩ := dpllUpdate_writes d n x
  have fed := keeps_monFeedAll d 8 v
  have kept : Keeps [.refs, .mon] [R.REF_STATUS n] d (({ monFeedAll d 8 v with refs := r } : Device).fsb (F.REF_STATUS_bw_cap n) capped) :=
    ((keeps_mono fed (by simp) (by simp)).step (keeps_refs _ r) (by simp) (by simp)).fs _ _ (by simp)
  have slots : (({ monFeedAll d 8 v with refs := r } : Device).fsb (F.REF_STATUS_bw_cap n) capped).refs.slots = d.refs.slots := slots
  generalize ({ monFeedAll d 8 v with refs := r } : Device).fsb (F.REF_STATUS_bw_cap n) capped = c at ends kept slots
  obtain ⟨q, low, high, written⟩ := writeIncr_clips c s
  have tm : c.tm = d.tm := (kept.1 .tm (by simp)).symm
  refine ⟨_, q, ends, low, high, ?_, ?_, ?_, ?_, ?_⟩
  · rw [written, Device.wn_refs]
  · rw [written, Device.wn_tm, ← tm]
  · rw [written, Device.rd_wn, if_pos rfl]
  · rw [written, Device.wn_refs]
    exact slots
  · exact (keeps_mono kept (by simp) (by simp)).step (keeps_writeIncr c s) (by simp) (by simp)

/-! ### The clauses of O21 -/

/-- The second's mean of a slot goes on with a comparison, and the other slots stay. -/
abbrev Joined (n : Nat) (x : Int) (a d : Device) : Prop :=
  (d.slot n).sum = (a.slot n).sum + x ∧ (d.slot n).count = (a.slot n).count + 1 ∧ (d.slot n).lastX = some x ∧
    (d.slot n).heard = some a.tm.osc ∧ (d.slot n).hist = (a.slot n).hist ∧ ∀ m, m ≠ n → d.slot m = a.slot m

theorem joined_of_compared {a d : Device} {n : Nat} {x : Int} (h : d.refs.slots = (a.setSlot n ((a.slot n).compared x a.tm.osc)).refs.slots) :
    Joined n x a d := by
  have here : d.slot n = (a.slot n).compared x a.tm.osc := by rw [Device.slot_congr h, Device.slot_setSlot_self]
  rw [Joined, here]
  exact ⟨rfl, rfl, rfl, rfl, rfl, fun m hm => by rw [Device.slot_congr h, Device.slot_setSlot_ne _ _ hm]⟩

theorem xRefRawComparison_of_slot {n : Nat} (hn : n < 32) (x : Int) (d : Device) : xRefRawComparison n x d = refRaw d n x := if_pos hn

/-- R228: a raw comparison joins the second's mean of its slot. -/
theorem refRawComparison_joins (s : State) (n : Nat) (x : Int) (hn : n < 32) (hen : refEn s.dev n = true) (hok : TimeOk s)
    (hsel : s.dev.refs.sel ≠ some n) : Completes (.refRawComparison n x) s fun d =>
      Joined n x s.dev d ∧
      Keeps [.refs] [] s.dev d := by
  have ends := (xRefRawComparison_of_slot hn x s.dev).trans (refRaw_of_unselected x hen hok hsel)
  exact completes_of_finish (congrArg (finish s) ends) ⟨joined_of_compared (by rw [settle_refs]), keeps_settle (keeps_setSlot ..)⟩

/-- R247, R249, R250, R331: a comparison of the SELECTED slot updates the DPLL too. -/
theorem refRawComparison_steers (s : State) (n : Nat) (x : Int) (hn : n < 32) (hen : refEn s.dev n = true) (hok : TimeOk s)
    (hsel : s.dev.refs.sel = some n) (hsteer : steering s.dev = true) (hbuild : s.dev.refs.build = false) :
    Completes (.refRawComparison n x) s fun d =>
      Joined n x s.dev d ∧
      (∃ q : Rat, -20000 ≤ q ∧ q ≤ 20000 ∧ d.refs.steer = q ∧ d.tm = { s.dev.tm with commit := some (BitVec.ofNat 56 (incrFor q)) } ∧
        d.rd R.TB_STEER = BitVec.ofNat 32 (femto q)) ∧ d.cls = { s.dev.cls with refTime := s.dev.nowSec * secU } ∧
      Keeps [.refs, .tm, .mon, .cls] [R.TB_STEER, R.REF_STATUS n] s.dev d := by
  obtain ⟨e, q, updated, low, high, steer, tm, shown, slots, kept⟩ :=
    dpllUpdate_commits (s.dev.setSlot n ((s.dev.slot n).compared x s.dev.tm.osc)) n x
  have ends := (xRefRawComparison_of_slot hn x s.dev).trans (refRaw_of_selected x hen hok hsel hsteer hbuild updated.symm)
  have hset : R.TB_STEER ∉ settleRegs := by decide
  have sec : e.nowSec = s.dev.nowSec := by
    rw [Device.nowSec, tm]
    rfl
  have cls : e.cls = s.dev.cls := (kept.1 .cls (by simp)).symm
  refine completes_of_finish (congrArg (finish s) ends) ⟨joined_of_compared (by rw [settle_refs]; exact slots),
    ⟨q, low, high, ?_, ?_, ?_⟩, ?_, keeps_settle ?_⟩
  · rw [settle_refs]
    exact steer
  · rw [settle_tm]
    exact tm
  · rw [settle_rd _ hset]
    exact shown
  · rw [settle_cls, sec, cls]
  · exact ((keeps_mono (keeps_setSlot ..) (by simp) (by simp)).step kept (by simp) (by simp)).step (keeps_cls ..) (by simp) (by simp)

end Sys2Proof.Machine
end

section
/-! SUPPORT. NTP upstreams (R256) and time-of-day messages (R260). -/

namespace Sys2Proof.Machine

/-! ### Booking while the slots change (R116) -/

theorem gateOpen_congr {a b : Device} (h : a.peel = b.peel) (n c k : Nat) (t u : Inst) : gateOpen a n c k t u = gateOpen b n c k t u := by
  have list : listAt a n = listAt b n := by
    funext t
    simp only [listAt, h]
  induction k generalizing t with
  | zero => rfl
  | succ k ih => simp only [gateOpen, list, ih]

/-- A launch point depends on the registers and the bookings. -/
theorem searchPt_congr {a b : Device} (hregs : a.regs = b.regs) (hpeel : a.peel = b.peel) (n len gcls : Nat) (spans : List (Nat × Nat))
    (t0 tl : Inst) (k ord : Nat) : searchPt a n len gcls spans t0 tl k ord = searchPt b n len gcls spans t0 tl k ord := by
  have mode : portMode a n = portMode b n := Device.fg_congr _ (Device.rd_congr hregs _)
  have gate (t : Inst) : gateOk a n gcls t len = gateOk b n gcls t len := by
    simp only [gateOk, gateOpen_congr hpeel, mode, Device.fb_congr (F.PEEL_P_CTL_gate_en n) (Device.rd_congr hregs _)]
  have gap (pt : Nat) : gapOk a n spans pt len = gapOk b n spans pt len := by
    simp only [gapOk, hpeel, mode]
  induction k generalizing ord with
  | zero => rfl
  | succ k ih => simp only [searchPt, mode, hpeel, gate, gap, ih]

/-- The slots' measurements do not bear on a booking; a scheduled step does (R137). -/
theorem bookCode_setRefs (d : Device) (r : Refs) (hstep : r.stepAt = d.refs.stepAt) (n : Nat) (te tl : Inst) (len gcls : Nat) :
    bookCode { d with refs := r } n te tl len gcls = bookCode d n te tl len gcls := by
  simp only [bookCode, searchPt_congr (a := { d with refs := r }) (b := d) rfl rfl, hstep]
  rfl

theorem Bookable.setSlot {d : Device} {n : Nat} {te tl : Inst} {len gcls ord : Nat} {t : Inst} (h : Bookable d n te tl len gcls ord t)
    (m : Nat) (x : RefSlot) : Bookable (d.setSlot m x) n te tl len gcls ord t :=
  ⟨(bookCode_setRefs d (d.setSlot m x).refs rfl ..).trans h.1, h.2⟩

/-! ### Polls (R256) -/

/-- A slot whose poll is sent now, the one before it unanswered or not. -/
def RefSlot.polling (s : RefSlot) (osc : Nat) : RefSlot :=
  { s with polledAt := some osc, missed := if s.ntpT1.isSome then s.missed + 1 else s.missed, ntpT1 := none }

/-- A slot whose poll of launch point `t` awaits its response. -/
def RefSlot.awaiting (s : RefSlot) (t : Inst) : RefSlot := { s with ntpT1 := some t }

/-- A poll that is due and gets a launch point is committed for it, and its T1 kept. -/
theorem xNtpPollSend_of_booked {d : Device} {n h : Nat} {t : Inst} {b : Booking} (hn : n < 32) (hen : refEn d n = true)
    (htype : refType d n = 7) (hvalid : (saOf d (d.fg (F.REF_NTP_CTL_sa n))).valid = true)
    (howned : (saOf d (d.fg (F.REF_NTP_CTL_sa n))).owned = true) (hfirst : (d.slot n).polledAt = none) {d' : Device}
    (hd' : d' = d.setSlot n ((d.slot n).polling d.tm.osc))
    (hbook : peelBook d' (d.fg (F.REF_NTP_CTL_port n)) (d.now + gLead d) (d.now + gLead d + d.rn R.PEEL_SEARCH * nsU)
      (max 60 (ntpPoll d n 0).length + 4)
      (gateClass d (d.fg (F.REF_NTP_CTL_port n)) (vlanTci d (saOf d (d.fg (F.REF_NTP_CTL_sa n))).vlan)) false false (.engine none) =
        (T.ACCEPTED, h, t, withBooking d' b)) :
    xNtpPollSend n d = (peelCommit ((withBooking d' b).setSlot n (((d.slot n).polling d.tm.osc).awaiting t)) h (ntpPoll d n t) none).2 := by
  unfold xNtpPollSend
  extract_lets s iv e due d1 port len
  have hdue : due = true := by
    simp only [due, s, hfirst]
  have same : d1 = d' := hd'.symm
  have book : peelBook d1 port (d1.now + gLead d1) (d1.now + gLead d1 + d1.rn R.PEEL_SEARCH * nsU) len
      (gateClass d1 port (vlanTci d1 e.vlan)) false false (.engine none) = (T.ACCEPTED, h, t, withBooking d1 b) := by
    rw [same]
    subst hd'
    exact hbook
  have slot : (withBooking d' b).slot n = (d.slot n).polling d.tm.osc := by
    rw [hd']
    exact Device.slot_setSlot_self ..
  have poll (x : RefSlot) : ntpPoll ((withBooking d' b).setSlot n x) n t = ntpPoll d n t := by
    rw [hd']
    rfl
  rw [if_pos ⟨hn, hen, htype, hdue, hvalid, howned⟩, book, same, ← slot, ← poll]
  rfl

/-- R256: a poll that is due is booked and committed, with T1 its launch point. -/
theorem ntpPollSend_books (s : State) (n ord : Nat) (t : Inst) (hn : n < 32) (hen : refEn s.dev n = true) (htype : refType s.dev n = 7) :
    let e := saOf s.dev (s.dev.fg (F.REF_NTP_CTL_sa n))
    let port := s.dev.fg (F.REF_NTP_CTL_port n)
    e.valid = true → e.owned = true → (s.dev.slot n).polledAt = none →
    Bookable s.dev port (s.dev.now + gLead s.dev) (s.dev.now + gLead s.dev + s.dev.rn R.PEEL_SEARCH * nsU)
      (max 60 (ntpPoll s.dev n 0).length + 4) (gateClass s.dev port (vlanTci s.dev e.vlan)) ord t →
    Completes (.ntpPollSend n) s fun d => Booked s.dev d port t (ntpPoll s.dev n t) ∧ (d.slot n).ntpT1 = some t ∧
      (d.slot n).polledAt = some s.dev.tm.osc ∧ Keeps [.refs, .peel, .sched, .mon] [R.TROUGH_STATUS] s.dev d := by
  intro sa port hvalid howned hfirst hbook
  have booked := peelBook_of_bookable (.engine none) (hbook.setSlot n ((s.dev.slot n).polling s.dev.tm.osc))
  obtain ⟨-, -, -, hguard, free⟩ := hbook
  generalize hd' : s.dev.setSlot n ((s.dev.slot n).polling s.dev.tm.osc) = d' at booked
  generalize hb : newBooking d' port t _ _ ord (.engine none) = b at booked
  have polled : Keeps [.refs] [] s.dev d' := hd' ▸ keeps_setSlot ..
  have handle : b.handle = d'.sched.nextHandle := by rw [← hb]; rfl
  have same : d'.sched.nextHandle = s.dev.sched.nextHandle := by rw [← hd']; rfl
  have unused : findBooking d' d'.sched.nextHandle = none := by rw [← hd']; exact free
  have due : d'.now + b.guardC * nsU ≤ b.due := by rw [← hb, ← hd']; exact hguard
  have ends := xNtpPollSend_of_booked hn hen htype hvalid howned hfirst hd'.symm booked
  have kept := ((keeps_mono (qs := [.refs, .peel, .sched, .mon]) (ts := [R.TROUGH_STATUS]) polled (by simp) (by simp)).step
    (keeps_withBooking d' b) (by simp) (by simp)).step
    (keeps_setSlot _ n (((s.dev.slot n).polling s.dev.tm.osc).awaiting t)) (by simp) (by simp)
  have slot := Device.slot_setSlot_self (withBooking d' b) n (((s.dev.slot n).polling s.dev.tm.osc).awaiting t)
  have listed : findBooking ((withBooking d' b).setSlot n (((s.dev.slot n).polling s.dev.tm.osc).awaiting t)) d'.sched.nextHandle = some b :=
    findBooking_withBooking handle unused
  obtain ⟨e, v, commit, found, committed⟩ := peelCommit_in_time (ntpPoll s.dev n t) listed handle due
  rw [commit] at ends
  have awaiting : e.slot n = ((s.dev.slot n).polling s.dev.tm.osc).awaiting t := by
    rw [← slot, Device.slot_congr (congrArg Refs.slots (committed.1 .refs (by simp)))]
  refine completes_of_finish (congrArg (finish s) ends) ⟨Booked.settle ?_, ?_, ?_, keeps_settle ?_⟩
  · rw [same] at found
    exact ⟨_, found, by rw [← hb]; rfl, by rw [← hb]; rfl, rfl⟩
  · rw [settle_slot, awaiting, RefSlot.awaiting]
  · rw [settle_slot, awaiting, RefSlot.awaiting, RefSlot.polling]
  · exact kept.step committed (by simp) (by simp)

/-! ### Responses (R256) -/

/-- θ of a response received at `t4` to the request of `t1`: half the sum of the two differences. -/
abbrev ntpTheta (d : Device) (msg : Bytes) (t1 t4 : Inst) : Int :=
  divNearI (ntpDiff (beAt msg 32 8) (ntpOf d t1) + ntpDiff (beAt msg 40 8) (ntpOf d t4)) 2

/-- The first valid response is the measurement itself: its θ less the slot's delay is a comparison of a slot that awaits none. -/
theorem xNtpUpstreamResponse_of_first {d : Device} {n : Nat} {msg : Bytes} {t1 t4 : Inst} (hn : n < 32) (hen : refEn d n = true)
    (htype : refType d n = 7) (hawaited : (d.slot n).ntpT1 = some t1) (hfirst : (d.slot n).samples = []) (hmode : byteAt msg 0 % 8 = 4)
    (hlen : 48 ≤ msg.length) (horigin : beAt msg 24 8 = ntpOf d t1) :
    ∃ (s : RefSlot) (l : List (Nat × Nat)), s.ntpT1 = none ∧ s.missed = 0 ∧ s.adv = (if byteAt msg 0 / 64 = 3 then 16 else byteAt msg 1) ∧
      xNtpUpstreamResponse n (d.fg (F.REF_NTP_CTL_port n)) (ntpUpstream d n) 123 msg t4 d =
        refRaw { d.setSlot n s with refs := { (d.setSlot n s).refs with delay := l } } n
          (ntpTheta d msg t1 t4 - lenSub (d.rs (R.REF_DELAY n) * psU)) := by
  have valid : n < 32 ∧ refEn d n ∧ refType d n = 7 ∧ byteAt msg 0 % 8 = 4 ∧ d.fg (F.REF_NTP_CTL_port n) = d.fg (F.REF_NTP_CTL_port n) ∧
      ntpUpstream d n = ntpUpstream d n ∧ 123 = 123 ∧ 48 ≤ msg.length ∧ beAt msg 24 8 = ntpOf d t1 :=
    ⟨hn, hen, htype, hmode, rfl, rfl, rfl, hlen, horigin⟩
  rw [xNtpUpstreamResponse]
  dsimp only
  rw [hawaited]
  dsimp only
  rw [if_pos valid, hfirst]
  refine ⟨_, _, ?_, ?_, ?_, rfl⟩
  · rfl
  · rfl
  · simp

/-- R256: the first valid response gives θ less the slot's delay as a comparison. -/
theorem ntpUpstreamResponse_compares (s : State) (n : Nat) (msg : Bytes) (t1 t4 : Inst) (hn : n < 32) (hen : refEn s.dev n = true)
    (htype : refType s.dev n = 7) (hok : TimeOk s) (hsel : s.dev.refs.sel ≠ some n) (hawaited : (s.dev.slot n).ntpT1 = some t1)
    (hfirst : (s.dev.slot n).samples = []) (hmode : byteAt msg 0 % 8 = 4) (hlen : 48 ≤ msg.length)
    (horigin : beAt msg 24 8 = ntpOf s.dev t1) :
    Completes (.ntpUpstreamResponse n (s.dev.fg (F.REF_NTP_CTL_port n)) (ntpUpstream s.dev n) 123 msg t4) s fun d =>
      (d.slot n).lastX = some (ntpTheta s.dev msg t1 t4 - lenSub (s.dev.rs (R.REF_DELAY n) * psU)) ∧ (d.slot n).ntpT1 = none ∧
      (d.slot n).missed = 0 ∧ (d.slot n).adv = (if byteAt msg 0 / 64 = 3 then 16 else byteAt msg 1) ∧ Keeps [.refs] [] s.dev d := by
  obtain ⟨x, l, awaited, missed, adv, ends⟩ := xNtpUpstreamResponse_of_first (t4 := t4) hn hen htype hawaited hfirst hmode hlen horigin
  generalize hc : ({ s.dev.setSlot n x with refs := { (s.dev.setSlot n x).refs with delay := l } } : Device) = c at ends
  have slot : c.slot n = x := by
    rw [← hc]
    exact Device.slot_setSlot_self s.dev n x
  have kept : Keeps [.refs] [] s.dev c := hc ▸ keeps_refs s.dev { (s.dev.setSlot n x).refs with delay := l }
  have compared := refRaw_of_unselected (d := c) (n := n) (ntpTheta s.dev msg t1 t4 - lenSub (s.dev.rs (R.REF_DELAY n) * psU))
    (by rw [← hc]; exact hen) (by rw [← hc]; exact hok) (by rw [← hc]; exact hsel)
  rw [slot] at compared
  refine completes_of_finish (congrArg (finish s) (ends.trans compared)) ?_
  rw [settle_slot, Device.slot_setSlot_self]
  exact ⟨rfl, awaited, missed, adv, keeps_settle (keeps_trans kept (keeps_setSlot ..))⟩

/-! ### Time of day (R260) -/

/-- What a message on an input does to one slot. -/
def todStep (tin : Nat) (msg : Bytes) (d : Device) (n : Nat) : Device :=
  if refEn d n && refType d n == 2 && d.fg (F.REF_TOD_tin n) == tin then
    let lab := if d.fg (F.REF_TOD_fmt n) = 1 then tamcoLabel msg else (zdaUtc msg).bind (utcToTai d)
    let s := d.slot n
    match lab with
    | none =>
      let d := refGlitch d n
      d.setSlot n { d.slot n with badLabels := s.badLabels + 1 }
    | some l =>
      if d.fb (F.REF_TOD_label n) then
        match s.waiting with
        | some t => useLabel (d.setSlot n { s with waiting := none }) n l t
        | none => d
      else d.setSlot n { s with label := some l }
  else d

theorem xTodMessageReceive_eq (tin : Nat) (msg : Bytes) (d : Device) : xTodMessageReceive tin msg d = (List.range 32).foldl (todStep tin msg) d := rfl

theorem todStep_of_disabled {d : Device} {m : Nat} (tin : Nat) (msg : Bytes) (h : refEn d m = false) : todStep tin msg d m = d := by
  rw [todStep, h]
  exact if_neg (by simp)

/-- A Tamco message labels the edge that follows it. -/
theorem todStep_of_tamco {d : Device} {n tin l : Nat} {msg : Bytes} (hen : refEn d n = true) (htype : refType d n = 2)
    (htin : d.fg (F.REF_TOD_tin n) = tin) (hfmt : d.fg (F.REF_TOD_fmt n) = 1) (hnext : d.fb (F.REF_TOD_label n) = false)
    (hlabel : tamcoLabel msg = some l) : todStep tin msg d n = d.setSlot n { d.slot n with label := some l } := by
  simp only [todStep, hen, htype, htin, hfmt, hnext, hlabel, beq_self_eq_true, Bool.and_self, if_true, Bool.false_eq_true, if_false]

/-- Steps that leave a block alone leave it alone one after the other. -/
theorem foldl_of_fixed {α β : Type} {g : α → β → α} {a : α} {l : List β} (h : ∀ x ∈ l, g a x = a) : l.foldl g a = a := by
  induction l with
  | nil => rfl
  | cons x t ih =>
    rw [List.foldl_cons, h x (List.mem_cons_self ..)]
    exact ih fun y hy => h y (List.mem_cons_of_mem _ hy)

/-- A pass over the slots of which all but one stay idle is that one's step. -/
theorem foldl_range_of_only {g : Device → Nat → Device} {d : Device} {n k : Nat} (hn : n < k) (before : ∀ m, m < k → m ≠ n → g d m = d)
    (after : ∀ m, m < k → m ≠ n → g (g d n) m = g d n) : (List.range k).foldl g d = g d n := by
  obtain ⟨l, r, hl⟩ := List.append_of_mem (List.mem_range.2 hn)
  have nodup := hl ▸ List.nodup_range (n := k)
  obtain ⟨-, hr, hlr⟩ := List.nodup_append.1 nodup
  have apart : n ∉ l ++ r := fun h => (List.mem_append.1 h).elim (fun h => hlr n h n (List.mem_cons_self ..) rfl) (List.nodup_cons.1 hr).1
  have range (m : Nat) (hm : m ∈ l ∨ m ∈ r) : m < k ∧ m ≠ n := by
    refine ⟨List.mem_range.1 (hl ▸ ?_), ?_⟩
    · rcases hm with hm | hm <;> simp [hm]
    · rintro rfl
      exact apart (List.mem_append.2 hm)
  rw [hl, List.foldl_append, List.foldl_cons, foldl_of_fixed fun m hm => before m (range m (.inl hm)).1 (range m (.inl hm)).2]
  exact foldl_of_fixed fun m hm => after m (range m (.inr hm)).1 (range m (.inr hm)).2

/-- R260: a Tamco message labels the edge that follows it, of the slot on its input. -/
theorem todMessageReceive_labels (s : State) (n tin l : Nat) (msg : Bytes) (hn : n < 32) (hen : refEn s.dev n = true)
    (htype : refType s.dev n = 2) (htin : s.dev.fg (F.REF_TOD_tin n) = tin) (hfmt : s.dev.fg (F.REF_TOD_fmt n) = 1)
    (hnext : s.dev.fb (F.REF_TOD_label n) = false) (hlabel : tamcoLabel msg = some l)
    (hothers : ∀ m, m < 32 → m ≠ n → refEn s.dev m = false) : Completes (.todMessageReceive tin msg) s fun d =>
      d.slot n = { s.dev.slot n with label := some l } ∧ (∀ m, m ≠ n → d.slot m = s.dev.slot m) ∧ Keeps [.refs] [] s.dev d := by
  have labelled := todStep_of_tamco hen htype htin hfmt hnext hlabel
  have ends : xTodMessageReceive tin msg s.dev = s.dev.setSlot n { s.dev.slot n with label := some l } := by
    rw [xTodMessageReceive_eq, ← labelled]
    refine foldl_range_of_only hn (fun m hm ho => todStep_of_disabled _ _ (hothers m hm ho)) fun m hm ho => todStep_of_disabled _ _ ?_
    rw [labelled]
    exact hothers m hm ho
  refine completes_of_finish (congrArg (finish s) ends) ⟨?_, fun m hm => ?_, keeps_settle (keeps_setSlot ..)⟩
  · rw [settle_slot, Device.slot_setSlot_self]
  · rw [settle_slot, Device.slot_setSlot_ne _ _ hm]

/-- Settles O21: the enable and its refusal, the disable and requal, a comparison of any slot and of the SELECTED one, the poll, the first
response to one, and the Tamco message. -/
theorem references : Obligations.References :=
  ⟨fun s n hn hon => ⟨refEnable_begins s n hn hon, refEnable_refuses s n hn hon, refDisable_absents s n hn hon, refRequal_proofs s n hn hon⟩,
   fun s n x hn hen hok => ⟨refRawComparison_joins s n x hn hen hok, refRawComparison_steers s n x hn hen hok⟩,
   ntpPollSend_books, ntpUpstreamResponse_compares, todMessageReceive_labels⟩

end Sys2Proof.Machine
end

section
/-! SUPPORT. An evaluation (R236) of a block that names as SELECTED a slot it does not have: the slot loses that state, and the word in the
place of its REF_STATUS is another block's. -/

namespace Sys2Proof.Machine

/-- A frequency slot, enabled, heard and QUALIFIED, in a block that steers; the slot named as SELECTED is number 160, of 32. -/
def straySelected : Device :=
  let d := (((((Device.init.clr F.TB_STATUS_dt_invalid).clr F.TB_TBC_manual).set1 (F.REF_CFG_en 0)).fs (F.REF_CFG_type 0) 4).fs
    (F.REF_CFG_src 0) 8).fs (F.REF_QUAL_decl 0) 8
  { d.fs (F.REF_STATUS_state 0) 2 with
    tb := { d.tb with warm := true },
    refs := { d.refs with sel := some 160, evalSec := 1, slots := [(0, { RefSlot.init with heard := some 0 })] } }

/-- Where slot 160 would have its REF_STATUS stands SEC_CTL, a register of PD_AON. -/
theorem refStatus_stray : R.REF_STATUS 160 = R.SEC_CTL ∧ domainOf R.SEC_CTL = 0 := by decide

/-- The selector takes slot 0, and the write that puts slot 160 back to QUALIFIED changes that register. -/
theorem evaluation_changes_secCtl : (xRefSecondEval straySelected).rd R.SEC_CTL ≠ straySelected.rd R.SEC_CTL := by decide +kernel

/-- Where the command ends, whatever the state. -/
theorem refSecondEval_dev {s t : State} (run : exec .refSecondEval s = .next t) : t.dev = settle (xRefSecondEval s.dev) := by
  cases run
  rfl

/-- Refutes O22: its first clause takes every state, and keeps the registers outside the domain of the timebase.  In a state whose SELECTED
slot is none of the 32, the new pick takes that state away by a write at an offset past the slots' registers.  (No command names such a
slot as SELECTED.) -/
theorem not_selection : ¬ Obligations.Selection := by
  unfold Obligations.Selection
  rintro ⟨⟨evaluates, -, -⟩, -⟩
  obtain ⟨t, run, -, -, -, kept⟩ := evaluates ⟨[], straySelected⟩ (by decide +kernel) (by decide +kernel)
  have outside : (domainOf R.SEC_CTL == 8) = false := by rw [refStatus_stray.2]; rfl
  have same := kept R.SEC_CTL outside (by decide)
  rw [refSecondEval_dev run, settle_rd _ (by decide)] at same
  exact evaluation_changes_secCtl same

end Sys2Proof.Machine
end

section
/-! SUPPORT. The time-interval counter's channels and pairs: their tables, their registers, and the result a pair gives (R306 to R309). -/

namespace Sys2Proof.Machine

/-! ### The tables of channels and pairs -/

theorem keeps_tic (d : Device) (t : Tic) : Keeps [.tic] [] d { d with tic := t } :=
  ⟨fun q hq => by cases q <;> simp_all [Part.same, Device.outOf], fun _ _ _ => rfl⟩

theorem keeps_setTicCh (d : Device) (n : Nat) (c : TicCh) : Keeps [.tic] [] d (d.setTicCh n c) := keeps_tic d _

theorem keeps_setTicPair (d : Device) (p : Nat) (x : TicPair) : Keeps [.tic] [] d (d.setTicPair p x) := keeps_tic d _

theorem Device.ticCh_setTicCh (d : Device) (n m : Nat) (c : TicCh) : (d.setTicCh n c).ticCh m = if m = n then c else d.ticCh m :=
  amGet_amSet ..

@[simp] theorem Device.ticCh_setTicCh_self (d : Device) (n : Nat) (c : TicCh) : (d.setTicCh n c).ticCh n = c := by
  rw [Device.ticCh_setTicCh, if_pos rfl]

theorem Device.ticPair_setTicPair (d : Device) (p q : Nat) (x : TicPair) :
    (d.setTicPair p x).ticPair q = if q = p then x else d.ticPair q := amGet_amSet ..

@[simp] theorem Device.ticPair_setTicPair_self (d : Device) (p : Nat) (x : TicPair) : (d.setTicPair p x).ticPair p = x := by
  rw [Device.ticPair_setTicPair, if_pos rfl]

theorem Device.ticCh_congr {a b : Device} (h : a.tic.chans = b.tic.chans) (n : Nat) : a.ticCh n = b.ticCh n := by
  unfold Device.ticCh
  rw [h]

theorem Device.ticPair_congr {a b : Device} (h : a.tic.pairs = b.tic.pairs) (p : Nat) : a.ticPair p = b.ticPair p := by
  unfold Device.ticPair
  rw [h]

@[simp] theorem Device.ticCh_setTicPair (d : Device) (p n : Nat) (x : TicPair) : (d.setTicPair p x).ticCh n = d.ticCh n :=
  Device.ticCh_congr rfl n

@[simp] theorem Device.ticPair_setTicCh (d : Device) (n p : Nat) (c : TicCh) : (d.setTicCh n c).ticPair p = d.ticPair p :=
  Device.ticPair_congr rfl p

@[simp] theorem Device.ticPair_set1 (d : Device) (f : Fld) (p : Nat) : (d.set1 f).ticPair p = d.ticPair p := Device.ticPair_congr rfl p

@[simp] theorem Device.ticPair_clr (d : Device) (f : Fld) (p : Nat) : (d.clr f).ticPair p = d.ticPair p := Device.ticPair_congr rfl p

@[simp] theorem settle_ticCh (d : Device) (n : Nat) : (settle d).ticCh n = d.ticCh n := Device.ticCh_congr (by rw [settle_tic]) n

@[simp] theorem settle_ticPair (d : Device) (p : Nat) : (settle d).ticPair p = d.ticPair p := Device.ticPair_congr (by rw [settle_tic]) p

/-! ### Registers -/

/-- The registers of the time-interval counter do not follow the rest of the block. -/
theorem not_settleReg_of_tic {o : Nat} (hlo : 0xa000 ≤ o) (hhi : o < 0xb000) : o ∉ settleRegs := by
  have outside : ∀ x ∈ settleRegs, x < 0xa000 ∨ 0xb000 ≤ x := by decide
  intro h
  have := outside o h
  omega

theorem ticChCfg_not_settle {n : Nat} (hn : n < 8) : R.TIC_CH_CFG n ∉ settleRegs :=
  not_settleReg_of_tic (by unfold R.TIC_CH_CFG; omega) (by unfold R.TIC_CH_CFG; omega)

theorem ticPairCfg_not_settle {p : Nat} (hp : p < 4) : R.TIC_PAIR_CFG p ∉ settleRegs :=
  not_settleReg_of_tic (by unfold R.TIC_PAIR_CFG; omega) (by unfold R.TIC_PAIR_CFG; omega)

@[simp] theorem Device.fb_setTicCh (d : Device) (n : Nat) (c : TicCh) (f : Fld) : (d.setTicCh n c).fb f = d.fb f :=
  Device.fb_congr f (Device.rd_congr rfl _)

@[simp] theorem Device.fb_setTicPair (d : Device) (p : Nat) (x : TicPair) (f : Fld) : (d.setTicPair p x).fb f = d.fb f :=
  Device.fb_congr f (Device.rd_congr rfl _)

/-! ### Results of a pair (R307, R308) -/

/-- A pair that has given a result: disarmed if it is `single`, else armed again, with the result and its flags. -/
def TicPair.reported (x : TicPair) (single gap : Bool) (value flags : Nat) : TicPair :=
  { x with st := if single then 0 else 1, first := none, lost := false, stepped := false, gap, seq := (x.seq + 1) % 2 ^ 16,
           last := value, flags := flags + (if x.lost then 2 else 0) + (if x.stepped then 1 else 0) }

/-- The flags added for a lost edge and for a step leave ovf as it was given. -/
theorem TicPair.reported_ovf (x : TicPair) (single gap : Bool) (value : Nat) {flags : Nat} (h : flags = 4 ∨ flags = 12) :
    (x.reported single gap value flags).flags / 4 % 2 = 1 := by
  dsimp only [TicPair.reported]
  split <;> split <;> omega

theorem TicPair.reported_st_ne (x : TicPair) (single gap : Bool) (value flags : Nat) : (x.reported single gap value flags).st ≠ 2 := by
  cases single <;> simp [TicPair.reported]

/-- Beside the report in the pair's state, a result is at most a record in the ring. -/
theorem pairResult_reports (d : Device) (p value flags : Nat) (first : Inst) : ∃ (e : Device) (gap : Bool),
    (d.fb F.TIC_RING_en = false → e = d) ∧
    pairResult d p value flags first = e.setTicPair p ((d.ticPair p).reported (e.fb (F.TIC_PAIR_CFG_single p)) gap value flags) := by
  unfold pairResult
  cases hring : d.fb F.TIC_RING_en with
  | true => exact ⟨_, _, nofun, rfl⟩
  | false => exact ⟨d, _, fun _ => rfl, rfl⟩

theorem pairOverflow_of_start {d : Device} {p : Nat} {a : TicFirst} (h : a.ch = pairStart d p) :
    pairOverflow d p a = pairResult d p 0x7FFFFFFFFFFFFFFF 4 a.stamp := by
  have forward : (!(pairStart d p == pairStop d p) && a.ch == pairStop d p) = false := by rw [h]; simp
  simp only [pairOverflow, forward, Bool.false_eq_true, if_false, Nat.add_zero]

theorem pairOverflow_of_stop {d : Device} {p : Nat} {a : TicFirst} (h : a.ch = pairStop d p) (hne : a.ch ≠ pairStart d p) :
    pairOverflow d p a = pairResult d p 0x8000000000000001 12 a.stamp := by
  have backward : (!(pairStart d p == pairStop d p) && a.ch == pairStop d p) = true := by
    rw [h] at hne ⊢
    simpa using Ne.symm hne
  simp only [pairOverflow, backward, if_true]

theorem xTicPairOverflow_of_over {d : Device} {p : Nat} {a : TicFirst} (hp : p < 4) (hopen : (d.ticPair p).st = 2)
    (hfirst : (d.ticPair p).first = some a) (hover : a.tick + (2 ^ 40 - 1) ≤ d.tm.ticks) : xTicPairOverflow p d = pairOverflow d p a := by
  simp only [xTicPairOverflow, hfirst]
  exact if_pos ⟨hp, hopen, decide_eq_true hover⟩

/-- A result whose flags include ovf is latched with it, and ends the open pair. -/
theorem ticPairOverflow_reports {s : State} {p v flags : Nat} {t : Inst} (hovf : flags = 4 ∨ flags = 12)
    (h : xTicPairOverflow p s.dev = pairResult s.dev p v flags t) : Completes (.ticPairOverflow p) s fun d =>
      (d.ticPair p).last = v ∧ (d.ticPair p).flags / 4 % 2 = 1 ∧ (d.ticPair p).first = none ∧ (d.ticPair p).st ≠ 2 ∧
      (s.dev.fb F.TIC_RING_en = false → Keeps [.tic] [] s.dev d) := by
  obtain ⟨e, gap, quiet, result⟩ := pairResult_reports s.dev p v flags t
  refine completes_of_finish (congrArg (finish s) (h.trans result)) ?_
  rw [settle_ticPair, Device.ticPair_setTicPair_self]
  refine ⟨rfl, TicPair.reported_ovf _ _ _ _ hovf, rfl, TicPair.reported_st_ne _ _ _ _ _, fun hring => ?_⟩
  rw [quiet hring]
  exact keeps_settle (keeps_setTicPair ..)

/-- Settles O26: the overflow result is that of the channel which the first edge was on. -/
theorem pairOverflows : Obligations.PairOverflows := by
  intro s p a hp hopen hfirst hover gave
  have overflows := xTicPairOverflow_of_over hp hopen hfirst hover
  exact ⟨fun hstart => ticPairOverflow_reports (.inl rfl) (overflows.trans (pairOverflow_of_start hstart)),
    fun hstop hne => ticPairOverflow_reports (.inr rfl) (overflows.trans (pairOverflow_of_stop hstop hne))⟩

end Sys2Proof.Machine
end

section
/-! SUPPORT. Edges of the time-interval counter's channels (R301, R302), and what an accepted edge does to the pair of its channel (R306,
R307). -/

namespace Sys2Proof.Machine

/-! ### Units and flags that an update leaves -/

theorem Keeps.fb {ps : List Part} {rs : List Nat} {a b : Device} (h : Keeps ps rs a b) {f : Fld} (hf : f.off ∉ rs) (hs : f.off ∉ settleRegs) :
    b.fb f = a.fb f := Device.fb_congr f (h.2 _ hf hs)

/-- A unit runs after an update that changes neither its enable word nor the stops in progress. -/
theorem Keeps.up {ps : List Part} {rs : List Nat} {a b : Device} (h : Keeps ps rs a b) (hp : Part.stopping ∉ ps) {u : UnitId}
    (hu : u.ctl ∉ rs) (hs : u.ctl ∉ settleRegs) : b.up u = a.up u := by
  have stops : a.stopping = b.stopping := h.1 .stopping hp
  rw [Device.up, Device.up, Device.stopOf, Device.stopOf, stops, h.fb (f := u.en) hu hs]

/-! ### An edge that a channel takes (R301) -/

/-- The edge of a channel that runs, with Device Time valid and a table to read its sample from. -/
structure EdgeTaken (d : Device) (n code : Nat) : Prop where
  chan : n < 8
  sample : code < 512
  running : d.up (.ticCh n) = true
  timeOk : d.dtInvalid = false
  calibrated : (d.ticCh n).serving.valid = true

theorem EdgeTaken.guard {d : Device} {n code : Nat} (h : EdgeTaken d n code) :
    ¬ (8 ≤ n ∨ 512 ≤ code ∨ ¬ d.up (.ticCh n) ∨ d.dtInvalid ∨ ¬ (d.ticCh n).serving.valid) := by
  obtain ⟨chan, sample, running, timeOk, calibrated⟩ := h
  simp [running, timeOk, calibrated]
  omega

/-- The fine term of a sample: the position of its code in the serving table, as a length. -/
def edgeFine (d : Device) (n code : Nat) : Rat := phiLen d ((d.ticCh n).serving.tbl.getD code (0, 0)).1

/-- An accepted edge as a pair holds it, DELAY taken off (R301, log entry 34). -/
def acceptedEdge (d : Device) (n code : Nat) : TicFirst :=
  let delay : Int := d.rs (R.TIC_CH_DELAY n) * (psU : Int)
  { ch := n, tick := d.tm.ticks, run := d.tm.run, fine := edgeFine d n code - (delay : Rat),
    wid := phiLen d ((d.ticCh n).serving.tbl.getD code (0, 0)).2, phi := ((d.ticCh n).serving.tbl.getD code (0, 0)).1,
    stamp := to32 (((d.now : Int) - delay : Int) + edgeFine d n code) }

/-- A code that stands for itself. -/
theorem codeOf_of_good {l : TicLine} {c : Nat} (h : (codeOf l c).1 = true) : codeOf l c = (true, c) := by
  unfold codeOf at h ⊢
  dsimp only at h ⊢
  split at h
  · next hw => exact if_pos hw
  · cases h

/-- R302: an edge that the prescaler does not pass advances its count alone. -/
theorem xTicEdge_of_prescaled {d : Device} {n code : Nat} (h : EdgeTaken d n code)
    (hpresc : (d.ticCh n).presc + 1 < 2 ^ min 6 (d.fg (F.TIC_CH_CFG_presc n))) :
    xTicEdge n code d = d.setTicCh n { d.ticCh n with presc := (d.ticCh n).presc + 1 } := by
  rw [xTicEdge]
  dsimp only
  rw [if_neg h.guard, if_pos hpresc]

theorem ticEdge_prescales (s : State) (n code : Nat) (h : EdgeTaken s.dev n code)
    (hpresc : (s.dev.ticCh n).presc + 1 < 2 ^ min 6 (s.dev.fg (F.TIC_CH_CFG_presc n))) : Completes (.ticEdge n code) s fun d =>
      d.ticCh n = { s.dev.ticCh n with presc := (s.dev.ticCh n).presc + 1 } ∧ Keeps [.tic] [] s.dev d := by
  refine completes_of_finish (congrArg (finish s) (xTicEdge_of_prescaled h hpresc)) ⟨?_, keeps_settle (keeps_setTicCh ..)⟩
  rw [settle_ticCh, Device.ticCh_setTicCh_self]

/-! ### An edge within the dead time (R302) -/

/-- The pairs of a channel note that it lost an edge. -/
def markLost (n : Nat) (d : Device) (p : Nat) : Device :=
  if n == pairStart d p || n == pairStop d p then d.setTicPair p { d.ticPair p with lost := true } else d

theorem keeps_markLost (n : Nat) (d : Device) (p : Nat) : Keeps [.tic] [] d (markLost n d p) := by
  unfold markLost
  split
  · exact keeps_setTicPair ..
  · exact keeps_refl ..

@[simp] theorem ticCh_markLost (n : Nat) (d : Device) (p m : Nat) : (markLost n d p).ticCh m = d.ticCh m := by
  unfold markLost
  split
  · exact Device.ticCh_setTicPair ..
  · rfl

/-- What a lost edge changes beside the notes of the pairs. -/
def lostEdge (d : Device) (n : Nat) : Device :=
  let d := (d.setTicCh n { d.ticCh n with presc := 0, nlost := (d.ticCh n).nlost + 1 }).cnt (K.TIC_CH_LOST n)
  d.fs (F.TIC_CH_STAT_lost n) (min 255 (d.fg (F.TIC_CH_STAT_lost n) + 1))

theorem keeps_lostEdge (d : Device) (n : Nat) : Keeps [.tic, .cnts] [R.TIC_CH_STAT n] d (lostEdge d n) := by
  have dropped := keeps_setTicCh d n { d.ticCh n with presc := 0, nlost := (d.ticCh n).nlost + 1 }
  have counted := (keeps_mono (qs := [.tic, .cnts]) (ts := [R.TIC_CH_STAT n]) dropped (by simp) (by simp)).step
    (keeps_cnt _ (K.TIC_CH_LOST n)) (by simp) (by simp)
  exact counted.fs (F.TIC_CH_STAT_lost n) _ (by simp)

theorem xTicEdge_of_dead {d : Device} {n code p : Nat} (h : EdgeTaken d n code)
    (hpresc : 2 ^ min 6 (d.fg (F.TIC_CH_CFG_presc n)) ≤ (d.ticCh n).presc + 1) (hgood : (codeOf (d.ticCh n).serving code).1 = true)
    (hlast : (d.ticCh n).lastEdge = some p) (hdead : d.tm.run + (edgeFine d n code + 1 / 2).floor.toNat < p + 3 * nsU) :
    xTicEdge n code d = (List.range 4).foldl (markLost n) (lostEdge d n) := by
  rw [xTicEdge]
  dsimp only
  rw [if_neg h.guard, if_neg (Nat.not_lt.2 hpresc), codeOf_of_good hgood]
  dsimp only
  refine if_pos ?_
  rw [hlast]
  exact decide_eq_true hdead

theorem ticEdge_loses (s : State) (n code p : Nat) (h : EdgeTaken s.dev n code)
    (hpresc : 2 ^ min 6 (s.dev.fg (F.TIC_CH_CFG_presc n)) ≤ (s.dev.ticCh n).presc + 1)
    (hgood : (codeOf (s.dev.ticCh n).serving code).1 = true) (hlast : (s.dev.ticCh n).lastEdge = some p)
    (hdead : s.dev.tm.run + (edgeFine s.dev n code + 1 / 2).floor.toNat < p + 3 * nsU) : Completes (.ticEdge n code) s fun d =>
      (d.ticCh n).nlost = (s.dev.ticCh n).nlost + 1 ∧ Counted (K.TIC_CH_LOST n) s.dev d ∧
      Keeps [.tic, .cnts] [R.TIC_CH_STAT n] s.dev d := by
  have ends := xTicEdge_of_dead h hpresc hgood hlast hdead
  have marks := keeps_foldl (keeps_markLost n) (List.range 4) (lostEdge s.dev n)
  have chans := foldl_keep (fun d : Device => d.ticCh n) (markLost n) (fun d p => ticCh_markLost n d p n) (List.range 4) (lostEdge s.dev n)
  refine completes_of_finish (congrArg (finish s) ends) ⟨?_, counted_settle fun j => ?_, keeps_settle ?_⟩
  · rw [settle_ticCh, chans]
    exact congrArg TicCh.nlost (Device.ticCh_setTicCh_self s.dev n _)
  · have counts : (lostEdge s.dev n).cnts = _ := marks.1 .cnts (by simp)
    rw [Device.cntOf, ← counts]
    exact counted_cnt (s.dev.setTicCh n _) (K.TIC_CH_LOST n) j
  · exact (keeps_lostEdge ..).step marks (by simp) (by simp)

/-! ### An accepted edge (R302, R303) -/

/-- A reference slot whose source is the channel takes its edge as a comparison. -/
def edgeToSlot (n : Nat) (t : Inst) (d : Device) (r : Nat) : Device :=
  if (refType d r == 2 || refType d r == 3) && refEn d r && d.fg (F.REF_CFG_src r) == n then refEdge d r t else d

theorem edgeToSlot_of_disabled {d : Device} {r : Nat} (n : Nat) (t : Inst) (h : refEn d r = false) : edgeToSlot n t d r = d := by
  simp [edgeToSlot, h]

/-- With no ring to send records to, an event leaves the block alone. -/
theorem ticEvent_of_quiet {d : Device} (n code phi : Nat) (t : Inst) (h : d.fb F.TIC_RING_en = false) : ticEvent d n code phi t = d := by
  simp [ticEvent, h]

/-- The channel after an accepted edge. -/
def edgeStamped (d : Device) (n code : Nat) : Device :=
  d.setTicCh n { d.ticCh n with presc := 0, lastEdge := some (d.tm.run + (d.now + (edgeFine d n code + 1 / 2).floor.toNat - d.now)) }

/-- An edge outside the dead time goes to the pairs and to the slots. -/
theorem xTicEdge_of_accepted {d : Device} {n code : Nat} (h : EdgeTaken d n code)
    (hpresc : 2 ^ min 6 (d.fg (F.TIC_CH_CFG_presc n)) ≤ (d.ticCh n).presc + 1) (hgood : (codeOf (d.ticCh n).serving code).1 = true)
    (hlive : ∀ p, (d.ticCh n).lastEdge = some p → p + 3 * nsU ≤ d.tm.run + (edgeFine d n code + 1 / 2).floor.toNat)
    (hquiet : d.fb F.TIC_RING_en = false) : xTicEdge n code d = (List.range 32).foldl (edgeToSlot n (acceptedEdge d n code).stamp)
      ((List.range 4).foldl (pairEdge (acceptedEdge d n code)) (edgeStamped d n code)) := by
  rw [← ticEvent_of_quiet n code (acceptedEdge d n code).phi (acceptedEdge d n code).stamp (d := edgeStamped d n code) hquiet, xTicEdge]
  dsimp only
  rw [if_neg h.guard, if_neg (Nat.not_lt.2 hpresc), codeOf_of_good hgood]
  refine if_neg ?_
  cases hlast : (d.ticCh n).lastEdge with
  | none => exact Bool.false_ne_true
  | some t => exact fun dead => Nat.not_lt.2 (hlive t hlast) (of_decide_eq_true dead)

/-- An accepted edge with one pair running and no slot enabled is that pair's step. -/
theorem xTicEdge_of_pair {d : Device} {n code p : Nat} (h : EdgeTaken d n code)
    (hpresc : 2 ^ min 6 (d.fg (F.TIC_CH_CFG_presc n)) ≤ (d.ticCh n).presc + 1) (hgood : (codeOf (d.ticCh n).serving code).1 = true)
    (hlive : ∀ p, (d.ticCh n).lastEdge = some p → p + 3 * nsU ≤ d.tm.run + (edgeFine d n code + 1 / 2).floor.toNat)
    (hquiet : d.fb F.TIC_RING_en = false) (hslots : ∀ r, r < 32 → refEn d r = false) (hp : p < 4)
    (hothers : ∀ q, q < 4 → q ≠ p → d.up (.ticPair q) = false)
    (hkeeps : Keeps [.tic, .mon] [] (edgeStamped d n code) (pairEdge (acceptedEdge d n code) (edgeStamped d n code) p)) :
    xTicEdge n code d = pairEdge (acceptedEdge d n code) (edgeStamped d n code) p := by
  have idle (e : Device) (q : Nat) (hq : e.up (.ticPair q) = false) : pairEdge (acceptedEdge d n code) e q = e := by
    simp [pairEdge, hq]
  have pairs : (List.range 4).foldl (pairEdge (acceptedEdge d n code)) (edgeStamped d n code) =
      pairEdge (acceptedEdge d n code) (edgeStamped d n code) p := by
    refine foldl_range_of_only hp (fun q hq ho => idle _ q (hothers q hq ho)) fun q hq ho => idle _ q ?_
    rw [hkeeps.up (u := .ticPair q) (by simp) (by simp) (ticPairCfg_not_settle hq)]
    exact hothers q hq ho
  rw [xTicEdge_of_accepted h hpresc hgood hlive hquiet, pairs]
  refine foldl_of_fixed fun r hr => edgeToSlot_of_disabled _ _ ?_
  have hr := List.mem_range.1 hr
  exact (hkeeps.fb (f := F.REF_CFG_en r) (by simp) (refCfg_not_settle hr)).trans (hslots r hr)

/-! ### Opening and closing a pair (R306, R307) -/

theorem pairEdge_of_armed {d : Device} {e : TicFirst} {p : Nat} (hup : d.up (.ticPair p) = true)
    (hch : pairStart d p = e.ch ∨ pairStop d p = e.ch) (hst : (d.ticPair p).st = 1) (hfirst : (d.ticPair p).first = none) :
    pairEdge e d p = d.setTicPair p { d.ticPair p with st := 2, first := some e } := by
  have guard : (!d.up (.ticPair p) || !(e.ch == pairStart d p || e.ch == pairStop d p)) = false := by
    rcases hch with h | h <;> simp [hup, h]
  simp only [pairEdge, guard, hfirst, hst, Bool.false_eq_true, if_false]

theorem pairEdge_of_open {d : Device} {e a : TicFirst} {p : Nat} (hup : d.up (.ticPair p) = true) (hst : (d.ticPair p).st = 2)
    (hfirst : (d.ticPair p).first = some a) (hover : pairIsOver d a = false) (hstop : pairStop d p = e.ch) (hne : a.ch ≠ e.ch)
    (htick : a.tick ≠ e.tick) : pairEdge e d p = pairClose d p a e := by
  have guard : (!d.up (.ticPair p) || !(e.ch == pairStart d p || e.ch == pairStop d p)) = false := by simp [hup, hstop]
  have other : (e.ch == a.ch && !(pairStart d p == pairStop d p)) = false := by simp [Ne.symm hne]
  have later : ¬ (e.tick = a.tick ∧ e.phi < a.phi) := fun h => htick h.1.symm
  simp only [pairEdge, guard, hfirst, hover, hst, other, later, Bool.false_eq_true, if_false]

theorem le_absQ (q : Rat) : q ≤ absQ q := by
  unfold absQ
  split
  · next neg =>
    have pos : 0 ≤ -q := by simpa only [Rat.neg_zero] using Rat.neg_le_neg (Rat.le_of_lt neg)
    exact Rat.le_trans (Rat.le_of_lt neg) pos
  · exact Rat.le_refl

/-- From the start channel to the stop channel, over at least a bin: the value is the interval itself, and no flag tells of it. -/
theorem pairClose_of_forward {d : Device} {p : Nat} {a b : TicFirst} (hstop : a.ch ≠ pairStop d p)
    (hwide : max a.wid b.wid ≤ interval a b) : pairClose d p a b =
      pairResult (monFeed d 9 p p (roundQ (interval a b / (psU : Rat)))) p (unsigned 64 (roundQ (interval a b / (subU : Rat)))) 0 a.stamp := by
  have forward : (!(pairStart d p == pairStop d p) && a.ch == pairStop d p) = false := by simp [hstop]
  have wide : decide (absQ (interval a b) < max a.wid b.wid) = false := decide_eq_false (Rat.not_lt.2 (Rat.le_trans hwide (le_absQ _)))
  simp only [pairClose, forward, wide, Bool.false_eq_true, if_false, Bool.false_and, Nat.add_zero]

theorem pairClose_reports {d : Device} {p : Nat} {a b : TicFirst} (hp : p < 4) (hquiet : d.fb F.TIC_RING_en = false)
    (hstop : a.ch ≠ pairStop d p) (hwide : max a.wid b.wid ≤ interval a b) : ∃ (e : Device) (gap : Bool),
      (∀ x, Keeps [.tic, .mon] [] d (e.setTicPair p x)) ∧ pairClose d p a b = e.setTicPair p ((d.ticPair p).reported (d.fb (F.TIC_PAIR_CFG_single p)) gap
        (unsigned 64 (roundQ (interval a b / (subU : Rat)))) 0) := by
  rw [pairClose_of_forward hstop hwide]
  have fed := keeps_monFeed d 9 p p (roundQ (interval a b / (psU : Rat)))
  generalize monFeed d 9 p p (roundQ (interval a b / (psU : Rat))) = e at fed ⊢
  obtain ⟨e', gap, quiet, result⟩ := pairResult_reports e p (unsigned 64 (roundQ (interval a b / (subU : Rat)))) 0 a.stamp
  have same : e' = e := quiet ((fed.fb (by simp) (by decide)).trans hquiet)
  have tic : d.tic = e.tic := fed.1 .tic (by simp)
  refine ⟨e, gap, fun x => (keeps_mono fed (by simp) (by simp)).step (keeps_setTicPair ..) (by simp) (by simp), ?_⟩
  rw [result, same, fed.fb (f := F.TIC_PAIR_CFG_single p) (by simp) (ticPairCfg_not_settle hp), Device.ticPair_congr (congrArg Tic.pairs tic)]

section
variable {s : State} {n code p : Nat} (h : EdgeTaken s.dev n code)
  (hpresc : 2 ^ min 6 (s.dev.fg (F.TIC_CH_CFG_presc n)) ≤ (s.dev.ticCh n).presc + 1)
  (hgood : (codeOf (s.dev.ticCh n).serving code).1 = true)
  (hlive : ∀ t, (s.dev.ticCh n).lastEdge = some t → t + 3 * nsU ≤ s.dev.tm.run + (edgeFine s.dev n code + 1 / 2).floor.toNat)
  (hquiet : s.dev.fb F.TIC_RING_en = false) (hslots : ∀ r, r < 32 → refEn s.dev r = false) (hp : p < 4)
  (hup : s.dev.up (.ticPair p) = true) (hothers : ∀ q, q < 4 → q ≠ p → s.dev.up (.ticPair q) = false)
include h hpresc hgood hlive hquiet hslots hp hup hothers

/-- R306: the accepted edge opens the armed pair. -/
theorem ticEdge_opens (hch : pairStart s.dev p = n ∨ pairStop s.dev p = n) (hst : (s.dev.ticPair p).st = 1)
    (hfirst : (s.dev.ticPair p).first = none) : Completes (.ticEdge n code) s fun d =>
      d.ticPair p = { s.dev.ticPair p with st := 2, first := some (acceptedEdge s.dev n code) } ∧ Keeps [.tic] [] s.dev d := by
  have opens := pairEdge_of_armed (d := edgeStamped s.dev n code) (e := acceptedEdge s.dev n code) hup hch hst hfirst
  have ends := xTicEdge_of_pair h hpresc hgood hlive hquiet hslots hp hothers
    (opens ▸ keeps_mono (keeps_setTicPair ..) (by simp) (by simp))
  refine completes_of_finish (congrArg (finish s) (ends.trans opens)) ⟨?_, ?_⟩
  · rw [settle_ticPair, Device.ticPair_setTicPair_self, edgeStamped, Device.ticPair_setTicCh]
  · exact keeps_settle (keeps_trans (keeps_setTicCh ..) (keeps_setTicPair ..))

/-- R307: the edge of the stop channel closes the pair that the start channel opened, with the interval between them. -/
theorem ticEdge_closes {a : TicFirst} (hst : (s.dev.ticPair p).st = 2) (hfirst : (s.dev.ticPair p).first = some a)
    (hover : pairIsOver s.dev a = false) (hstop : pairStop s.dev p = n) (hne : a.ch ≠ n)
    (htick : a.tick ≠ s.dev.tm.ticks) (hwide : max a.wid (acceptedEdge s.dev n code).wid ≤ interval a (acceptedEdge s.dev n code)) :
    Completes (.ticEdge n code) s fun d =>
      (d.ticPair p).last = unsigned 64 (roundQ (interval a (acceptedEdge s.dev n code) / (subU : Rat))) ∧
      (d.ticPair p).st = (if s.dev.fb (F.TIC_PAIR_CFG_single p) then 0 else 1) ∧ (d.ticPair p).first = none ∧
      Keeps [.tic, .mon] [] s.dev d := by
  have closes := pairEdge_of_open (d := edgeStamped s.dev n code) (e := acceptedEdge s.dev n code) hup hst hfirst hover hstop hne htick
  obtain ⟨e, gap, kept, result⟩ := pairClose_reports (d := edgeStamped s.dev n code) hp hquiet (hstop.symm ▸ hne) hwide
  have closed := closes.trans result
  have ends := xTicEdge_of_pair h hpresc hgood hlive hquiet hslots hp hothers (closed ▸ kept _)
  refine completes_of_finish (congrArg (finish s) (ends.trans closed)) ?_
  rw [settle_ticPair, Device.ticPair_setTicPair_self]
  exact ⟨rfl, rfl, rfl, keeps_settle (keeps_trans (keeps_mono (keeps_setTicCh ..) (by simp) (by simp)) (kept _))⟩

end

end Sys2Proof.Machine
end

section
/-! SUPPORT. Enabling pairs and channels (R312, R322), and the calibration of a channel's lines (R310, R311). -/

namespace Sys2Proof.Machine

/-! ### Enabling (R312, R322) -/

/-- A unit's enable word once it is enabled. -/
theorem enabled_flags (d : Device) (u : UnitId) :
    ((d.set1 u.en).clr u.drained).fb u.en = true ∧ ((d.set1 u.en).clr u.drained).fb u.drained = false := by
  constructor
  · exact (Device.fb_fsb_disj _ u.drained u.en false rfl (by simp [UnitId.drained]) (by simp [UnitId.drained, UnitId.en])).trans
      (Device.fb_fsb d u.en true (by simp [UnitId.en]) (by simp [UnitId.en]))
  · exact Device.fb_clr _ u.drained (by simp [UnitId.drained])

theorem keeps_enabled (d : Device) {u : UnitId} {rs : List Nat} (h : u.ctl ∈ rs) : Keeps [] rs d ((d.set1 u.en).clr u.drained) :=
  ((keeps_refl ..).fs u.en 1 h).fs u.drained 0 h

theorem xTicPairEnable_of_disabled {d : Device} {p : Nat} (hp : p < 4) (hoff : d.fb (UnitId.ticPair p).en = false) :
    xTicPairEnable p d = ((d.set1 (UnitId.ticPair p).en).clr (UnitId.ticPair p).drained).setTicPair p
      { d.ticPair p with st := 1, first := none, lost := false, stepped := false } := by
  have guard : ¬ (4 ≤ p ∨ d.fb (UnitId.ticPair p).en = true) := by
    simp [hoff]
    omega
  rw [xTicPairEnable, if_neg guard]
  simp only [Device.ticPair_set1, Device.ticPair_clr]

/-- R322: setting en arms the pair. -/
theorem ticPairEnable_arms (s : State) (p : Nat) (hp : p < 4) (hon : Reach s (R.TIC_PAIR_CFG p))
    (hoff : s.dev.fb (UnitId.ticPair p).en = false) : Completes (.ticPairEnable p) s fun d =>
      d.fb (UnitId.ticPair p).en = true ∧ d.fb (UnitId.ticPair p).drained = false ∧ (d.ticPair p).st = 1 ∧ (d.ticPair p).first = none ∧
      Keeps [.tic] [R.TIC_PAIR_CFG p] s.dev d := by
  have ends := xTicPairEnable_of_disabled hp hoff
  obtain ⟨en, drained⟩ := enabled_flags s.dev (.ticPair p)
  refine completes_of_finish (congrArg (finish s) ((hostWrite_of_reach _ hon).trans ends)) ?_
  rw [settle_ticPair, Device.ticPair_setTicPair_self]
  refine ⟨?_, ?_, rfl, rfl, keeps_settle ?_⟩
  · rw [settle_fb _ _ (ticPairCfg_not_settle hp), Device.fb_setTicPair, en]
  · rw [settle_fb _ _ (ticPairCfg_not_settle hp), Device.fb_setTicPair, drained]
  · have words := keeps_enabled s.dev (u := .ticPair p) (rs := [R.TIC_PAIR_CFG p]) (List.mem_singleton.2 rfl)
    exact (keeps_mono words (by simp) (List.Subset.refl _)).step (keeps_setTicPair ..) (by simp) (by simp)

theorem xTicChannelEnable_of_calibrated {d : Device} {n : Nat} (hn : n < 8) (hoff : d.fb (UnitId.ticCh n).en = false)
    (htable : (d.ticCh n).a.valid = true) (hstop : d.stopOf (.ticCh n) = none) :
    xTicChannelEnable n d = ((d.set1 (UnitId.ticCh n).en).clr (UnitId.ticCh n).drained).setTicCh n
      { d.ticCh n with presc := 0, decCount := 0, lastEdge := none, stepped := false } := by
  have guard : ¬ (8 ≤ n ∨ d.fb (UnitId.ticCh n).en = true ∨ (!(d.ticCh n).a.valid && !(d.ticCh n).b.valid) = true) := by
    simp [hoff, htable]
    omega
  have stopped : ((d.set1 (UnitId.ticCh n).en).stopOf (.ticCh n)).isSome = false := by
    rw [Device.stopOf, Device.set1_stopping, ← Device.stopOf, hstop]
    rfl
  rw [xTicChannelEnable]
  dsimp only
  rw [if_neg guard, stopped]
  rfl

/-- R312: setting en starts a channel with a valid table. -/
theorem ticChannelEnable_starts (s : State) (n : Nat) (hn : n < 8) (hon : Reach s (R.TIC_CH_CFG n))
    (hoff : s.dev.fb (UnitId.ticCh n).en = false) (htable : (s.dev.ticCh n).a.valid = true) (hstop : s.dev.stopOf (.ticCh n) = none) :
    Completes (.ticChannelEnable n) s fun d =>
      d.fb (UnitId.ticCh n).en = true ∧ d.fb (UnitId.ticCh n).drained = false ∧ (d.ticCh n).lastEdge = none ∧
      Keeps [.tic] [R.TIC_CH_CFG n] s.dev d := by
  have ends := xTicChannelEnable_of_calibrated hn hoff htable hstop
  obtain ⟨en, drained⟩ := enabled_flags s.dev (.ticCh n)
  refine completes_of_finish (congrArg (finish s) ((hostWrite_of_reach _ hon).trans ends)) ?_
  rw [settle_ticCh, Device.ticCh_setTicCh_self]
  refine ⟨?_, ?_, rfl, keeps_settle ?_⟩
  · rw [settle_fb _ _ (ticChCfg_not_settle hn), Device.fb_setTicCh, en]
  · rw [settle_fb _ _ (ticChCfg_not_settle hn), Device.fb_setTicCh, drained]
  · have words := keeps_enabled s.dev (u := .ticCh n) (rs := [R.TIC_CH_CFG n]) (List.mem_singleton.2 rfl)
    exact (keeps_mono words (by simp) (List.Subset.refl _)).step (keeps_setTicCh ..) (by simp) (by simp)

/-- R312: of a channel without a valid table the write is ignored. -/
theorem ticChannelEnable_ignored (s : State) (n : Nat) (hon : Reach s (R.TIC_CH_CFG n)) (ha : (s.dev.ticCh n).a.valid = false)
    (hb : (s.dev.ticCh n).b.valid = false) : Completes (.ticChannelEnable n) s (Keeps [] [] s.dev) := by
  have ends : xTicChannelEnable n s.dev = s.dev := if_pos (.inr (.inr (by simp [ha, hb])))
  exact completes_of_finish (congrArg (finish s) ((hostWrite_of_reach _ hon).trans ends)) (keeps_settle (keeps_refl ..))

/-! ### A cycle begins (R311) -/

/-- A channel's calibration begins with its first line. -/
def stageOne (d : Device) (n : Nat) : Device := d.setTicCh n { d.ticCh n with stage := 1 }

theorem ticCh_stageOne (k m : Nat) (d : Device) :
    ((List.range k).foldl stageOne d).ticCh m = if m < k then { d.ticCh m with stage := 1 } else d.ticCh m := by
  induction k with
  | zero => rfl
  | succ k ih =>
    rw [List.range_succ, List.foldl_append, List.foldl_cons, List.foldl_nil, stageOne, Device.ticCh_setTicCh]
    by_cases hm : m = k
    · subst hm
      rw [if_pos rfl, ih, if_neg (Nat.lt_irrefl m), if_pos (Nat.lt_succ_self m)]
    · rw [if_neg hm, ih]
      have below : m < k + 1 ↔ m < k := by omega
      simp only [below]

theorem keeps_stageOne (k : Nat) (d : Device) : Keeps [.tic] [] d ((List.range k).foldl stageOne d) :=
  keeps_foldl (fun d n => keeps_setTicCh d n _) _ d

/-- What a cycle that begins changes beside the stages. -/
def startCycle (d : Device) : Device :=
  { d.set1 F.TIC_STATUS_cal_busy with tic := { d.tic with calStart := some d.tm.osc, abortAt := none } }

theorem calBegin_eq (d : Device) : calBegin d = startCycle ((List.range 9).foldl stageOne d) := by
  unfold calBegin stageOne
  rfl

theorem keeps_startCycle (d : Device) : Keeps [.tic] [R.TIC_STATUS] d (startCycle d) :=
  Keeps.step (keeps_mono (keeps_fs d (f := F.TIC_STATUS_cal_busy) 1 (List.mem_singleton.2 rfl)) (by simp) (List.Subset.refl _))
    (keeps_tic (d.set1 F.TIC_STATUS_cal_busy) _) (by simp) (by simp)

theorem calBusy_startCycle (d : Device) : calBusy (startCycle d) = true := by
  have word : (startCycle d).fb F.TIC_STATUS_cal_busy = (d.set1 F.TIC_STATUS_cal_busy).fb F.TIC_STATUS_cal_busy :=
    Device.fb_congr _ (Device.rd_congr rfl _)
  rw [calBusy, word]
  exact Device.fb_fsb d F.TIC_STATUS_cal_busy true (by simp) (by simp)

@[simp] theorem ticCh_startCycle (d : Device) (n : Nat) : (startCycle d).ticCh n = d.ticCh n := Device.ticCh_congr rfl n

/-- A cycle that begins in a block equal to `a` but for the counter's own state. -/
theorem began_of_calBegin {a d : Device} (hkeeps : Keeps [.tic] [] a d) :
    (∀ n, n < 9 → ((settle (calBegin d)).ticCh n).stage = 1) ∧ calBusy (settle (calBegin d)) = true ∧
      (settle (calBegin d)).tic.calStart = some a.tm.osc ∧ Keeps [.tic] [R.TIC_STATUS] a (settle (calBegin d)) := by
  have stage (n : Nat) := ticCh_stageOne 9 n d
  have staged := keeps_trans hkeeps (keeps_stageOne 9 d)
  rw [calBegin_eq]
  generalize (List.range 9).foldl stageOne d = e at stage staged
  have time : a.tm = e.tm := staged.1 .tm (by simp)
  refine ⟨fun n hn => ?_, ?_, ?_, keeps_settle ?_⟩
  · rw [settle_ticCh, ticCh_startCycle, stage, if_pos hn]
  · rw [calBusy, settle_fb _ _ (not_settleReg_of_tic (by decide) (by decide))]
    exact calBusy_startCycle e
  · rw [settle_tic, time]
    rfl
  · exact (keeps_mono staged (by simp) (by simp)).step (keeps_startCycle e) (by simp) (List.Subset.refl _)

theorem xTicCalAuto_of_due {d : Device} {t : Nat} (temp : Int) (hidle : calBusy d = false) (hauto : d.fb F.TIC_CAL_CTL_auto = true)
    (hperiod : d.fg F.TIC_CAL_CTL_period ≠ 0) (hstart : d.tic.calStart = some t)
    (hdue : t + max 60 (d.fg F.TIC_CAL_CTL_period) * 800000000 ≤ d.tm.osc) :
    xTicCalAuto temp d = calBegin { d with tic := { d.tic with lastTemp := some temp } } := by
  refine if_pos ⟨hauto, by simp [hidle], .inl ⟨hperiod, ?_⟩⟩
  rw [hstart]
  exact decide_eq_true hdue

/-- R311: by command. -/
theorem ticCalStart_begins (s : State) (hidle : calBusy s.dev = false) (hon : Reach s R.TIC_CAL_CTL) : Completes .ticCalStart s fun d =>
    (∀ n, n < 9 → (d.ticCh n).stage = 1) ∧ calBusy d = true ∧ d.tic.calStart = some s.dev.tm.osc ∧ Keeps [.tic] [R.TIC_STATUS] s.dev d := by
  have ends : xTicCalStart s.dev = calBegin s.dev := if_neg (by simp [hidle])
  exact completes_of_finish (congrArg (finish s) ((hostWrite_of_reach _ hon).trans ends)) (began_of_calBegin (keeps_refl ..))

/-- R311: when the period has passed. -/
theorem ticCalAuto_begins (s : State) (temp : Int) (t : Nat) (hidle : calBusy s.dev = false) (hauto : s.dev.fb F.TIC_CAL_CTL_auto = true)
    (hperiod : s.dev.fg F.TIC_CAL_CTL_period ≠ 0) (hstart : s.dev.tic.calStart = some t)
    (hdue : t + max 60 (s.dev.fg F.TIC_CAL_CTL_period) * 800000000 ≤ s.dev.tm.osc) : Completes (.ticCalAuto temp) s fun d =>
      (∀ n, n < 9 → (d.ticCh n).stage = 1) ∧ calBusy d = true ∧ d.tic.calStart = some s.dev.tm.osc ∧
      Keeps [.tic] [R.TIC_STATUS] s.dev d :=
  completes_of_finish (congrArg (finish s) (xTicCalAuto_of_due temp hidle hauto hperiod hstart hdue))
    (began_of_calBegin (keeps_tic ..))

/-! ### A line is calibrated (R310) -/

/-- The end of a cycle shows in cal_busy alone, and no channel changes with it. -/
theorem calMaybeEnd_cases (d : Device) :
    calMaybeEnd d = d ∨ ∃ t : Tic, t.chans = d.tic.chans ∧ calMaybeEnd d = { d.clr F.TIC_STATUS_cal_busy with tic := t } := by
  unfold calMaybeEnd
  split
  · exact .inr ⟨{ d.tic with calDone := some d.tm.osc }, rfl, rfl⟩
  · exact .inl rfl

@[simp] theorem ticCh_calMaybeEnd (d : Device) (n : Nat) : (calMaybeEnd d).ticCh n = d.ticCh n := by
  rcases calMaybeEnd_cases d with h | ⟨t, ht, h⟩
  · rw [h]
  · rw [h]
    exact Device.ticCh_congr ht n

theorem keeps_calMaybeEnd (d : Device) : Keeps [.tic] [R.TIC_STATUS] d (calMaybeEnd d) := by
  rcases calMaybeEnd_cases d with h | ⟨t, -, h⟩
  · rw [h]
    exact keeps_refl ..
  · rw [h]
    exact Keeps.step (keeps_mono (keeps_fs d (f := F.TIC_STATUS_cal_busy) 0 (List.mem_singleton.2 rfl)) (by simp) (List.Subset.refl _))
      (keeps_tic _ t) (by simp) (by simp)

/-- A field that is not cal_busy. -/
theorem fg_calMaybeEnd (d : Device) (f : Fld) (hf : f.off = R.TIC_STATUS → 1 ≤ f.lo) : (calMaybeEnd d).fg f = d.fg f := by
  rcases calMaybeEnd_cases d with h | ⟨t, -, h⟩
  · rw [h]
  · have shown : (calMaybeEnd d).fg f = (d.clr F.TIC_STATUS_cal_busy).fg f := by
      rw [h]
      exact Device.fg_congr f (Device.rd_congr rfl _)
    rw [shown]
    by_cases ho : f.off = R.TIC_STATUS
    · exact Device.fg_fs_disj d _ _ 0 ho (by simp) (.inl (hf ho))
    · exact Device.fg_fs_off d _ _ 0 ho

theorem keeps_calFail (d : Device) (n : Nat) (onB : Bool) (err : Nat) : Keeps [] [R.TIC_STATUS, R.TIC_CAL_STATUS] d (calFail d n onB err) :=
  ((((keeps_refl ..).fs F.TIC_CAL_STATUS_err err (by simp)).fs F.TIC_CAL_STATUS_chan n (by simp)).fs F.TIC_CAL_STATUS_line _ (by simp)).fs
    F.TIC_STATUS_cal_fail 1 (by simp)

/-- A failure code fits its field. -/
theorem calCheck_lt (hits : List Nat) : calCheck hits < 8 := by
  unfold calCheck
  dsimp only
  repeat' split
  all_goals decide

/-- The failure shown in the registers. -/
theorem calFail_fields (d : Device) {n err : Nat} (onB : Bool) (hn : n < 9) (herr : err < 8) :
    (calFail d n onB err).fg F.TIC_CAL_STATUS_err = err ∧ (calFail d n onB err).fg F.TIC_CAL_STATUS_chan = n ∧
      (calFail d n onB err).fg F.TIC_STATUS_cal_fail = 1 := by
  have chan : n % 16 = n := Nat.mod_eq_of_lt (by omega)
  have code : err % 8 = err := Nat.mod_eq_of_lt herr
  have other {f : Fld} (hf : f.off = R.TIC_CAL_STATUS) : f.off ≠ F.TIC_STATUS_cal_fail.off := by
    rw [hf]
    decide
  refine ⟨?_, ?_, ?_⟩
  · rw [calFail, Device.set1, Device.fg_fs_off _ _ _ _ (other rfl), Device.fsb,
      Device.fg_fs_disj _ F.TIC_CAL_STATUS_line F.TIC_CAL_STATUS_err _ rfl (by decide) (by decide),
      Device.fg_fs_disj _ F.TIC_CAL_STATUS_chan F.TIC_CAL_STATUS_err _ rfl (by decide) (by decide), Device.fg_fs _ _ _ (by decide)]
    exact code
  · rw [calFail, Device.set1, Device.fg_fs_off _ _ _ _ (other rfl), Device.fsb,
      Device.fg_fs_disj _ F.TIC_CAL_STATUS_line F.TIC_CAL_STATUS_chan _ rfl (by decide) (by decide), Device.fg_fs _ _ _ (by decide)]
    exact chan
  · exact Device.fg_fs _ F.TIC_STATUS_cal_fail 1 (by decide)

/-- The block once a channel's line has taken its edges at a temperature. -/
def lineTaken (d : Device) (temp : Int) (n : Nat) (c : TicCh) : Device :=
  ({ d with tic := { d.tic with lastTemp := some temp } } : Device).setTicCh n c

theorem keeps_lineTaken (d : Device) (temp : Int) (n : Nat) (c : TicCh) : Keeps [.tic] [] d (lineTaken d temp n c) :=
  keeps_trans (keeps_tic ..) (keeps_setTicCh ..)

@[simp] theorem ticCh_lineTaken (d : Device) (temp : Int) (n : Nat) (c : TicCh) : (lineTaken d temp n c).ticCh n = c :=
  Device.ticCh_setTicCh_self ..

section
variable {n : Nat} {hits : List Nat}

theorem lineCal_guard {d : Device} (hn : n < 9) (hstage : (d.ticCh n).stage = 1) (hlen : hits.length = 512)
    (hsum : sumOf id hits = 2 ^ 22) : ¬ (9 ≤ n ∨ (d.ticCh n).stage = 0 ∨ hits.length ≠ 512 ∨ sumOf id hits ≠ calM) := by
  simp [hstage, hlen, hsum, calM]
  omega

theorem xTicLineCalDone_of_failed {d : Device} (temp : Int) (hn : n < 9) (hstage : (d.ticCh n).stage = 1) (hlen : hits.length = 512)
    (hsum : sumOf id hits = 2 ^ 22) (hcheck : calCheck hits ≠ 0) : ∃ onB, xTicLineCalDone n hits temp d =
      calMaybeEnd (calFail (lineTaken d temp n { d.ticCh n with stage := 0 }) n onB (calCheck hits)) := by
  refine ⟨calLine (d.ticCh n), ?_⟩
  rw [xTicLineCalDone]
  dsimp only
  rw [if_neg (lineCal_guard hn hstage hlen hsum), if_pos hcheck]
  rfl

/-- A channel whose standby line has taken a table, and serves by it. -/
def TicCh.switched (c : TicCh) (l : TicLine) : TicCh :=
  { (if c.onB then { c with a := l } else { c with b := l } : TicCh) with onB := !c.onB, stage := 2 }

/-- The standby line takes the table, and the channel goes on from its first stage. -/
theorem TicCh.taken_eq_switched {c : TicCh} (l : TicLine) (h : c.stage = 1) :
    (let x := if !c.onB then { c with b := l } else { c with a := l }
     if x.stage = 1 then { x with onB := !c.onB, stage := 2 } else { x with stage := 0 }) = c.switched l := by
  unfold TicCh.switched
  cases c.onB with
  | false => exact if_pos h
  | true => exact if_pos h

theorem TicCh.serving_switched (c : TicCh) (l : TicLine) : (c.switched l).serving = l := by
  unfold TicCh.switched TicCh.serving
  cases c.onB <;> rfl

theorem xTicLineCalDone_of_passed {d : Device} (temp : Int) (hn : n < 9) (hstage : (d.ticCh n).stage = 1)
    (hserves : (d.ticCh n).serving.valid = true) (hlen : hits.length = 512) (hsum : sumOf id hits = 2 ^ 22) (hcheck : calCheck hits = 0) :
    ∃ l : TicLine, l.valid = true ∧ l.tbl = calTable (2 ^ 22) 0 hits ∧ xTicLineCalDone n hits temp d =
      calMaybeEnd (showLines (lineTaken d temp n ((d.ticCh n).switched l)) n) := by
  have line : calLine (d.ticCh n) = !(d.ticCh n).onB := by
    rw [calLine, if_neg (by omega), if_pos hserves]
  refine ⟨{ valid := true, tbl := calTable calM 0 hits, used := usedCodes hits, sec := d.nowSec % 2 ^ 32, temp }, rfl, rfl, ?_⟩
  rw [xTicLineCalDone]
  dsimp only
  rw [if_neg (lineCal_guard hn hstage hlen hsum), if_neg (fun h => h hcheck), line]
  exact congrArg (fun c => calMaybeEnd (showLines (lineTaken d temp n c) n)) (TicCh.taken_eq_switched _ hstage)

theorem keeps_showLines (d : Device) {n : Nat} {rs : List Nat} (hstatus : R.TIC_STATUS ∈ rs) (hstat : n < 8 → R.TIC_CH_STAT n ∈ rs) :
    Keeps [] rs d (showLines d n) := by
  have valid := keeps_fs d (f := F.TIC_STATUS_valid) (putBits (d.fg F.TIC_STATUS_valid) n 1 (if (d.ticCh n).serving.valid then 1 else 0)) hstatus
  unfold showLines
  dsimp only
  split
  · next hn => exact ((valid.fs (F.TIC_CH_STAT_line n) _ (hstat hn)).fs (F.TIC_CH_STAT_va n) _ (hstat hn)).fs (F.TIC_CH_STAT_vb n) _ (hstat hn)
  · exact valid

@[simp] theorem ticCh_showLines (d : Device) (n m : Nat) : (showLines d n).ticCh m = d.ticCh m :=
  Device.ticCh_congr (congrArg Tic.chans ((keeps_showLines (rs := [R.TIC_STATUS, R.TIC_CH_STAT n]) d (by simp) (by simp)).1 .tic (by simp)).symm) m

/-- A channel that serves by a valid table shows it. -/
theorem testBit_showLines {d : Device} (hn : n < 9) (h : (d.ticCh n).serving.valid = true) :
    ((showLines d n).fg F.TIC_STATUS_valid).testBit n = true := by
  have put : ((d.fs F.TIC_STATUS_valid (putBits (d.fg F.TIC_STATUS_valid) n 1 1)).fg F.TIC_STATUS_valid).testBit n = true := by
    rw [Device.fg_fs _ _ _ (by simp), Nat.testBit_mod_two_pow, putBits_testBit]
    simp [hn]
  unfold showLines
  dsimp only
  rw [h, if_pos rfl]
  split
  · have other : R.TIC_STATUS ≠ R.TIC_CH_STAT n := by unfold R.TIC_STATUS R.TIC_CH_STAT; omega
    simp only [Device.fsb]
    rw [Device.fg_fs_off _ _ _ _ other, Device.fg_fs_off _ _ _ _ other, Device.fg_fs_off _ _ _ _ other]
    exact put
  · exact put

/-- R310: hits that pass the checks become the line's table, and that line serves. -/
theorem ticLineCalDone_passes (s : State) (temp : Int) (hn : n < 9) (hstage : (s.dev.ticCh n).stage = 1)
    (hserves : (s.dev.ticCh n).serving.valid = true) (hlen : hits.length = 512) (hsum : sumOf id hits = 2 ^ 22) (hcheck : calCheck hits = 0) :
    Completes (.ticLineCalDone n hits temp) s fun d =>
      (d.ticCh n).onB = !(s.dev.ticCh n).onB ∧ (d.ticCh n).serving.valid = true ∧ (d.ticCh n).serving.tbl = calTable (2 ^ 22) 0 hits ∧
      (d.ticCh n).stage = 2 ∧ (d.fg F.TIC_STATUS_valid).testBit n = true ∧
      Keeps [.tic] (if n < 8 then [R.TIC_STATUS, R.TIC_CH_STAT n] else [R.TIC_STATUS]) s.dev d := by
  obtain ⟨l, valid, table, ends⟩ := xTicLineCalDone_of_passed temp hn hstage hserves hlen hsum hcheck
  have kept := keeps_lineTaken s.dev temp n ((s.dev.ticCh n).switched l)
  have chan := ticCh_lineTaken s.dev temp n ((s.dev.ticCh n).switched l)
  generalize lineTaken s.dev temp n ((s.dev.ticCh n).switched l) = e at ends kept chan
  have serves : (e.ticCh n).serving = l := by rw [chan, TicCh.serving_switched]
  have status : R.TIC_STATUS ∈ (if n < 8 then [R.TIC_STATUS, R.TIC_CH_STAT n] else [R.TIC_STATUS]) := by split <;> simp
  have stat (h : n < 8) : R.TIC_CH_STAT n ∈ (if n < 8 then [R.TIC_STATUS, R.TIC_CH_STAT n] else [R.TIC_STATUS]) := by simp [h]
  refine completes_of_finish (congrArg (finish s) ends) ?_
  rw [settle_ticCh, ticCh_calMaybeEnd, ticCh_showLines, serves]
  refine ⟨by rw [chan]; rfl, valid, table, by rw [chan]; rfl, ?_, keeps_settle ?_⟩
  · rw [settle_fg _ _ (not_settleReg_of_tic (by decide) (by decide)), fg_calMaybeEnd _ _ fun _ => by decide]
    exact testBit_showLines hn (serves ▸ valid)
  · exact Keeps.step (Keeps.step (keeps_mono kept (by simp) (by simp)) (keeps_showLines e status stat) (by simp) (List.Subset.refl _))
      (keeps_calMaybeEnd _) (by simp) (by simpa using status)

/-- R310: hits that do not pass are reported, and the channel's cycle ends with its tables as they were. -/
theorem ticLineCalDone_fails (s : State) (temp : Int) (hn : n < 9) (hstage : (s.dev.ticCh n).stage = 1) (hlen : hits.length = 512)
    (hsum : sumOf id hits = 2 ^ 22) (hcheck : calCheck hits ≠ 0) : Completes (.ticLineCalDone n hits temp) s fun d =>
      d.ticCh n = { s.dev.ticCh n with stage := 0 } ∧ d.fg F.TIC_CAL_STATUS_err = calCheck hits ∧ d.fg F.TIC_CAL_STATUS_chan = n ∧
      d.fg F.TIC_STATUS_cal_fail = 1 ∧ Keeps [.tic] [R.TIC_STATUS, R.TIC_CAL_STATUS] s.dev d := by
  obtain ⟨onB, ends⟩ := xTicLineCalDone_of_failed temp hn hstage hlen hsum hcheck
  have kept := keeps_lineTaken s.dev temp n { s.dev.ticCh n with stage := 0 }
  have chan := ticCh_lineTaken s.dev temp n { s.dev.ticCh n with stage := 0 }
  generalize lineTaken s.dev temp n { s.dev.ticCh n with stage := 0 } = e at ends kept chan
  obtain ⟨err, number, fail⟩ := calFail_fields e onB hn (calCheck_lt hits)
  have failed := keeps_calFail e n onB (calCheck hits)
  have shown (f : Fld) (hlo : 0xa000 ≤ f.off) (hhi : f.off < 0xb000) (hf : f.off = R.TIC_STATUS → 1 ≤ f.lo) :
      (settle (calMaybeEnd (calFail e n onB (calCheck hits)))).fg f = (calFail e n onB (calCheck hits)).fg f := by
    rw [settle_fg _ _ (not_settleReg_of_tic hlo hhi), fg_calMaybeEnd _ _ hf]
  refine completes_of_finish (congrArg (finish s) ends) ⟨?_, ?_, ?_, ?_, keeps_settle ?_⟩
  · rw [settle_ticCh, ticCh_calMaybeEnd, ← chan]
    exact Device.ticCh_congr (congrArg Tic.chans (failed.1 .tic (by simp)).symm) n
  · rw [shown _ (by decide) (by decide) (by decide), err]
  · rw [shown _ (by decide) (by decide) (by decide), number]
  · rw [shown _ (by decide) (by decide) (by decide), fail]
  · exact Keeps.step (Keeps.step (keeps_mono kept (by simp) (by simp)) failed (by simp) (List.Subset.refl _))
      (keeps_calMaybeEnd _) (by simp) (by simp)

end

/-- Settles O25: edges that the prescaler holds back, the dead time takes, and a pair opens or closes by; the enables of pairs and channels;
the cycle's begin, and its lines that pass and fail. -/
theorem ticEdgesAndCalibration : Obligations.TicEdgesAndCalibration := by
  refine ⟨?_, ⟨ticPairEnable_arms, fun s n hn hon hoff => ⟨ticChannelEnable_starts s n hn hon hoff, ticChannelEnable_ignored s n hon⟩⟩, ?_, ?_⟩
  · intro s n code hn hcode hup hok c hvalid
    have taken : EdgeTaken s.dev n code := ⟨hn, hcode, hup, hok, hvalid⟩
    refine ⟨ticEdge_prescales s n code taken, ?_⟩
    intro hpresc hgood phi wid fine delay e
    refine ⟨fun t => ticEdge_loses s n code t taken hpresc hgood, ?_⟩
    intro hlive hquiet hslots p hp hpair hothers huses
    refine ⟨ticEdge_opens taken hpresc hgood hlive hquiet hslots hp hpair hothers huses, ?_⟩
    intro a hst hfirst hover _ hstop hne htick hwide
    exact ticEdge_closes taken hpresc hgood hlive hquiet hslots hp hpair hothers hst hfirst hover hstop hne htick hwide
  · intro s hidle began
    exact ⟨ticCalStart_begins s hidle, fun temp t => ticCalAuto_begins s temp t hidle⟩
  · intro s n hits temp hn hstage hserves hlen hsum c
    exact ⟨ticLineCalDone_passes s temp hn hstage hserves hlen hsum, ticLineCalDone_fails s temp hn hstage hlen hsum⟩

end Sys2Proof.Machine
end
